-- ==== Sys2Proof/Word.lean ====
section
/-!
DEFINITION. The word types of the part (R6: a byte is 8 bits, an engine word 24 bits, a host register 32 bits, a
queue message 64 bits) and the plainest arithmetic on them.
-/
namespace Sys2Proof

abbrev Byte := BitVec 8
abbrev W20 := BitVec 20
abbrev W24 := BitVec 24
abbrev W32 := BitVec 32
abbrev W56 := BitVec 56

/-- A pair of payload words W0 and W1 of a continuation (R95, R96). -/
abbrev Cont := W24 × W24

end Sys2Proof
end

