-- ==== Sys2Proof/Syntax.lean ====
section
/-!
DEFINITION. The commands of the block: one constructor of Instr per row of spec/opcode_table.json.  A Treltor
instruction names the engine that issues it; a request carries its queue (the host request queue Q(n) it came by, or
the engine it came from) and its raw payload words, so that the refusal tables judge every bit; an event carries what
it brings from outside the part.
-/
namespace Sys2Proof

/-- Engine number: TE0 to TE15. -/
abbrev Eid := Fin 16

/-- Queue number: Q0 to Q127. -/
abbrev Qid := Fin 128

/-- The guard field of the Register format (R57). -/
structure Guard where
  neg : Bool
  p : Fin 4
  deriving DecidableEq, Repr, Inhabited

/-- The plateaus of one pilot period as measured at their midpoints (R246), in 10 mV, signed. -/
structure Plateaus where
  hi : BitVec 16
  lo : BitVec 16
  deriving DecidableEq, Repr

/-- Five consecutive measurements of the resistance from PP to PE, in Ω (R249), the newest last. -/
structure PpReadings where
  r1 : BitVec 16
  r2 : BitVec 16
  r3 : BitVec 16
  r4 : BitVec 16
  r5 : BitVec 16
  deriving DecidableEq, Repr

/-- How a modem received a frame (R287, R288): of each payload symbol the magnitudes of the samples of its 3,072-sample
window, in receive converter codes, and of each PB whether it passed its check. -/
structure LineRx where
  syms : List (List Nat)
  pbs : List Bool
  deriving DecidableEq, Repr

/-- A link of a lane that goes down (R362), with the code errors found on it since it was last reported. -/
structure LinkLoss where
  lane : Fin 2
  errors : Nat
  deriving DecidableEq, Repr

/-- What a TOPO frame carries beside its position (R368): clock status and TLEADEN. -/
structure Topo where
  clock : Fin 4
  tleaden : Bool
  deriving DecidableEq, Repr

/-- The scope of a memory wipe (R88). -/
inductive WipeScope where
  | full
  | supervisor
  | engine (e : Eid)
  deriving DecidableEq, Repr, Inhabited

/-- What a wipe's read-back check found (R89). -/
inductive WipeFail where
  | none
  | engine (e : Eid) (addr : W20)
  | pool
  deriving DecidableEq, Repr, Inhabited

/-- A card in the reader's field, as the reader sees it (R378 to R382): its identity, the answer words reported in
TAG_EVENT, its credit blocks, whether it follows the authentication of R381 and its MACs then verify, the AFI of a Type B
card, and the highest rate it supports, coded as TCFG.MAXRATE. -/
structure Card where
  uid : List Byte
  typeB : Bool
  sakAtqa : W24
  rec0 : List Byte
  rec1 : List Byte
  ptr : List Byte
  authOk : Bool
  macOk : Bool := true
  afi : Byte := 0
  maxRate : Nat := 0
  deriving DecidableEq, Repr, Inhabited

/-- What comes back on a presence check (R378). -/
inductive CardReply where
  | good
  | badCrc
  | silent
  deriving DecidableEq, Repr

/-- The commands of the block. -/
inductive Instr where
  -- Treltor instructions (R41 to R78): e is the issuing engine, g the guard, d, a, b the fields of R54
  /-- NOP (R55). Executes the no-operation instruction, changing only PC and the retired-instruction count. -/
  | nop (e : Eid) (g : Guard)
  /-- INVALID_ENCODING (R55). Fetches an instruction word with an unlisted major opcode, function or field value and raises OPCODE. -/
  | invalidEncoding (e : Eid) (w : W32)
  /-- ADD (R63). Adds two data registers with saturation or wrap according to MODE.OVF and sets the flags. -/
  | add (e : Eid) (g : Guard) (d a b : Fin 16)
  /-- SUB (R63). Subtracts two data registers, mode-governed, and sets the flags. -/
  | sub (e : Eid) (g : Guard) (d a b : Fin 16)
  /-- ADDW (R65). Adds two data registers modulo 2^24 and begins a multiword addition. -/
  | addw (e : Eid) (g : Guard) (d a b : Fin 16)
  /-- SUBW (R65). Subtracts two data registers modulo 2^24 and begins a multiword subtraction. -/
  | subw (e : Eid) (g : Guard) (d a b : Fin 16)
  /-- ADDC (R65). Adds two data registers plus the carry flag modulo 2^24, with a chained Z flag. -/
  | addc (e : Eid) (g : Guard) (d a b : Fin 16)
  /-- SUBB (R65). Subtracts two data registers and the borrow modulo 2^24, with a chained Z flag. -/
  | subb (e : Eid) (g : Guard) (d a b : Fin 16)
  /-- NEG (R63). Negates a data register, mode-governed. -/
  | neg (e : Eid) (g : Guard) (d a : Fin 16)
  /-- ABS (R63). Takes the absolute value of a data register, mode-governed. -/
  | abs (e : Eid) (g : Guard) (d a : Fin 16)
  /-- MIN (R64). Writes the signed smaller of two data registers. -/
  | min (e : Eid) (g : Guard) (d a b : Fin 16)
  /-- MAX (R64). Writes the signed larger of two data registers. -/
  | max (e : Eid) (g : Guard) (d a b : Fin 16)
  /-- MOV (R64). Copies one data register to another. -/
  | mov (e : Eid) (g : Guard) (d a : Fin 16)
  /-- AND (R64). Writes the bitwise AND of two data registers. -/
  | and (e : Eid) (g : Guard) (d a b : Fin 16)
  /-- OR (R64). Writes the bitwise OR of two data registers. -/
  | or (e : Eid) (g : Guard) (d a b : Fin 16)
  /-- XOR (R64). Writes the bitwise XOR of two data registers. -/
  | xor (e : Eid) (g : Guard) (d a b : Fin 16)
  /-- NOT (R64). Writes the bitwise complement of a data register. -/
  | not (e : Eid) (g : Guard) (d a : Fin 16)
  /-- SHL (R58). Shifts a data register left by a register amount, filling with zeros. -/
  | shl (e : Eid) (g : Guard) (d a b : Fin 16)
  /-- SHR (R58). Shifts a data register right logically by a register amount. -/
  | shr (e : Eid) (g : Guard) (d a b : Fin 16)
  /-- SAR (R58). Shifts a data register right arithmetically by a register amount. -/
  | sar (e : Eid) (g : Guard) (d a b : Fin 16)
  /-- SHLS (R58). Shifts a data register left by a register amount with mode-governed overflow. -/
  | shls (e : Eid) (g : Guard) (d a b : Fin 16)
  /-- NORM (R58). Counts the bits below bit 23 that equal bit 23. -/
  | norm (e : Eid) (g : Guard) (d a : Fin 16)
  /-- CMPEQ (R64). Sets a predicate to the equality of two data registers. -/
  | cmpeq (e : Eid) (g : Guard) (d : Fin 4) (a b : Fin 16)
  /-- CMPLT (R64). Sets a predicate to the signed less-than of two data registers. -/
  | cmplt (e : Eid) (g : Guard) (d : Fin 4) (a b : Fin 16)
  /-- CMPLTU (R64). Sets a predicate to the unsigned less-than of two data registers. -/
  | cmpltu (e : Eid) (g : Guard) (d : Fin 4) (a b : Fin 16)
  /-- CMPLE (R64). Sets a predicate to the signed less-or-equal of two data registers. -/
  | cmple (e : Eid) (g : Guard) (d : Fin 4) (a b : Fin 16)
  /-- PAND (R64). Sets a predicate to the AND of two predicates. -/
  | pand (e : Eid) (g : Guard) (d a b : Fin 4)
  /-- POR (R64). Sets a predicate to the OR of two predicates. -/
  | por (e : Eid) (g : Guard) (d a b : Fin 4)
  /-- PXOR (R58). Sets a predicate to the XOR of two predicates. -/
  | pxor (e : Eid) (g : Guard) (d a b : Fin 4)
  /-- MOVGX (R64). Copies bits 19 to 0 of a data register into an address register. -/
  | movgx (e : Eid) (g : Guard) (d : Fin 8) (a : Fin 16)
  /-- MOVXG (R64). Copies an address register, zero-extended, into a data register. -/
  | movxg (e : Eid) (g : Guard) (d : Fin 16) (a : Fin 8)
  /-- ADDXR (R53). Adds a sign-extended data register to an address register modulo 2^20. -/
  | addxr (e : Eid) (g : Guard) (d a : Fin 8) (b : Fin 16)
  /-- ADDI (R63). Adds a signed immediate to a data register, mode-governed. -/
  | addi (e : Eid) (d a : Fin 16) (imm : BitVec 14)
  /-- ANDI (R64). ANDs a data register with a zero-extended immediate. -/
  | andi (e : Eid) (d a : Fin 16) (imm : BitVec 14)
  /-- ORI (R64). ORs a data register with a zero-extended immediate. -/
  | ori (e : Eid) (d a : Fin 16) (imm : BitVec 14)
  /-- XORI (R64). XORs a data register with a zero-extended immediate. -/
  | xori (e : Eid) (d a : Fin 16) (imm : BitVec 14)
  /-- SHLI (R58). Shifts a data register left by an immediate amount. -/
  | shli (e : Eid) (d a : Fin 16) (amt : BitVec 5)
  /-- SHRI (R58). Shifts a data register right logically by an immediate amount. -/
  | shri (e : Eid) (d a : Fin 16) (amt : BitVec 5)
  /-- SARI (R58). Shifts a data register right arithmetically by an immediate amount. -/
  | sari (e : Eid) (d a : Fin 16) (amt : BitVec 5)
  /-- SHLSI (R58). Shifts a data register left by an immediate amount with mode-governed overflow. -/
  | shlsi (e : Eid) (d a : Fin 16) (amt : BitVec 5)
  /-- LDI (R64). Loads a sign-extended 14-bit immediate into a data register. -/
  | ldi (e : Eid) (d : Fin 16) (imm : BitVec 14)
  /-- INSH (R64). Replaces the upper ten bits of a data register with an immediate. -/
  | insh (e : Eid) (d a : Fin 16) (imm : BitVec 10)
  /-- CMPEQI (R64). Sets a predicate to the equality of a data register and an immediate. -/
  | cmpeqi (e : Eid) (d : Fin 4) (a : Fin 16) (imm : BitVec 14)
  /-- CMPLTI (R64). Sets a predicate to the signed less-than of a data register and an immediate. -/
  | cmplti (e : Eid) (d : Fin 4) (a : Fin 16) (imm : BitVec 14)
  /-- CMPLTUI (R64). Sets a predicate to the unsigned less-than of a data register and an immediate. -/
  | cmpltui (e : Eid) (d : Fin 4) (a : Fin 16) (imm : BitVec 14)
  /-- ADDXI (R53). Adds a signed immediate to an address register modulo 2^20. -/
  | addxi (e : Eid) (d a : Fin 8) (imm : BitVec 14)
  /-- LDXI (R53). Loads a zero-extended immediate into an address register. -/
  | ldxi (e : Eid) (d : Fin 8) (imm : BitVec 14)
  /-- MPY (R59). Writes the doubled fractional product of two data registers to an accumulator. -/
  | mpy (e : Eid) (g : Guard) (d : Fin 2) (a b : Fin 16)
  /-- MAC (R59). Adds the doubled fractional product to an accumulator, mode-governed. -/
  | mac (e : Eid) (g : Guard) (d : Fin 2) (a b : Fin 16)
  /-- MSU (R59). Subtracts the doubled fractional product from an accumulator, mode-governed. -/
  | msu (e : Eid) (g : Guard) (d : Fin 2) (a b : Fin 16)
  /-- MPYI (R59). Writes the signed integer product of two data registers to an accumulator. -/
  | mpyi (e : Eid) (g : Guard) (d : Fin 2) (a b : Fin 16)
  /-- MACI (R59). Adds the signed integer product to an accumulator. -/
  | maci (e : Eid) (g : Guard) (d : Fin 2) (a b : Fin 16)
  /-- MPYUU (R59). Writes the unsigned integer product to an accumulator. -/
  | mpyuu (e : Eid) (g : Guard) (d : Fin 2) (a b : Fin 16)
  /-- MACUU (R59). Adds the unsigned integer product to an accumulator. -/
  | macuu (e : Eid) (g : Guard) (d : Fin 2) (a b : Fin 16)
  /-- MPYSU (R59). Writes the signed-by-unsigned integer product to an accumulator. -/
  | mpysu (e : Eid) (g : Guard) (d : Fin 2) (a b : Fin 16)
  /-- MACSU (R59). Adds the signed-by-unsigned integer product to an accumulator. -/
  | macsu (e : Eid) (g : Guard) (d : Fin 2) (a b : Fin 16)
  /-- CLRA (R59). Clears an accumulator. -/
  | clra (e : Eid) (g : Guard) (d : Fin 2)
  /-- ADDA (R59). Adds the other accumulator to an accumulator, mode-governed. -/
  | adda (e : Eid) (g : Guard) (d : Fin 2)
  /-- SUBA (R59). Subtracts the other accumulator from an accumulator, mode-governed. -/
  | suba (e : Eid) (g : Guard) (d : Fin 2)
  /-- LDAH (R59). Loads a sign-extended data register into the middle word of an accumulator. -/
  | ldah (e : Eid) (g : Guard) (d : Fin 2) (a : Fin 16)
  /-- SHLA (R59). Shifts an accumulator left, mode-governed. -/
  | shla (e : Eid) (g : Guard) (d : Fin 2) (b : Fin 16)
  /-- SARA (R59). Shifts an accumulator right arithmetically. -/
  | sara (e : Eid) (g : Guard) (d : Fin 2) (b : Fin 16)
  /-- MOVAH (R62). Rounds and fits an accumulator into a data register. -/
  | movah (e : Eid) (g : Guard) (d : Fin 16) (a : Fin 2)
  /-- MOVAM (R59). Moves the accumulator middle word to a data register. -/
  | movam (e : Eid) (g : Guard) (d : Fin 16) (a : Fin 2)
  /-- MOVAL (R59). Moves the accumulator low word to a data register. -/
  | moval (e : Eid) (g : Guard) (d : Fin 16) (a : Fin 2)
  /-- MOVAG (R59). Moves the sign-extended accumulator guard byte to a data register. -/
  | movag (e : Eid) (g : Guard) (d : Fin 16) (a : Fin 2)
  /-- PUTAM (R59). Writes a data register into the accumulator middle word. -/
  | putam (e : Eid) (g : Guard) (d : Fin 2) (a : Fin 16)
  /-- PUTAL (R59). Writes a data register into the accumulator low word. -/
  | putal (e : Eid) (g : Guard) (d : Fin 2) (a : Fin 16)
  /-- PUTAG (R59). Writes the low byte of a data register into the accumulator guard byte. -/
  | putag (e : Eid) (g : Guard) (d : Fin 2) (a : Fin 16)
  /-- MPYR (R62). Writes the rounded and fitted fractional product of two data registers. -/
  | mpyr (e : Eid) (g : Guard) (d a b : Fin 16)
  /-- LD (R60). Loads a data word into a data register with offset or post-modify addressing. -/
  | ld (e : Eid) (d : Fin 16) (post : Bool) (x : Fin 8) (off : BitVec 14)
  /-- ST (R60). Stores a data register into a data word. -/
  | st (e : Eid) (d : Fin 16) (post : Bool) (x : Fin 8) (off : BitVec 14)
  /-- LDX (R60). Loads bits 19 to 0 of a data word into an address register. -/
  | ldx (e : Eid) (d : Fin 8) (post : Bool) (x : Fin 8) (off : BitVec 14)
  /-- STX (R60). Stores an address register, zero-extended, into a data word. -/
  | stx (e : Eid) (d : Fin 8) (post : Bool) (x : Fin 8) (off : BitVec 14)
  /-- B (R61). Branches PC-relative when the condition field holds. -/
  | b (e : Eid) (cond : Fin 16) (off : BitVec 22)
  /-- CALL (R61). Pushes the return address and jumps to an absolute target. -/
  | call (e : Eid) (target : BitVec 26)
  /-- JMP (R61). Jumps to an absolute target. -/
  | jmp (e : Eid) (target : BitVec 26)
  /-- RET (R61). Pops the return stack into PC. -/
  | ret (e : Eid) (g : Guard)
  /-- RTE (R61). Returns from an exception, restoring PC, STATUS and MODE. -/
  | rte (e : Eid) (g : Guard)
  /-- JR (R61). Jumps to the address held in a data register. -/
  | jr (e : Eid) (g : Guard) (a : Fin 16)
  /-- CALLR (R61). Pushes the return address and jumps to the address in a data register. -/
  | callr (e : Eid) (g : Guard) (a : Fin 16)
  /-- TRAP (R75). Raises the TRAP exception with the given trap number. -/
  | trap (e : Eid) (g : Guard) (n : Fin 16)
  /-- HALT (R61). Stops the engine at an acknowledgement point until TE0 reloads it. -/
  | halt (e : Eid) (g : Guard)
  /-- WAIT (R70). Blocks until a selected pending event holds, completing at once if one already does. -/
  | wait (e : Eid) (g : Guard) (d a : Fin 16)
  /-- WAIT_WAKE (R70). A blocked WAIT completes when a selected event arrives, writing the event bits and forming an acknowledgement point. -/
  | waitWake (e : Eid)
  /-- CLREV (R70). Clears the selected latched pending-event bits. -/
  | clrev (e : Eid) (g : Guard) (a : Fin 16)
  /-- MRS (R44). Reads a special register into a data register. -/
  | mrs (e : Eid) (g : Guard) (d : Fin 16) (sr : BitVec 8)
  /-- MSR (R44). Writes a data register into a special register, raising ILLSR on forbidden writes. -/
  | msr (e : Eid) (g : Guard) (d : Fin 16) (sr : BitVec 8)
  /-- QPUSH (R67). Stages a message into a queue, blocking while the queue is full. -/
  | qpush (e : Eid) (q : Qid) (h w0 w1 : Fin 16)
  /-- QPOP (R67). Removes the oldest message from a queue, blocking while it is empty. -/
  | qpop (e : Eid) (q : Qid) (h w0 w1 : Fin 16)
  /-- QPEEK (R67). Reads the oldest message of a queue without removing it, blocking while it is empty. -/
  | qpeek (e : Eid) (q : Qid) (h w0 w1 : Fin 16)
  /-- QSTAT (R67). Reads the occupancy and enable state of a queue. -/
  | qstat (e : Eid) (q : Qid) (h : Fin 16)
  /-- QPUSHN (R67). Pushes a message without blocking and reports success in a predicate. -/
  | qpushn (e : Eid) (q : Qid) (h w0 w1 : Fin 16) (p : Fin 4)
  /-- QPOPN (R67). Pops a message without blocking and reports success in a predicate. -/
  | qpopn (e : Eid) (q : Qid) (h w0 w1 : Fin 16) (p : Fin 4)
  /-- FENCE (R103). Forms an acknowledgement point and blocks until every earlier push is entered. -/
  | fence (e : Eid)
  /-- BLOCKED_QUEUE_OP_COMPLETE (R100). A blocked QPUSH, QPOP, QPEEK or FENCE completes once room, a message or all entries become available. -/
  | blockedQueueOpComplete (e : Eid)
  /-- QTIMEOUT (R69). A blocking queue instruction that has waited QWLIM microseconds raises QTIMEOUT with nothing moved. -/
  | qtimeout (e : Eid)
  /-- TIMER_EXPIRY (R71). An engine timer reaches zero, sets its pending-event bit and reloads. -/
  | timerExpiry (e : Eid) (t : Fin 4)
  -- Engines, pairs and the queue fabric (R79 to R114, R185 to R190)
  /-- MEMBER_GIVE_UP (R187). A paired member fails a self-check, ECC or parity check and stops, its pushes no longer entered. -/
  | memberGiveUp (e : Eid) (cause : Fin 16)
  /-- STANDBY_TAKEOVER (R187). At the next FRAME the healthy standby becomes active, enters its staged pushes and PAIRSTAT is updated. -/
  | standbyTakeover (p : Fin 2)
  /-- STATE_CHECK_SWEEP (R185). The background sweep recomputes a member's state check value and treats a difference as a fault. -/
  | stateCheckSweep (e : Eid)
  /-- PAIR_FAULT (R188). Both members of a metering pair fail, ending sessions, reloading the pair and completing cut-off requests FAULT. -/
  | pairFault (p : Fin 2)
  /-- MEMBER_REJOIN (R189). A repaired member is loaded, self-tested, resynchronised and becomes STANDBY or is left STOPPED. -/
  | memberRejoin (e : Eid) (imageOk testOk : Bool)
  /-- REJOIN_SYNC (R189). At the active member's next WAIT completion the copy takes the full engine state and the state checks are compared. -/
  | rejoinSync (e : Eid)
  /-- ENGINE_RELOAD (R85). TE0 wipes and reloads one engine after a double fault, halt or request, returning its unacknowledged messages. -/
  | engineReload (e : Eid)
  /-- ENGINE_LOAD (R83). TE0 writes an engine's program words through its load port and checks their CRC. -/
  | engineLoad (e : Eid) (words : List W32) (crc : W32)
  /-- ENGINE_LOAD_COMPLETE (R83). The load-port CRC check completes and the engine starts at RESET or is left STOPPED. -/
  | engineLoadComplete (e : Eid)
  /-- MEMORY_WIPE_COMPLETE (R88). A wipe finishes its read-back check, allowing or blocking the start of the engines in its scope. -/
  | memoryWipeComplete (scope : WipeScope) (fail : WipeFail) (micros : BitVec 16)
  /-- SUPERVISOR_RESET (R490). A TE0 double fault or watchdog reloads TE0, TE1 to TE8 and TE15 while everything else runs on. -/
  | supervisorReset (watchdog : Bool)
  /-- TE0_WATCHDOG_EXPIRY (R494). The TE0 watchdog expires and causes a supervisor reset. -/
  | te0WatchdogExpiry
  /-- WDT_RETRIGGER (R494). TE0 retriggers its watchdog through its block window. -/
  | wdtRetrigger
  /-- WITHDRAWN_COMPLETION_ENTRY (R112). A withdrawal completion waiting for room in a full completion queue is entered once room appears. -/
  | withdrawnCompletionEntry (q : Qid)
  /-- POOL_UNCORRECTABLE_ERROR (R113). A double-bit error in a pool entry replaces the message with CORRUPT and logs FAULT. -/
  | poolUncorrectableError (q : Qid) (i : Nat)
  /-- QPUSHH (R104). A host write of QPUSHH enters the message assembled with QPUSHL into its queue. -/
  | qpushh (q : Qid) (v : W32)
  /-- QPOPH (R104). A host read of QPOPH pops and latches a message, returning an all-zero message after 128 unacknowledged pops. -/
  | qpoph (q : Qid)
  /-- QACK (R105). A host write of QACK acknowledges delivered messages up to a sequence number by serial arithmetic. -/
  | qack (q : Qid) (v : W32)
  /-- QREPLAY (R104). A host write of QM.QREPLAY redelivers every unacknowledged host-consumed message of a queue. -/
  | qreplay (v : W32)
  /-- DOORBELL (R106). A host write of QM.DOORBELL.RING sets the host doorbell event on TE0. -/
  | doorbell (v : W32)
  /-- SLKCLR (R108). A write of SLKCLR resets the least-slack and low-slack count of a slack monitor. -/
  | slkclr (s : Fin 11) (v : W32)
  -- Sampling and decimation chain (R115 to R158): o = 8 names the supply channels S0 to S3
  /-- STAGE_DEADLINE_MISS (R28). A metering stage misses its period deadline, logs FAULT and delivers substituted interpolated samples. -/
  | stageDeadlineMiss (s : Fin 11) (o : Fin 9) (c : Fin 14)
  /-- MOD_CODE_ERROR (R116). An invalid modulator code is replaced by zero, counted and puts the channel into RECOVER. -/
  | modCodeError (o : Fin 9) (c : Fin 14) (code : BitVec 3)
  /-- MODULATOR_RESET (R117). After 256 instants at one extreme the modulator loop filter is reset for 64 instants. -/
  | modulatorReset (o : Fin 9) (c : Fin 14)
  /-- FRAME (R144). At each 8 kHz frame instant the chain enters FRAME, SAMPLE, SAMPLE90 and DETECT messages in order. -/
  | frame (codes : List (List (BitVec 3)))
  /-- FAST_SUBSAMPLE (R149). A FAST privileged channel enters its sub-index 1 to 3 samples as they complete. -/
  | fastSubsample (o : Fin 8) (aux : Bool) (sub : Fin 4) (codes : List (BitVec 3))
  /-- SPLICE_BLOCK (R134). Every 4096 frames the splice computes a block ratio and updates or rejects the estimate r. -/
  | spliceBlock (o : Fin 8) (c : Fin 4)
  /-- DETECTOR_WINDOW_END (R150). At the end of a detector window the peak, RMS and envelope results are written together. -/
  | detectorWindowEnd (o : Fin 9) (c : Fin 14)
  /-- RESPONSE_SWITCH (R139). Once the shadow delay line is full the output is taken from the new response with SW set. -/
  | responseSwitch (o : Fin 9) (c : Fin 14)
  /-- CROSSFADE_END (R140). A cross-fade reaches output N, delivers the new response exactly and completes its request. -/
  | crossfadeEnd (o : Fin 9) (c : Fin 14)
  /-- RATE_SWITCH (R142). Once the new tail is full the first output of the new rate is delivered with SW. -/
  | rateSwitch (o : Fin 9) (c : Fin 14)
  /-- PRESET_SWITCH (R129). A privileged channel delivers the first fully formed output of its new preset with SW. -/
  | presetSwitch (o : Fin 8) (aux : Bool)
  /-- SET_RESPONSE (R154). Requests a new main response for a channel, optionally by cross-fade. -/
  | setResponse (n : Fin 8) (w0 w1 : W24)
  /-- SET_RATE (R154). Requests a reduced output rate for a channel. -/
  | setRate (n : Fin 8) (w0 w1 : W24)
  /-- SET_COMPANION (R141). Enables or disables the 90 degree companion of a voltage channel. -/
  | setCompanion (n : Fin 8) (w0 w1 : W24)
  /-- SET_DETECT (R154). Sets a channel's detector configuration and peak threshold. -/
  | setDetect (n : Fin 8) (w0 w1 cw0 cw1 : W24)
  /-- SET_ENABLE (R118). Enables or disables a channel. -/
  | setEnable (n : Fin 8) (w0 w1 : W24)
  /-- SET_SPLICE (R133). Sets the splice mode of a current channel. -/
  | setSplice (n : Fin 8) (w0 w1 : W24)
  /-- SET_PRESET (R129). Sets the preset of a privileged channel. -/
  | setPreset (n : Fin 8) (w0 w1 : W24)
  -- Energy computation and calibration (R159 to R201)
  /-- FRAME_BILLING (R169). A pair computes the calibrated powers and energies of a frame, substituting unusable samples. -/
  | frameBilling (o : Fin 8)
  /-- TEMP_READING (R167). Every 100 ms a pair reads the front-end temperature sensor and sets the band target. -/
  | tempReading (o : Fin 8) (t : BitVec 16)
  /-- BAND_CHANGE (R168). A pending temperature band takes effect at the frame after a commit or 100 ms boundary. -/
  | bandChange (o : Fin 8)
  /-- LIVE (R180). Every 100 ms a pair pushes live values of an outlet to its outlet engine. -/
  | live (o : Fin 8)
  /-- SUMMARY (R178). After each second's last frame the active member runs its test vector and pushes the outlet's summary. -/
  | summary (o : Fin 8) (vectorOk : Bool)
  /-- CAL_APPLY (R195). Applies the outlet's MET configuration and calibration sets from a frame. -/
  | calApply (n : Fin 8) (w0 w1 : W24)
  /-- CH_TEST (R191). Starts an injected-reference test on one metering channel. -/
  | chTest (n : Fin 8) (w0 w1 : W24)
  /-- CH_TEST_END (R194). An in-service test ends, releases the terminals and completes with the measured errors. -/
  | chTestEnd (o : Fin 9) (c : Fin 14) (gainErr ratioErr : BitVec 16)
  /-- PAIR_STANDBY (R195). Self-tests, or self-tests and reloads, the standby member of a metering pair. -/
  | pairStandby (n : Fin 8) (w0 w1 : W24)
  /-- RESTORE (R516). TE0 sends an outlet's registers to its pair, which then bills from the next complete frame. -/
  | restore (o : Fin 8)
  -- Legal registers, tariffs and signed readings (R202 to R243)
  /-- SUMMARY_APPLY (R206). TE0 applies one second's summary, selecting the rate, charging credit and saving or bundling. -/
  | summaryApply
  /-- POWERFAIL_SUMMARY_APPLY (R227). TE0 applies a power-fail summary as a partial second and writes the power-fail slot. -/
  | powerfailSummaryApply
  /-- BILLING_RESTART (R229). At a start TE0 takes the newest valid slot, restores the pairs and resolves any save gap. -/
  | billingRestart
  /-- READ_SIGNED (R239). Builds, signs and buffers a reading of an outlet's registers. -/
  | readSigned (n : Fin 8) (w0 w1 : W24)
  /-- SESSION_OPEN (R239). Opens a billing session with identity and credit, starting at the next applied second. -/
  | sessionOpen (n : Fin 8) (w0 w1 : W24) (conts : List Cont)
  /-- SESSION_CLOSE (R239). Closes a billing session with an end reading. -/
  | sessionClose (n : Fin 8) (w0 w1 : W24)
  /-- CALENDAR_LOAD (R211). Checks a signed tariff calendar and makes it pending. -/
  | calendarLoad (n : Fin 8) (w0 w1 : W24)
  /-- CLOCK_AUTH (R224). Under authorisation accepts legal time or sets LEGALADJ. -/
  | clockAuth (n : Fin 8) (w0 w1 : W24)
  /-- MD_RESET (R217). Under authorisation hands the maximum-demand registers on at the next bundle. -/
  | mdReset (n : Fin 8) (w0 w1 : W24)
  /-- CREDIT_STOP (R234). An outlet engine receives CREDIT_STOP and ends the session through the ramp-down. -/
  | creditStop (o : Fin 8)
  -- Outlet control and charging sessions (R244 to R269)
  /-- PILOT_STATE_CHANGE (R246). A new pilot state accepted after three periods drives the outlet state machine. -/
  | pilotStateChange (o : Fin 8) (m1 m2 m3 : Plateaus)
  /-- PP_CHANGE (R249). A new proximity band accepted after five measurements sets cable capacity or a PP fault. -/
  | ppChange (o : Fin 8) (r : PpReadings)
  /-- GENERATOR_FAULT (R269). A pilot plateau outside its target for three periods sets GENF and sends the outlet to FAULT. -/
  | generatorFault (o : Fin 8)
  /-- OUT_SERVICE (R252). Puts an outlet in or out of service, running the pilot check from FAULT. -/
  | outService (n : Fin 8) (w0 w1 : W24)
  /-- PILOT_CHECK_END (R253). After the 50 ms pilot check the outlet enters IDLE or stays in FAULT. -/
  | pilotCheckEnd (o : Fin 8)
  /-- OUT_AUTHORISE (R252). Accepts or rejects authorisation of a connected outlet. -/
  | outAuthorise (n : Fin 8) (w0 w1 : W24)
  /-- OUT_LIMIT (R245). Sets the host current limit and the resulting pilot duty. -/
  | outLimit (n : Fin 8) (w0 w1 : W24)
  /-- OUT_STOP (R259). Ends, suspends or resumes an outlet's session. -/
  | outStop (n : Fin 8) (w0 w1 : W24)
  /-- OUT_APPLY (R266). Puts the OUT configuration of an out-of-service outlet in effect. -/
  | outApply (n : Fin 8) (w0 w1 : W24)
  /-- OUT_ENERGISE (R255). Asks a DC outlet to close its contactors for the cable check. -/
  | outEnergise (n : Fin 8) (w0 w1 : W24)
  /-- RAMPDOWN (R259). A ramp-down cause lowers the pilot and waits for the current to end. -/
  | rampdown (o : Fin 8) (reason : Fin 19)
  /-- RAMPDOWN_TIMEOUT (R259). After 3 s without the current ending the outlet asks the Fold to open with FORCEDOPEN. -/
  | rampdownTimeout (o : Fin 8)
  /-- SLAC_TIMEOUT (R281). A SLAC unmatched 20 s after CONNECTED fails and the outlet falls back or stays connected. -/
  | slacTimeout (o : Fin 8)
  /-- HOLD_WINDOW_EXPIRY (R262). The hold window expires and the Fold ramps the session down with HOLD_TIMEOUT. -/
  | holdWindowExpiry (o : Fin 8)
  /-- HOLD_RESUME (R263). A returning outlet engine rebuilds its state from OUT.STATE and the hold report and ends the hold. -/
  | holdResume (o : Fin 8)
  -- Powerline modem on the pilot line (R270 to R295)
  /-- PLM_DATA_TX (R277). The host sends a data frame to a modem for transmission. -/
  | plmDataTx (w0 w1 : W24) (conts : List Cont)
  /-- PLM_TX_DONE (R278). A modem finishes a frame and its completion is entered with the result.  `mpdus`: the MPDUs of
  the frame that have ended, each with the number of PBs its SACK names, or none where no SACK came; `sent`: every PB of
  the frame has been sent. -/
  | plmTxDone (m : Fin 8) (mpdus : List (Option Nat)) (sent : Bool)
  /-- PLM_DATA_RX (R280). A modem enters a received frame on Q105 only when room exists, blanking impulses. -/
  | plmDataRx (m : Fin 8) (bytes : List Byte) (line : LineRx)
  /-- MME_TX (R284). An outlet engine sends a management frame, optionally with key insertion. -/
  | mmeTx (o : Fin 8) (w0 w1 : W24) (conts : List Cont)
  /-- MME_RX (R282). A modem delivers a received management frame to its outlet engine. -/
  | mmeRx (o : Fin 8) (bytes : List Byte) (line : LineRx)
  /-- ATTEN_START (R282). Starts attenuation measurement of sounds from a vehicle address. -/
  | attenStart (o : Fin 8) (w0 w1 : W24) (conts : List Cont)
  /-- SOUND_RECEIVED (R283). A modem measures the attenuation of a received sound from the expected address. -/
  | soundReceived (o : Fin 8) (addr : BitVec 48) (groups : List (Option Nat))
  /-- ATTEN_WINDOW_END (R283). The attenuation window ends and ATTEN_PROFILE is entered before the completion. -/
  | attenWindowEnd (o : Fin 8)
  /-- LINK_SET (R275). Clears the key, stages a new key, or joins the peer. -/
  | linkSet (o : Fin 8) (w0 w1 : W24)
  /-- PEER_ASSOCIATED (R275). The peer associates within 12 s and the modem becomes LINKED. -/
  | peerAssociated (o : Fin 8) (mac : BitVec 48)
  /-- JOIN_TIMEOUT (R275). No peer associates within 12 s and the modem returns to UNASSOC. -/
  | joinTimeout (o : Fin 8)
  /-- LINK_LOSS (R275). Nothing heard from the peer for 2 s returns the modem to UNASSOC with a new NMK. -/
  | linkLoss (o : Fin 8)
  /-- MODEM_FAULT (R275). A failed self-check of modem memories or converters puts it in FAULT. -/
  | modemFault (o : Fin 8)
  /-- BEACON (R285). A LINKED CCo modem sends a beacon projected from the latest reference crossing. -/
  | beacon (o : Fin 8)
  /-- REFERENCE_LOST (R286). No reference crossing for 200 ms sets NOSYNC and holds the beacon period. -/
  | referenceLost (o : Fin 8)
  /-- PLM_APPLY (R293). Puts the PLM configuration in effect. -/
  | plmApply (n : Fin 8) (w0 w1 : W24)
  /-- PLM_ENABLE (R291). Enables a modem or disables it under withdrawal. -/
  | plmEnable (n : Fin 8) (w0 w1 : W24)
  /-- PLM_TEST (R290). Starts the internal loopback test of a modem. -/
  | plmTest (n : Fin 8) (w0 w1 : W24)
  /-- PLM_TEST_END (R290). A modem test ends and reports SNR, gain and blanking results.  `snr`: of each carrier group, in
  dB; `psd`: the transmit PSD measured, in 0.01 dBm/Hz; `impulse`: the samples of the window with the injected impulse. -/
  | plmTestEnd (o : Fin 8) (snr : List Nat) (psd : Int) (impulse : List Nat)
  -- The Fold safety island (R296 to R344)
  /-- ESTOP_CHANGE (R308). An emergency-stop channel reading open de-energises paths, stops every outlet and latches. -/
  | estopChange (chB closed : Bool)
  /-- ESTOP_DISCREPANCY (R309). The two emergency-stop channels differing for 50 ms latches ESTOP_DISC. -/
  | estopDiscrepancy
  /-- DOOR_CHANGE (R310). A door reading open takes the DOORACT action and reports DOOR. -/
  | doorChange (chB closed : Bool)
  /-- DOOR_DISCREPANCY (R309). The two door channels differing for DOORDISC latches a door discrepancy. -/
  | doorDiscrepancy
  /-- FOLD_WATCHDOG_EXPIRY (R297). A Fold member's watchdog expires and its path is de-energised in hardware. -/
  | foldWatchdogExpiry (m : Fin 2)
  /-- PD1_WINDOW_LOSS (R492). Leaving the PD1 supply window de-energises every contactor enable in hardware. -/
  | pd1WindowLoss
  /-- FOLD_MEMBER_FAIL (R334). A Fold member gives up, every contactor opens and the Fold runs simplex. -/
  | foldMemberFail (m : Fin 2) (cause : Fin 16)
  /-- FOLD_PAIR_FAULT (R335). Both Fold members fail and TE0 reloads them. -/
  | foldPairFault
  /-- FOLD_PATH_COMPARE (R333). Every 1 ms each Fold member compares its path demand with the other's. -/
  | foldPathCompare
  /-- K_CLOSE (R312). An outlet engine asks the Fold to close, and the Fold checks its conditions. -/
  | kClose (o : Fin 8) (w0 w1 : W24) (conts : List Cont)
  /-- CLOSE_FIRE (R312). At the fire instant the Fold rechecks its conditions and energises both paths. -/
  | closeFire (o : Fin 8)
  /-- KFB_CHANGE (R313). A contactor feedback change confirms a close or open or reveals a drop-out. -/
  | kfbChange (o : Fin 8) (isOpen : Bool)
  /-- CLOSE_TIMEOUT (R312). KFB still open after KTCL de-energises both paths and completes the close FAULT. -/
  | closeTimeout (o : Fin 8)
  /-- WELD_TIMEOUT (R313). KFB still closed KTOP after de-energising latches a weld. -/
  | weldTimeout (o : Fin 8)
  /-- POST_OPEN_CHECK_TIMEOUT (R314). The post-open voltage check not passing within WELDT latches WELD. -/
  | postOpenCheckTimeout (o : Fin 8)
  /-- K_OPEN (R314). Opens an outlet's contactors, cancelling any pending close. -/
  | kOpen (o : Fin 8) (w0 w1 : W24)
  /-- HOLD_END (R337). An outlet engine ends the Fold's pilot hold. -/
  | holdEnd (o : Fin 8) (w0 w1 : W24)
  /-- PSTAGE_SET (R337). Sets full, limited or stopped power for a DC power stage. -/
  | pstageSet (o : Fin 8) (w0 w1 : W24)
  /-- SAFE_CFG_LOAD (R305). Checks the password and safety record and stages it, returning its CRC. -/
  | safeCfgLoad (te0 : Bool) (w0 w1 : W24)
  /-- SAFE_CFG_COMMIT (R305). Commits the staged safety record when its CRC matches and contactors allow. -/
  | safeCfgCommit (te0 : Bool) (w0 w1 : W24) (conts : List Cont)
  /-- CFG_COMMIT_DEFERRED (R305). A waiting commit takes effect once every outlet is OPEN. -/
  | cfgCommitDeferred
  /-- SAFE_PWD (R303). Sets or changes the Fold password. -/
  | safePwd (te0 : Bool) (w0 w1 : W24)
  /-- PWD_LOCK_EXPIRY (R303). The password lock ends after its duration. -/
  | pwdLockExpiry
  /-- FOLD_RESET (R519). Clears all named latches when each meets its condition, or none. -/
  | foldReset (te0 : Bool) (w0 w1 : W24)
  /-- FOLD_STANDBY (R336). Self-tests or reloads the standby Fold member while every contactor is open. -/
  | foldStandby (te0 : Bool) (w0 w1 : W24)
  /-- RC_TEST (R321). Runs the residual-current self-test on open outlets. -/
  | rcTest (te0 : Bool) (w0 w1 : W24)
  /-- RC_SAMPLE (R318). The Fold evaluates a channel 12 sample against the DC, AC and peak residual thresholds. -/
  | rcSample (o : Fin 8)
  /-- RC_SELFTEST_START (R321). A due residual self-test applies the 8 mA offset to an open outlet. -/
  | rcSelftestStart (o : Fin 8)
  /-- RC_SELFTEST_END (R321). After 60 ms the self-test reads idc and passes or latches RC_MON. -/
  | rcSelftestEnd (o : Fin 8)
  /-- EXCITER_FAULT (R322). An exciter current out of range for 2 ms makes the residual monitor faulty. -/
  | exciterFault (o : Fin 8)
  /-- INS_STEP (R323). The insulation bridge ends a state, computes and classifies a result and moves on. -/
  | insStep (o : Fin 8)
  /-- FOLD_OPEN_DEADLINE (R325). A contactor still closed 5 s after an ISO or door trip is opened by the Fold. -/
  | foldOpenDeadline (o : Fin 8)
  /-- SFRAME_TX (R328). A safety-frame sender transmits its frame each TCYC or on a payload change. -/
  | sframeTx (c : Fin 16)
  /-- SFRAME_IN (R329). A received safety frame is checked and accepted or discarded and counted. -/
  | sframeIn (host : Bool) (w0 w1 : W24) (bytes : List Byte)
  /-- CONNECTION_WATCHDOG (R330). No frame accepted for WD puts a connection into SAFE. -/
  | connectionWatchdog (c : Fin 16)
  -- Network time, Ethernet and the Sward link (R345 to R374)
  /-- PTP_SYNC (R350). A slot accepts a Sync with its follow-up and path delay, forms the offset and steers the clock. -/
  | ptpSync (s : Fin 2) (src : BitVec 64) (seq : BitVec 16) (twoStep : Bool) (t1 corr : Int) (ts : Nat)
  /-- PTP_FOLLOW_UP (R349). A Follow_Up supplies the precise time of a two-step Sync. -/
  | ptpFollowUp (s : Fin 2) (src : BitVec 64) (seq : BitVec 16) (t1 : Int)
  /-- PTP_ANNOUNCE (R355). An Announce feeds master selection and UTCOFS. -/
  | ptpAnnounce (s : Fin 2) (src gm : BitVec 64) (rank : Nat) (utc : BitVec 16) (utcValid leap59 leap61 ptpScale : Bool)
  /-- DELAY_REQ_TX (R349). A slot sends Delay_Req at the interval the master announces. -/
  | delayReqTx (s : Fin 2)
  /-- PTP_DELAY_RESP (R349). A Delay_Resp completes the mean path delay measurement. -/
  | ptpDelayResp (s : Fin 2) (src : BitVec 64) (seq : BitVec 16) (t4 corr : Int) (interval : Nat)
  /-- PDELAY_REQ_TX (R349). Every 1 s a port using peer delay sends Pdelay_Req. -/
  | pdelayReqTx (p : Fin 2)
  /-- PTP_PDELAY_REQ (R349). A received Pdelay_Req is answered two-step. -/
  | ptpPdelayReq (p : Fin 2)
  /-- PTP_PDELAY_RESP (R349). A Pdelay_Resp and its follow-up give the port's peer delay. -/
  | ptpPdelayResp (p : Fin 2) (seq : BitVec 16) (t2 t3 corr : Int)
  /-- SLOT_LOST (R351). No Sync for four intervals or no Announce within timeout sets a slot LOST. -/
  | slotLost (s : Fin 2)
  /-- HOLDTIME_EXPIRY (R353). A holdover lasting HOLDTIME makes the clock INVALID. -/
  | holdtimeExpiry
  /-- BACKUP_CLOCK_UPDATE (R347). Each whole second while VALID the PD0 backup clock is set from the local clock. -/
  | backupClockUpdate
  /-- ETH_FRAME_RX (R358). A frame arriving on a port is stamped and placed to the host, the other port or the PTP engine. -/
  | ethFrameRx (p : Fin 2) (bytes : List Byte) (fcsOk : Bool)
  /-- HTXPTR_WRITE (R360). Advancing HTXPTR.TAIL hands transmit slots to the MAC for sending. -/
  | htxptrWrite (v : W32)
  /-- ETH_FRAME_TX_DONE (R360). A transmit slot's frame leaves, its egress stamp is written back and HEAD advances. -/
  | ethFrameTxDone
  /-- SWARD_LINK_UP (R362). 64 good symbols bring a Sward lane up. -/
  | swardLinkUp (lane : Fin 2)
  /-- SWARD_LINK_DOWN (R367). Loss of signal or code errors take a lane down and the neighbours turn traffic back. -/
  | swardLinkDown (loss : LinkLoss)
  /-- UNWRAP (R367). A link up again for 1 ms makes both modules undo the turn. -/
  | unwrap
  /-- QMSG (R364). A received queue-message frame is entered in sequence and acknowledged. -/
  | qmsg (lane : Fin 2) (bytes : List Byte)
  /-- SAFE (R364). A received safety-frame message is entered into Q94 in sequence. -/
  | safe (lane : Fin 2) (bytes : List Byte)
  /-- ACK (R364). A cumulative acknowledgement releases frames kept by the sender. -/
  | ack (lane : Fin 2) (bytes : List Byte)
  /-- SWARD_RESEND_TIMEOUT (R364). No acknowledgement for 100 µs resends from the first unacknowledged frame. -/
  | swardResendTimeout (dest : Fin 8) (safeClass : Bool)
  /-- TOPO (R368). A received TOPO updates presence, clock status and time leadership. -/
  | topo (lane : Fin 2) (pos : Fin 8) (wrap : Bool) (body : Topo)
  /-- TOPO_TX (R368). Every 1 ms each module sends TOPO on both lanes. -/
  | topoTx
  /-- POSITION_LOST (R368). A position unheard for LOSST leaves the ring and its queues are withdrawn. -/
  | positionLost (pos : Fin 8)
  /-- TIME (R369). A TIME frame is corrected for link delay and residence and feeds Sward servo slots. -/
  | time (lane : Fin 2) (bytes : List Byte) (residence : Nat)
  /-- TIME_TX (R369). Every 1 ms the time leader sends TIME on both lanes. -/
  | timeTx
  /-- TIMEX (R369). A TIMEX frame carries full seconds and UTCOFS from the leader. -/
  | timex (lane : Fin 2) (bytes : List Byte)
  /-- DELAY (R369). Every 10 ms neighbours exchange DELAY frames to measure each hop's delay. -/
  | delay (lane : Fin 2) (t1 t2 t3 t4 : Int)
  -- Contactless reader (R375 to R391)
  /-- POLL (R378). Every 100 ms the reader wakes, resolves and halts every card and reports arrivals and removals. -/
  | poll (typeA typeB : List Card) (slots : List (List Nat))
  /-- PRESENCE_CHECK (R378). Every 100 ms an R(NAK) checks that an open card is still present. -/
  | presenceCheck (reply : CardReply)
  /-- GUARD_END (R377). The 5.1 ms guard time after field-on ends. -/
  | guardEnd
  /-- TAG_APPLY (R386). Puts the TAG configuration in effect. -/
  | tagApply (n : Fin 8) (w0 w1 : W24)
  /-- TAG_ENABLE (R386). Enables or disables the reader. -/
  | tagEnable (n : Fin 8) (w0 w1 : W24)
  /-- TAG_TEST (R390). Pauses polling and tests the antenna current and receiver. -/
  | tagTest (n : Fin 8) (w0 w1 : W24)
  /-- TAG_TEST_END (R390). The 40 ms reader test ends and reports its result. -/
  | tagTestEnd (currentOk receiveOk : Bool)
  /-- TAG_AUTH (R381). Opens a card and runs mutual authentication to SECURED. -/
  | tagAuth (n : Fin 8) (w0 w1 : W24) (conts : List Cont) (card : Option Card)
  /-- TAG_CREDIT_READ (R383). Reads the current credit record of a secured card. -/
  | tagCreditRead (n : Fin 8) (w0 w1 : W24) (conts : List Cont)
  /-- TAG_CREDIT_WRITE (R384). Writes new credit to a card through the journal, shadow and pointer writes. -/
  | tagCreditWrite (n : Fin 8) (w0 w1 : W24) (conts : List Cont) (reach : Fin 4)
  /-- TAG_RELEASE (R380). Deselects and halts the held card. -/
  | tagRelease (n : Fin 8) (w0 w1 : W24) (conts : List Cont)
  /-- TAG_STEP (R381). TE15 performs one pass of card authentication with the profile key. -/
  | tagStep (slot : Fin 32) (token : List Byte)
  -- Gorse vault, lifecycle and check-value units (R392 to R420)
  /-- VAULT_KEY_LOAD (R400). Loads or erases a key slot under an authorisation. -/
  | vaultKeyLoad (n : Fin 8) (w0 w1 : W24)
  /-- VAULT_ANCHOR_LOAD (R400). Loads an anchor public key under an authorisation. -/
  | vaultAnchorLoad (n : Fin 8) (w0 w1 : W24)
  /-- LIFE_CHANGE (R408). Changes the lifecycle state under authorisation, committing and wiping. -/
  | lifeChange (n : Fin 8) (w0 w1 : W24)
  /-- LIFE_WIPE_DONE (R408). The step-4 wipe of a lifecycle change finishes and the change completes. -/
  | lifeWipeDone
  /-- TAMPER_CLEAR (R406). Draws a new SEED, raises EPOCH and clears the tamper latch. -/
  | tamperClear (n : Fin 8) (w0 w1 : W24)
  /-- VAULT_GENERATE (R396). Generates a working key and returns only its wrapped blob. -/
  | vaultGenerate (n : Fin 8) (w0 w1 : W24)
  /-- SIGN_READING (R236). TE15 signs a reading body with the reading key. -/
  | signReading (body : List Byte)
  /-- VERIFY_AUTH (R399). TE15 checks an authorisation and spends its counter. -/
  | verifyAuth (auth : List Byte)
  /-- BLOB_LOAD (R396). Unwraps a blob into a temporary slot. -/
  | blobLoad (w0 w1 : W24)
  /-- VERIFY_IMAGE (R424). TE15 checks a region manifest against its anchor. -/
  | verifyImage (w0 w1 : W24)
  /-- TAMPER_EVENT (R405). A mesh, cover or VBAT event clears all slots and SEED and latches TAMPER. -/
  | tamperEvent (src : Fin 4)
  /-- DRBG_HEALTH_FAIL (R402). A failed noise-source health test sets DRBGF and blocks randomness. -/
  | drbgHealthFail
  /-- CK_LOAD (R414). A CKCFG write with LOAD sets VAL to INIT and clears CKCNT. -/
  | ckLoad (u : Fin 4) (v : W32)
  /-- CKDATA (R415). A write of CKDATA feeds four bytes to a check-value unit. -/
  | ckdata (u : Fin 4) (v : W32)
  /-- CKDATAB (R415). A write of CKDATAB feeds one byte to a check-value unit. -/
  | ckdatab (u : Fin 4) (v : W32)
  /-- CKVALLO_READ (R420). A read of CKVALLO latches CKVALHI. -/
  | ckvalloRead (u : Fin 4)
  /-- CKRESLO_READ (R420). A read of CKRESLO latches CKRESHI. -/
  | ckresloRead (u : Fin 4)
  /-- CLKSECLO_READ (R371). A read of CLKSECLO latches the rest of the clock time. -/
  | clksecloRead
  -- Firmware update and fallback (R421 to R443)
  /-- UPD_BEGIN (R426). Starts an update of a region from the pending manifest. -/
  | updBegin (n : Fin 8) (w0 w1 : W24)
  /-- UPD_BLOCK (R426). Journals the old block, writes and verifies one new block. -/
  | updBlock (n : Fin 8) (w0 w1 : W24)
  /-- UPD_ACTIVATE (R429). Accepts activation of written regions and waits for the host acknowledgement. -/
  | updActivate (n : Fin 8) (w0 w1 : W24)
  /-- ACTIVATION_RESTART (R429). After the acknowledgement the pairs save, the manifests go in force and the part restarts. -/
  | activationRestart
  /-- UPD_FALLBACK (R433). Requests a fallback of a region. -/
  | updFallback (n : Fin 8) (w0 w1 : W24)
  /-- UPD_CONFIRM (R432). TE0 writes UPDCTL.CONF to confirm a trial region. -/
  | updConfirm (v : W32)
  /-- UPD_REQFB (R433). A write of UPDCTL.REQFB requests fallback of a region. -/
  | updReqfb (v : W32)
  /-- TRIAL_WINDOW_EXPIRY (R431). A trial unconfirmed for WINDOW minutes falls back. -/
  | trialWindowExpiry (r : Fin 5)
  /-- LOADER_START (R437). At start the loader reads update control, restores due fallbacks, verifies and loads or enters recovery. -/
  | loaderStart
  /-- SETTINGS_MIGRATION (R435). A trial image converts settings into the other area or fails migration. -/
  | settingsMigration (r : Fin 3) (converted : Bool)
  -- Barrow event recorder (R444 to R458)
  /-- LOG_TRIGGER (R447). A trigger is time-stamped, snapshotted and queued for writing to its log. -/
  | logTrigger (src : Byte) (w0 w1 : W24) (conts : List Cont)
  /-- LOG_ENTRY_WRITE (R446). An accepted entry is written to MRAM with its SEQ. -/
  | logEntryWrite
  /-- LOG_READ (R452). Delivers up to 16 log entries from a sequence number. -/
  | logRead (w0 w1 : W24) (conts : List Cont)
  /-- LOG_CLEAR (R455). Under authorisation empties named logs and writes CLEARED. -/
  | logClear (n : Fin 8) (w0 w1 : W24)
  /-- FREEZE_ON (R453). A write of FRZ = 1 stops log writing and holds entries. -/
  | freezeOn (v : W32)
  /-- FREEZE_OFF (R453). A write of FRZ = 0 ends the FREEZE and writes held entries. -/
  | freezeOff (v : W32)
  /-- FREEZE_TIMEOUT (R453). FRZMAX seconds end the FREEZE. -/
  | freezeTimeout
  /-- HEADER_REBUILD (R520). A failed log header is rebuilt from the entries and committed. -/
  | headerRebuild (general : Bool)
  -- Legal display driver (R459 to R468)
  /-- LCD_TAG_WRITE (R465). TE0 writes a legal picture's TAG, raising the event on the checking pair. -/
  | lcdTagWrite (page : Fin 5) (outlet : Fin 8)
  /-- LCD_EXP_WRITE (R465). The checking member writes the expected CRC with the tag into EXP. -/
  | lcdExpWrite
  /-- LCD_FRAME_START (R466). At each display frame the buffers may swap and the legal field CRC is checked or blanked. -/
  | lcdFrameStart
  /-- LCD_TAG_TIMEOUT (R465). No matching EXP within 500 ms drops the picture. -/
  | lcdTagTimeout
  /-- PAGE_DWELL (R463). After DWELL seconds TE0 builds the next legal page. -/
  | pageDwell
  -- Protected load switches (R469 to R480)
  /-- LS_ON (R476). A write of LSCTL.ON switches a load-switch channel on or is refused. -/
  | lsOn (c : Fin 16) (v : W32)
  /-- LS_CLEAR (R476). A write of CLR clears a channel's latch and ON. -/
  | lsClear (c : Fin 16) (v : W32)
  /-- LS_TEST (R477). A write of TEST starts a load-switch channel test. -/
  | lsTest (c : Fin 16) (v : W32)
  /-- LS_TEST_END (R477). A load-switch test ends and reports in LSTEST. -/
  | lsTestEnd (c : Fin 16) (isOpen shortGnd shortVls responds : Bool)
  /-- LS_SHORT_CIRCUIT (R471). A channel reaching its active current limit latches SC. -/
  | lsShortCircuit (c : Fin 16) (i : BitVec 14)
  /-- LS_OVERCURRENT (R471). A current above OCTHR for 50 µs outside blanking latches OC. -/
  | lsOvercurrent (c : Fin 16) (i : BitVec 14)
  /-- LS_THERMAL (R471). A channel sensor at 165 °C latches THERM. -/
  | lsThermal (c : Fin 16) (temp : Byte)
  /-- LS_UNDERVOLTAGE (R471). VLS below 8.5 V for 100 µs latches UV on every channel that is on. -/
  | lsUndervoltage (vls : BitVec 16)
  /-- VLS_DROOP (R473). A VLS droop restarts the blanking window of channels still in it. -/
  | vlsDroop (vls : BitVec 16)
  /-- BLANK_END (R472). A channel's blanking window closes and OC and open load start to be evaluated. -/
  | blankEnd (c : Fin 16)
  /-- OPEN_LOAD (R474). Current below or above the open-load threshold for 100 ms sets or clears OL. -/
  | openLoad (c : Fin 16) (i : BitVec 14)
  /-- LS_RETRY (R475). After 1 s a channel latched SC or OC switches itself on again. -/
  | lsRetry (c : Fin 16)
  /-- GROUP_SHED (R470). Each 1 ms while a group limit is exceeded one channel is shed. -/
  | groupShed (isum : BitVec 16) (pdiss : BitVec 12)
  -- Power, reset and the host port (R481 to R512)
  /-- PWR_DOMAIN (R488). Switches a power domain on or off under its conditions. -/
  | pwrDomain (n : Fin 8) (w0 w1 : W24)
  /-- PWR_CORE (R485). Starts a change of core-voltage mode. -/
  | pwrCore (n : Fin 8) (w0 w1 : W24)
  /-- VCOK_CONFIRM (R485). VCOK held for 100 µs completes a core-mode change. -/
  | vcokConfirm
  /-- CORE_CHANGE_TIMEOUT (R485). No VCOK confirmation within 5 ms reverts the mode and completes FAULT. -/
  | coreChangeTimeout
  /-- VCOK_LOST (R486). VCOK low for 1 ms outside a change is logged as FAULT. -/
  | vcokLost
  /-- POWER_FAIL_WARNING (R496). A warning switches off loads and transmitters, forces commits and writes the power-fail save. -/
  | powerFailWarning (pin vsys : Bool)
  /-- BROWN_OUT_RESTART (R497). Supplies back for 100 ms after a warning cause a full restart. -/
  | brownOutRestart
  /-- POWER_ON_RESET (R490). A supply monitor below threshold causes a full reset. -/
  | powerOnReset
  /-- PIN_RESET (R490). nRESET low for 10 µs causes a full reset. -/
  | pinReset
  /-- OVER_TEMPERATURE_RESET (R490). A die sensor at 150 °C for 1 ms causes a full reset held until cool. -/
  | overTemperatureReset
  /-- START (R489). After supplies are good the crystal, fuses and domains come up and reset is released. -/
  | start (swid : Fin 8)
  /-- JUNCTION_ABOVE_125 (R34). A junction above 125 °C switches comfort load channels off. -/
  | junctionAbove125 (cdie adie pdie : Byte)
  /-- JUNCTION_ABOVE_135 (R34). A junction above 135 °C stops transmitters and ramps every session down. -/
  | junctionAbove135 (cdie adie pdie : Byte)
  /-- READ (R504). The host port READ command returns words from an address. -/
  | read (addr : W32) (n : Nat) (ready : Bool)
  /-- WRITE (R504). The host port WRITE command writes words to an address. -/
  | write (addr : W32) (words : List W32)
  /-- STATUS (R504). The host port STATUS command returns HSTAT. -/
  | status
  /-- PORT_RESET (R490). Resets the host port and replays host-consumed messages. -/
  | portReset
  /-- REGISTER_WRITE (R515). A write to a register without behaviour of its own, judged by access type and lifecycle. -/
  | registerWrite (addr v : W32)
  /-- MRAM_WINDOW_WRITE (R31). A host write through the MRAM window to a partition, refused unless host-writable. -/
  | mramWindowWrite (off : BitVec 25) (v : W32)
  /-- PILOT_PERIOD_START (R244). At the rising edge that starts each 1 ms pilot period, a pending duty or mode takes effect, and OUT_LIMIT and hold or ramp-down pilot steps complete. -/
  | pilotPeriodStart (o : Fin 8)
  /-- PD1_WINDOW_RETURN (R483). VAUX and V33 back inside the PD1 window for 1 ms make the enable paths energisable again. -/
  | pd1WindowReturn
  /-- LEAP_SECOND (R355). At the end of the UTC day whose Announce carried leap59 or leap61, the new UTCOFS takes effect and is written to PD0. -/
  | leapSecond
  /-- PORT_LINK_LOST (R370). An Ethernet port's link is lost, and a frame held for forwarding to it is dropped and counted in PCNT.DROP. -/
  | portLinkLost (p : Fin 2)
  /-- FORWARDED_FRAME_EGRESS (R359). A frame forwarded between ports leaves the egress port, and its residence time is applied, or its held Follow_Up is released. -/
  | forwardedFrameEgress (p : Fin 2)
  /-- FIELD_RESET_END (R377). The 5 ms field reset after a failed activation ends, the field comes back on and the guard time starts. -/
  | fieldResetEnd
  /-- SOURCE_TEST (R402). A fresh noise-source test passes, clearing VSTAT.DRBGF and allowing operations that need randomness again. -/
  | sourceTest
  /-- HOST_PORT_OTHER_COMMAND (R504). A host-port transaction with an unlisted command byte is ignored and sets HSTAT.LAST to DENIED. -/
  | hostPortOtherCommand (cmd : Byte)
  /-- HRXPTR_WRITE (R360). A host write advancing HRXPTR.TAIL returns receive slots to the hardware. -/
  | hrxptrWrite (v : W32)
  /-- SERVO_SCFG_WRITE (R351). A write of a servo slot's SCFG.SRC puts the slot into NONE or ACQUIRING at once and starts its LOST timing. -/
  | servoScfgWrite (s : Fin 2) (v : W32)
  /-- CLKCFG_WRITE (R352). A write of CLKCFG.SELMODE asks for a slot move, which is refused BUDGET when SOFS exceeds SWLIM. -/
  | clkcfgWrite (v : W32)
  /-- PCFG_WRITE (R356). A write of an Ethernet port's PCFG enables the port, sets its speed under the CORE-LOW budget, applies PDLY and drives EBYP. -/
  | pcfgWrite (p : Fin 2) (v : W32)
  /-- SWARD_SCFG_WRITE (R366). A write of the Sward SCFG.EN closes or opens the module's bypass switches. -/
  | swardScfgWrite (v : W32)
  /-- DOMAIN_POWER_UP (R487). A power domain switched on comes up within 2 ms, PDSTAT shows it, and PD4 or PD2/PD3 resume frames in START. -/
  | domainPowerUp (d : Fin 12)
  /-- DOMAIN_SUPPLY_FAULT (R512). A power domain's supply becomes faulty or recovers, setting or clearing PDSTAT.SFLT, which makes PWR_DOMAIN requests complete FAULT. -/
  | domainSupplyFault (d : Fin 12) (faulty : Bool)
  /-- RCTOK_EXPIRY (R311). Sixty seconds after the last passed residual-current self-test, RCTOK falls to 0 and closes are refused with cause RC. -/
  | rctokExpiry (o : Fin 8)
  deriving DecidableEq, Repr

end Sys2Proof
end

