-- ==== Sys2Proof/WellFormed.lean ====
section
/-!
DEFINITION. Which terms of Instr are commands the part can be given: the encoding rules of R56, R60, R61 and R67 that
the types leave open, and the shapes of payloads that come from outside.
-/
namespace Sys2Proof

/-- R67: the destination fields of a pop name different registers. -/
def wfTake (h w0 w1 : Fin 16) : Bool := h != w0 && h != w1 && w0 != w1

/-- A command that can be given. -/
def Instr.wf (i : Instr) : Bool :=
  match i with
  | .ldx _ d post x _ => !(post && d == x)
  | .b _ cond _ => cond != 15
  | .qpop _ _ h w0 w1 => wfTake h w0 w1
  | .qpeek _ _ h w0 w1 => wfTake h w0 w1
  | .qpopn _ _ h w0 w1 _ => wfTake h w0 w1
  | .engineLoad _ words _ => decide (words.length ≤ 0x20000)
  | _ => true

end Sys2Proof
end

