-- ==== Sys2Proof/Decode.lean ====
section
/-!
DEFINITION. The encoding of the Treltor instructions (R54 to R61): decoder and encoder over the 32-bit word as a number,
and the decoder of the opcode table, which gives no row any bits.
-/
namespace Sys2Proof

/-- The opcode table gives no row any bits: no word spells a command. -/
def decodeTableWord (_nbits _w : Nat) : Option Instr := none

/-- Operand fields as register numbers. -/
def f16 (n : Nat) : Fin 16 := ⟨n % 16, Nat.mod_lt _ (by decide)⟩
def f8 (n : Nat) : Fin 8 := ⟨n % 8, Nat.mod_lt _ (by decide)⟩
def f4d (n : Nat) : Fin 4 := ⟨n % 4, Nat.mod_lt _ (by decide)⟩
def f2 (n : Nat) : Fin 2 := ⟨n % 2, Nat.mod_lt _ (by decide)⟩
def f128 (n : Nat) : Fin 128 := ⟨n % 128, Nat.mod_lt _ (by decide)⟩

/-- R56: an instruction of a format whose fields are legal. -/
def legal (ok : Bool) (i : Instr) : Option Instr := if ok then some i else none

/-- R57: the guard field. -/
def guardOf (w : Nat) : Guard := ⟨w / 2 ^ 13 % 2 == 1, f4d (w / 2 ^ 11)⟩

/-- R56: the ALU functions (major 0x00). -/
def decodeAlu (e : Eid) (g : Guard) (D A B fn : Nat) : Option Instr :=
  match fn with
  | 0x1 => legal (true) (.add e g (f16 D) (f16 A) (f16 B))
  | 0x2 => legal (true) (.sub e g (f16 D) (f16 A) (f16 B))
  | 0x3 => legal (true) (.addw e g (f16 D) (f16 A) (f16 B))
  | 0x4 => legal (true) (.subw e g (f16 D) (f16 A) (f16 B))
  | 0x5 => legal (true) (.addc e g (f16 D) (f16 A) (f16 B))
  | 0x6 => legal (true) (.subb e g (f16 D) (f16 A) (f16 B))
  | 0x9 => legal (true) (.min e g (f16 D) (f16 A) (f16 B))
  | 0xa => legal (true) (.max e g (f16 D) (f16 A) (f16 B))
  | 0xc => legal (true) (.and e g (f16 D) (f16 A) (f16 B))
  | 0xd => legal (true) (.or e g (f16 D) (f16 A) (f16 B))
  | 0xe => legal (true) (.xor e g (f16 D) (f16 A) (f16 B))
  | 0x10 => legal (true) (.shl e g (f16 D) (f16 A) (f16 B))
  | 0x11 => legal (true) (.shr e g (f16 D) (f16 A) (f16 B))
  | 0x12 => legal (true) (.sar e g (f16 D) (f16 A) (f16 B))
  | 0x13 => legal (true) (.shls e g (f16 D) (f16 A) (f16 B))
  | 0x7 => legal (B == 0) (.neg e g (f16 D) (f16 A))
  | 0x8 => legal (B == 0) (.abs e g (f16 D) (f16 A))
  | 0xb => legal (B == 0) (.mov e g (f16 D) (f16 A))
  | 0xf => legal (B == 0) (.not e g (f16 D) (f16 A))
  | 0x14 => legal (B == 0) (.norm e g (f16 D) (f16 A))
  | 0x0 => legal (D == 0 && A == 0 && B == 0) (.nop e g)
  | 0x18 => legal (decide (D < 4)) (.cmpeq e g (f4d D) (f16 A) (f16 B))
  | 0x19 => legal (decide (D < 4)) (.cmplt e g (f4d D) (f16 A) (f16 B))
  | 0x1a => legal (decide (D < 4)) (.cmpltu e g (f4d D) (f16 A) (f16 B))
  | 0x1b => legal (decide (D < 4)) (.cmple e g (f4d D) (f16 A) (f16 B))
  | 0x1c => legal (decide (D < 4) && decide (A < 4) && decide (B < 4)) (.pand e g (f4d D) (f4d A) (f4d B))
  | 0x1d => legal (decide (D < 4) && decide (A < 4) && decide (B < 4)) (.por e g (f4d D) (f4d A) (f4d B))
  | 0x1e => legal (decide (D < 4) && decide (A < 4) && decide (B < 4)) (.pxor e g (f4d D) (f4d A) (f4d B))
  | 0x20 => legal (decide (D < 8) && B == 0) (.movgx e g (f8 D) (f16 A))
  | 0x21 => legal (decide (A < 8) && B == 0) (.movxg e g (f16 D) (f8 A))
  | 0x22 => legal (decide (D < 8) && decide (A < 8)) (.addxr e g (f8 D) (f8 A) (f16 B))
  | _ => none

/-- R56: the MAC functions (major 0x01). -/
def decodeMac (e : Eid) (g : Guard) (D A B fn : Nat) : Option Instr :=
  match fn with
  | 0x0 => legal (decide (D < 2)) (.mpy e g (f2 D) (f16 A) (f16 B))
  | 0x1 => legal (decide (D < 2)) (.mac e g (f2 D) (f16 A) (f16 B))
  | 0x2 => legal (decide (D < 2)) (.msu e g (f2 D) (f16 A) (f16 B))
  | 0x3 => legal (decide (D < 2)) (.mpyi e g (f2 D) (f16 A) (f16 B))
  | 0x4 => legal (decide (D < 2)) (.maci e g (f2 D) (f16 A) (f16 B))
  | 0x5 => legal (decide (D < 2)) (.mpyuu e g (f2 D) (f16 A) (f16 B))
  | 0x6 => legal (decide (D < 2)) (.macuu e g (f2 D) (f16 A) (f16 B))
  | 0x7 => legal (decide (D < 2)) (.mpysu e g (f2 D) (f16 A) (f16 B))
  | 0x8 => legal (decide (D < 2)) (.macsu e g (f2 D) (f16 A) (f16 B))
  | 0x9 => legal (decide (D < 2) && A == 0 && B == 0) (.clra e g (f2 D))
  | 0xa => legal (decide (D < 2) && A == 0 && B == 0) (.adda e g (f2 D))
  | 0xb => legal (decide (D < 2) && A == 0 && B == 0) (.suba e g (f2 D))
  | 0xc => legal (decide (D < 2) && B == 0) (.ldah e g (f2 D) (f16 A))
  | 0xd => legal (decide (D < 2) && A == 0) (.shla e g (f2 D) (f16 B))
  | 0xe => legal (decide (D < 2) && A == 0) (.sara e g (f2 D) (f16 B))
  | 0x10 => legal (decide (A < 2) && B == 0) (.movah e g (f16 D) (f2 A))
  | 0x11 => legal (decide (A < 2) && B == 0) (.movam e g (f16 D) (f2 A))
  | 0x12 => legal (decide (A < 2) && B == 0) (.moval e g (f16 D) (f2 A))
  | 0x13 => legal (decide (A < 2) && B == 0) (.movag e g (f16 D) (f2 A))
  | 0x14 => legal (decide (D < 2) && B == 0) (.putam e g (f2 D) (f16 A))
  | 0x15 => legal (decide (D < 2) && B == 0) (.putal e g (f2 D) (f16 A))
  | 0x16 => legal (decide (D < 2) && B == 0) (.putag e g (f2 D) (f16 A))
  | 0x18 => legal (true) (.mpyr e g (f16 D) (f16 A) (f16 B))
  | _ => none

/-- R56: the system functions (major 0x1F). -/
def decodeSys (e : Eid) (g : Guard) (D A B fn : Nat) : Option Instr :=
  match fn with
  | 0x0 => legal (D == 0 && A == 0 && B == 0) (.ret e g)
  | 0x1 => legal (D == 0 && A == 0 && B == 0) (.rte e g)
  | 0x2 => legal (D == 0 && B == 0) (.jr e g (f16 A))
  | 0x3 => legal (D == 0 && B == 0) (.callr e g (f16 A))
  | 0x4 => legal (A == 0 && B == 0) (.trap e g (f16 D))
  | 0x5 => legal (D == 0 && A == 0 && B == 0) (.halt e g)
  | 0x6 => legal (B == 0) (.wait e g (f16 D) (f16 A))
  | 0x7 => legal (D == 0 && B == 0) (.clrev e g (f16 A))
  | 0x8 => some (.mrs e g (f16 D) (BitVec.ofNat 8 (A * 16 + B)))
  | 0x9 => some (.msr e g (f16 D) (BitVec.ofNat 8 (A * 16 + B)))
  | _ => none

/-- R56: the immediate sub-ops (major 0x04). -/
def decodeImm (e : Eid) (D A B imm : Nat) : Option Instr :=
  match B with
  | 0 => legal (true) (.addi e (f16 D) (f16 A) (BitVec.ofNat 14 imm))
  | 1 => legal (true) (.andi e (f16 D) (f16 A) (BitVec.ofNat 14 imm))
  | 2 => legal (true) (.ori e (f16 D) (f16 A) (BitVec.ofNat 14 imm))
  | 3 => legal (true) (.xori e (f16 D) (f16 A) (BitVec.ofNat 14 imm))
  | 10 => legal (decide (D < 4)) (.cmpeqi e (f4d D) (f16 A) (BitVec.ofNat 14 imm))
  | 11 => legal (decide (D < 4)) (.cmplti e (f4d D) (f16 A) (BitVec.ofNat 14 imm))
  | 12 => legal (decide (D < 4)) (.cmpltui e (f4d D) (f16 A) (BitVec.ofNat 14 imm))
  | 13 => legal (decide (D < 8) && decide (A < 8)) (.addxi e (f8 D) (f8 A) (BitVec.ofNat 14 imm))
  | 4 => legal (decide (imm < 32)) (.shli e (f16 D) (f16 A) (BitVec.ofNat 5 imm))
  | 5 => legal (decide (imm < 32)) (.shri e (f16 D) (f16 A) (BitVec.ofNat 5 imm))
  | 6 => legal (decide (imm < 32)) (.sari e (f16 D) (f16 A) (BitVec.ofNat 5 imm))
  | 7 => legal (decide (imm < 32)) (.shlsi e (f16 D) (f16 A) (BitVec.ofNat 5 imm))
  | 8 => legal (A == 0) (.ldi e (f16 D) (BitVec.ofNat 14 imm))
  | 9 => legal (decide (imm < 1024)) (.insh e (f16 D) (f16 A) (BitVec.ofNat 10 imm))
  | 14 => legal (A == 0 && decide (D < 8)) (.ldxi e (f8 D) (BitVec.ofNat 14 imm))
  | _ => none

/-- R60: the memory sub-ops (major 0x08); LDX with post-modify of its own destination is illegal. -/
def decodeMem (e : Eid) (D A B off : Nat) : Option Instr :=
  let post := A / 8 == 1
  match B with
  | 0 => some (.ld e (f16 D) post (f8 A) (BitVec.ofNat 14 off))
  | 1 => some (.st e (f16 D) post (f8 A) (BitVec.ofNat 14 off))
  | 2 => legal (decide (D < 8) && !(post && D == A % 8)) (.ldx e (f8 D) post (f8 A) (BitVec.ofNat 14 off))
  | 3 => legal (decide (D < 8)) (.stx e (f8 D) post (f8 A) (BitVec.ofNat 14 off))
  | _ => none

/-- R67: the queue operations (major 0x18). -/
def decodeQue (e : Eid) (H W0 W1 q op p low : Nat) : Option Instr :=
  let diff := H != W0 && H != W1 && W0 != W1
  if low ≠ 0 then none
  else match op with
  | 0 => legal (p == 0) (.qpush e (f128 q) (f16 H) (f16 W0) (f16 W1))
  | 1 => legal (p == 0 && diff) (.qpop e (f128 q) (f16 H) (f16 W0) (f16 W1))
  | 2 => legal (p == 0 && diff) (.qpeek e (f128 q) (f16 H) (f16 W0) (f16 W1))
  | 3 => legal (p == 0 && W0 == 0 && W1 == 0) (.qstat e (f128 q) (f16 H))
  | 4 => some (.qpushn e (f128 q) (f16 H) (f16 W0) (f16 W1) (f4d p))
  | 5 => legal diff (.qpopn e (f128 q) (f16 H) (f16 W0) (f16 W1) (f4d p))
  | 6 => legal (p == 0 && H == 0 && W0 == 0 && W1 == 0 && q == 0) (.fence e)
  | _ => none

/-- R54, R55: the instruction that engine `e` reads from the word `w`; none where it raises OPCODE. -/
def decodeTreltor (e : Eid) (w : Nat) : Option Instr :=
  let maj := w / 2 ^ 26 % 64
  let D := w / 2 ^ 22 % 16
  let A := w / 2 ^ 18 % 16
  let B := w / 2 ^ 14 % 16
  let imm := w % 2 ^ 14
  let mid := w / 2 ^ 8 % 8
  let fn := w % 256
  match maj with
  | 0x00 => if mid = 0 then decodeAlu e (guardOf w) D A B fn else none
  | 0x01 => if mid = 0 then decodeMac e (guardOf w) D A B fn else none
  | 0x1F => if mid = 0 then decodeSys e (guardOf w) D A B fn else none
  | 0x04 => decodeImm e D A B imm
  | 0x08 => decodeMem e D A B imm
  | 0x10 => legal (D != 15) (.b e (f16 D) (BitVec.ofNat 22 (w % 2 ^ 22)))
  | 0x11 => some (.call e (BitVec.ofNat 26 (w % 2 ^ 26)))
  | 0x12 => some (.jmp e (BitVec.ofNat 26 (w % 2 ^ 26)))
  | 0x18 => decodeQue e D A B (w / 2 ^ 7 % 128) (w / 2 ^ 4 % 8) (w / 2 ^ 2 % 4) (w % 4)
  | _ => none

/-- R54: a Register-format word. -/
def regWord (maj : Nat) (g : Guard) (D A B fn : Nat) : Nat :=
  maj * 2 ^ 26 + D * 2 ^ 22 + A * 2 ^ 18 + B * 2 ^ 14 + g.neg.toNat * 2 ^ 13 + g.p.val * 2 ^ 11 + fn

/-- R54: a word of the Immediate, Memory and Queue formats. -/
def fieldWord (maj D A B low : Nat) : Nat := maj * 2 ^ 26 + D * 2 ^ 22 + A * 2 ^ 18 + B * 2 ^ 14 + low

/-- R54: the address field of a memory instruction. -/
def memField (post : Bool) (x : Fin 8) : Nat := post.toNat * 8 + x.val

/-- R54: the word of a Treltor instruction; none for a command that is none. -/
def encodeTreltor (i : Instr) : Option Nat :=
  match i with
  | .add _ g d a b => some (regWord 0x0 g d.val a.val b.val 0x1)
  | .sub _ g d a b => some (regWord 0x0 g d.val a.val b.val 0x2)
  | .addw _ g d a b => some (regWord 0x0 g d.val a.val b.val 0x3)
  | .subw _ g d a b => some (regWord 0x0 g d.val a.val b.val 0x4)
  | .addc _ g d a b => some (regWord 0x0 g d.val a.val b.val 0x5)
  | .subb _ g d a b => some (regWord 0x0 g d.val a.val b.val 0x6)
  | .min _ g d a b => some (regWord 0x0 g d.val a.val b.val 0x9)
  | .max _ g d a b => some (regWord 0x0 g d.val a.val b.val 0xa)
  | .and _ g d a b => some (regWord 0x0 g d.val a.val b.val 0xc)
  | .or _ g d a b => some (regWord 0x0 g d.val a.val b.val 0xd)
  | .xor _ g d a b => some (regWord 0x0 g d.val a.val b.val 0xe)
  | .shl _ g d a b => some (regWord 0x0 g d.val a.val b.val 0x10)
  | .shr _ g d a b => some (regWord 0x0 g d.val a.val b.val 0x11)
  | .sar _ g d a b => some (regWord 0x0 g d.val a.val b.val 0x12)
  | .shls _ g d a b => some (regWord 0x0 g d.val a.val b.val 0x13)
  | .neg _ g d a => some (regWord 0x0 g d.val a.val 0 0x7)
  | .abs _ g d a => some (regWord 0x0 g d.val a.val 0 0x8)
  | .mov _ g d a => some (regWord 0x0 g d.val a.val 0 0xb)
  | .not _ g d a => some (regWord 0x0 g d.val a.val 0 0xf)
  | .norm _ g d a => some (regWord 0x0 g d.val a.val 0 0x14)
  | .nop _ g => some (regWord 0x0 g 0 0 0 0x0)
  | .cmpeq _ g d a b => some (regWord 0x0 g d.val a.val b.val 0x18)
  | .cmplt _ g d a b => some (regWord 0x0 g d.val a.val b.val 0x19)
  | .cmpltu _ g d a b => some (regWord 0x0 g d.val a.val b.val 0x1a)
  | .cmple _ g d a b => some (regWord 0x0 g d.val a.val b.val 0x1b)
  | .pand _ g d a b => some (regWord 0x0 g d.val a.val b.val 0x1c)
  | .por _ g d a b => some (regWord 0x0 g d.val a.val b.val 0x1d)
  | .pxor _ g d a b => some (regWord 0x0 g d.val a.val b.val 0x1e)
  | .movgx _ g d a => some (regWord 0x0 g d.val a.val 0 0x20)
  | .movxg _ g d a => some (regWord 0x0 g d.val a.val 0 0x21)
  | .addxr _ g d a b => some (regWord 0x0 g d.val a.val b.val 0x22)
  | .mpy _ g d a b => some (regWord 0x1 g d.val a.val b.val 0x0)
  | .mac _ g d a b => some (regWord 0x1 g d.val a.val b.val 0x1)
  | .msu _ g d a b => some (regWord 0x1 g d.val a.val b.val 0x2)
  | .mpyi _ g d a b => some (regWord 0x1 g d.val a.val b.val 0x3)
  | .maci _ g d a b => some (regWord 0x1 g d.val a.val b.val 0x4)
  | .mpyuu _ g d a b => some (regWord 0x1 g d.val a.val b.val 0x5)
  | .macuu _ g d a b => some (regWord 0x1 g d.val a.val b.val 0x6)
  | .mpysu _ g d a b => some (regWord 0x1 g d.val a.val b.val 0x7)
  | .macsu _ g d a b => some (regWord 0x1 g d.val a.val b.val 0x8)
  | .clra _ g d => some (regWord 0x1 g d.val 0 0 0x9)
  | .adda _ g d => some (regWord 0x1 g d.val 0 0 0xa)
  | .suba _ g d => some (regWord 0x1 g d.val 0 0 0xb)
  | .ldah _ g d a => some (regWord 0x1 g d.val a.val 0 0xc)
  | .shla _ g d b => some (regWord 0x1 g d.val 0 b.val 0xd)
  | .sara _ g d b => some (regWord 0x1 g d.val 0 b.val 0xe)
  | .movah _ g d a => some (regWord 0x1 g d.val a.val 0 0x10)
  | .movam _ g d a => some (regWord 0x1 g d.val a.val 0 0x11)
  | .moval _ g d a => some (regWord 0x1 g d.val a.val 0 0x12)
  | .movag _ g d a => some (regWord 0x1 g d.val a.val 0 0x13)
  | .putam _ g d a => some (regWord 0x1 g d.val a.val 0 0x14)
  | .putal _ g d a => some (regWord 0x1 g d.val a.val 0 0x15)
  | .putag _ g d a => some (regWord 0x1 g d.val a.val 0 0x16)
  | .mpyr _ g d a b => some (regWord 0x1 g d.val a.val b.val 0x18)
  | .ret _ g => some (regWord 0x1f g 0 0 0 0x0)
  | .rte _ g => some (regWord 0x1f g 0 0 0 0x1)
  | .jr _ g a => some (regWord 0x1f g 0 a.val 0 0x2)
  | .callr _ g a => some (regWord 0x1f g 0 a.val 0 0x3)
  | .trap _ g n => some (regWord 0x1f g n.val 0 0 0x4)
  | .halt _ g => some (regWord 0x1f g 0 0 0 0x5)
  | .wait _ g d a => some (regWord 0x1f g d.val a.val 0 0x6)
  | .clrev _ g a => some (regWord 0x1f g 0 a.val 0 0x7)
  | .mrs _ g d sr => some (regWord 0x1f g d.val (sr.toNat / 16) (sr.toNat % 16) 0x8)
  | .msr _ g d sr => some (regWord 0x1f g d.val (sr.toNat / 16) (sr.toNat % 16) 0x9)
  | .addi _ d a imm => some (fieldWord 0x04 d.val a.val 0 imm.toNat)
  | .andi _ d a imm => some (fieldWord 0x04 d.val a.val 1 imm.toNat)
  | .ori _ d a imm => some (fieldWord 0x04 d.val a.val 2 imm.toNat)
  | .xori _ d a imm => some (fieldWord 0x04 d.val a.val 3 imm.toNat)
  | .cmpeqi _ d a imm => some (fieldWord 0x04 d.val a.val 10 imm.toNat)
  | .cmplti _ d a imm => some (fieldWord 0x04 d.val a.val 11 imm.toNat)
  | .cmpltui _ d a imm => some (fieldWord 0x04 d.val a.val 12 imm.toNat)
  | .addxi _ d a imm => some (fieldWord 0x04 d.val a.val 13 imm.toNat)
  | .shli _ d a amt => some (fieldWord 0x04 d.val a.val 4 amt.toNat)
  | .shri _ d a amt => some (fieldWord 0x04 d.val a.val 5 amt.toNat)
  | .sari _ d a amt => some (fieldWord 0x04 d.val a.val 6 amt.toNat)
  | .shlsi _ d a amt => some (fieldWord 0x04 d.val a.val 7 amt.toNat)
  | .ldi _ d imm => some (fieldWord 0x04 d.val 0 8 imm.toNat)
  | .insh _ d a imm => some (fieldWord 0x04 d.val a.val 9 imm.toNat)
  | .ldxi _ d imm => some (fieldWord 0x04 d.val 0 14 imm.toNat)
  | .ld _ d post x off => some (fieldWord 0x08 d.val (memField post x) 0 off.toNat)
  | .st _ d post x off => some (fieldWord 0x08 d.val (memField post x) 1 off.toNat)
  | .ldx _ d post x off => some (fieldWord 0x08 d.val (memField post x) 2 off.toNat)
  | .stx _ d post x off => some (fieldWord 0x08 d.val (memField post x) 3 off.toNat)
  | .b _ c off => some (0x10 * 2 ^ 26 + c.val * 2 ^ 22 + off.toNat)
  | .call _ t => some (0x11 * 2 ^ 26 + t.toNat)
  | .jmp _ t => some (0x12 * 2 ^ 26 + t.toNat)
  | .qpush _ q h w0 w1 => some (fieldWord 0x18 h.val w0.val w1.val (q.val * 2 ^ 7))
  | .qpop _ q h w0 w1 => some (fieldWord 0x18 h.val w0.val w1.val (q.val * 2 ^ 7 + 0x10))
  | .qpeek _ q h w0 w1 => some (fieldWord 0x18 h.val w0.val w1.val (q.val * 2 ^ 7 + 0x20))
  | .qstat _ q h => some (fieldWord 0x18 h.val 0 0 (q.val * 2 ^ 7 + 0x30))
  | .qpushn _ q h w0 w1 p => some (fieldWord 0x18 h.val w0.val w1.val (q.val * 2 ^ 7 + 0x40 + p.val * 4))
  | .qpopn _ q h w0 w1 p => some (fieldWord 0x18 h.val w0.val w1.val (q.val * 2 ^ 7 + 0x50 + p.val * 4))
  | .fence _ => some (fieldWord 0x18 0 0 0 0x60)
  | _ => none

/-- The engine that issues a Treltor instruction with an encoding. -/
def issuer (i : Instr) : Option Eid :=
  match i with
  | .add e _ _ _ _ => some e
  | .sub e _ _ _ _ => some e
  | .addw e _ _ _ _ => some e
  | .subw e _ _ _ _ => some e
  | .addc e _ _ _ _ => some e
  | .subb e _ _ _ _ => some e
  | .min e _ _ _ _ => some e
  | .max e _ _ _ _ => some e
  | .and e _ _ _ _ => some e
  | .or e _ _ _ _ => some e
  | .xor e _ _ _ _ => some e
  | .shl e _ _ _ _ => some e
  | .shr e _ _ _ _ => some e
  | .sar e _ _ _ _ => some e
  | .shls e _ _ _ _ => some e
  | .neg e _ _ _ => some e
  | .abs e _ _ _ => some e
  | .mov e _ _ _ => some e
  | .not e _ _ _ => some e
  | .norm e _ _ _ => some e
  | .nop e _ => some e
  | .cmpeq e _ _ _ _ => some e
  | .cmplt e _ _ _ _ => some e
  | .cmpltu e _ _ _ _ => some e
  | .cmple e _ _ _ _ => some e
  | .pand e _ _ _ _ => some e
  | .por e _ _ _ _ => some e
  | .pxor e _ _ _ _ => some e
  | .movgx e _ _ _ => some e
  | .movxg e _ _ _ => some e
  | .addxr e _ _ _ _ => some e
  | .mpy e _ _ _ _ => some e
  | .mac e _ _ _ _ => some e
  | .msu e _ _ _ _ => some e
  | .mpyi e _ _ _ _ => some e
  | .maci e _ _ _ _ => some e
  | .mpyuu e _ _ _ _ => some e
  | .macuu e _ _ _ _ => some e
  | .mpysu e _ _ _ _ => some e
  | .macsu e _ _ _ _ => some e
  | .clra e _ _ => some e
  | .adda e _ _ => some e
  | .suba e _ _ => some e
  | .ldah e _ _ _ => some e
  | .shla e _ _ _ => some e
  | .sara e _ _ _ => some e
  | .movah e _ _ _ => some e
  | .movam e _ _ _ => some e
  | .moval e _ _ _ => some e
  | .movag e _ _ _ => some e
  | .putam e _ _ _ => some e
  | .putal e _ _ _ => some e
  | .putag e _ _ _ => some e
  | .mpyr e _ _ _ _ => some e
  | .ret e _ => some e
  | .rte e _ => some e
  | .jr e _ _ => some e
  | .callr e _ _ => some e
  | .trap e _ _ => some e
  | .halt e _ => some e
  | .wait e _ _ _ => some e
  | .clrev e _ _ => some e
  | .mrs e _ _ _ => some e
  | .msr e _ _ _ => some e
  | .addi e _ _ _ => some e
  | .andi e _ _ _ => some e
  | .ori e _ _ _ => some e
  | .xori e _ _ _ => some e
  | .cmpeqi e _ _ _ => some e
  | .cmplti e _ _ _ => some e
  | .cmpltui e _ _ _ => some e
  | .addxi e _ _ _ => some e
  | .shli e _ _ _ => some e
  | .shri e _ _ _ => some e
  | .sari e _ _ _ => some e
  | .shlsi e _ _ _ => some e
  | .ldi e _ _ => some e
  | .insh e _ _ _ => some e
  | .ldxi e _ _ => some e
  | .ld e _ _ _ _ => some e
  | .st e _ _ _ _ => some e
  | .ldx e _ _ _ _ => some e
  | .stx e _ _ _ _ => some e
  | .b e _ _ => some e
  | .call e _ => some e
  | .jmp e _ => some e
  | .qpush e _ _ _ _ => some e
  | .qpop e _ _ _ _ => some e
  | .qpeek e _ _ _ _ => some e
  | .qstat e _ _ => some e
  | .qpushn e _ _ _ _ _ => some e
  | .qpopn e _ _ _ _ _ => some e
  | .fence e => some e
  | _ => none

end Sys2Proof
end

