-- ==== Sys2Proof/Machine/Regs.lean ====
section
/-!
DEFINITION. The host-visible registers of spec/: every register field that holds a value of its own, with its byte
address, its place in the register, its access type (R12) and its reset value, as the register tables of spec/ give
them.  A field is the unit of storage: Machine/Ops.lean keeps one value per field.  Registers whose value is another
view of state that stands elsewhere (QM.POOL, QCFG, QSTAT, QSEQ, the CAL windows, CKRES, HIRQSRC, the coefficient
windows, IDENT's fused words) are assembled in Machine/RegView.lean.
-/
namespace Sys2Proof.Machine

/-- The access types of R12. -/
inductive Acc where
  | ro | rw | w1c | wo | rwl
  deriving DecidableEq, Repr

/-- One field: the byte address of its register, its lowest bit, its width, its reset value and its access type. -/
structure Fld where
  addr : Nat
  lsb : Nat
  wid : Nat
  rst : Nat
  acc : Acc
  deriving DecidableEq, Repr

/-- The key a field's value is stored under: its register's address and its lowest bit. -/
def Fld.key (f : Fld) : Nat := f.addr * 32 + f.lsb

/-- The shadow of a field: the value IN EFFECT where the spec lets a write take effect only later
(OUT_APPLY, PLM_APPLY, TAG_APPLY, CAL_APPLY), and the BACK buffer beside FRONT. It is no host address. -/
def Fld.eff (f : Fld) : Fld := { f with addr := f.addr + 0x200000000, acc := .ro }

/-- One register of the tables at `base`, repeated with the given counts and strides. -/
structure RegFam where
  base : Nat
  dims : List (Nat × Nat)
  fields : List (Nat × Nat × Nat × Acc)
  deriving DecidableEq, Repr

/-- Does the family hold a register at byte address `a`? -/
def dimsCover (off : Nat) : List (Nat × Nat) → Bool
  | [] => off == 0
  | (n, st) :: ds => decide (off / st < n) && dimsCover (off % st) ds

def RegFam.covers (r : RegFam) (a : Nat) : Bool := decide (r.base ≤ a) && dimsCover (a - r.base) r.dims

/-- The fields of the register at byte address `a` of a family that covers `a`. -/
def RegFam.fieldsAt (r : RegFam) (a : Nat) : List Fld :=
  r.fields.map fun (l, w, v, c) => ⟨a, l, w, v, c⟩

namespace R

/-- R106, 03_execution_and_queues.md. -/
def QM_DOORBELL_RING : Fld := ⟨0x10000004, 0, 1, 0x0, .wo⟩
/-- R106, 03_execution_and_queues.md. -/
def QM_ERR_CORR : Fld := ⟨0x10000008, 0, 16, 0x0, .ro⟩
/-- R106, 03_execution_and_queues.md. -/
def QM_ERR_UNCORR : Fld := ⟨0x10000008, 16, 8, 0x0, .ro⟩
/-- R106, 03_execution_and_queues.md. -/
def QM_WIPE_DONE : Fld := ⟨0x1000000C, 0, 1, 0x0, .ro⟩
/-- R106, 03_execution_and_queues.md. -/
def QM_WIPE_FAILED : Fld := ⟨0x1000000C, 1, 1, 0x0, .ro⟩
/-- R106, 03_execution_and_queues.md. -/
def QM_WIPE_DURATION : Fld := ⟨0x1000000C, 16, 16, 0x0, .ro⟩
/-- R106, 03_execution_and_queues.md. -/
def QM_QREPLAY_QUEUE : Fld := ⟨0x10000010, 0, 7, 0x0, .wo⟩
/-- R106, 03_execution_and_queues.md. -/
def QM_ENGSTAT_STATE (i : Nat) : Fld := ⟨0x10000100 + i * 0x4, 0, 3, 0x0, .ro⟩
/-- R106, 03_execution_and_queues.md. -/
def QM_ENGSTAT_RELOADS (i : Nat) : Fld := ⟨0x10000100 + i * 0x4, 8, 8, 0x0, .ro⟩
/-- R106, 03_execution_and_queues.md. -/
def QM_ENGSTAT_LASTEXC (i : Nat) : Fld := ⟨0x10000100 + i * 0x4, 16, 8, 0x0, .ro⟩
/-- R106, 03_execution_and_queues.md. -/
def QM_QWDCNT_COUNT (i : Nat) : Fld := ⟨0x1000100C + i * 0x40, 0, 24, 0x0, .ro⟩
/-- R106, 03_execution_and_queues.md. -/
def QM_QPUSHL_LOW (i : Nat) : Fld := ⟨0x10001010 + i * 0x40, 0, 32, 0x0, .wo⟩
/-- R106, 03_execution_and_queues.md. -/
def QM_QPUSHH_HIGH (i : Nat) : Fld := ⟨0x10001014 + i * 0x40, 0, 32, 0x0, .wo⟩
/-- R106, 03_execution_and_queues.md. -/
def QM_QPOPL_LOW (i : Nat) : Fld := ⟨0x10001018 + i * 0x40, 0, 32, 0x0, .ro⟩
/-- R106, 03_execution_and_queues.md. -/
def QM_QPOPH_HIGH (i : Nat) : Fld := ⟨0x1000101C + i * 0x40, 0, 32, 0x0, .ro⟩
/-- R106, 03_execution_and_queues.md. -/
def QM_QACK_SEQ (i : Nat) : Fld := ⟨0x10001020 + i * 0x40, 0, 8, 0x0, .wo⟩
/-- R108, 03_execution_and_queues.md. -/
def QM_SLKMIN_MIN (i : Nat) : Fld := ⟨0x10004000 + i * 0x10, 0, 8, 0xFF, .ro⟩
/-- R108, 03_execution_and_queues.md. -/
def QM_SLKLOW_COUNT (i : Nat) : Fld := ⟨0x10004004 + i * 0x10, 0, 24, 0x0, .ro⟩
/-- R108, 03_execution_and_queues.md. -/
def QM_SLKMISS_COUNT (i : Nat) : Fld := ⟨0x10004008 + i * 0x10, 0, 16, 0x0, .ro⟩
/-- R108, 03_execution_and_queues.md. -/
def QM_SLKCLR_CLR (i : Nat) : Fld := ⟨0x1000400C + i * 0x10, 0, 1, 0x0, .wo⟩
/-- R158, 04_sampling_chain.md. -/
def FLT_CHCFG_EN (i j : Nat) : Fld := ⟨0x11000000 + i * 0x1000 + j * 0x100, 0, 1, 0x0, .ro⟩
/-- R158, 04_sampling_chain.md. -/
def FLT_CHCFG_RESP (i j : Nat) : Fld := ⟨0x11000000 + i * 0x1000 + j * 0x100, 4, 4, 0x0, .ro⟩
/-- R158, 04_sampling_chain.md. -/
def FLT_CHCFG_RATE (i j : Nat) : Fld := ⟨0x11000000 + i * 0x1000 + j * 0x100, 8, 3, 0x0, .ro⟩
/-- R158, 04_sampling_chain.md. -/
def FLT_CHCFG_COMP (i j : Nat) : Fld := ⟨0x11000000 + i * 0x1000 + j * 0x100, 11, 1, 0x0, .ro⟩
/-- R158, 04_sampling_chain.md. -/
def FLT_CHCFG_PRESET (i j : Nat) : Fld := ⟨0x11000000 + i * 0x1000 + j * 0x100, 12, 2, 0x0, .ro⟩
/-- R158, 04_sampling_chain.md. -/
def FLT_CHCFG_SPLMODE (i j : Nat) : Fld := ⟨0x11000000 + i * 0x1000 + j * 0x100, 14, 2, 0x0, .ro⟩
/-- R158, 04_sampling_chain.md. -/
def FLT_CHSTAT_PHASE (i j : Nat) : Fld := ⟨0x11000004 + i * 0x1000 + j * 0x100, 0, 2, 0x0, .ro⟩
/-- R158, 04_sampling_chain.md. -/
def FLT_CHSTAT_SLOTA (i j : Nat) : Fld := ⟨0x11000004 + i * 0x1000 + j * 0x100, 2, 2, 0x0, .ro⟩
/-- R158, 04_sampling_chain.md. -/
def FLT_CHSTAT_SLOTB (i j : Nat) : Fld := ⟨0x11000004 + i * 0x1000 + j * 0x100, 4, 2, 0x0, .ro⟩
/-- R158, 04_sampling_chain.md. -/
def FLT_CHSTAT_RESPA (i j : Nat) : Fld := ⟨0x11000004 + i * 0x1000 + j * 0x100, 6, 4, 0x0, .ro⟩
/-- R158, 04_sampling_chain.md. -/
def FLT_CHSTAT_RESPB (i j : Nat) : Fld := ⟨0x11000004 + i * 0x1000 + j * 0x100, 10, 4, 0x0, .ro⟩
/-- R158, 04_sampling_chain.md. -/
def FLT_CHSTAT_XFREM (i j : Nat) : Fld := ⟨0x11000004 + i * 0x1000 + j * 0x100, 14, 11, 0x0, .ro⟩
/-- R158, 04_sampling_chain.md. -/
def FLT_CHSTAT_MODOVL (i j : Nat) : Fld := ⟨0x11000004 + i * 0x1000 + j * 0x100, 25, 1, 0x0, .ro⟩
/-- R158, 04_sampling_chain.md. -/
def FLT_CHSTAT_FLT (i j : Nat) : Fld := ⟨0x11000004 + i * 0x1000 + j * 0x100, 26, 1, 0x0, .ro⟩
/-- R158, 04_sampling_chain.md. -/
def FLT_PERMIT_MASK (i j : Nat) : Fld := ⟨0x11000008 + i * 0x1000 + j * 0x100, 0, 16, 0x0, .rwl⟩
/-- R158, 04_sampling_chain.md. -/
def FLT_MODCNT_OVLCNT (i j : Nat) : Fld := ⟨0x1100000C + i * 0x1000 + j * 0x100, 0, 16, 0x0, .ro⟩
/-- R158, 04_sampling_chain.md. -/
def FLT_MODCNT_RSTCNT (i j : Nat) : Fld := ⟨0x1100000C + i * 0x1000 + j * 0x100, 16, 8, 0x0, .ro⟩
/-- R158, 04_sampling_chain.md. -/
def FLT_MODCNT_CODEERR (i j : Nat) : Fld := ⟨0x1100000C + i * 0x1000 + j * 0x100, 24, 8, 0x0, .ro⟩
/-- R158, 04_sampling_chain.md. -/
def FLT_SPLOFSH_OFS (i j : Nat) : Fld := ⟨0x11000010 + i * 0x1000 + j * 0x100, 0, 24, 0x0, .rwl⟩
/-- R158, 04_sampling_chain.md. -/
def FLT_SPLOFSL_OFS (i j : Nat) : Fld := ⟨0x11000014 + i * 0x1000 + j * 0x100, 0, 24, 0x0, .rwl⟩
/-- R158, 04_sampling_chain.md. -/
def FLT_SPLRINIT_R (i j : Nat) : Fld := ⟨0x11000018 + i * 0x1000 + j * 0x100, 0, 32, 0x10000000, .rwl⟩
/-- R158, 04_sampling_chain.md. -/
def FLT_SPLR_R (i j : Nat) : Fld := ⟨0x1100001C + i * 0x1000 + j * 0x100, 0, 32, 0x10000000, .ro⟩
/-- R158, 04_sampling_chain.md. -/
def FLT_SPLSTAT_RANGE (i j : Nat) : Fld := ⟨0x11000020 + i * 0x1000 + j * 0x100, 0, 1, 0x0, .ro⟩
/-- R158, 04_sampling_chain.md. -/
def FLT_SPLSTAT_RCONV (i j : Nat) : Fld := ⟨0x11000020 + i * 0x1000 + j * 0x100, 1, 1, 0x0, .ro⟩
/-- R158, 04_sampling_chain.md. -/
def FLT_SPLSTAT_QCNT (i j : Nat) : Fld := ⟨0x11000020 + i * 0x1000 + j * 0x100, 2, 7, 0x0, .ro⟩
/-- R158, 04_sampling_chain.md. -/
def FLT_SPLSTAT_REJ (i j : Nat) : Fld := ⟨0x11000020 + i * 0x1000 + j * 0x100, 16, 8, 0x0, .ro⟩
/-- R158, 04_sampling_chain.md. -/
def FLT_SPLMAX_STEP (i j : Nat) : Fld := ⟨0x11000024 + i * 0x1000 + j * 0x100, 0, 16, 0x0, .ro⟩
/-- R158, 04_sampling_chain.md. -/
def FLT_DETCFG_WIN (i j : Nat) : Fld := ⟨0x11000040 + i * 0x1000 + j * 0x100, 0, 4, 0x0, .ro⟩
/-- R158, 04_sampling_chain.md. -/
def FLT_DETCFG_WSRC (i j : Nat) : Fld := ⟨0x11000040 + i * 0x1000 + j * 0x100, 4, 1, 0x0, .ro⟩
/-- R158, 04_sampling_chain.md. -/
def FLT_DETCFG_ZCREF (i j : Nat) : Fld := ⟨0x11000040 + i * 0x1000 + j * 0x100, 5, 4, 0x0, .ro⟩
/-- R158, 04_sampling_chain.md. -/
def FLT_DETCFG_ATT (i j : Nat) : Fld := ⟨0x11000040 + i * 0x1000 + j * 0x100, 9, 4, 0x0, .ro⟩
/-- R158, 04_sampling_chain.md. -/
def FLT_DETCFG_REL (i j : Nat) : Fld := ⟨0x11000040 + i * 0x1000 + j * 0x100, 13, 4, 0x0, .ro⟩
/-- R158, 04_sampling_chain.md. -/
def FLT_DETCFG_ZCHYS (i j : Nat) : Fld := ⟨0x11000040 + i * 0x1000 + j * 0x100, 17, 4, 0x0, .ro⟩
/-- R158, 04_sampling_chain.md. -/
def FLT_DETCFG_EVPK (i j : Nat) : Fld := ⟨0x11000040 + i * 0x1000 + j * 0x100, 21, 1, 0x0, .ro⟩
/-- R158, 04_sampling_chain.md. -/
def FLT_DETCFG_EVZC (i j : Nat) : Fld := ⟨0x11000040 + i * 0x1000 + j * 0x100, 22, 1, 0x0, .ro⟩
/-- R158, 04_sampling_chain.md. -/
def FLT_DETCFG_EVWIN (i j : Nat) : Fld := ⟨0x11000040 + i * 0x1000 + j * 0x100, 23, 1, 0x0, .ro⟩
/-- R158, 04_sampling_chain.md. -/
def FLT_PKTHR_THR (i j : Nat) : Fld := ⟨0x11000044 + i * 0x1000 + j * 0x100, 0, 24, 0x0, .ro⟩
/-- R158, 04_sampling_chain.md. -/
def FLT_PKMAX_X (i j : Nat) : Fld := ⟨0x11000048 + i * 0x1000 + j * 0x100, 0, 24, 0x0, .ro⟩
/-- R158, 04_sampling_chain.md. -/
def FLT_PKMIN_X (i j : Nat) : Fld := ⟨0x1100004C + i * 0x1000 + j * 0x100, 0, 24, 0x0, .ro⟩
/-- R158, 04_sampling_chain.md. -/
def FLT_RMS_X (i j : Nat) : Fld := ⟨0x11000050 + i * 0x1000 + j * 0x100, 0, 24, 0x0, .ro⟩
/-- R158, 04_sampling_chain.md. -/
def FLT_ENV_X (i j : Nat) : Fld := ⟨0x11000054 + i * 0x1000 + j * 0x100, 0, 24, 0x0, .ro⟩
/-- R158, 04_sampling_chain.md. -/
def FLT_DETIDX_N (i j : Nat) : Fld := ⟨0x11000058 + i * 0x1000 + j * 0x100, 0, 24, 0x0, .ro⟩
/-- R158, 04_sampling_chain.md. -/
def FLT_ZCIDX_N (i j : Nat) : Fld := ⟨0x1100005C + i * 0x1000 + j * 0x100, 0, 24, 0x0, .ro⟩
/-- R158, 04_sampling_chain.md. -/
def FLT_ZCIDX_F (i j : Nat) : Fld := ⟨0x1100005C + i * 0x1000 + j * 0x100, 24, 8, 0x0, .ro⟩
/-- R199, 05_energy_computation.md. -/
def FLT_CALHIDX_BAND (i j : Nat) : Fld := ⟨0x11000080 + i * 0x1000 + j * 0x100, 0, 3, 0x0, .rw⟩
/-- R199, 05_energy_computation.md. -/
def FLT_CALHIDX_QTY (i j : Nat) : Fld := ⟨0x11000080 + i * 0x1000 + j * 0x100, 4, 3, 0x0, .rw⟩
/-- R199, 05_energy_computation.md. -/
def FLT_CALEIDX_BAND (i j : Nat) : Fld := ⟨0x11000084 + i * 0x1000 + j * 0x100, 0, 3, 0x0, .ro⟩
/-- R199, 05_energy_computation.md. -/
def FLT_CALEIDX_QTY (i j : Nat) : Fld := ⟨0x11000084 + i * 0x1000 + j * 0x100, 4, 3, 0x0, .ro⟩
/-- R199, 05_energy_computation.md. -/
def FLT_CALSTAT_APPLIED (i j : Nat) : Fld := ⟨0x11000090 + i * 0x1000 + j * 0x100, 0, 16, 0x0, .ro⟩
/-- R199, 05_energy_computation.md. -/
def FLT_CALSTAT_DIRTY (i j : Nat) : Fld := ⟨0x11000090 + i * 0x1000 + j * 0x100, 16, 1, 0x0, .ro⟩
/-- R158, 04_sampling_chain.md. -/
def FLT_IDX_N : Fld := ⟨0x1100F000, 0, 24, 0x0, .ro⟩
/-- R158, 04_sampling_chain.md. -/
def FLT_PERIOD_P : Fld := ⟨0x1100F004, 0, 23, 0x0, .ro⟩
/-- R158, 04_sampling_chain.md. -/
def FLT_PERIOD_FLAG : Fld := ⟨0x1100F004, 23, 1, 0x0, .ro⟩
/-- R158, 04_sampling_chain.md. -/
def FLT_FASTCNT_N : Fld := ⟨0x1100F008, 0, 5, 0x0, .ro⟩
/-- R198, 05_energy_computation.md. -/
def MET_OCFG_TYPE (i : Nat) : Fld := ⟨0x11000E00 + i * 0x1000, 0, 2, 0x0, .rwl⟩
/-- R198, 05_energy_computation.md. -/
def MET_OCFG_ACCMODE (i : Nat) : Fld := ⟨0x11000E00 + i * 0x1000, 2, 1, 0x0, .rwl⟩
/-- R198, 05_energy_computation.md. -/
def MET_OCFG_FBAND (i : Nat) : Fld := ⟨0x11000E00 + i * 0x1000, 4, 3, 0x0, .rwl⟩
/-- R198, 05_energy_computation.md. -/
def MET_OCFG_FEN (i : Nat) : Fld := ⟨0x11000E00 + i * 0x1000, 7, 1, 0x0, .rwl⟩
/-- R198, 05_energy_computation.md. -/
def MET_UREF_MV (i : Nat) : Fld := ⟨0x11000E04 + i * 0x1000, 0, 32, 0x0, .rwl⟩
/-- R198, 05_energy_computation.md. -/
def MET_IREF_MA (i : Nat) : Fld := ⟨0x11000E08 + i * 0x1000, 0, 32, 0x0, .rwl⟩
/-- R198, 05_energy_computation.md. -/
def MET_NOLOAD_I (i : Nat) : Fld := ⟨0x11000E0C + i * 0x1000, 0, 16, 0x3C, .rwl⟩
/-- R198, 05_energy_computation.md. -/
def MET_KELO_KE (i : Nat) : Fld := ⟨0x11000E10 + i * 0x1000, 0, 32, 0x0, .ro⟩
/-- R198, 05_energy_computation.md. -/
def MET_KEHI_KE (i : Nat) : Fld := ⟨0x11000E14 + i * 0x1000, 0, 16, 0x0, .ro⟩
/-- R198, 05_energy_computation.md. -/
def MET_TEMP_T (i : Nat) : Fld := ⟨0x11000E18 + i * 0x1000, 0, 16, 0x0, .ro⟩
/-- R198, 05_energy_computation.md. -/
def MET_TEMP_BAND (i : Nat) : Fld := ⟨0x11000E18 + i * 0x1000, 16, 3, 0x0, .ro⟩
/-- R198, 05_energy_computation.md. -/
def MET_TEMP_PEND (i : Nat) : Fld := ⟨0x11000E18 + i * 0x1000, 19, 1, 0x0, .ro⟩
/-- R198, 05_energy_computation.md. -/
def MET_TEMP_TBAND (i : Nat) : Fld := ⟨0x11000E18 + i * 0x1000, 20, 3, 0x0, .ro⟩
/-- R198, 05_energy_computation.md. -/
def MET_CALID_ID (i : Nat) : Fld := ⟨0x11000E1C + i * 0x1000, 0, 32, 0x0, .rwl⟩
/-- R198, 05_energy_computation.md. -/
def MET_OCFGCRC_CRC (i : Nat) : Fld := ⟨0x11000E20 + i * 0x1000, 0, 32, 0x0, .ro⟩
/-- R200, 05_energy_computation.md. -/
def NRG_ENERGY_V (i j : Nat) : Fld := ⟨0x12000000 + i * 0x1000 + j * 0x4, 0, 32, 0x0, .ro⟩
/-- R200, 05_energy_computation.md. -/
def NRG_SECLO_S (i : Nat) : Fld := ⟨0x12000060 + i * 0x1000, 0, 32, 0x0, .ro⟩
/-- R200, 05_energy_computation.md. -/
def NRG_SECHI_S (i : Nat) : Fld := ⟨0x12000064 + i * 0x1000, 0, 16, 0x0, .ro⟩
/-- R200, 05_energy_computation.md. -/
def NRG_SUMSTAT_ST (i : Nat) : Fld := ⟨0x12000068 + i * 0x1000, 0, 24, 0x0, .ro⟩
/-- R200, 05_energy_computation.md. -/
def NRG_VRMS_V (i j : Nat) : Fld := ⟨0x12000080 + i * 0x1000 + j * 0x20, 0, 24, 0x0, .ro⟩
/-- R200, 05_energy_computation.md. -/
def NRG_IRMS_I (i j : Nat) : Fld := ⟨0x12000084 + i * 0x1000 + j * 0x20, 0, 24, 0x0, .ro⟩
/-- R200, 05_energy_computation.md. -/
def NRG_PWR_P (i j : Nat) : Fld := ⟨0x12000088 + i * 0x1000 + j * 0x20, 0, 24, 0x0, .ro⟩
/-- R200, 05_energy_computation.md. -/
def NRG_RPWR_Q (i j : Nat) : Fld := ⟨0x1200008C + i * 0x1000 + j * 0x20, 0, 24, 0x0, .ro⟩
/-- R200, 05_energy_computation.md. -/
def NRG_APWR_S (i j : Nat) : Fld := ⟨0x12000090 + i * 0x1000 + j * 0x20, 0, 24, 0x0, .ro⟩
/-- R200, 05_energy_computation.md. -/
def NRG_PF_PF (i j : Nat) : Fld := ⟨0x12000094 + i * 0x1000 + j * 0x20, 0, 24, 0x0, .ro⟩
/-- R200, 05_energy_computation.md. -/
def NRG_FREQ_F (i : Nat) : Fld := ⟨0x12000100 + i * 0x1000, 0, 24, 0x0, .ro⟩
/-- R200, 05_energy_computation.md. -/
def NRG_SVRMS_V (i : Nat) : Fld := ⟨0x12008000 + i * 0x20, 0, 24, 0x0, .ro⟩
/-- R200, 05_energy_computation.md. -/
def NRG_SFREQ_F : Fld := ⟨0x12008080, 0, 24, 0x0, .ro⟩
/-- R201, 05_energy_computation.md. -/
def NRG_PAIRSTAT_ACTIVE (i : Nat) : Fld := ⟨0x12009000 + i * 0x100, 0, 1, 0x0, .ro⟩
/-- R201, 05_energy_computation.md. -/
def NRG_PAIRSTAT_DUPLEX (i : Nat) : Fld := ⟨0x12009000 + i * 0x100, 1, 1, 0x0, .ro⟩
/-- R201, 05_energy_computation.md. -/
def NRG_PAIRSTAT_SWCNT (i : Nat) : Fld := ⟨0x12009000 + i * 0x100, 8, 8, 0x0, .ro⟩
/-- R201, 05_energy_computation.md. -/
def NRG_PAIRSTAT_CAUSE (i : Nat) : Fld := ⟨0x12009000 + i * 0x100, 16, 4, 0x0, .ro⟩
/-- R201, 05_energy_computation.md. -/
def NRG_PAIRSTAT_PFCNT (i : Nat) : Fld := ⟨0x12009000 + i * 0x100, 20, 4, 0x0, .ro⟩
/-- R201, 05_energy_computation.md. -/
def NRG_PAIRCHK_CHK (i : Nat) : Fld := ⟨0x12009004 + i * 0x100, 0, 32, 0x0, .ro⟩
/-- R241, 06_billing_and_tariffs.md. -/
def BIL_TIMP_V (i j k : Nat) : Fld := ⟨0x13000000 + i * 0x1000 + j * 0x10 + k * 0x4, 0, 32, 0x0, .ro⟩
/-- R241, 06_billing_and_tariffs.md. -/
def BIL_TEXP_V (i j k : Nat) : Fld := ⟨0x13000080 + i * 0x1000 + j * 0x10 + k * 0x4, 0, 32, 0x0, .ro⟩
/-- R241, 06_billing_and_tariffs.md. -/
def BIL_TBASEI_V (i j : Nat) : Fld := ⟨0x13000100 + i * 0x1000 + j * 0x4, 0, 32, 0x0, .ro⟩
/-- R241, 06_billing_and_tariffs.md. -/
def BIL_TBASEE_V (i j : Nat) : Fld := ⟨0x13000110 + i * 0x1000 + j * 0x4, 0, 32, 0x0, .ro⟩
/-- R241, 06_billing_and_tariffs.md. -/
def BIL_MD_V (i j : Nat) : Fld := ⟨0x13000120 + i * 0x1000 + j * 0x4, 0, 32, 0x0, .ro⟩
/-- R241, 06_billing_and_tariffs.md. -/
def BIL_BSTAT_RATE (i : Nat) : Fld := ⟨0x13000140 + i * 0x1000, 0, 3, 0x0, .ro⟩
/-- R241, 06_billing_and_tariffs.md. -/
def BIL_BSTAT_DEF (i : Nat) : Fld := ⟨0x13000140 + i * 0x1000, 3, 1, 0x0, .ro⟩
/-- R241, 06_billing_and_tariffs.md. -/
def BIL_BSTAT_FRIENDLY (i : Nat) : Fld := ⟨0x13000140 + i * 0x1000, 4, 1, 0x0, .ro⟩
/-- R241, 06_billing_and_tariffs.md. -/
def BIL_BSTAT_SETBACK (i : Nat) : Fld := ⟨0x13000140 + i * 0x1000, 5, 1, 0x0, .ro⟩
/-- R241, 06_billing_and_tariffs.md. -/
def BIL_BSTAT_CLOCK (i : Nat) : Fld := ⟨0x13000140 + i * 0x1000, 8, 2, 0x0, .ro⟩
/-- R241, 06_billing_and_tariffs.md. -/
def BIL_BSTAT_CREDST (i : Nat) : Fld := ⟨0x13000140 + i * 0x1000, 10, 3, 0x0, .ro⟩
/-- R241, 06_billing_and_tariffs.md. -/
def BIL_BSTAT_CREDKIND (i : Nat) : Fld := ⟨0x13000140 + i * 0x1000, 13, 2, 0x0, .ro⟩
/-- R241, 06_billing_and_tariffs.md. -/
def BIL_IVAL_M (i : Nat) : Fld := ⟨0x13000144 + i * 0x1000, 0, 32, 0x0, .ro⟩
/-- R241, 06_billing_and_tariffs.md. -/
def BIL_IVSEC_N (i : Nat) : Fld := ⟨0x13000148 + i * 0x1000, 0, 16, 0x0, .ro⟩
/-- R241, 06_billing_and_tariffs.md. -/
def BIL_IVSEC_FLAGS (i : Nat) : Fld := ⟨0x13000148 + i * 0x1000, 16, 16, 0x0, .ro⟩
/-- R241, 06_billing_and_tariffs.md. -/
def BIL_PROFCNT_N (i : Nat) : Fld := ⟨0x1300014C + i * 0x1000, 0, 32, 0x0, .ro⟩
/-- R241, 06_billing_and_tariffs.md. -/
def BIL_CREDREM_V (i j : Nat) : Fld := ⟨0x13000150 + i * 0x1000 + j * 0x4, 0, 32, 0x0, .ro⟩
/-- R241, 06_billing_and_tariffs.md. -/
def BIL_DEBT_V (i j : Nat) : Fld := ⟨0x13000158 + i * 0x1000 + j * 0x4, 0, 32, 0x0, .ro⟩
/-- R241, 06_billing_and_tariffs.md. -/
def BIL_SESSID_ID (i j : Nat) : Fld := ⟨0x13000160 + i * 0x1000 + j * 0x4, 0, 32, 0x0, .ro⟩
/-- R242, 06_billing_and_tariffs.md. -/
def BIL_LSECLO_T : Fld := ⟨0x1300F000, 0, 32, 0x0, .ro⟩
/-- R242, 06_billing_and_tariffs.md. -/
def BIL_LSECHI_T : Fld := ⟨0x1300F004, 0, 16, 0x0, .ro⟩
/-- R242, 06_billing_and_tariffs.md. -/
def BIL_HWLO_T : Fld := ⟨0x1300F008, 0, 32, 0x0, .ro⟩
/-- R242, 06_billing_and_tariffs.md. -/
def BIL_HWHI_T : Fld := ⟨0x1300F00C, 0, 16, 0x0, .ro⟩
/-- R242, 06_billing_and_tariffs.md. -/
def BIL_UTCOFS_S : Fld := ⟨0x1300F010, 0, 16, 0x0, .ro⟩
/-- R242, 06_billing_and_tariffs.md. -/
def BIL_ZONEOFS_S : Fld := ⟨0x1300F014, 0, 32, 0x0, .ro⟩
/-- R242, 06_billing_and_tariffs.md. -/
def BIL_LEGALADJ_S : Fld := ⟨0x1300F018, 0, 32, 0x0, .ro⟩
/-- R242, 06_billing_and_tariffs.md. -/
def BIL_CALACT_ID : Fld := ⟨0x1300F01C, 0, 32, 0x0, .ro⟩
/-- R242, 06_billing_and_tariffs.md. -/
def BIL_CALSEQ_SEQ : Fld := ⟨0x1300F020, 0, 32, 0x0, .ro⟩
/-- R242, 06_billing_and_tariffs.md. -/
def BIL_CALPEND_ID : Fld := ⟨0x1300F024, 0, 32, 0x0, .ro⟩
/-- R242, 06_billing_and_tariffs.md. -/
def BIL_RDCNTLO_C : Fld := ⟨0x1300F028, 0, 32, 0x0, .ro⟩
/-- R242, 06_billing_and_tariffs.md. -/
def BIL_RDCNTHI_C : Fld := ⟨0x1300F02C, 0, 32, 0x0, .ro⟩
/-- R242, 06_billing_and_tariffs.md. -/
def BIL_SAVESEQ_SEQ : Fld := ⟨0x1300F030, 0, 32, 0x0, .ro⟩
/-- R242, 06_billing_and_tariffs.md. -/
def BIL_SAVEGAP_N : Fld := ⟨0x1300F034, 0, 16, 0x0, .ro⟩
/-- R242, 06_billing_and_tariffs.md. -/
def BIL_RDBASE_OFS : Fld := ⟨0x1300F038, 0, 25, 0x0, .ro⟩
/-- R242, 06_billing_and_tariffs.md. -/
def BIL_PROFBASE_OFS : Fld := ⟨0x1300F03C, 0, 25, 0x0, .ro⟩
/-- R269, 07_outlet_sessions.md. -/
def OUT_OCFG_CONN (i : Nat) : Fld := ⟨0x14000000 + i * 0x1000, 0, 2, 0x0, .rw⟩
/-- R269, 07_outlet_sessions.md. -/
def OUT_OCFG_HLC (i : Nat) : Fld := ⟨0x14000000 + i * 0x1000, 2, 2, 0x0, .rw⟩
/-- R269, 07_outlet_sessions.md. -/
def OUT_OCFG_BIDIR (i : Nat) : Fld := ⟨0x14000000 + i * 0x1000, 4, 1, 0x0, .rw⟩
/-- R269, 07_outlet_sessions.md. -/
def OUT_OCFG_VENT (i : Nat) : Fld := ⟨0x14000000 + i * 0x1000, 5, 1, 0x0, .rw⟩
/-- R269, 07_outlet_sessions.md. -/
def OUT_ILIM_I (i : Nat) : Fld := ⟨0x14000004 + i * 0x1000, 0, 10, 0xA0, .rw⟩
/-- R269, 07_outlet_sessions.md. -/
def OUT_POW_ANGLE (i : Nat) : Fld := ⟨0x14000008 + i * 0x1000, 0, 12, 0x0, .rw⟩
/-- R269, 07_outlet_sessions.md. -/
def OUT_POW_CLOSEDLY (i : Nat) : Fld := ⟨0x14000008 + i * 0x1000, 12, 12, 0x0, .rw⟩
/-- R269, 07_outlet_sessions.md. -/
def OUT_POW_REF (i : Nat) : Fld := ⟨0x14000008 + i * 0x1000, 24, 2, 0x0, .rw⟩
/-- R269, 07_outlet_sessions.md. -/
def OUT_POW_EN (i : Nat) : Fld := ⟨0x14000008 + i * 0x1000, 26, 1, 0x0, .rw⟩
/-- R269, 07_outlet_sessions.md. -/
def OUT_HOLD_DUTY (i : Nat) : Fld := ⟨0x1400000C + i * 0x1000, 0, 12, 0xC8, .rw⟩
/-- R269, 07_outlet_sessions.md. -/
def OUT_HOLD_WIN (i : Nat) : Fld := ⟨0x1400000C + i * 0x1000, 12, 8, 0x32, .rw⟩
/-- R269, 07_outlet_sessions.md. -/
def OUT_HOLD_DCLIM (i : Nat) : Fld := ⟨0x1400000C + i * 0x1000, 20, 12, 0x14, .rw⟩
/-- R269, 07_outlet_sessions.md. -/
def OUT_STATE_OSTATE (i : Nat) : Fld := ⟨0x14000010 + i * 0x1000, 0, 4, 0x0, .ro⟩
/-- R269, 07_outlet_sessions.md. -/
def OUT_STATE_PREV (i : Nat) : Fld := ⟨0x14000010 + i * 0x1000, 4, 4, 0x0, .ro⟩
/-- R269, 07_outlet_sessions.md. -/
def OUT_STATE_PILOT (i : Nat) : Fld := ⟨0x14000010 + i * 0x1000, 8, 3, 0x0, .ro⟩
/-- R269, 07_outlet_sessions.md. -/
def OUT_STATE_PPOK (i : Nat) : Fld := ⟨0x14000010 + i * 0x1000, 11, 1, 0x0, .ro⟩
/-- R269, 07_outlet_sessions.md. -/
def OUT_STATE_KSTATE (i : Nat) : Fld := ⟨0x14000010 + i * 0x1000, 12, 2, 0x0, .ro⟩
/-- R269, 07_outlet_sessions.md. -/
def OUT_STATE_HOLD (i : Nat) : Fld := ⟨0x14000010 + i * 0x1000, 14, 1, 0x0, .ro⟩
/-- R269, 07_outlet_sessions.md. -/
def OUT_STATE_REASON (i : Nat) : Fld := ⟨0x14000010 + i * 0x1000, 16, 8, 0x0, .ro⟩
/-- R269, 07_outlet_sessions.md. -/
def OUT_DUTY_D (i : Nat) : Fld := ⟨0x14000014 + i * 0x1000, 0, 12, 0x0, .ro⟩
/-- R269, 07_outlet_sessions.md. -/
def OUT_DUTY_MODE (i : Nat) : Fld := ⟨0x14000014 + i * 0x1000, 12, 2, 0x2, .ro⟩
/-- R269, 07_outlet_sessions.md. -/
def OUT_DUTY_OFFER (i : Nat) : Fld := ⟨0x14000014 + i * 0x1000, 14, 10, 0x0, .ro⟩
/-- R269, 07_outlet_sessions.md. -/
def OUT_DUTY_GENF (i : Nat) : Fld := ⟨0x14000014 + i * 0x1000, 24, 1, 0x0, .ro⟩
/-- R269, 07_outlet_sessions.md. -/
def OUT_PILOT_VHI (i : Nat) : Fld := ⟨0x14000018 + i * 0x1000, 0, 16, 0x0, .ro⟩
/-- R269, 07_outlet_sessions.md. -/
def OUT_PILOT_VLO (i : Nat) : Fld := ⟨0x14000018 + i * 0x1000, 16, 16, 0x0, .ro⟩
/-- R269, 07_outlet_sessions.md. -/
def OUT_PP_R (i : Nat) : Fld := ⟨0x1400001C + i * 0x1000, 0, 16, 0xFFFF, .ro⟩
/-- R269, 07_outlet_sessions.md. -/
def OUT_PP_CAP (i : Nat) : Fld := ⟨0x1400001C + i * 0x1000, 16, 8, 0x0, .ro⟩
/-- R269, 07_outlet_sessions.md. -/
def OUT_SESS_COUNT (i : Nat) : Fld := ⟨0x14000020 + i * 0x1000, 0, 16, 0x0, .ro⟩
/-- R269, 07_outlet_sessions.md. -/
def OUT_SESS_FORCED (i : Nat) : Fld := ⟨0x14000020 + i * 0x1000, 16, 8, 0x0, .ro⟩
/-- R295, 08_pilot_line_modem.md. -/
def PLM_TXCFG_PSD (i : Nat) : Fld := ⟨0x15000000 + i * 0x1000, 0, 6, 0x1E, .rw⟩
/-- R295, 08_pilot_line_modem.md. -/
def PLM_TXCFG_RETRY (i : Nat) : Fld := ⟨0x15000000 + i * 0x1000, 8, 4, 0x7, .rw⟩
/-- R295, 08_pilot_line_modem.md. -/
def PLM_TXCFG_MODE (i : Nat) : Fld := ⟨0x15000000 + i * 0x1000, 12, 2, 0x2, .rw⟩
/-- R295, 08_pilot_line_modem.md. -/
def PLM_BLANK_THR (i : Nat) : Fld := ⟨0x15000004 + i * 0x1000, 0, 11, 0x600, .rw⟩
/-- R295, 08_pilot_line_modem.md. -/
def PLM_BLANK_EN (i : Nat) : Fld := ⟨0x15000004 + i * 0x1000, 11, 1, 0x1, .rw⟩
/-- R295, 08_pilot_line_modem.md. -/
def PLM_BLANK_BLIM (i : Nat) : Fld := ⟨0x15000004 + i * 0x1000, 16, 8, 0x10, .rw⟩
/-- R295, 08_pilot_line_modem.md. -/
def PLM_BCN_REF (i : Nat) : Fld := ⟨0x15000008 + i * 0x1000, 0, 2, 0x0, .rw⟩
/-- R295, 08_pilot_line_modem.md. -/
def PLM_BCN_OFS (i : Nat) : Fld := ⟨0x15000008 + i * 0x1000, 2, 16, 0x0, .rw⟩
/-- R295, 08_pilot_line_modem.md. -/
def PLM_BCN_CCO (i : Nat) : Fld := ⟨0x15000008 + i * 0x1000, 18, 1, 0x1, .rw⟩
/-- R295, 08_pilot_line_modem.md. -/
def PLM_BCN_NOM (i : Nat) : Fld := ⟨0x15000008 + i * 0x1000, 19, 1, 0x0, .rw⟩
/-- R295, 08_pilot_line_modem.md. -/
def PLM_STAT_MSTATE (i : Nat) : Fld := ⟨0x1500000C + i * 0x1000, 0, 3, 0x0, .ro⟩
/-- R295, 08_pilot_line_modem.md. -/
def PLM_STAT_NOSYNC (i : Nat) : Fld := ⟨0x1500000C + i * 0x1000, 3, 1, 0x0, .ro⟩
/-- R295, 08_pilot_line_modem.md. -/
def PLM_STAT_TXOFF (i : Nat) : Fld := ⟨0x1500000C + i * 0x1000, 4, 1, 0x0, .ro⟩
/-- R295, 08_pilot_line_modem.md. -/
def PLM_STAT_BPER (i : Nat) : Fld := ⟨0x1500000C + i * 0x1000, 8, 16, 0x0, .ro⟩
/-- R295, 08_pilot_line_modem.md. -/
def PLM_FRMCNT_TX (i : Nat) : Fld := ⟨0x15000010 + i * 0x1000, 0, 16, 0x0, .ro⟩
/-- R295, 08_pilot_line_modem.md. -/
def PLM_FRMCNT_RX (i : Nat) : Fld := ⟨0x15000010 + i * 0x1000, 16, 16, 0x0, .ro⟩
/-- R295, 08_pilot_line_modem.md. -/
def PLM_BLKCNT_SYM (i : Nat) : Fld := ⟨0x15000014 + i * 0x1000, 0, 16, 0x0, .ro⟩
/-- R295, 08_pilot_line_modem.md. -/
def PLM_BLKCNT_FRM (i : Nat) : Fld := ⟨0x15000014 + i * 0x1000, 16, 16, 0x0, .ro⟩
/-- R295, 08_pilot_line_modem.md. -/
def PLM_ERRCNT_BRTX (i : Nat) : Fld := ⟨0x15000018 + i * 0x1000, 0, 16, 0x0, .ro⟩
/-- R295, 08_pilot_line_modem.md. -/
def PLM_ERRCNT_NOACK (i : Nat) : Fld := ⟨0x15000018 + i * 0x1000, 16, 8, 0x0, .ro⟩
/-- R295, 08_pilot_line_modem.md. -/
def PLM_ERRCNT_RXFULL (i : Nat) : Fld := ⟨0x15000018 + i * 0x1000, 24, 8, 0x0, .ro⟩
/-- R295, 08_pilot_line_modem.md. -/
def PLM_LINKCNT_LOSS (i : Nat) : Fld := ⟨0x1500001C + i * 0x1000, 0, 8, 0x0, .ro⟩
/-- R295, 08_pilot_line_modem.md. -/
def PLM_LINKCNT_MATCH (i : Nat) : Fld := ⟨0x1500001C + i * 0x1000, 8, 8, 0x0, .ro⟩
/-- R295, 08_pilot_line_modem.md. -/
def PLM_PEERLO_MAC (i : Nat) : Fld := ⟨0x15000020 + i * 0x1000, 0, 32, 0x0, .ro⟩
/-- R295, 08_pilot_line_modem.md. -/
def PLM_PEERHI_MAC (i : Nat) : Fld := ⟨0x15000024 + i * 0x1000, 0, 16, 0x0, .ro⟩
/-- R295, 08_pilot_line_modem.md. -/
def PLM_GSTAT_ACTIVE : Fld := ⟨0x1500F000, 0, 8, 0x0, .ro⟩
/-- R295, 08_pilot_line_modem.md. -/
def PLM_GSTAT_COUNT : Fld := ⟨0x1500F000, 8, 4, 0x0, .ro⟩
/-- R342, 09_fold_safety.md. -/
def FOLD_KSTAT_KST (i : Nat) : Fld := ⟨0x16000000 + i * 0x1000, 0, 3, 0x0, .ro⟩
/-- R342, 09_fold_safety.md. -/
def FOLD_KSTAT_KA (i : Nat) : Fld := ⟨0x16000000 + i * 0x1000, 3, 1, 0x0, .ro⟩
/-- R342, 09_fold_safety.md. -/
def FOLD_KSTAT_KB (i : Nat) : Fld := ⟨0x16000000 + i * 0x1000, 4, 1, 0x0, .ro⟩
/-- R342, 09_fold_safety.md. -/
def FOLD_KSTAT_KFB (i : Nat) : Fld := ⟨0x16000000 + i * 0x1000, 5, 1, 0x1, .ro⟩
/-- R342, 09_fold_safety.md. -/
def FOLD_KSTAT_WELD (i : Nat) : Fld := ⟨0x16000000 + i * 0x1000, 6, 1, 0x0, .ro⟩
/-- R342, 09_fold_safety.md. -/
def FOLD_KSTAT_RCTRIP (i : Nat) : Fld := ⟨0x16000000 + i * 0x1000, 7, 1, 0x0, .ro⟩
/-- R342, 09_fold_safety.md. -/
def FOLD_KSTAT_ISOF (i : Nat) : Fld := ⟨0x16000000 + i * 0x1000, 8, 1, 0x0, .ro⟩
/-- R342, 09_fold_safety.md. -/
def FOLD_KSTAT_RCTOK (i : Nat) : Fld := ⟨0x16000000 + i * 0x1000, 9, 1, 0x0, .ro⟩
/-- R342, 09_fold_safety.md. -/
def FOLD_KSTAT_HOLD (i : Nat) : Fld := ⟨0x16000000 + i * 0x1000, 10, 1, 0x0, .ro⟩
/-- R342, 09_fold_safety.md. -/
def FOLD_KSTAT_CAUSE (i : Nat) : Fld := ⟨0x16000000 + i * 0x1000, 16, 8, 0x0, .ro⟩
/-- R342, 09_fold_safety.md. -/
def FOLD_RCVAL_IDC (i : Nat) : Fld := ⟨0x16000004 + i * 0x1000, 0, 16, 0x0, .ro⟩
/-- R342, 09_fold_safety.md. -/
def FOLD_RCVAL_IAC (i : Nat) : Fld := ⟨0x16000004 + i * 0x1000, 16, 16, 0x0, .ro⟩
/-- R342, 09_fold_safety.md. -/
def FOLD_ISOVAL_RF (i : Nat) : Fld := ⟨0x16000008 + i * 0x1000, 0, 24, 0x0, .ro⟩
/-- R342, 09_fold_safety.md. -/
def FOLD_ISOVAL_ISTATE (i : Nat) : Fld := ⟨0x16000008 + i * 0x1000, 24, 2, 0x0, .ro⟩
/-- R342, 09_fold_safety.md. -/
def FOLD_ISOVAL_IMDF (i : Nat) : Fld := ⟨0x16000008 + i * 0x1000, 26, 1, 0x0, .ro⟩
/-- R342, 09_fold_safety.md. -/
def FOLD_TRIPCNT_RC (i : Nat) : Fld := ⟨0x1600000C + i * 0x1000, 0, 8, 0x0, .ro⟩
/-- R342, 09_fold_safety.md. -/
def FOLD_TRIPCNT_ISO (i : Nat) : Fld := ⟨0x1600000C + i * 0x1000, 8, 8, 0x0, .ro⟩
/-- R342, 09_fold_safety.md. -/
def FOLD_TRIPCNT_WELD (i : Nat) : Fld := ⟨0x1600000C + i * 0x1000, 16, 8, 0x0, .ro⟩
/-- R342, 09_fold_safety.md. -/
def FOLD_TRIPCNT_KFB (i : Nat) : Fld := ⟨0x1600000C + i * 0x1000, 24, 8, 0x0, .ro⟩
/-- R343, 09_fold_safety.md. -/
def FOLD_FSTAT_ACTIVE : Fld := ⟨0x1600F000, 0, 1, 0x0, .ro⟩
/-- R343, 09_fold_safety.md. -/
def FOLD_FSTAT_DUPLEX : Fld := ⟨0x1600F000, 1, 1, 0x0, .ro⟩
/-- R343, 09_fold_safety.md. -/
def FOLD_FSTAT_STATE : Fld := ⟨0x1600F000, 2, 2, 0x0, .ro⟩
/-- R343, 09_fold_safety.md. -/
def FOLD_FSTAT_ESTA : Fld := ⟨0x1600F000, 4, 1, 0x0, .ro⟩
/-- R343, 09_fold_safety.md. -/
def FOLD_FSTAT_ESTB : Fld := ⟨0x1600F000, 5, 1, 0x0, .ro⟩
/-- R343, 09_fold_safety.md. -/
def FOLD_FSTAT_DISC : Fld := ⟨0x1600F000, 6, 1, 0x0, .ro⟩
/-- R343, 09_fold_safety.md. -/
def FOLD_FSTAT_DOORA : Fld := ⟨0x1600F000, 7, 1, 0x0, .ro⟩
/-- R343, 09_fold_safety.md. -/
def FOLD_FSTAT_DOORB : Fld := ⟨0x1600F000, 8, 1, 0x0, .ro⟩
/-- R343, 09_fold_safety.md. -/
def FOLD_FSTAT_DDISC : Fld := ⟨0x1600F000, 9, 1, 0x0, .ro⟩
/-- R343, 09_fold_safety.md. -/
def FOLD_FSTAT_PWDSET : Fld := ⟨0x1600F000, 10, 1, 0x0, .ro⟩
/-- R343, 09_fold_safety.md. -/
def FOLD_FSTAT_SWCNT : Fld := ⟨0x1600F000, 16, 8, 0x0, .ro⟩
/-- R343, 09_fold_safety.md. -/
def FOLD_FSTAT_CAUSE : Fld := ⟨0x1600F000, 24, 4, 0x0, .ro⟩
/-- R343, 09_fold_safety.md. -/
def FOLD_CFGCRC_CRC : Fld := ⟨0x1600F004, 0, 32, 0x0, .ro⟩
/-- R343, 09_fold_safety.md. -/
def FOLD_PENDCRC_CRC : Fld := ⟨0x1600F008, 0, 32, 0x0, .ro⟩
/-- R343, 09_fold_safety.md. -/
def FOLD_CFGLOG_CHG : Fld := ⟨0x1600F00C, 0, 16, 0x0, .ro⟩
/-- R343, 09_fold_safety.md. -/
def FOLD_CFGLOG_PWDFAIL : Fld := ⟨0x1600F00C, 16, 8, 0x0, .ro⟩
/-- R344, 09_fold_safety.md. -/
def FOLD_SCSTAT_STATE (i : Nat) : Fld := ⟨0x1600E000 + i * 0x10, 0, 2, 0x0, .ro⟩
/-- R344, 09_fold_safety.md. -/
def FOLD_SCSTAT_CRCERR (i : Nat) : Fld := ⟨0x1600E000 + i * 0x10, 8, 8, 0x0, .ro⟩
/-- R344, 09_fold_safety.md. -/
def FOLD_SCSTAT_STALE (i : Nat) : Fld := ⟨0x1600E000 + i * 0x10, 16, 8, 0x0, .ro⟩
/-- R344, 09_fold_safety.md. -/
def FOLD_SCSTAT_LOST (i : Nat) : Fld := ⟨0x1600E000 + i * 0x10, 24, 8, 0x0, .ro⟩
/-- R344, 09_fold_safety.md. -/
def FOLD_SCSEQ_SEQ (i : Nat) : Fld := ⟨0x1600E004 + i * 0x10, 0, 32, 0x0, .ro⟩
/-- R371, 10_time_and_links.md. -/
def PTP_CLKSECLO_S : Fld := ⟨0x17000000, 0, 32, 0x0, .ro⟩
/-- R371, 10_time_and_links.md. -/
def PTP_CLKSECHI_S : Fld := ⟨0x17000004, 0, 16, 0x0, .ro⟩
/-- R371, 10_time_and_links.md. -/
def PTP_CLKNS_NS : Fld := ⟨0x17000008, 0, 30, 0x0, .ro⟩
/-- R371, 10_time_and_links.md. -/
def PTP_CLKSUB_SUB : Fld := ⟨0x1700000C, 0, 16, 0x0, .ro⟩
/-- R371, 10_time_and_links.md. -/
def PTP_CLKSTAT_STATUS : Fld := ⟨0x17000010, 0, 2, 0x0, .ro⟩
/-- R371, 10_time_and_links.md. -/
def PTP_CLKSTAT_SEL : Fld := ⟨0x17000010, 2, 1, 0x0, .ro⟩
/-- R371, 10_time_and_links.md. -/
def PTP_CLKSTAT_STEPPED : Fld := ⟨0x17000010, 3, 1, 0x0, .ro⟩
/-- R371, 10_time_and_links.md. -/
def PTP_CLKSTAT_SETINV : Fld := ⟨0x17000010, 4, 1, 0x0, .ro⟩
/-- R371, 10_time_and_links.md. -/
def PTP_CLKSTAT_CLAMP : Fld := ⟨0x17000010, 5, 1, 0x0, .ro⟩
/-- R371, 10_time_and_links.md. -/
def PTP_CLKSTAT_HOLDS : Fld := ⟨0x17000010, 16, 16, 0x0, .ro⟩
/-- R371, 10_time_and_links.md. -/
def PTP_RATE_RATE : Fld := ⟨0x17000014, 0, 32, 0x0, .ro⟩
/-- R371, 10_time_and_links.md. -/
def PTP_CLKCFG_SELMODE : Fld := ⟨0x17000018, 0, 2, 0x2, .rw⟩
/-- R371, 10_time_and_links.md. -/
def PTP_CLKCFG_RATEMAX : Fld := ⟨0x17000018, 2, 9, 0x64, .rw⟩
/-- R371, 10_time_and_links.md. -/
def PTP_CLKCFG_HOLDTIME : Fld := ⟨0x17000018, 11, 11, 0x3C, .rw⟩
/-- R371, 10_time_and_links.md. -/
def PTP_VALIDLIM_NS : Fld := ⟨0x1700001C, 0, 20, 0x3E8, .rw⟩
/-- R371, 10_time_and_links.md. -/
def PTP_SWLIM_NS : Fld := ⟨0x17000020, 0, 30, 0xF4240, .rw⟩
/-- R371, 10_time_and_links.md. -/
def PTP_HRXPTR_HEAD : Fld := ⟨0x17000030, 0, 6, 0x0, .ro⟩
/-- R371, 10_time_and_links.md. -/
def PTP_HRXPTR_TAIL : Fld := ⟨0x17000030, 16, 6, 0x0, .rw⟩
/-- R371, 10_time_and_links.md. -/
def PTP_HTXPTR_HEAD : Fld := ⟨0x17000034, 0, 5, 0x0, .ro⟩
/-- R371, 10_time_and_links.md. -/
def PTP_HTXPTR_TAIL : Fld := ⟨0x17000034, 16, 5, 0x0, .rw⟩
/-- R371, 10_time_and_links.md. -/
def PTP_HMACLO_MAC : Fld := ⟨0x17000038, 0, 32, 0x0, .rw⟩
/-- R371, 10_time_and_links.md. -/
def PTP_HMACHI_MAC : Fld := ⟨0x1700003C, 0, 16, 0x0, .rw⟩
/-- R372, 10_time_and_links.md. -/
def PTP_SCFG_SRC (i : Nat) : Fld := ⟨0x17000100 + i * 0x40, 0, 2, 0x0, .rw⟩
/-- R372, 10_time_and_links.md. -/
def PTP_SCFG_DOMAIN (i : Nat) : Fld := ⟨0x17000100 + i * 0x40, 2, 8, 0x0, .rw⟩
/-- R372, 10_time_and_links.md. -/
def PTP_SCFG_TRANS (i : Nat) : Fld := ⟨0x17000100 + i * 0x40, 10, 2, 0x0, .rw⟩
/-- R372, 10_time_and_links.md. -/
def PTP_SCFG_PDELAY (i : Nat) : Fld := ⟨0x17000100 + i * 0x40, 12, 1, 0x0, .rw⟩
/-- R372, 10_time_and_links.md. -/
def PTP_SCFG_SDOID (i : Nat) : Fld := ⟨0x17000100 + i * 0x40, 13, 4, 0x0, .rw⟩
/-- R372, 10_time_and_links.md. -/
def PTP_SCFG_KP (i : Nat) : Fld := ⟨0x17000100 + i * 0x40, 17, 4, 0x2, .rw⟩
/-- R372, 10_time_and_links.md. -/
def PTP_SCFG_KI (i : Nat) : Fld := ⟨0x17000100 + i * 0x40, 21, 4, 0x6, .rw⟩
/-- R372, 10_time_and_links.md. -/
def PTP_SCFG_ARBOK (i : Nat) : Fld := ⟨0x17000100 + i * 0x40, 25, 1, 0x0, .rw⟩
/-- R372, 10_time_and_links.md. -/
def PTP_SSTAT_LOCK (i : Nat) : Fld := ⟨0x17000104 + i * 0x40, 0, 2, 0x0, .ro⟩
/-- R372, 10_time_and_links.md. -/
def PTP_SSTAT_UTCOFS (i : Nat) : Fld := ⟨0x17000104 + i * 0x40, 16, 16, 0x0, .ro⟩
/-- R372, 10_time_and_links.md. -/
def PTP_SOFS_O (i : Nat) : Fld := ⟨0x17000108 + i * 0x40, 0, 32, 0x0, .ro⟩
/-- R372, 10_time_and_links.md. -/
def PTP_SDRATE_R (i : Nat) : Fld := ⟨0x1700010C + i * 0x40, 0, 32, 0x0, .ro⟩
/-- R372, 10_time_and_links.md. -/
def PTP_SMPD_D (i : Nat) : Fld := ⟨0x17000110 + i * 0x40, 0, 24, 0x0, .ro⟩
/-- R372, 10_time_and_links.md. -/
def PTP_SGMLO_ID (i : Nat) : Fld := ⟨0x17000114 + i * 0x40, 0, 32, 0x0, .ro⟩
/-- R372, 10_time_and_links.md. -/
def PTP_SGMHI_ID (i : Nat) : Fld := ⟨0x17000118 + i * 0x40, 0, 32, 0x0, .ro⟩
/-- R372, 10_time_and_links.md. -/
def PTP_SCNT_SYNC (i : Nat) : Fld := ⟨0x1700011C + i * 0x40, 0, 16, 0x0, .ro⟩
/-- R372, 10_time_and_links.md. -/
def PTP_SCNT_LOSS (i : Nat) : Fld := ⟨0x1700011C + i * 0x40, 16, 8, 0x0, .ro⟩
/-- R372, 10_time_and_links.md. -/
def PTP_SCNT_BMC (i : Nat) : Fld := ⟨0x1700011C + i * 0x40, 24, 8, 0x0, .ro⟩
/-- R373, 10_time_and_links.md. -/
def PTP_PCFG_EN (i : Nat) : Fld := ⟨0x17001000 + i * 0x1000, 0, 1, 0x0, .rw⟩
/-- R373, 10_time_and_links.md. -/
def PTP_PCFG_SPEED (i : Nat) : Fld := ⟨0x17001000 + i * 0x1000, 1, 2, 0x0, .rw⟩
/-- R373, 10_time_and_links.md. -/
def PTP_PCFG_TC (i : Nat) : Fld := ⟨0x17001000 + i * 0x1000, 3, 2, 0x0, .rw⟩
/-- R373, 10_time_and_links.md. -/
def PTP_PCFG_FWD (i : Nat) : Fld := ⟨0x17001000 + i * 0x1000, 5, 1, 0x0, .rw⟩
/-- R373, 10_time_and_links.md. -/
def PTP_PLAT_TX (i j : Nat) : Fld := ⟨0x17001004 + i * 0x1000 + j * 0x4, 0, 16, 0x0, .rw⟩
/-- R373, 10_time_and_links.md. -/
def PTP_PLAT_RX (i j : Nat) : Fld := ⟨0x17001004 + i * 0x1000 + j * 0x4, 16, 16, 0x0, .rw⟩
/-- R373, 10_time_and_links.md. -/
def PTP_PPDLY_D (i : Nat) : Fld := ⟨0x17001010 + i * 0x1000, 0, 24, 0x0, .ro⟩
/-- R373, 10_time_and_links.md. -/
def PTP_PCNT_FWD (i : Nat) : Fld := ⟨0x17001014 + i * 0x1000, 0, 16, 0x0, .ro⟩
/-- R373, 10_time_and_links.md. -/
def PTP_PCNT_DROP (i : Nat) : Fld := ⟨0x17001014 + i * 0x1000, 16, 8, 0x0, .ro⟩
/-- R373, 10_time_and_links.md. -/
def PTP_PCNT_FCS (i : Nat) : Fld := ⟨0x17001014 + i * 0x1000, 24, 8, 0x0, .ro⟩
/-- R507, 17_power_reset_electrical.md. -/
def PTP_PDLY_TXID (i : Nat) : Fld := ⟨0x17001018 + i * 0x1000, 0, 1, 0x1, .rw⟩
/-- R507, 17_power_reset_electrical.md. -/
def PTP_PDLY_RXID (i : Nat) : Fld := ⟨0x17001018 + i * 0x1000, 1, 1, 0x1, .rw⟩
/-- R374, 10_time_and_links.md. -/
def SWD_SCFG_EN : Fld := ⟨0x18000000, 0, 1, 0x0, .rw⟩
/-- R374, 10_time_and_links.md. -/
def SWD_SCFG_TLEADEN : Fld := ⟨0x18000000, 1, 1, 0x0, .rw⟩
/-- R374, 10_time_and_links.md. -/
def SWD_SCFG_NMOD : Fld := ⟨0x18000000, 2, 3, 0x0, .rw⟩
/-- R374, 10_time_and_links.md. -/
def SWD_SCFG_LOSST : Fld := ⟨0x18000000, 5, 8, 0x32, .rw⟩
/-- R374, 10_time_and_links.md. -/
def SWD_SSTAT_POS : Fld := ⟨0x18000004, 0, 3, 0x0, .ro⟩
/-- R374, 10_time_and_links.md. -/
def SWD_SSTAT_RING : Fld := ⟨0x18000004, 3, 2, 0x0, .ro⟩
/-- R374, 10_time_and_links.md. -/
def SWD_SSTAT_DUPID : Fld := ⟨0x18000004, 5, 1, 0x0, .ro⟩
/-- R374, 10_time_and_links.md. -/
def SWD_SSTAT_BYPASS : Fld := ⟨0x18000004, 6, 1, 0x1, .ro⟩
/-- R374, 10_time_and_links.md. -/
def SWD_SSTAT_LEADER : Fld := ⟨0x18000004, 7, 3, 0x0, .ro⟩
/-- R374, 10_time_and_links.md. -/
def SWD_SSTAT_LEADOK : Fld := ⟨0x18000004, 10, 1, 0x0, .ro⟩
/-- R374, 10_time_and_links.md. -/
def SWD_SSTAT_PRESENT : Fld := ⟨0x18000004, 16, 8, 0x0, .ro⟩
/-- R374, 10_time_and_links.md. -/
def SWD_SSTAT_LANEUP : Fld := ⟨0x18000004, 24, 2, 0x0, .ro⟩
/-- R374, 10_time_and_links.md. -/
def SWD_SERR_CODEERR : Fld := ⟨0x18000008, 0, 16, 0x0, .ro⟩
/-- R374, 10_time_and_links.md. -/
def SWD_SERR_CRCERR : Fld := ⟨0x18000008, 16, 8, 0x0, .ro⟩
/-- R374, 10_time_and_links.md. -/
def SWD_SERR_BREAKS : Fld := ⟨0x18000008, 24, 8, 0x0, .ro⟩
/-- R374, 10_time_and_links.md. -/
def SWD_SRTX_RESENT : Fld := ⟨0x1800000C, 0, 16, 0x0, .ro⟩
/-- R374, 10_time_and_links.md. -/
def SWD_SRTX_SAFEDROP : Fld := ⟨0x1800000C, 16, 16, 0x0, .ro⟩
/-- R374, 10_time_and_links.md. -/
def SWD_SHOP_LANE0 : Fld := ⟨0x18000010, 0, 16, 0x0, .ro⟩
/-- R374, 10_time_and_links.md. -/
def SWD_SHOP_LANE1 : Fld := ⟨0x18000010, 16, 16, 0x0, .ro⟩
/-- R391, 11_tag_reader.md. -/
def TAG_TCFG_IDRV : Fld := ⟨0x19000000, 0, 5, 0xF, .rw⟩
/-- R391, 11_tag_reader.md. -/
def TAG_TCFG_MAXRATE : Fld := ⟨0x19000000, 5, 2, 0x3, .rw⟩
/-- R391, 11_tag_reader.md. -/
def TAG_TCFG_TYPEA : Fld := ⟨0x19000000, 7, 1, 0x1, .rw⟩
/-- R391, 11_tag_reader.md. -/
def TAG_TCFG_TYPEB : Fld := ⟨0x19000000, 8, 1, 0x1, .rw⟩
/-- R391, 11_tag_reader.md. -/
def TAG_TCFG_MAXCARD : Fld := ⟨0x19000000, 9, 2, 0x1, .rw⟩
/-- R391, 11_tag_reader.md. -/
def TAG_TCFG_AFI : Fld := ⟨0x19000000, 11, 8, 0x0, .rw⟩
/-- R391, 11_tag_reader.md. -/
def TAG_TSTAT_STATE : Fld := ⟨0x19000004, 0, 3, 0x0, .ro⟩
/-- R391, 11_tag_reader.md. -/
def TAG_TSTAT_FIELD : Fld := ⟨0x19000004, 3, 1, 0x0, .ro⟩
/-- R391, 11_tag_reader.md. -/
def TAG_TSTAT_TXOFF : Fld := ⟨0x19000004, 4, 1, 0x0, .ro⟩
/-- R391, 11_tag_reader.md. -/
def TAG_TSTAT_CARDS : Fld := ⟨0x19000004, 5, 3, 0x0, .ro⟩
/-- R391, 11_tag_reader.md. -/
def TAG_TSTAT_JPEND : Fld := ⟨0x19000004, 8, 6, 0x0, .ro⟩
/-- R391, 11_tag_reader.md. -/
def TAG_TCNT_POLLS : Fld := ⟨0x19000008, 0, 16, 0x0, .ro⟩
/-- R391, 11_tag_reader.md. -/
def TAG_TCNT_FOUND : Fld := ⟨0x19000008, 16, 8, 0x0, .ro⟩
/-- R391, 11_tag_reader.md. -/
def TAG_TCNT_COLL : Fld := ⟨0x19000008, 24, 8, 0x0, .ro⟩
/-- R391, 11_tag_reader.md. -/
def TAG_TERR_CRC : Fld := ⟨0x1900000C, 0, 8, 0x0, .ro⟩
/-- R391, 11_tag_reader.md. -/
def TAG_TERR_TIMEOUT : Fld := ⟨0x1900000C, 8, 8, 0x0, .ro⟩
/-- R391, 11_tag_reader.md. -/
def TAG_TERR_AUTHFAIL : Fld := ⟨0x1900000C, 16, 8, 0x0, .ro⟩
/-- R391, 11_tag_reader.md. -/
def TAG_TERR_COLLAPSE : Fld := ⟨0x1900000C, 24, 8, 0x0, .ro⟩
/-- R417, 12_gorse_vault.md. -/
def GV_VSTAT_READY : Fld := ⟨0x1A000000, 0, 1, 0x0, .ro⟩
/-- R417, 12_gorse_vault.md. -/
def GV_VSTAT_TAMPER : Fld := ⟨0x1A000000, 1, 1, 0x0, .ro⟩
/-- R417, 12_gorse_vault.md. -/
def GV_VSTAT_DRBGF : Fld := ⟨0x1A000000, 2, 1, 0x0, .ro⟩
/-- R417, 12_gorse_vault.md. -/
def GV_VSTAT_DIRSEQ : Fld := ⟨0x1A000000, 16, 16, 0x0, .ro⟩
/-- R417, 12_gorse_vault.md. -/
def GV_SLOT_VALID (i : Nat) : Fld := ⟨0x1A000100 + i * 0x4, 0, 1, 0x0, .ro⟩
/-- R417, 12_gorse_vault.md. -/
def GV_SLOT_ATTR (i : Nat) : Fld := ⟨0x1A000100 + i * 0x4, 1, 3, 0x0, .ro⟩
/-- R417, 12_gorse_vault.md. -/
def GV_SLOT_ALG (i : Nat) : Fld := ⟨0x1A000100 + i * 0x4, 4, 3, 0x0, .ro⟩
/-- R417, 12_gorse_vault.md. -/
def GV_SLOT_OWNER (i : Nat) : Fld := ⟨0x1A000100 + i * 0x4, 7, 3, 0x0, .ro⟩
/-- R417, 12_gorse_vault.md. -/
def GV_SLOT_VERSION (i : Nat) : Fld := ⟨0x1A000100 + i * 0x4, 16, 16, 0x0, .ro⟩
/-- R417, 12_gorse_vault.md. -/
def GV_ANCINFO_LOADED (i : Nat) : Fld := ⟨0x1A000200 + i * 0x10, 0, 1, 0x0, .ro⟩
/-- R417, 12_gorse_vault.md. -/
def GV_ANCINFO_CURVE (i : Nat) : Fld := ⟨0x1A000200 + i * 0x10, 1, 3, 0x0, .ro⟩
/-- R417, 12_gorse_vault.md. -/
def GV_ANCCNT_CNT (i : Nat) : Fld := ⟨0x1A000204 + i * 0x10, 0, 32, 0x0, .ro⟩
/-- R417, 12_gorse_vault.md. -/
def GV_ANCHASH_H (i : Nat) : Fld := ⟨0x1A000208 + i * 0x10, 0, 32, 0x0, .ro⟩
/-- R417, 12_gorse_vault.md. -/
def GV_TAMPST_MESHA : Fld := ⟨0x1A000300, 0, 1, 0x0, .ro⟩
/-- R417, 12_gorse_vault.md. -/
def GV_TAMPST_MESHB : Fld := ⟨0x1A000300, 1, 1, 0x0, .ro⟩
/-- R417, 12_gorse_vault.md. -/
def GV_TAMPST_COVER : Fld := ⟨0x1A000300, 2, 1, 0x0, .ro⟩
/-- R417, 12_gorse_vault.md. -/
def GV_TAMPST_VBAT : Fld := ⟨0x1A000300, 3, 1, 0x0, .ro⟩
/-- R417, 12_gorse_vault.md. -/
def GV_TAMPST_COUNT : Fld := ⟨0x1A000300, 8, 8, 0x0, .ro⟩
/-- R418, 12_gorse_vault.md. -/
def LIFE_LSTATE_STATE : Fld := ⟨0x20001000, 0, 3, 0x0, .ro⟩
/-- R418, 12_gorse_vault.md. -/
def LIFE_LSTATE_PEND : Fld := ⟨0x20001000, 3, 1, 0x0, .ro⟩
/-- R418, 12_gorse_vault.md. -/
def LIFE_SEAL_CNT : Fld := ⟨0x20001004, 0, 16, 0x0, .ro⟩
/-- R418, 12_gorse_vault.md. -/
def LIFE_EPOCH_E : Fld := ⟨0x20001008, 0, 32, 0x0, .ro⟩
/-- R418, 12_gorse_vault.md. -/
def LIFE_TCFG_COVEREN : Fld := ⟨0x2000100C, 0, 1, 0x1, .rwl⟩
/-- R419, 12_gorse_vault.md. -/
def IDENT_RDPUB_W (i : Nat) : Fld := ⟨0x20002020 + i * 0x4, 0, 32, 0x0, .ro⟩
/-- R420, 12_gorse_vault.md. -/
def CHK_CKCFG_EN (i : Nat) : Fld := ⟨0x1B000000 + i * 0x100, 0, 1, 0x0, .rw⟩
/-- R420, 12_gorse_vault.md. -/
def CHK_CKCFG_WIDTH (i : Nat) : Fld := ⟨0x1B000000 + i * 0x100, 1, 6, 0x1F, .rw⟩
/-- R420, 12_gorse_vault.md. -/
def CHK_CKCFG_REFIN (i : Nat) : Fld := ⟨0x1B000000 + i * 0x100, 7, 1, 0x0, .rw⟩
/-- R420, 12_gorse_vault.md. -/
def CHK_CKCFG_REFOUT (i : Nat) : Fld := ⟨0x1B000000 + i * 0x100, 8, 1, 0x0, .rw⟩
/-- R420, 12_gorse_vault.md. -/
def CHK_CKCFG_INV (i : Nat) : Fld := ⟨0x1B000000 + i * 0x100, 9, 1, 0x0, .rw⟩
/-- R420, 12_gorse_vault.md. -/
def CHK_CKCFG_SRC (i : Nat) : Fld := ⟨0x1B000000 + i * 0x100, 10, 2, 0x0, .rw⟩
/-- R420, 12_gorse_vault.md. -/
def CHK_CKCFG_MODE (i : Nat) : Fld := ⟨0x1B000000 + i * 0x100, 12, 2, 0x0, .rw⟩
/-- R420, 12_gorse_vault.md. -/
def CHK_CKCFG_SEL (i : Nat) : Fld := ⟨0x1B000000 + i * 0x100, 16, 7, 0x0, .rw⟩
/-- R420, 12_gorse_vault.md. -/
def CHK_CKCFG_LOAD (i : Nat) : Fld := ⟨0x1B000000 + i * 0x100, 23, 1, 0x0, .wo⟩
/-- R420, 12_gorse_vault.md. -/
def CHK_CKTYPE_TLO (i : Nat) : Fld := ⟨0x1B000004 + i * 0x100, 0, 8, 0x0, .rw⟩
/-- R420, 12_gorse_vault.md. -/
def CHK_CKTYPE_THI (i : Nat) : Fld := ⟨0x1B000004 + i * 0x100, 8, 8, 0xFF, .rw⟩
/-- R420, 12_gorse_vault.md. -/
def CHK_CKPOLYLO_P (i : Nat) : Fld := ⟨0x1B000008 + i * 0x100, 0, 32, 0x0, .rw⟩
/-- R420, 12_gorse_vault.md. -/
def CHK_CKPOLYHI_P (i : Nat) : Fld := ⟨0x1B00000C + i * 0x100, 0, 32, 0x0, .rw⟩
/-- R420, 12_gorse_vault.md. -/
def CHK_CKINITLO_I (i : Nat) : Fld := ⟨0x1B000010 + i * 0x100, 0, 32, 0x0, .rw⟩
/-- R420, 12_gorse_vault.md. -/
def CHK_CKINITHI_I (i : Nat) : Fld := ⟨0x1B000014 + i * 0x100, 0, 32, 0x0, .rw⟩
/-- R420, 12_gorse_vault.md. -/
def CHK_CKVALLO_V (i : Nat) : Fld := ⟨0x1B000018 + i * 0x100, 0, 32, 0x0, .rw⟩
/-- R420, 12_gorse_vault.md. -/
def CHK_CKVALHI_V (i : Nat) : Fld := ⟨0x1B00001C + i * 0x100, 0, 32, 0x0, .rw⟩
/-- R420, 12_gorse_vault.md. -/
def CHK_CKWBASE_A (i : Nat) : Fld := ⟨0x1B000028 + i * 0x100, 0, 32, 0x0, .rw⟩
/-- R420, 12_gorse_vault.md. -/
def CHK_CKWLEN_L (i : Nat) : Fld := ⟨0x1B00002C + i * 0x100, 0, 32, 0x0, .rw⟩
/-- R420, 12_gorse_vault.md. -/
def CHK_CKDATA_D (i : Nat) : Fld := ⟨0x1B000030 + i * 0x100, 0, 32, 0x0, .wo⟩
/-- R420, 12_gorse_vault.md. -/
def CHK_CKDATAB_D (i : Nat) : Fld := ⟨0x1B000034 + i * 0x100, 0, 8, 0x0, .wo⟩
/-- R420, 12_gorse_vault.md. -/
def CHK_CKCNT_N (i : Nat) : Fld := ⟨0x1B000038 + i * 0x100, 0, 32, 0x0, .ro⟩
/-- R420, 12_gorse_vault.md. -/
def CHK_CKSTAT_OVF (i : Nat) : Fld := ⟨0x1B00003C + i * 0x100, 0, 1, 0x0, .ro⟩
/-- R442, 13_firmware_update.md. -/
def UPD_RSTAT_STATE (i : Nat) : Fld := ⟨0x1C000100 + i * 0x100, 0, 3, 0x0, .ro⟩
/-- R442, 13_firmware_update.md. -/
def UPD_RSTAT_BOOTS (i : Nat) : Fld := ⟨0x1C000100 + i * 0x100, 4, 2, 0x0, .ro⟩
/-- R442, 13_firmware_update.md. -/
def UPD_RSTAT_REQFB (i : Nat) : Fld := ⟨0x1C000100 + i * 0x100, 6, 1, 0x0, .ro⟩
/-- R442, 13_firmware_update.md. -/
def UPD_RSTAT_NEXT (i : Nat) : Fld := ⟨0x1C000100 + i * 0x100, 8, 8, 0x0, .ro⟩
/-- R442, 13_firmware_update.md. -/
def UPD_RSTAT_NBLK (i : Nat) : Fld := ⟨0x1C000100 + i * 0x100, 16, 8, 0x0, .ro⟩
/-- R442, 13_firmware_update.md. -/
def UPD_RSTAT_CAUSE (i : Nat) : Fld := ⟨0x1C000100 + i * 0x100, 24, 4, 0x0, .ro⟩
/-- R442, 13_firmware_update.md. -/
def UPD_RVER_V (i : Nat) : Fld := ⟨0x1C000104 + i * 0x100, 0, 32, 0x0, .ro⟩
/-- R442, 13_firmware_update.md. -/
def UPD_RPVER_V (i : Nat) : Fld := ⟨0x1C000108 + i * 0x100, 0, 32, 0x0, .ro⟩
/-- R442, 13_firmware_update.md. -/
def UPD_RWIN_WIN (i : Nat) : Fld := ⟨0x1C00010C + i * 0x100, 0, 6, 0x0, .ro⟩
/-- R442, 13_firmware_update.md. -/
def UPD_RWIN_ELAPSED (i : Nat) : Fld := ⟨0x1C00010C + i * 0x100, 8, 12, 0x0, .ro⟩
/-- R442, 13_firmware_update.md. -/
def UPD_RJNL_J (i : Nat) : Fld := ⟨0x1C000110 + i * 0x100, 0, 8, 0x0, .ro⟩
/-- R442, 13_firmware_update.md. -/
def UPD_RJNL_RESTORED (i : Nat) : Fld := ⟨0x1C000110 + i * 0x100, 8, 8, 0x0, .ro⟩
/-- R443, 13_firmware_update.md. -/
def UPD_LEGALVER_V : Fld := ⟨0x1C00F000, 0, 32, 0x0, .ro⟩
/-- R443, 13_firmware_update.md. -/
def UPD_LEGALSUM_CRC : Fld := ⟨0x1C00F004, 0, 32, 0x0, .ro⟩
/-- R443, 13_firmware_update.md. -/
def UPD_SETSTAT_AREA : Fld := ⟨0x1C00F008, 0, 1, 0x0, .ro⟩
/-- R443, 13_firmware_update.md. -/
def UPD_SETSTAT_MIGR : Fld := ⟨0x1C00F008, 2, 2, 0x0, .ro⟩
/-- R443, 13_firmware_update.md. -/
def UPD_SETSTAT_FMT : Fld := ⟨0x1C00F008, 16, 16, 0x0, .ro⟩
/-- R443, 13_firmware_update.md. -/
def UPD_UPDCTL_CONF : Fld := ⟨0x1C00F00C, 1, 5, 0x0, .ro⟩
/-- R443, 13_firmware_update.md. -/
def UPD_UPDCTL_REQFB : Fld := ⟨0x1C00F00C, 9, 5, 0x0, .ro⟩
/-- R443, 13_firmware_update.md. -/
def UPD_UPDCNT_UPD : Fld := ⟨0x1C00F010, 0, 16, 0x0, .ro⟩
/-- R443, 13_firmware_update.md. -/
def UPD_UPDCNT_FB : Fld := ⟨0x1C00F010, 16, 16, 0x0, .ro⟩
/-- R443, 13_firmware_update.md. -/
def UPD_LDRSTAT_MODE : Fld := ⟨0x1C00F014, 0, 1, 0x0, .ro⟩
/-- R458, 14_barrow_recorder.md. -/
def BAR_LSTAT_COUNT : Fld := ⟨0x1D000000, 0, 12, 0x0, .ro⟩
/-- R458, 14_barrow_recorder.md. -/
def BAR_LSTAT_FULL : Fld := ⟨0x1D000000, 12, 1, 0x0, .ro⟩
/-- R458, 14_barrow_recorder.md. -/
def BAR_LSTAT_NEAR : Fld := ⟨0x1D000000, 13, 1, 0x0, .ro⟩
/-- R458, 14_barrow_recorder.md. -/
def BAR_LSTAT_LDROP : Fld := ⟨0x1D000000, 16, 16, 0x0, .ro⟩
/-- R458, 14_barrow_recorder.md. -/
def BAR_LSEQ_SEQ : Fld := ⟨0x1D000004, 0, 32, 0x0, .ro⟩
/-- R458, 14_barrow_recorder.md. -/
def BAR_LFIRST_SEQ : Fld := ⟨0x1D000008, 0, 32, 0x0, .ro⟩
/-- R458, 14_barrow_recorder.md. -/
def BAR_GSTAT_COUNT : Fld := ⟨0x1D00000C, 0, 14, 0x0, .ro⟩
/-- R458, 14_barrow_recorder.md. -/
def BAR_GSTAT_WRAPS : Fld := ⟨0x1D00000C, 16, 16, 0x0, .ro⟩
/-- R458, 14_barrow_recorder.md. -/
def BAR_GSEQ_SEQ : Fld := ⟨0x1D000010, 0, 32, 0x0, .ro⟩
/-- R458, 14_barrow_recorder.md. -/
def BAR_GFIRST_SEQ : Fld := ⟨0x1D000014, 0, 32, 0x0, .ro⟩
/-- R458, 14_barrow_recorder.md. -/
def BAR_FREEZE_FRZ : Fld := ⟨0x1D000018, 0, 1, 0x0, .rw⟩
/-- R458, 14_barrow_recorder.md. -/
def BAR_FREEZE_FCAUSE : Fld := ⟨0x1D000018, 1, 3, 0x0, .ro⟩
/-- R458, 14_barrow_recorder.md. -/
def BAR_FREEZE_FRZMAX : Fld := ⟨0x1D000018, 4, 6, 0xA, .rw⟩
/-- R458, 14_barrow_recorder.md. -/
def BAR_FREEZE_HELD : Fld := ⟨0x1D000018, 12, 7, 0x0, .ro⟩
/-- R458, 14_barrow_recorder.md. -/
def BAR_HOLD_HOLDOVF : Fld := ⟨0x1D00001C, 0, 16, 0x0, .ro⟩
/-- R458, 14_barrow_recorder.md. -/
def BAR_HOLD_DISC : Fld := ⟨0x1D00001C, 16, 16, 0x0, .ro⟩
/-- R458, 14_barrow_recorder.md. -/
def BAR_CLASS_EN (i : Nat) : Fld := ⟨0x1D000100 + i * 0x4, 0, 1, 0x0, .ro⟩
/-- R458, 14_barrow_recorder.md. -/
def BAR_CLASS_NREG (i : Nat) : Fld := ⟨0x1D000100 + i * 0x4, 2, 4, 0x0, .ro⟩
/-- R458, 14_barrow_recorder.md. -/
def BAR_CLASS_COUNT (i : Nat) : Fld := ⟨0x1D000100 + i * 0x4, 16, 16, 0x0, .ro⟩
/-- R468, 15_legal_display.md. -/
def LCD_LCFG_EN : Fld := ⟨0x1E000000, 0, 1, 0x1, .rwl⟩
/-- R468, 15_legal_display.md. -/
def LCD_LCFG_BIAS : Fld := ⟨0x1E000000, 1, 1, 0x0, .rw⟩
/-- R468, 15_legal_display.md. -/
def LCD_LCFG_SRC : Fld := ⟨0x1E000000, 2, 1, 0x0, .rw⟩
/-- R468, 15_legal_display.md. -/
def LCD_LCFG_VLCD : Fld := ⟨0x1E000000, 3, 6, 0x14, .rw⟩
/-- R468, 15_legal_display.md. -/
def LCD_LCFG_INV : Fld := ⟨0x1E000000, 9, 2, 0x0, .rw⟩
/-- R468, 15_legal_display.md. -/
def LCD_LCFG_FRATE : Fld := ⟨0x1E000000, 11, 8, 0x40, .rw⟩
/-- R468, 15_legal_display.md. -/
def LCD_LCFG_DWELL : Fld := ⟨0x1E000000, 19, 4, 0x4, .rw⟩
/-- R468, 15_legal_display.md. -/
def LCD_LCFG_LADR : Fld := ⟨0x1E000000, 23, 2, 0x1, .rw⟩
/-- R468, 15_legal_display.md. -/
def LCD_LSEL_MASK : Fld := ⟨0x1E000004, 0, 8, 0xFF, .rw⟩
/-- R468, 15_legal_display.md. -/
def LCD_LSEL_EXPEN : Fld := ⟨0x1E000004, 8, 8, 0x0, .rw⟩
/-- R468, 15_legal_display.md. -/
def LCD_LSTAT_PAGE : Fld := ⟨0x1E000008, 0, 3, 0x0, .ro⟩
/-- R468, 15_legal_display.md. -/
def LCD_LSTAT_OUTLET : Fld := ⟨0x1E000008, 3, 4, 0x0, .ro⟩
/-- R468, 15_legal_display.md. -/
def LCD_LSTAT_BLANK : Fld := ⟨0x1E000008, 7, 1, 0x0, .ro⟩
/-- R468, 15_legal_display.md. -/
def LCD_LSTAT_CAUSE : Fld := ⟨0x1E000008, 8, 2, 0x0, .ro⟩
/-- R468, 15_legal_display.md. -/
def LCD_LSTAT_BLKCNT : Fld := ⟨0x1E000008, 16, 16, 0x0, .ro⟩
/-- R468, 15_legal_display.md. -/
def LCD_TAG_SEC : Fld := ⟨0x1E00000C, 0, 16, 0x0, .ro⟩
/-- R468, 15_legal_display.md. -/
def LCD_TAG_PAGE : Fld := ⟨0x1E00000C, 16, 3, 0x0, .ro⟩
/-- R468, 15_legal_display.md. -/
def LCD_TAG_OUTLET : Fld := ⟨0x1E00000C, 19, 4, 0x0, .ro⟩
/-- R468, 15_legal_display.md. -/
def LCD_VERCRC_VER : Fld := ⟨0x1E000010, 0, 16, 0x0, .ro⟩
/-- R468, 15_legal_display.md. -/
def LCD_VERCRC_CUR : Fld := ⟨0x1E000010, 16, 16, 0x0, .ro⟩
/-- R468, 15_legal_display.md. -/
def LCD_FRONT_W (i : Nat) : Fld := ⟨0x1E000040 + i * 0x4, 0, 32, 0x0, .ro⟩
/-- R468, 15_legal_display.md. -/
def LCD_FREELO_W (i : Nat) : Fld := ⟨0x1E000060 + i * 0x8, 0, 32, 0x0, .rw⟩
/-- R468, 15_legal_display.md. -/
def LCD_FREEHI_W (i : Nat) : Fld := ⟨0x1E000064 + i * 0x8, 0, 8, 0x0, .rw⟩
/-- R480, 16_load_switches.md. -/
def LSW_LSCFG_OCTHR (i : Nat) : Fld := ⟨0x1F000000 + i * 0x100, 0, 5, 0xB, .rw⟩
/-- R480, 16_load_switches.md. -/
def LSW_LSCFG_BLANK (i : Nat) : Fld := ⟨0x1F000000 + i * 0x100, 5, 7, 0xA, .rw⟩
/-- R480, 16_load_switches.md. -/
def LSW_LSCFG_OLTHR (i : Nat) : Fld := ⟨0x1F000000 + i * 0x100, 12, 5, 0x1, .rw⟩
/-- R480, 16_load_switches.md. -/
def LSW_LSCFG_CLASS (i : Nat) : Fld := ⟨0x1F000000 + i * 0x100, 17, 1, 0x0, .rw⟩
/-- R480, 16_load_switches.md. -/
def LSW_LSCFG_OUTLET (i : Nat) : Fld := ⟨0x1F000000 + i * 0x100, 18, 3, 0x0, .rw⟩
/-- R480, 16_load_switches.md. -/
def LSW_LSCFG_OLEN (i : Nat) : Fld := ⟨0x1F000000 + i * 0x100, 21, 1, 0x1, .rw⟩
/-- R480, 16_load_switches.md. -/
def LSW_LSCFG_RETRY (i : Nat) : Fld := ⟨0x1F000000 + i * 0x100, 22, 2, 0x0, .rw⟩
/-- R480, 16_load_switches.md. -/
def LSW_LSCTL_ON (i : Nat) : Fld := ⟨0x1F000004 + i * 0x100, 0, 1, 0x0, .rw⟩
/-- R480, 16_load_switches.md. -/
def LSW_LSCTL_CLR (i : Nat) : Fld := ⟨0x1F000004 + i * 0x100, 1, 1, 0x0, .wo⟩
/-- R480, 16_load_switches.md. -/
def LSW_LSCTL_TEST (i : Nat) : Fld := ⟨0x1F000004 + i * 0x100, 2, 1, 0x0, .wo⟩
/-- R480, 16_load_switches.md. -/
def LSW_LSSTAT_STATE (i : Nat) : Fld := ⟨0x1F000008 + i * 0x100, 0, 2, 0x0, .ro⟩
/-- R480, 16_load_switches.md. -/
def LSW_LSSTAT_OL (i : Nat) : Fld := ⟨0x1F000008 + i * 0x100, 2, 1, 0x0, .ro⟩
/-- R480, 16_load_switches.md. -/
def LSW_LSSTAT_CAUSE (i : Nat) : Fld := ⟨0x1F000008 + i * 0x100, 3, 3, 0x0, .ro⟩
/-- R480, 16_load_switches.md. -/
def LSW_LSSTAT_EXT (i : Nat) : Fld := ⟨0x1F000008 + i * 0x100, 6, 1, 0x0, .ro⟩
/-- R480, 16_load_switches.md. -/
def LSW_LSSTAT_RETRIES (i : Nat) : Fld := ⟨0x1F000008 + i * 0x100, 7, 2, 0x0, .ro⟩
/-- R480, 16_load_switches.md. -/
def LSW_LSSTAT_TEMP (i : Nat) : Fld := ⟨0x1F000008 + i * 0x100, 16, 8, 0x0, .ro⟩
/-- R480, 16_load_switches.md. -/
def LSW_LSMEAS_I (i : Nat) : Fld := ⟨0x1F00000C + i * 0x100, 0, 14, 0x0, .ro⟩
/-- R480, 16_load_switches.md. -/
def LSW_LSTEST_DONE (i : Nat) : Fld := ⟨0x1F000010 + i * 0x100, 0, 1, 0x0, .ro⟩
/-- R480, 16_load_switches.md. -/
def LSW_LSTEST_PASS (i : Nat) : Fld := ⟨0x1F000010 + i * 0x100, 1, 1, 0x0, .ro⟩
/-- R480, 16_load_switches.md. -/
def LSW_LSTEST_OPEN (i : Nat) : Fld := ⟨0x1F000010 + i * 0x100, 2, 1, 0x0, .ro⟩
/-- R480, 16_load_switches.md. -/
def LSW_LSTEST_SGND (i : Nat) : Fld := ⟨0x1F000010 + i * 0x100, 3, 1, 0x0, .ro⟩
/-- R480, 16_load_switches.md. -/
def LSW_LSTEST_SVLS (i : Nat) : Fld := ⟨0x1F000010 + i * 0x100, 4, 1, 0x0, .ro⟩
/-- R480, 16_load_switches.md. -/
def LSW_LSCNT_OC (i : Nat) : Fld := ⟨0x1F000014 + i * 0x100, 0, 8, 0x0, .ro⟩
/-- R480, 16_load_switches.md. -/
def LSW_LSCNT_SC (i : Nat) : Fld := ⟨0x1F000014 + i * 0x100, 8, 8, 0x0, .ro⟩
/-- R480, 16_load_switches.md. -/
def LSW_LSCNT_THERM (i : Nat) : Fld := ⟨0x1F000014 + i * 0x100, 16, 8, 0x0, .ro⟩
/-- R480, 16_load_switches.md. -/
def LSW_LSCNT_OL (i : Nat) : Fld := ⟨0x1F000014 + i * 0x100, 24, 8, 0x0, .ro⟩
/-- R480, 16_load_switches.md. -/
def LSW_GSTAT_ISUM : Fld := ⟨0x1F00F000, 0, 16, 0x0, .ro⟩
/-- R480, 16_load_switches.md. -/
def LSW_GSTAT_PDISS : Fld := ⟨0x1F00F000, 16, 12, 0x0, .ro⟩
/-- R480, 16_load_switches.md. -/
def LSW_GSTAT_SHED : Fld := ⟨0x1F00F000, 28, 1, 0x0, .ro⟩
/-- R480, 16_load_switches.md. -/
def LSW_GVLS_V : Fld := ⟨0x1F00F004, 0, 16, 0x0, .ro⟩
/-- R480, 16_load_switches.md. -/
def LSW_GVLS_DROOPS : Fld := ⟨0x1F00F004, 16, 16, 0x0, .ro⟩
/-- R512, 17_power_reset_electrical.md. -/
def PWR_PDSTAT_ON : Fld := ⟨0x20000000, 0, 12, 0x0, .ro⟩
/-- R512, 17_power_reset_electrical.md. -/
def PWR_PDSTAT_SFLT : Fld := ⟨0x20000000, 12, 12, 0x0, .ro⟩
/-- R512, 17_power_reset_electrical.md. -/
def PWR_CORE_MODE : Fld := ⟨0x20000004, 0, 2, 0x1, .ro⟩
/-- R512, 17_power_reset_electrical.md. -/
def PWR_CORE_TARGET : Fld := ⟨0x20000004, 2, 2, 0x1, .ro⟩
/-- R512, 17_power_reset_electrical.md. -/
def PWR_CORE_VSEL : Fld := ⟨0x20000004, 4, 3, 0x2, .ro⟩
/-- R512, 17_power_reset_electrical.md. -/
def PWR_CORE_VCOK : Fld := ⟨0x20000004, 7, 1, 0x0, .ro⟩
/-- R512, 17_power_reset_electrical.md. -/
def PWR_CORE_CHG : Fld := ⟨0x20000004, 8, 1, 0x0, .ro⟩
/-- R512, 17_power_reset_electrical.md. -/
def PWR_RSTCAUSE_CAUSE : Fld := ⟨0x20000008, 0, 4, 0x0, .ro⟩
/-- R512, 17_power_reset_electrical.md. -/
def PWR_RSTCAUSE_SUPCNT : Fld := ⟨0x20000008, 8, 8, 0x0, .ro⟩
/-- R512, 17_power_reset_electrical.md. -/
def PWR_PFWST_WARN : Fld := ⟨0x2000000C, 0, 1, 0x0, .ro⟩
/-- R512, 17_power_reset_electrical.md. -/
def PWR_PFWST_SRCPIN : Fld := ⟨0x2000000C, 1, 1, 0x0, .ro⟩
/-- R512, 17_power_reset_electrical.md. -/
def PWR_PFWST_SRCVSYS : Fld := ⟨0x2000000C, 2, 1, 0x0, .ro⟩
/-- R512, 17_power_reset_electrical.md. -/
def PWR_PFWST_PFCNT : Fld := ⟨0x2000000C, 16, 16, 0x0, .ro⟩
/-- R512, 17_power_reset_electrical.md. -/
def PWR_PFWSEC_S : Fld := ⟨0x20000010, 0, 32, 0x0, .ro⟩
/-- R512, 17_power_reset_electrical.md. -/
def PWR_PFWNS_NS : Fld := ⟨0x20000014, 0, 30, 0x0, .ro⟩
/-- R512, 17_power_reset_electrical.md. -/
def PWR_TEMP_CDIE : Fld := ⟨0x20000018, 0, 8, 0x0, .ro⟩
/-- R512, 17_power_reset_electrical.md. -/
def PWR_TEMP_ADIE : Fld := ⟨0x20000018, 8, 8, 0x0, .ro⟩
/-- R512, 17_power_reset_electrical.md. -/
def PWR_TEMP_PDIE : Fld := ⟨0x20000018, 16, 8, 0x0, .ro⟩
/-- R512, 17_power_reset_electrical.md. -/
def PWR_TEMP_MAX : Fld := ⟨0x20000018, 24, 8, 0x0, .ro⟩
/-- R512, 17_power_reset_electrical.md. -/
def PWR_SUPPLY_VSYS : Fld := ⟨0x2000001C, 0, 16, 0x0, .ro⟩
/-- R512, 17_power_reset_electrical.md. -/
def PWR_SUPPLY_VBAT : Fld := ⟨0x2000001C, 16, 16, 0x0, .ro⟩
/-- R512, 17_power_reset_electrical.md. -/
def PWR_WDT_TOUT : Fld := ⟨0x20000020, 0, 8, 0x32, .ro⟩
/-- R512, 17_power_reset_electrical.md. -/
def PWR_HCFG_WIDTH : Fld := ⟨0x20000024, 0, 2, 0x0, .rw⟩
/-- R512, 17_power_reset_electrical.md. -/
def PWR_HCFG_DUMMY : Fld := ⟨0x20000024, 2, 6, 0x8, .rw⟩
/-- R512, 17_power_reset_electrical.md. -/
def PWR_HCFG_IRQEN : Fld := ⟨0x20000024, 8, 1, 0x0, .rw⟩
/-- R512, 17_power_reset_electrical.md. -/
def PWR_HSTAT_LAST : Fld := ⟨0x20000028, 0, 8, 0x0, .ro⟩
end R

/-- The QM registers that hold values of their own (part 1). -/
def tabQm0 : List RegFam :=
  [⟨0x10000004, [], [(0, 1, 0x0, .wo)]⟩,
   ⟨0x10000008, [], [(0, 16, 0x0, .ro), (16, 8, 0x0, .ro)]⟩,
   ⟨0x1000000C, [], [(0, 1, 0x0, .ro), (1, 1, 0x0, .ro), (16, 16, 0x0, .ro)]⟩,
   ⟨0x10000010, [], [(0, 7, 0x0, .wo)]⟩,
   ⟨0x10000100, [(16, 0x4)], [(0, 3, 0x0, .ro), (8, 8, 0x0, .ro), (16, 8, 0x0, .ro)]⟩,
   ⟨0x1000100C, [(128, 0x40)], [(0, 24, 0x0, .ro)]⟩,
   ⟨0x10001010, [(128, 0x40)], [(0, 32, 0x0, .wo)]⟩,
   ⟨0x10001014, [(128, 0x40)], [(0, 32, 0x0, .wo)]⟩,
   ⟨0x10001018, [(128, 0x40)], [(0, 32, 0x0, .ro)]⟩,
   ⟨0x1000101C, [(128, 0x40)], [(0, 32, 0x0, .ro)]⟩,
   ⟨0x10001020, [(128, 0x40)], [(0, 8, 0x0, .wo)]⟩,
   ⟨0x10004000, [(11, 0x10)], [(0, 8, 0xFF, .ro)]⟩]

/-- The QM registers that hold values of their own (part 2). -/
def tabQm1 : List RegFam :=
  [⟨0x10004004, [(11, 0x10)], [(0, 24, 0x0, .ro)]⟩,
   ⟨0x10004008, [(11, 0x10)], [(0, 16, 0x0, .ro)]⟩,
   ⟨0x1000400C, [(11, 0x10)], [(0, 1, 0x0, .wo)]⟩]

/-- The FLT registers that hold values of their own (part 1). -/
def tabFlt0 : List RegFam :=
  [⟨0x11000000, [(8, 0x1000), (14, 0x100)], [(0, 1, 0x0, .ro), (4, 4, 0x0, .ro), (8, 3, 0x0, .ro), (11, 1, 0x0, .ro), (12, 2, 0x0, .ro), (14, 2, 0x0, .ro)]⟩,
   ⟨0x11008000, [(4, 0x100)], [(0, 1, 0x0, .ro), (4, 4, 0x0, .ro), (8, 3, 0x0, .ro), (11, 1, 0x0, .ro), (12, 2, 0x0, .ro), (14, 2, 0x0, .ro)]⟩,
   ⟨0x11000004, [(8, 0x1000), (14, 0x100)], [(0, 2, 0x0, .ro), (2, 2, 0x0, .ro), (4, 2, 0x0, .ro), (6, 4, 0x0, .ro), (10, 4, 0x0, .ro), (14, 11, 0x0, .ro), (25, 1, 0x0, .ro), (26, 1, 0x0, .ro)]⟩,
   ⟨0x11008004, [(4, 0x100)], [(0, 2, 0x0, .ro), (2, 2, 0x0, .ro), (4, 2, 0x0, .ro), (6, 4, 0x0, .ro), (10, 4, 0x0, .ro), (14, 11, 0x0, .ro), (25, 1, 0x0, .ro), (26, 1, 0x0, .ro)]⟩,
   ⟨0x11000008, [(8, 0x1000), (8, 0x100)], [(0, 16, 0x0, .rwl)]⟩,
   ⟨0x11008008, [(4, 0x100)], [(0, 16, 0x0, .rwl)]⟩,
   ⟨0x1100000C, [(8, 0x1000), (14, 0x100)], [(0, 16, 0x0, .ro), (16, 8, 0x0, .ro), (24, 8, 0x0, .ro)]⟩,
   ⟨0x1100800C, [(4, 0x100)], [(0, 16, 0x0, .ro), (16, 8, 0x0, .ro), (24, 8, 0x0, .ro)]⟩,
   ⟨0x11000410, [(8, 0x1000), (4, 0x100)], [(0, 24, 0x0, .rwl)]⟩,
   ⟨0x11000414, [(8, 0x1000), (4, 0x100)], [(0, 24, 0x0, .rwl)]⟩,
   ⟨0x11000418, [(8, 0x1000), (4, 0x100)], [(0, 32, 0x10000000, .rwl)]⟩,
   ⟨0x1100041C, [(8, 0x1000), (4, 0x100)], [(0, 32, 0x10000000, .ro)]⟩]

/-- The FLT registers that hold values of their own (part 2). -/
def tabFlt1 : List RegFam :=
  [⟨0x11000420, [(8, 0x1000), (4, 0x100)], [(0, 1, 0x0, .ro), (1, 1, 0x0, .ro), (2, 7, 0x0, .ro), (16, 8, 0x0, .ro)]⟩,
   ⟨0x11000424, [(8, 0x1000), (4, 0x100)], [(0, 16, 0x0, .ro)]⟩,
   ⟨0x11000040, [(8, 0x1000), (14, 0x100)], [(0, 4, 0x0, .ro), (4, 1, 0x0, .ro), (5, 4, 0x0, .ro), (9, 4, 0x0, .ro), (13, 4, 0x0, .ro), (17, 4, 0x0, .ro), (21, 1, 0x0, .ro), (22, 1, 0x0, .ro), (23, 1, 0x0, .ro)]⟩,
   ⟨0x11008040, [(4, 0x100)], [(0, 4, 0x0, .ro), (4, 1, 0x0, .ro), (5, 4, 0x0, .ro), (9, 4, 0x0, .ro), (13, 4, 0x0, .ro), (17, 4, 0x0, .ro), (21, 1, 0x0, .ro), (22, 1, 0x0, .ro), (23, 1, 0x0, .ro)]⟩,
   ⟨0x11000044, [(8, 0x1000), (14, 0x100)], [(0, 24, 0x0, .ro)]⟩,
   ⟨0x11008044, [(4, 0x100)], [(0, 24, 0x0, .ro)]⟩,
   ⟨0x11000048, [(8, 0x1000), (14, 0x100)], [(0, 24, 0x0, .ro)]⟩,
   ⟨0x11008048, [(4, 0x100)], [(0, 24, 0x0, .ro)]⟩,
   ⟨0x1100004C, [(8, 0x1000), (14, 0x100)], [(0, 24, 0x0, .ro)]⟩,
   ⟨0x1100804C, [(4, 0x100)], [(0, 24, 0x0, .ro)]⟩,
   ⟨0x11000050, [(8, 0x1000), (14, 0x100)], [(0, 24, 0x0, .ro)]⟩,
   ⟨0x11008050, [(4, 0x100)], [(0, 24, 0x0, .ro)]⟩]

/-- The FLT registers that hold values of their own (part 3). -/
def tabFlt2 : List RegFam :=
  [⟨0x11000054, [(8, 0x1000), (14, 0x100)], [(0, 24, 0x0, .ro)]⟩,
   ⟨0x11008054, [(4, 0x100)], [(0, 24, 0x0, .ro)]⟩,
   ⟨0x11000058, [(8, 0x1000), (14, 0x100)], [(0, 24, 0x0, .ro)]⟩,
   ⟨0x11008058, [(4, 0x100)], [(0, 24, 0x0, .ro)]⟩,
   ⟨0x1100005C, [(8, 0x1000), (14, 0x100)], [(0, 24, 0x0, .ro), (24, 8, 0x0, .ro)]⟩,
   ⟨0x1100805C, [(4, 0x100)], [(0, 24, 0x0, .ro), (24, 8, 0x0, .ro)]⟩,
   ⟨0x11000080, [(8, 0x1000), (14, 0x100)], [(0, 3, 0x0, .rw), (4, 3, 0x0, .rw)]⟩,
   ⟨0x11008080, [(4, 0x100)], [(0, 3, 0x0, .rw), (4, 3, 0x0, .rw)]⟩,
   ⟨0x11000084, [(8, 0x1000), (14, 0x100)], [(0, 3, 0x0, .ro), (4, 3, 0x0, .ro)]⟩,
   ⟨0x11008084, [(4, 0x100)], [(0, 3, 0x0, .ro), (4, 3, 0x0, .ro)]⟩,
   ⟨0x11000090, [(8, 0x1000), (14, 0x100)], [(0, 16, 0x0, .ro), (16, 1, 0x0, .ro)]⟩,
   ⟨0x11008090, [(4, 0x100)], [(0, 16, 0x0, .ro), (16, 1, 0x0, .ro)]⟩]

/-- The FLT registers that hold values of their own (part 4). -/
def tabFlt3 : List RegFam :=
  [⟨0x1100F000, [], [(0, 24, 0x0, .ro)]⟩,
   ⟨0x1100F004, [], [(0, 23, 0x0, .ro), (23, 1, 0x0, .ro)]⟩,
   ⟨0x1100F008, [], [(0, 5, 0x0, .ro)]⟩]

/-- The MET registers that hold values of their own (part 1). -/
def tabMet0 : List RegFam :=
  [⟨0x11000E00, [(8, 0x1000)], [(0, 2, 0x0, .rwl), (2, 1, 0x0, .rwl), (4, 3, 0x0, .rwl), (7, 1, 0x0, .rwl)]⟩,
   ⟨0x11000E04, [(9, 0x1000)], [(0, 32, 0x0, .rwl)]⟩,
   ⟨0x11000E08, [(8, 0x1000)], [(0, 32, 0x0, .rwl)]⟩,
   ⟨0x11000E0C, [(8, 0x1000)], [(0, 16, 0x3C, .rwl)]⟩,
   ⟨0x11000E10, [(8, 0x1000)], [(0, 32, 0x0, .ro)]⟩,
   ⟨0x11000E14, [(8, 0x1000)], [(0, 16, 0x0, .ro)]⟩,
   ⟨0x11000E18, [(8, 0x1000)], [(0, 16, 0x0, .ro), (16, 3, 0x0, .ro), (19, 1, 0x0, .ro), (20, 3, 0x0, .ro)]⟩,
   ⟨0x11000E1C, [(8, 0x1000)], [(0, 32, 0x0, .rwl)]⟩,
   ⟨0x11000E20, [(9, 0x1000)], [(0, 32, 0x0, .ro)]⟩]

/-- The NRG registers that hold values of their own (part 1). -/
def tabNrg0 : List RegFam :=
  [⟨0x12000000, [(8, 0x1000), (24, 0x4)], [(0, 32, 0x0, .ro)]⟩,
   ⟨0x12000060, [(8, 0x1000)], [(0, 32, 0x0, .ro)]⟩,
   ⟨0x12000064, [(8, 0x1000)], [(0, 16, 0x0, .ro)]⟩,
   ⟨0x12000068, [(8, 0x1000)], [(0, 24, 0x0, .ro)]⟩,
   ⟨0x12000080, [(8, 0x1000), (4, 0x20)], [(0, 24, 0x0, .ro)]⟩,
   ⟨0x12000084, [(8, 0x1000), (4, 0x20)], [(0, 24, 0x0, .ro)]⟩,
   ⟨0x12000088, [(8, 0x1000), (4, 0x20)], [(0, 24, 0x0, .ro)]⟩,
   ⟨0x1200008C, [(8, 0x1000), (4, 0x20)], [(0, 24, 0x0, .ro)]⟩,
   ⟨0x12000090, [(8, 0x1000), (4, 0x20)], [(0, 24, 0x0, .ro)]⟩,
   ⟨0x12000094, [(8, 0x1000), (4, 0x20)], [(0, 24, 0x0, .ro)]⟩,
   ⟨0x12000100, [(8, 0x1000)], [(0, 24, 0x0, .ro)]⟩,
   ⟨0x12008000, [(4, 0x20)], [(0, 24, 0x0, .ro)]⟩]

/-- The NRG registers that hold values of their own (part 2). -/
def tabNrg1 : List RegFam :=
  [⟨0x12008080, [], [(0, 24, 0x0, .ro)]⟩,
   ⟨0x12009000, [(2, 0x100)], [(0, 1, 0x0, .ro), (1, 1, 0x0, .ro), (8, 8, 0x0, .ro), (16, 4, 0x0, .ro), (20, 4, 0x0, .ro)]⟩,
   ⟨0x12009004, [(2, 0x100)], [(0, 32, 0x0, .ro)]⟩]

/-- The BIL registers that hold values of their own (part 1). -/
def tabBil0 : List RegFam :=
  [⟨0x13000000, [(8, 0x1000), (8, 0x10), (3, 0x4)], [(0, 32, 0x0, .ro)]⟩,
   ⟨0x13000080, [(8, 0x1000), (8, 0x10), (3, 0x4)], [(0, 32, 0x0, .ro)]⟩,
   ⟨0x13000100, [(8, 0x1000), (3, 0x4)], [(0, 32, 0x0, .ro)]⟩,
   ⟨0x13000110, [(8, 0x1000), (3, 0x4)], [(0, 32, 0x0, .ro)]⟩,
   ⟨0x13000120, [(8, 0x1000), (8, 0x4)], [(0, 32, 0x0, .ro)]⟩,
   ⟨0x13000140, [(8, 0x1000)], [(0, 3, 0x0, .ro), (3, 1, 0x0, .ro), (4, 1, 0x0, .ro), (5, 1, 0x0, .ro), (8, 2, 0x0, .ro), (10, 3, 0x0, .ro), (13, 2, 0x0, .ro)]⟩,
   ⟨0x13000144, [(8, 0x1000)], [(0, 32, 0x0, .ro)]⟩,
   ⟨0x13000148, [(8, 0x1000)], [(0, 16, 0x0, .ro), (16, 16, 0x0, .ro)]⟩,
   ⟨0x1300014C, [(8, 0x1000)], [(0, 32, 0x0, .ro)]⟩,
   ⟨0x13000150, [(8, 0x1000), (2, 0x4)], [(0, 32, 0x0, .ro)]⟩,
   ⟨0x13000158, [(8, 0x1000), (2, 0x4)], [(0, 32, 0x0, .ro)]⟩,
   ⟨0x13000160, [(8, 0x1000), (4, 0x4)], [(0, 32, 0x0, .ro)]⟩]

/-- The BIL registers that hold values of their own (part 2). -/
def tabBil1 : List RegFam :=
  [⟨0x1300F000, [], [(0, 32, 0x0, .ro)]⟩,
   ⟨0x1300F004, [], [(0, 16, 0x0, .ro)]⟩,
   ⟨0x1300F008, [], [(0, 32, 0x0, .ro)]⟩,
   ⟨0x1300F00C, [], [(0, 16, 0x0, .ro)]⟩,
   ⟨0x1300F010, [], [(0, 16, 0x0, .ro)]⟩,
   ⟨0x1300F014, [], [(0, 32, 0x0, .ro)]⟩,
   ⟨0x1300F018, [], [(0, 32, 0x0, .ro)]⟩,
   ⟨0x1300F01C, [], [(0, 32, 0x0, .ro)]⟩,
   ⟨0x1300F020, [], [(0, 32, 0x0, .ro)]⟩,
   ⟨0x1300F024, [], [(0, 32, 0x0, .ro)]⟩,
   ⟨0x1300F028, [], [(0, 32, 0x0, .ro)]⟩,
   ⟨0x1300F02C, [], [(0, 32, 0x0, .ro)]⟩]

/-- The BIL registers that hold values of their own (part 3). -/
def tabBil2 : List RegFam :=
  [⟨0x1300F030, [], [(0, 32, 0x0, .ro)]⟩,
   ⟨0x1300F034, [], [(0, 16, 0x0, .ro)]⟩,
   ⟨0x1300F038, [], [(0, 25, 0x0, .ro)]⟩,
   ⟨0x1300F03C, [], [(0, 25, 0x0, .ro)]⟩]

/-- The OUT registers that hold values of their own (part 1). -/
def tabOut0 : List RegFam :=
  [⟨0x14000000, [(8, 0x1000)], [(0, 2, 0x0, .rw), (2, 2, 0x0, .rw), (4, 1, 0x0, .rw), (5, 1, 0x0, .rw)]⟩,
   ⟨0x14000004, [(8, 0x1000)], [(0, 10, 0xA0, .rw)]⟩,
   ⟨0x14000008, [(8, 0x1000)], [(0, 12, 0x0, .rw), (12, 12, 0x0, .rw), (24, 2, 0x0, .rw), (26, 1, 0x0, .rw)]⟩,
   ⟨0x1400000C, [(8, 0x1000)], [(0, 12, 0xC8, .rw), (12, 8, 0x32, .rw), (20, 12, 0x14, .rw)]⟩,
   ⟨0x14000010, [(8, 0x1000)], [(0, 4, 0x0, .ro), (4, 4, 0x0, .ro), (8, 3, 0x0, .ro), (11, 1, 0x0, .ro), (12, 2, 0x0, .ro), (14, 1, 0x0, .ro), (16, 8, 0x0, .ro)]⟩,
   ⟨0x14000014, [(8, 0x1000)], [(0, 12, 0x0, .ro), (12, 2, 0x2, .ro), (14, 10, 0x0, .ro), (24, 1, 0x0, .ro)]⟩,
   ⟨0x14000018, [(8, 0x1000)], [(0, 16, 0x0, .ro), (16, 16, 0x0, .ro)]⟩,
   ⟨0x1400001C, [(8, 0x1000)], [(0, 16, 0xFFFF, .ro), (16, 8, 0x0, .ro)]⟩,
   ⟨0x14000020, [(8, 0x1000)], [(0, 16, 0x0, .ro), (16, 8, 0x0, .ro)]⟩]

/-- The PLM registers that hold values of their own (part 1). -/
def tabPlm0 : List RegFam :=
  [⟨0x15000000, [(8, 0x1000)], [(0, 6, 0x1E, .rw), (8, 4, 0x7, .rw), (12, 2, 0x2, .rw)]⟩,
   ⟨0x15000004, [(8, 0x1000)], [(0, 11, 0x600, .rw), (11, 1, 0x1, .rw), (16, 8, 0x10, .rw)]⟩,
   ⟨0x15000008, [(8, 0x1000)], [(0, 2, 0x0, .rw), (2, 16, 0x0, .rw), (18, 1, 0x1, .rw), (19, 1, 0x0, .rw)]⟩,
   ⟨0x1500000C, [(8, 0x1000)], [(0, 3, 0x0, .ro), (3, 1, 0x0, .ro), (4, 1, 0x0, .ro), (8, 16, 0x0, .ro)]⟩,
   ⟨0x15000010, [(8, 0x1000)], [(0, 16, 0x0, .ro), (16, 16, 0x0, .ro)]⟩,
   ⟨0x15000014, [(8, 0x1000)], [(0, 16, 0x0, .ro), (16, 16, 0x0, .ro)]⟩,
   ⟨0x15000018, [(8, 0x1000)], [(0, 16, 0x0, .ro), (16, 8, 0x0, .ro), (24, 8, 0x0, .ro)]⟩,
   ⟨0x1500001C, [(8, 0x1000)], [(0, 8, 0x0, .ro), (8, 8, 0x0, .ro)]⟩,
   ⟨0x15000020, [(8, 0x1000)], [(0, 32, 0x0, .ro)]⟩,
   ⟨0x15000024, [(8, 0x1000)], [(0, 16, 0x0, .ro)]⟩,
   ⟨0x1500F000, [], [(0, 8, 0x0, .ro), (8, 4, 0x0, .ro)]⟩]

/-- The FOLD registers that hold values of their own (part 1). -/
def tabFold0 : List RegFam :=
  [⟨0x16000000, [(8, 0x1000)], [(0, 3, 0x0, .ro), (3, 1, 0x0, .ro), (4, 1, 0x0, .ro), (5, 1, 0x1, .ro), (6, 1, 0x0, .ro), (7, 1, 0x0, .ro), (8, 1, 0x0, .ro), (9, 1, 0x0, .ro), (10, 1, 0x0, .ro), (16, 8, 0x0, .ro)]⟩,
   ⟨0x16000004, [(8, 0x1000)], [(0, 16, 0x0, .ro), (16, 16, 0x0, .ro)]⟩,
   ⟨0x16000008, [(8, 0x1000)], [(0, 24, 0x0, .ro), (24, 2, 0x0, .ro), (26, 1, 0x0, .ro)]⟩,
   ⟨0x1600000C, [(8, 0x1000)], [(0, 8, 0x0, .ro), (8, 8, 0x0, .ro), (16, 8, 0x0, .ro), (24, 8, 0x0, .ro)]⟩,
   ⟨0x1600F000, [], [(0, 1, 0x0, .ro), (1, 1, 0x0, .ro), (2, 2, 0x0, .ro), (4, 1, 0x0, .ro), (5, 1, 0x0, .ro), (6, 1, 0x0, .ro), (7, 1, 0x0, .ro), (8, 1, 0x0, .ro), (9, 1, 0x0, .ro), (10, 1, 0x0, .ro), (16, 8, 0x0, .ro), (24, 4, 0x0, .ro)]⟩,
   ⟨0x1600F004, [], [(0, 32, 0x0, .ro)]⟩,
   ⟨0x1600F008, [], [(0, 32, 0x0, .ro)]⟩,
   ⟨0x1600F00C, [], [(0, 16, 0x0, .ro), (16, 8, 0x0, .ro)]⟩,
   ⟨0x1600E000, [(16, 0x10)], [(0, 2, 0x0, .ro), (8, 8, 0x0, .ro), (16, 8, 0x0, .ro), (24, 8, 0x0, .ro)]⟩,
   ⟨0x1600E004, [(16, 0x10)], [(0, 32, 0x0, .ro)]⟩]

/-- The PTP registers that hold values of their own (part 1). -/
def tabPtp0 : List RegFam :=
  [⟨0x17000000, [], [(0, 32, 0x0, .ro)]⟩,
   ⟨0x17000004, [], [(0, 16, 0x0, .ro)]⟩,
   ⟨0x17000008, [], [(0, 30, 0x0, .ro)]⟩,
   ⟨0x1700000C, [], [(0, 16, 0x0, .ro)]⟩,
   ⟨0x17000010, [], [(0, 2, 0x0, .ro), (2, 1, 0x0, .ro), (3, 1, 0x0, .ro), (4, 1, 0x0, .ro), (5, 1, 0x0, .ro), (16, 16, 0x0, .ro)]⟩,
   ⟨0x17000014, [], [(0, 32, 0x0, .ro)]⟩,
   ⟨0x17000018, [], [(0, 2, 0x2, .rw), (2, 9, 0x64, .rw), (11, 11, 0x3C, .rw)]⟩,
   ⟨0x1700001C, [], [(0, 20, 0x3E8, .rw)]⟩,
   ⟨0x17000020, [], [(0, 30, 0xF4240, .rw)]⟩,
   ⟨0x17000030, [], [(0, 6, 0x0, .ro), (16, 6, 0x0, .rw)]⟩,
   ⟨0x17000034, [], [(0, 5, 0x0, .ro), (16, 5, 0x0, .rw)]⟩,
   ⟨0x17000038, [], [(0, 32, 0x0, .rw)]⟩]

/-- The PTP registers that hold values of their own (part 2). -/
def tabPtp1 : List RegFam :=
  [⟨0x1700003C, [], [(0, 16, 0x0, .rw)]⟩,
   ⟨0x17000100, [(2, 0x40)], [(0, 2, 0x0, .rw), (2, 8, 0x0, .rw), (10, 2, 0x0, .rw), (12, 1, 0x0, .rw), (13, 4, 0x0, .rw), (17, 4, 0x2, .rw), (21, 4, 0x6, .rw), (25, 1, 0x0, .rw)]⟩,
   ⟨0x17000104, [(2, 0x40)], [(0, 2, 0x0, .ro), (16, 16, 0x0, .ro)]⟩,
   ⟨0x17000108, [(2, 0x40)], [(0, 32, 0x0, .ro)]⟩,
   ⟨0x1700010C, [(2, 0x40)], [(0, 32, 0x0, .ro)]⟩,
   ⟨0x17000110, [(2, 0x40)], [(0, 24, 0x0, .ro)]⟩,
   ⟨0x17000114, [(2, 0x40)], [(0, 32, 0x0, .ro)]⟩,
   ⟨0x17000118, [(2, 0x40)], [(0, 32, 0x0, .ro)]⟩,
   ⟨0x1700011C, [(2, 0x40)], [(0, 16, 0x0, .ro), (16, 8, 0x0, .ro), (24, 8, 0x0, .ro)]⟩,
   ⟨0x17001000, [(2, 0x1000)], [(0, 1, 0x0, .rw), (1, 2, 0x0, .rw), (3, 2, 0x0, .rw), (5, 1, 0x0, .rw)]⟩,
   ⟨0x17001004, [(2, 0x1000), (3, 0x4)], [(0, 16, 0x0, .rw), (16, 16, 0x0, .rw)]⟩,
   ⟨0x17001010, [(2, 0x1000)], [(0, 24, 0x0, .ro)]⟩]

/-- The PTP registers that hold values of their own (part 3). -/
def tabPtp2 : List RegFam :=
  [⟨0x17001014, [(2, 0x1000)], [(0, 16, 0x0, .ro), (16, 8, 0x0, .ro), (24, 8, 0x0, .ro)]⟩,
   ⟨0x17001018, [(2, 0x1000)], [(0, 1, 0x1, .rw), (1, 1, 0x1, .rw)]⟩]

/-- The SWD registers that hold values of their own (part 1). -/
def tabSwd0 : List RegFam :=
  [⟨0x18000000, [], [(0, 1, 0x0, .rw), (1, 1, 0x0, .rw), (2, 3, 0x0, .rw), (5, 8, 0x32, .rw)]⟩,
   ⟨0x18000004, [], [(0, 3, 0x0, .ro), (3, 2, 0x0, .ro), (5, 1, 0x0, .ro), (6, 1, 0x1, .ro), (7, 3, 0x0, .ro), (10, 1, 0x0, .ro), (16, 8, 0x0, .ro), (24, 2, 0x0, .ro)]⟩,
   ⟨0x18000008, [], [(0, 16, 0x0, .ro), (16, 8, 0x0, .ro), (24, 8, 0x0, .ro)]⟩,
   ⟨0x1800000C, [], [(0, 16, 0x0, .ro), (16, 16, 0x0, .ro)]⟩,
   ⟨0x18000010, [], [(0, 16, 0x0, .ro), (16, 16, 0x0, .ro)]⟩]

/-- The TAG registers that hold values of their own (part 1). -/
def tabTag0 : List RegFam :=
  [⟨0x19000000, [], [(0, 5, 0xF, .rw), (5, 2, 0x3, .rw), (7, 1, 0x1, .rw), (8, 1, 0x1, .rw), (9, 2, 0x1, .rw), (11, 8, 0x0, .rw)]⟩,
   ⟨0x19000004, [], [(0, 3, 0x0, .ro), (3, 1, 0x0, .ro), (4, 1, 0x0, .ro), (5, 3, 0x0, .ro), (8, 6, 0x0, .ro)]⟩,
   ⟨0x19000008, [], [(0, 16, 0x0, .ro), (16, 8, 0x0, .ro), (24, 8, 0x0, .ro)]⟩,
   ⟨0x1900000C, [], [(0, 8, 0x0, .ro), (8, 8, 0x0, .ro), (16, 8, 0x0, .ro), (24, 8, 0x0, .ro)]⟩]

/-- The GV registers that hold values of their own (part 1). -/
def tabGv0 : List RegFam :=
  [⟨0x1A000000, [], [(0, 1, 0x0, .ro), (1, 1, 0x0, .ro), (2, 1, 0x0, .ro), (16, 16, 0x0, .ro)]⟩,
   ⟨0x1A000100, [(32, 0x4)], [(0, 1, 0x0, .ro), (1, 3, 0x0, .ro), (4, 3, 0x0, .ro), (7, 3, 0x0, .ro), (16, 16, 0x0, .ro)]⟩,
   ⟨0x1A000200, [(8, 0x10)], [(0, 1, 0x0, .ro), (1, 3, 0x0, .ro)]⟩,
   ⟨0x1A000204, [(8, 0x10)], [(0, 32, 0x0, .ro)]⟩,
   ⟨0x1A000208, [(8, 0x10)], [(0, 32, 0x0, .ro)]⟩,
   ⟨0x1A000300, [], [(0, 1, 0x0, .ro), (1, 1, 0x0, .ro), (2, 1, 0x0, .ro), (3, 1, 0x0, .ro), (8, 8, 0x0, .ro)]⟩]

/-- The LIFE registers that hold values of their own (part 1). -/
def tabLife0 : List RegFam :=
  [⟨0x20001000, [], [(0, 3, 0x0, .ro), (3, 1, 0x0, .ro)]⟩,
   ⟨0x20001004, [], [(0, 16, 0x0, .ro)]⟩,
   ⟨0x20001008, [], [(0, 32, 0x0, .ro)]⟩,
   ⟨0x2000100C, [], [(0, 1, 0x1, .rwl)]⟩]

/-- The IDENT registers that hold values of their own (part 1). -/
def tabIdent0 : List RegFam :=
  [⟨0x20002020, [(16, 0x4)], [(0, 32, 0x0, .ro)]⟩]

/-- The CHK registers that hold values of their own (part 1). -/
def tabChk0 : List RegFam :=
  [⟨0x1B000000, [(4, 0x100)], [(0, 1, 0x0, .rw), (1, 6, 0x1F, .rw), (7, 1, 0x0, .rw), (8, 1, 0x0, .rw), (9, 1, 0x0, .rw), (10, 2, 0x0, .rw), (12, 2, 0x0, .rw), (16, 7, 0x0, .rw), (23, 1, 0x0, .wo)]⟩,
   ⟨0x1B000004, [(4, 0x100)], [(0, 8, 0x0, .rw), (8, 8, 0xFF, .rw)]⟩,
   ⟨0x1B000008, [(4, 0x100)], [(0, 32, 0x0, .rw)]⟩,
   ⟨0x1B00000C, [(4, 0x100)], [(0, 32, 0x0, .rw)]⟩,
   ⟨0x1B000010, [(4, 0x100)], [(0, 32, 0x0, .rw)]⟩,
   ⟨0x1B000014, [(4, 0x100)], [(0, 32, 0x0, .rw)]⟩,
   ⟨0x1B000018, [(4, 0x100)], [(0, 32, 0x0, .rw)]⟩,
   ⟨0x1B00001C, [(4, 0x100)], [(0, 32, 0x0, .rw)]⟩,
   ⟨0x1B000028, [(4, 0x100)], [(0, 32, 0x0, .rw)]⟩,
   ⟨0x1B00002C, [(4, 0x100)], [(0, 32, 0x0, .rw)]⟩,
   ⟨0x1B000030, [(4, 0x100)], [(0, 32, 0x0, .wo)]⟩,
   ⟨0x1B000034, [(4, 0x100)], [(0, 8, 0x0, .wo)]⟩]

/-- The CHK registers that hold values of their own (part 2). -/
def tabChk1 : List RegFam :=
  [⟨0x1B000038, [(4, 0x100)], [(0, 32, 0x0, .ro)]⟩,
   ⟨0x1B00003C, [(4, 0x100)], [(0, 1, 0x0, .ro)]⟩]

/-- The UPD registers that hold values of their own (part 1). -/
def tabUpd0 : List RegFam :=
  [⟨0x1C000100, [(5, 0x100)], [(0, 3, 0x0, .ro), (4, 2, 0x0, .ro), (6, 1, 0x0, .ro), (8, 8, 0x0, .ro), (16, 8, 0x0, .ro), (24, 4, 0x0, .ro)]⟩,
   ⟨0x1C000104, [(5, 0x100)], [(0, 32, 0x0, .ro)]⟩,
   ⟨0x1C000108, [(5, 0x100)], [(0, 32, 0x0, .ro)]⟩,
   ⟨0x1C00010C, [(5, 0x100)], [(0, 6, 0x0, .ro), (8, 12, 0x0, .ro)]⟩,
   ⟨0x1C000110, [(5, 0x100)], [(0, 8, 0x0, .ro), (8, 8, 0x0, .ro)]⟩,
   ⟨0x1C00F000, [], [(0, 32, 0x0, .ro)]⟩,
   ⟨0x1C00F004, [], [(0, 32, 0x0, .ro)]⟩,
   ⟨0x1C00F008, [], [(0, 1, 0x0, .ro), (2, 2, 0x0, .ro), (16, 16, 0x0, .ro)]⟩,
   ⟨0x1C00F00C, [], [(1, 5, 0x0, .ro), (9, 5, 0x0, .ro)]⟩,
   ⟨0x1C00F010, [], [(0, 16, 0x0, .ro), (16, 16, 0x0, .ro)]⟩,
   ⟨0x1C00F014, [], [(0, 1, 0x0, .ro)]⟩]

/-- The BAR registers that hold values of their own (part 1). -/
def tabBar0 : List RegFam :=
  [⟨0x1D000000, [], [(0, 12, 0x0, .ro), (12, 1, 0x0, .ro), (13, 1, 0x0, .ro), (16, 16, 0x0, .ro)]⟩,
   ⟨0x1D000004, [], [(0, 32, 0x0, .ro)]⟩,
   ⟨0x1D000008, [], [(0, 32, 0x0, .ro)]⟩,
   ⟨0x1D00000C, [], [(0, 14, 0x0, .ro), (16, 16, 0x0, .ro)]⟩,
   ⟨0x1D000010, [], [(0, 32, 0x0, .ro)]⟩,
   ⟨0x1D000014, [], [(0, 32, 0x0, .ro)]⟩,
   ⟨0x1D000018, [], [(0, 1, 0x0, .rw), (1, 3, 0x0, .ro), (4, 6, 0xA, .rw), (12, 7, 0x0, .ro)]⟩,
   ⟨0x1D00001C, [], [(0, 16, 0x0, .ro), (16, 16, 0x0, .ro)]⟩,
   ⟨0x1D000100, [(128, 0x4)], [(0, 1, 0x0, .ro), (2, 4, 0x0, .ro), (16, 16, 0x0, .ro)]⟩]

/-- The LCD registers that hold values of their own (part 1). -/
def tabLcd0 : List RegFam :=
  [⟨0x1E000000, [], [(0, 1, 0x1, .rwl), (1, 1, 0x0, .rw), (2, 1, 0x0, .rw), (3, 6, 0x14, .rw), (9, 2, 0x0, .rw), (11, 8, 0x40, .rw), (19, 4, 0x4, .rw), (23, 2, 0x1, .rw)]⟩,
   ⟨0x1E000004, [], [(0, 8, 0xFF, .rw), (8, 8, 0x0, .rw)]⟩,
   ⟨0x1E000008, [], [(0, 3, 0x0, .ro), (3, 4, 0x0, .ro), (7, 1, 0x0, .ro), (8, 2, 0x0, .ro), (16, 16, 0x0, .ro)]⟩,
   ⟨0x1E00000C, [], [(0, 16, 0x0, .ro), (16, 3, 0x0, .ro), (19, 4, 0x0, .ro)]⟩,
   ⟨0x1E000010, [], [(0, 16, 0x0, .ro), (16, 16, 0x0, .ro)]⟩,
   ⟨0x1E000040, [(8, 0x4)], [(0, 32, 0x0, .ro)]⟩,
   ⟨0x1E000060, [(4, 0x8)], [(0, 32, 0x0, .rw)]⟩,
   ⟨0x1E000064, [(4, 0x8)], [(0, 8, 0x0, .rw)]⟩]

/-- The LSW registers that hold values of their own (part 1). -/
def tabLsw0 : List RegFam :=
  [⟨0x1F000000, [(16, 0x100)], [(0, 5, 0xB, .rw), (5, 7, 0xA, .rw), (12, 5, 0x1, .rw), (17, 1, 0x0, .rw), (18, 3, 0x0, .rw), (21, 1, 0x1, .rw), (22, 2, 0x0, .rw)]⟩,
   ⟨0x1F000004, [(16, 0x100)], [(0, 1, 0x0, .rw), (1, 1, 0x0, .wo), (2, 1, 0x0, .wo)]⟩,
   ⟨0x1F000008, [(16, 0x100)], [(0, 2, 0x0, .ro), (2, 1, 0x0, .ro), (3, 3, 0x0, .ro), (6, 1, 0x0, .ro), (7, 2, 0x0, .ro), (16, 8, 0x0, .ro)]⟩,
   ⟨0x1F00000C, [(16, 0x100)], [(0, 14, 0x0, .ro)]⟩,
   ⟨0x1F000010, [(16, 0x100)], [(0, 1, 0x0, .ro), (1, 1, 0x0, .ro), (2, 1, 0x0, .ro), (3, 1, 0x0, .ro), (4, 1, 0x0, .ro)]⟩,
   ⟨0x1F000014, [(16, 0x100)], [(0, 8, 0x0, .ro), (8, 8, 0x0, .ro), (16, 8, 0x0, .ro), (24, 8, 0x0, .ro)]⟩,
   ⟨0x1F00F000, [], [(0, 16, 0x0, .ro), (16, 12, 0x0, .ro), (28, 1, 0x0, .ro)]⟩,
   ⟨0x1F00F004, [], [(0, 16, 0x0, .ro), (16, 16, 0x0, .ro)]⟩]

/-- The PWR registers that hold values of their own (part 1). -/
def tabPwr0 : List RegFam :=
  [⟨0x20000000, [], [(0, 12, 0x0, .ro), (12, 12, 0x0, .ro)]⟩,
   ⟨0x20000004, [], [(0, 2, 0x1, .ro), (2, 2, 0x1, .ro), (4, 3, 0x2, .ro), (7, 1, 0x0, .ro), (8, 1, 0x0, .ro)]⟩,
   ⟨0x20000008, [], [(0, 4, 0x0, .ro), (8, 8, 0x0, .ro)]⟩,
   ⟨0x2000000C, [], [(0, 1, 0x0, .ro), (1, 1, 0x0, .ro), (2, 1, 0x0, .ro), (16, 16, 0x0, .ro)]⟩,
   ⟨0x20000010, [], [(0, 32, 0x0, .ro)]⟩,
   ⟨0x20000014, [], [(0, 30, 0x0, .ro)]⟩,
   ⟨0x20000018, [], [(0, 8, 0x0, .ro), (8, 8, 0x0, .ro), (16, 8, 0x0, .ro), (24, 8, 0x0, .ro)]⟩,
   ⟨0x2000001C, [], [(0, 16, 0x0, .ro), (16, 16, 0x0, .ro)]⟩,
   ⟨0x20000020, [], [(0, 8, 0x32, .ro)]⟩,
   ⟨0x20000024, [], [(0, 2, 0x0, .rw), (2, 6, 0x8, .rw), (8, 1, 0x0, .rw)]⟩,
   ⟨0x20000028, [], [(0, 8, 0x0, .ro)]⟩]

/-- Every register that holds a value of its own. -/
def regTable : List RegFam :=
  tabQm0 ++ tabQm1 ++ tabFlt0 ++ tabFlt1 ++ tabFlt2 ++ tabFlt3 ++ tabMet0 ++ tabNrg0 ++ tabNrg1 ++ tabBil0 ++ tabBil1 ++ tabBil2 ++ tabOut0 ++ tabPlm0 ++ tabFold0 ++ tabPtp0 ++ tabPtp1 ++ tabPtp2 ++ tabSwd0 ++ tabTag0 ++ tabGv0 ++ tabLife0 ++ tabIdent0 ++ tabChk0 ++ tabChk1 ++ tabUpd0 ++ tabBar0 ++ tabLcd0 ++ tabLsw0 ++ tabPwr0

/-- The fields of the register at byte address `a`; none where no register of the table stands. -/
def fieldsAt (a : Nat) : List Fld :=
  match regTable.find? (fun r => r.covers a) with
  | some r => r.fieldsAt a
  | none => []

end Sys2Proof.Machine
end

