-- ==== Sys2Proof/Machine/Store.lean ====
section
/-!
DEFINITION. Sparse storage: a list of (key, value) pairs in one canonical form.  Keys rise strictly and no entry holds
the default of its key, so that equal contents are equal lists.  Register fields, engine memories, the MRAM and the
Ethernet buffers are all held this way.
-/
namespace Sys2Proof.Machine

/-- A sparse map from natural keys. -/
abbrev SMap (α : Type) := List (Nat × α)

/-- The value at a key; `d` where the key is not listed. -/
def SMap.get {α : Type} (d : α) : SMap α → Nat → α
  | [], _ => d
  | (k, v) :: m, a => if a = k then v else SMap.get d m a

/-- The map without the key. -/
def SMap.drop {α : Type} (m : SMap α) (a : Nat) : SMap α := m.filter fun e => decide (e.1 ≠ a)

/-- The map with one more entry at its place in the order. -/
def SMap.ins {α : Type} : SMap α → Nat → α → SMap α
  | [], a, v => [(a, v)]
  | (k, w) :: m, a, v => if a < k then (a, v) :: (k, w) :: m else (k, w) :: SMap.ins m a v

/-- Write a key: a value equal to the default leaves no entry. -/
def SMap.put {α : Type} [DecidableEq α] (d : α) (m : SMap α) (a : Nat) (v : α) : SMap α :=
  if v = d then SMap.drop m a else SMap.ins (SMap.drop m a) a v

/-- Strictly rising keys. -/
def SMap.rising {α : Type} : SMap α → Bool
  | [] => true
  | (k, _) :: m => m.all (fun e => decide (k < e.1)) && SMap.rising m

/-- The canonical form of a memory whose unlisted words read `d`. -/
def SMap.wf {α : Type} [DecidableEq α] (d : α) (m : SMap α) : Bool :=
  SMap.rising m && m.all fun e => decide (e.2 ≠ d)

/-- Read `n` cells from `a` on. -/
def SMap.getN {α : Type} (d : α) (m : SMap α) (a : Nat) : Nat → List α
  | 0 => []
  | n + 1 => SMap.get d m a :: SMap.getN d m (a + 1) n

/-- The entries of a list of cells placed from `a` on, without those that hold the default. -/
def SMap.cells {α : Type} [DecidableEq α] (d : α) : Nat → List α → SMap α
  | _, [] => []
  | a, v :: vs => if v = d then SMap.cells d (a + 1) vs else (a, v) :: SMap.cells d (a + 1) vs

/-- Write the cells of a list from `a` on. -/
def SMap.putN {α : Type} [DecidableEq α] (d : α) (m : SMap α) (a : Nat) (vs : List α) : SMap α :=
  (m.filter fun e => decide (e.1 < a)) ++ SMap.cells d a vs ++ m.filter fun e => decide (a + vs.length ≤ e.1)

/-- Drop every key in the range `a` to `a + n - 1`. -/
def SMap.clearRange {α : Type} (m : SMap α) (a n : Nat) : SMap α :=
  m.filter fun e => decide (e.1 < a ∨ a + n ≤ e.1)

/-- The `i`-th element of a vector of like things. -/
def vget {α : Type} {n : Nat} (v : Vector α n) (i : Fin n) : α := v[i.val]'i.isLt

/-- The vector with its `i`-th element replaced. -/
def vset {α : Type} {n : Nat} (v : Vector α n) (i : Fin n) (x : α) : Vector α n := v.set i.val x i.isLt

/-- A little-endian number from bytes (R7). -/
def leNat : List Byte → Nat
  | [] => 0
  | b :: bs => b.toNat + 256 * leNat bs

/-- The `n` low bytes of a number, little-endian (R7). -/
def leBytes : Nat → Nat → List Byte
  | 0, _ => []
  | n + 1, v => BitVec.ofNat 8 v :: leBytes n (v / 256)

/-- The `n` low bytes of a number, big-endian (the order R7 gives cryptographic values). -/
def beBytes (n v : Nat) : List Byte := (leBytes n v).reverse

/-- A big-endian number from bytes. -/
def beNat (bs : List Byte) : Nat := leNat bs.reverse

/-- The bits [hi:lo] of a number. -/
def bits (v hi lo : Nat) : Nat := (v / 2 ^ lo) % 2 ^ (hi + 1 - lo)

/-- One bit of a number. -/
def bitOf (v i : Nat) : Bool := v.testBit i

/-- 1 for true, 0 for false. -/
def b2n (b : Bool) : Nat := if b then 1 else 0

/-- A saturating increment to a width of `w` bits. -/
def satInc (w v : Nat) : Nat := if v + 1 < 2 ^ w then v + 1 else 2 ^ w - 1

/-- The signed value of the low `w` bits of a number. -/
def sext (w v : Nat) : Int := (BitVec.ofNat w v).toInt

/-- The low `w` bits of a signed number. -/
def toU (w : Nat) (v : Int) : Nat := (BitVec.ofInt w v).toNat

/-- A signed number limited to `w` bits. -/
def satS (w : Nat) (v : Int) : Int :=
  if v < -(2 ^ (w - 1)) then -(2 ^ (w - 1)) else if 2 ^ (w - 1) - 1 < v then 2 ^ (w - 1) - 1 else v

end Sys2Proof.Machine
end

