-- ==== Sys2Proof/Machine/StCore.lean ====
section
/-!
DEFINITION. The state of one Treltor engine (R41 to R53, R70, R71) and of one queue (R91 to R106).
-/
namespace Sys2Proof.Machine

/-- The blocking instruction an engine waits in (R70, R69), with its operands. -/
inductive Blocked where
  | no
  | wait (d a : Fin 16)
  | push (q : Qid) (h w0 w1 : Fin 16)
  | pop (q : Qid) (h w0 w1 : Fin 16)
  | peek (q : Qid) (h w0 w1 : Fin 16)
  | fence
  deriving DecidableEq, Repr, Inhabited

/-- A register whose reading may raise PARITY (R73): data, accumulator, address and predicate registers, and the special
registers by their number (R44). -/
inductive PReg where
  | g (i : Fin 16)
  | a (i : Fin 2)
  | x (i : Fin 8)
  | p (i : Fin 4)
  | sr (n : Nat)
  deriving DecidableEq, Repr, Inhabited

/-- One engine: every item of R41, the special registers of R44 that hold values of their own, the timers of R71, the
memories of R48 and R49, the block-window latches of R50, and the check-bit marks of R51 and R73. -/
structure Eng where
  /-- G0 to G15, 24 bits each (R41). -/
  g : Vector W24 16
  /-- ACC0 and ACC1, 56 bits each (R41). -/
  acc : Vector W56 2
  /-- X0 to X7, the address registers (R41). -/
  x : Vector W20 8
  /-- P0 to P3; P0 is read through `predRd`, which answers 1. -/
  p : Vector Bool 4
  /-- The program counter (R41). -/
  pc : W20
  /-- The return stack, newest first; RSP is its length. -/
  rstack : List W20
  /-- The special registers MODE and STATUS, and what the entry into a handler saves: EMODE, ESTATUS, EPC, ECODE; and
  VBASE (R44, R75). -/
  mode : W24
  status : W24
  emode : W24
  estatus : W24
  epc : W24
  ecode : W24
  vbase : W24
  /-- EVPEND[19:16]: the latched timer events. -/
  evTmr : BitVec 4
  /-- EVPEND[20]: an event output of a hardware block this engine owns. -/
  evHw : Bool
  /-- EVPEND[21]: the host doorbell, on TE0 only. -/
  evBell : Bool
  /-- The special register QWLIM (R44). -/
  qwlim : W24
  /-- CYCL and CYCH: instructions retired, 48 bits. -/
  cyc : BitVec 48
  /-- CYCH as the last read of CYCL latched it. -/
  cych : W24
  /-- The special registers ECCCNT and BWSEL (R44), and the reload values of the four timers (R71). -/
  eccCnt : W24
  bwsel : W24
  tmr : Vector W24 4
  /-- Microseconds left of each timer. -/
  tmrLeft : Vector Nat 4
  /-- The event masks of the queues, EVQ (R44). -/
  evq : Vector W24 16
  /-- Data memory and program memory: the words that are not 0 (R48, R49). -/
  dmem : SMap W24
  pmem : SMap W32
  /-- Program and data addresses whose word carries a single-bit or a double-bit error (R51). -/
  pErr1 : List Nat
  pErr2 : List Nat
  dErr1 : List Nat
  dErr2 : List Nat
  /-- The registers in which a parity error stands; a write of the register ends it (R73). -/
  parity : List PReg
  /-- Bits [31:24] and the byte offset of the window register whose lower word was loaded last (R50). -/
  winLatch : Option (Nat × Byte)
  /-- The held store to the lower word of a window register (R50). -/
  winHeld : Option (Nat × W24)
  /-- What a blocked instruction waits for. -/
  blocked : Blocked
  /-- Times of the double faults of the last 60 s, in microseconds of `now` (R85). -/
  faults : List Nat
  /-- STOPPED for good: TE0 does not reload it (R83, R85, R89, R188, R189, R335); a supervisor reset, for the engines it
  reloads, or a full reset ends it. -/
  final : Bool
  /-- It has run since the last full reset, or since its supply came on (R82, R513). -/
  ran : Bool
  /-- Load-port mismatches of the load in progress (R83). -/
  loadTries : Nat
  /-- The image this load wrote matched its header (R83). -/
  loadOk : Bool
  /-- The CRC-32 the load port formed of it (R83). -/
  loadCrc : Nat
  /-- The state check value kept in hardware, as its difference from that of a wiped data memory (R185). -/
  chk : Nat
  deriving DecidableEq, Repr

/-- R43: an engine at the start of its program. -/
def Eng.start : Eng where
  g := Vector.replicate 16 0
  acc := Vector.replicate 2 0
  x := Vector.replicate 8 0
  p := Vector.replicate 4 false
  pc := 0
  rstack := []
  mode := 0
  status := 0
  emode := 0
  estatus := 0
  epc := 0
  ecode := 0
  vbase := 0
  evTmr := 0
  evHw := false
  evBell := false
  qwlim := 0
  cyc := 0
  cych := 0
  eccCnt := 0
  bwsel := 0
  tmr := Vector.replicate 4 0
  tmrLeft := Vector.replicate 4 0
  evq := Vector.replicate 16 0
  dmem := []
  pmem := []
  pErr1 := []
  pErr2 := []
  dErr1 := []
  dErr2 := []
  parity := []
  winLatch := none
  winHeld := none
  blocked := .no
  faults := []
  final := false
  ran := false
  loadTries := 0
  loadOk := false
  loadCrc := 0
  chk := 0

/-- R43: the engine as its program starts: every register as at reset, its memories, their check bits and what the load
port and the queue manager keep of it (R83, R85, R185) as they stand. -/
def Eng.begun (x : Eng) : Eng :=
  { Eng.start with pmem := x.pmem, dmem := x.dmem, pErr1 := x.pErr1, pErr2 := x.pErr2, dErr1 := x.dErr1, dErr2 := x.dErr2,
                   faults := x.faults, final := x.final, ran := true, loadTries := x.loadTries, loadOk := x.loadOk,
                   loadCrc := x.loadCrc, chk := x.chk }

/-- A queue message (R95) without its sequence number: the type byte, W0 and W1. -/
structure Msg where
  typ : Byte
  w0 : W24
  w1 : W24
  deriving DecidableEq, Repr, Inhabited

/-- One queue: capacity and enable (R91), the sequence numbers of R97, and the messages in the states of R99. -/
structure Queue where
  cap : Nat
  en : Bool
  /-- The number the next entered message receives. -/
  tail : Byte
  /-- The number of the last acknowledged message. -/
  ack : Byte
  /-- Delivered and not yet acknowledged, oldest first, with their numbers. -/
  dlv : List (Byte × Msg)
  /-- Entered and not yet delivered, oldest first. -/
  ent : List (Byte × Msg)
  /-- Staged by an engine (its number), in push order. -/
  stg : List (Nat × Msg)
  /-- Pushed by the fabric or a hardware block while the queue was full: entered in order as room comes (R112). -/
  late : List Msg
  /-- QSTAT.ACKREQ (R104). -/
  ackReq : Bool
  /-- The producers whose last request or unsolicited message was discarded, so that a continuation which follows is
  discarded too (R111): an engine under its staging number, 16 the host. -/
  cut : List Nat
  /-- The numbers of the entries whose pool word carries a single-bit error (R106, R113): corrected, and counted in
  ERR.CORR, when the entry is read (log entry 63). -/
  err1 : List Byte
  deriving DecidableEq, Repr

/-- R106: a queue at reset. -/
def Queue.reset : Queue where
  cap := 0
  en := false
  tail := 0
  ack := 0xFF
  dlv := []
  ent := []
  stg := []
  late := []
  ackReq := false
  cut := []
  err1 := []

/-- A request that TE0 or another owner has taken and whose completion has not yet been entered (R98): the completion
queue toward the host, the request queue of the owner that carries it out, the completion queue it passes on its way
back through TE0, its type and W0, and the completion once it is made; whether its owner has taken it, and whether it is
the one taken last. -/
structure Owed where
  c : Nat
  own : Nat
  via : Option Nat
  t : Nat
  w0 : Nat
  done : Option (List Msg)
  taken : Bool
  last : Bool
  deriving DecidableEq, Repr, Inhabited

end Sys2Proof.Machine
end

