-- ==== Sys2Proof/Machine/Flags.lean ====
section
/-!
DEFINITION. Rounding, fitting and every flag rule of the Treltor engines (R46, R47, R58, R62 to R65).
-/
namespace Sys2Proof.Machine

/-- R62: round an exact result, dropping `k` bits; `rnd` 0 truncates, 1 is convergent, 2 half-up. -/
def roundTo (rnd : Nat) (x : Int) (k : Nat) : Int :=
  let q := x / 2 ^ k
  let d := x % 2 ^ k
  let h : Int := 2 ^ (k - 1)
  if rnd = 0 then q
  else if rnd = 2 then (if h ≤ d then q + 1 else q)
  else if h < d then q + 1 else if d < h then q else q + q % 2

/-- R62, R63: fit an exact result to `w` bits, saturating or wrapping. -/
def fitW (w : Nat) (wrap : Bool) (x : Int) : BitVec w := BitVec.ofInt w (if wrap then x else
  if x < -(2 ^ (w - 1)) then -(2 ^ (w - 1)) else if 2 ^ (w - 1) - 1 < x then 2 ^ (w - 1) - 1 else x)

/-- An exact result lies outside `w` bits. -/
def overflows (w : Nat) (x : Int) : Bool := decide (x < -(2 ^ (w - 1)) ∨ 2 ^ (w - 1) - 1 < x)

/-- STATUS bits: Z 0, N 1, C 2, V 3, SV 4, EXC 5. -/
def Eng.z (e : Eng) : Bool := e.status.getLsbD 0
def Eng.n (e : Eng) : Bool := e.status.getLsbD 1
def Eng.c (e : Eng) : Bool := e.status.getLsbD 2
def Eng.v (e : Eng) : Bool := e.status.getLsbD 3
def Eng.sv (e : Eng) : Bool := e.status.getLsbD 4
def Eng.exc (e : Eng) : Bool := e.status.getLsbD 5

/-- MODE.OVF: true wraps. -/
def Eng.wraps (e : Eng) : Bool := e.mode.getLsbD 2

/-- MODE.RND. -/
def Eng.rnd (e : Eng) : Nat := e.mode.toNat % 4

/-- STATUS put together. -/
def statusOf (z n c v sv exc : Bool) : W24 :=
  BitVec.ofNat 24 (z.toNat + 2 * n.toNat + 4 * c.toNat + 8 * v.toNat + 16 * sv.toNat + 32 * exc.toNat)

/-- Z and N of a result; the other flags are kept (R64). -/
def Eng.setZN (r : W24) (e : Eng) : Eng :=
  { e with status := statusOf (r == 0) r.msb e.c e.v e.sv e.exc }

/-- Z, N, C, V of a result; SV is only ever set (R64). -/
def Eng.setZNCV (r : W24) (c v : Bool) (e : Eng) : Eng :=
  { e with status := statusOf (r == 0) r.msb c v (e.sv || v) e.exc }

/-- Z, N, V of a result; C is kept. -/
def Eng.setZNV (r : W24) (v : Bool) (e : Eng) : Eng := e.setZNCV r e.c v

/-- R65: the chained Z of ADDC and SUBB. -/
def Eng.setChained (r : W24) (c v : Bool) (e : Eng) : Eng :=
  { e with status := statusOf (e.z && r == 0) r.msb c v (e.sv || v) e.exc }

/-- V and SV only (accumulator writes). -/
def Eng.setV (v : Bool) (e : Eng) : Eng :=
  { e with status := statusOf e.z e.n e.c v (e.sv || v) e.exc }

/-- R64: carry out of bit 23. -/
def carryOut (a b : W24) (c : Bool) : Bool := decide (2 ^ 24 ≤ a.toNat + b.toNat + c.toNat)

/-- R64: borrow out of bit 23. -/
def borrowOut (a b : W24) (c : Bool) : Bool := decide (a.toNat < b.toNat + c.toNat)

/-- R58: NORM, counting bits below bit 23 that equal bit 23, from bit 22 down. -/
def normCount (v : W24) : Nat → Nat
  | 0 => 0
  | k + 1 => if v.getLsbD k = v.msb then 1 + normCount v k else 0

end Sys2Proof.Machine
end

