-- ==== Sys2Proof/Config.lean ====
section
/-!
DEFINITION. What one part fixes and the spec does not state: the free values, the cryptographic primitives (named by
the standards the spec cites, without their tables), the coefficient ROM, and the values fused at manufacture.  Every
constant here is opaque: no proof can see a value of it.
-/
namespace Sys2Proof

/-- The free values: the `n`-th value the spec leaves open in a run, of `w` bits (log entry 3). -/
opaque Config.free : (w : Nat) → Nat → BitVec w

/-- SHA-256 (FIPS 180-4) of a byte string, as its 32 bytes read as a big-endian number (log entry 4). -/
opaque Config.sha256 : List Byte → BitVec 256

/-- SHA-384 (FIPS 180-4) of a byte string (log entry 4). -/
opaque Config.sha384 : List Byte → BitVec 384

/-- HMAC-SHA-256 (FIPS 198-1): key and data (log entry 4). -/
opaque Config.hmacSha256 : List Byte → List Byte → BitVec 256

/-- ECDSA signature over P-256 (FIPS 186): private key, digest, random number; r and s, 64 bytes (log entry 4). -/
opaque Config.ecdsaSign256 : List Byte → BitVec 256 → BitVec 256 → BitVec 512

/-- ECDSA check over P-256 or P-384 (FIPS 186): public key, signed bytes, signature (log entry 4). -/
opaque Config.ecdsaVerify256 : List Byte → List Byte → List Byte → Bool

/-- ECDSA check over P-384 with SHA-384 (log entry 4). -/
opaque Config.ecdsaVerify384 : List Byte → List Byte → List Byte → Bool

/-- The public key of a private P-256 key, X then Y (log entry 4). -/
opaque Config.ecPublic256 : List Byte → BitVec 512

/-- AES of one block (FIPS 197): key (128, 192 or 256 bits) and 16-byte block (log entry 4). -/
opaque Config.aesEnc : List Byte → List Byte → BitVec 128

/-- AES-CMAC: key and data (log entry 4). -/
opaque Config.cmac : List Byte → List Byte → BitVec 128

/-- AES key unwrap with padding: wrapping key and wrapped bytes; none where the check fails (log entry 4). -/
opaque Config.kwpUnwrap : List Byte → List Byte → Option (List Byte)

/-- AES key wrap with padding: wrapping key and key bytes (log entry 4). -/
opaque Config.kwpWrap : List Byte → List Byte → List Byte

/-- The NID of an NMK at security level 0, as HomePlug AV specifies (R284; log entry 4). -/
opaque Config.nid : List Byte → BitVec 56

/-- R270: the bytes of a frame are a SLAC MME or CM_SET_KEY, as HomePlug Green PHY numbers them (log entry 4). -/
opaque Config.slacMme : List Byte → Bool

/-- The fused PART revision, IDENT.PARTREV.REV and LDRSTAT.REV (log entry 5). -/
opaque Config.fusedRev : BitVec 16

/-- The fused device identity DEVID, 128 bits (log entry 5). -/
opaque Config.devId : BitVec 128

/-- The fused MAC address (log entry 5). -/
opaque Config.mac : BitVec 48

/-- The coefficients of the half-band stages HB1 to HB4, which the spec does not tabulate: stage, tap (log entry 6). -/
opaque Config.hbCoef : Nat → Nat → BitVec 24

/-- The coefficient ROM: response r, tap t, for the responses whose values the spec does not state (log entry 6). -/
opaque Config.romCoef : Nat → Nat → BitVec 24

/-- R158: the value of ROMCRC that the legal image with this manifest holds; the spec does not lay it out (log entry 6). -/
opaque Config.legalRomCrc : List Byte → BitVec 32

/-- The 256-bit root secret in fuses, the key of R393 (log entry 5). -/
opaque Config.uniqueSecret : BitVec 256

/-- The manufacturer's anchor public key as the vault partition holds it, X then Y (log entry 5). -/
opaque Config.mfrKey : BitVec 768

/-- The SHA-384 digest of that key blown into fuses (R392; log entry 5). -/
opaque Config.mfrDigest : BitVec 384

/-- The card key of a DERIVE key and a UID (R381), whose derivation input the spec does not lay out (log entry 4). -/
opaque Config.cardKey : List Byte → List Byte → List Byte

/-- The vault slot a reader profile of the region 5 image names, none where there is no such profile: the spec does not
lay the profiles out (log entry 8). -/
opaque Config.readerProfile : List Byte → Nat → Option (Fin 32)

/-- PWR.SUPPLY at a time in µs: VSYS and VBAT as measured, mV (R512; log entry 89). -/
opaque Config.supply : Nat → BitVec 32

/-- SDRATE of the last 16 offsets of a slot, in 2^−16 ns with their sync intervals in ns, newest first: the spec does not
say how the frequency is formed from them (R350; log entry 3). -/
opaque Config.sourceRate : List (Int × Nat) → BitVec 32

/-- The settings area a trial image makes of the area in use, in a format (R435; log entry 74). -/
opaque Config.migrated : Nat → List Byte → List Byte

/-- The queue plan in the words of region 2's plan blocks: of a queue its capacity and, of a spare one, producer and
consumer; the spec does not lay a plan out (R82, R93; log entry 75). -/
opaque Config.queuePlan : List Byte → Nat → Nat × Option (Nat × Nat)

end Sys2Proof
end

