-- ==== Sys2Proof/Machine/Crc.lean ====
section
/-!
DEFINITION. Cyclic check values as R414 defines them, and the fixed parameter sets the spec names: the CRC-32 of ROMCRC
(R158), the CRC-8 of R218, the CRC-16 of R464 and the check value of safety frames (R327).
-/
namespace Sys2Proof.Machine

/-- The parameters of a check value (R414). -/
structure CrcParam where
  w : Nat
  poly : Nat
  init : Nat
  refin : Bool
  refout : Bool
  inv : Bool
  deriving DecidableEq, Repr

/-- The low `w` bits of a number in reverse order. -/
def reflectBits : Nat → Nat → Nat
  | 0, _ => 0
  | w + 1, v => (v % 2) * 2 ^ w + reflectBits w (v / 2)

/-- One bit of R414's feed. -/
def crcBit (p : CrcParam) (val : Nat) (b : Bool) : Nat :=
  let top := (val.testBit (p.w - 1)) ^^ b
  let v := (val * 2) % 2 ^ p.w
  if top then v ^^^ p.poly else v

/-- The bits of a byte from bit 7 down to bit 0. -/
def byteBits (b : Nat) : List Bool :=
  [b.testBit 7, b.testBit 6, b.testBit 5, b.testBit 4, b.testBit 3, b.testBit 2, b.testBit 1, b.testBit 0]

/-- R414: feed one byte. -/
def crcFeed (p : CrcParam) (val : Nat) (b : Byte) : Nat :=
  let b := if p.refin then reflectBits 8 b.toNat else b.toNat
  (byteBits b).foldl (crcBit p) val

/-- R414: the result of the running register. -/
def crcResult (p : CrcParam) (val : Nat) : Nat :=
  (if p.refout then reflectBits p.w val else val) ^^^ (if p.inv then 2 ^ p.w - 1 else 0)

/-- The check value over a byte string. -/
def crcOf (p : CrcParam) (bs : List Byte) : Nat := crcResult p (bs.foldl (crcFeed p) p.init)

/-- R158: the CRC-32 of IEEE 802.3, reflected, initial value 0xFFFF_FFFF, final inversion. -/
def romCrcParam : CrcParam := ⟨32, 0x04C11DB7, 0xFFFFFFFF, true, true, true⟩

/-- R218: CRC-8 with polynomial 0x07. -/
def crc8Param : CrcParam := ⟨8, 0x07, 0, false, false, false⟩

/-- R464: CRC-16 of the legal field. -/
def crc16Param : CrcParam := ⟨16, 0x1021, 0xFFFF, false, false, false⟩

/-- R327: the check value of safety frames. -/
def safeCrcParam : CrcParam := ⟨32, 0xF4ACFB13, 0xFFFFFFFF, true, true, true⟩

def crc32 (bs : List Byte) : Nat := crcOf romCrcParam bs

def crc16 (bs : List Byte) : Nat := crcOf crc16Param bs

def safeCrc (bs : List Byte) : Nat := crcOf safeCrcParam bs

def crc8 (bs : List Byte) : Nat := crcOf crc8Param bs

end Sys2Proof.Machine
end

