-- ==== Sys2Proof/Machine/Coef.lean ====
section
/-!
DEFINITION. The coefficient ROM (R123, R126): what the spec fixes of every response and half-band stage (lengths,
zeros, symmetry, the coefficient sums of responses 5 and 6, and responses 14 and 15 whole); the remaining values are
the opaque constants of Config (log entry 6).
-/
namespace Sys2Proof.Machine

/-- R126: the taps of response `r`. -/
def respTaps (r : Nat) : Nat :=
  if r = 10 then 33 else if r = 11 then 65 else if r = 12 then 9 else if r = 13 then 31 else 129

/-- R123: the taps of half-band stage `i`. -/
def hbTaps (i : Nat) : Nat := if i = 1 then 7 else if i = 2 then 11 else if i = 3 then 15 else 31

/-- R123: a half-band coefficient: zero at even distances from the centre, symmetric. -/
def hbTap (i t : Nat) : Int :=
  let c := (hbTaps i - 1) / 2
  let d := if t < c then c - t else t - c
  if hbTaps i ≤ t then 0
  else if d ≠ 0 ∧ d % 2 = 0 then 0
  else (Config.hbCoef i (c - d)).toInt

/-- The ROM value of tap `t` of response `r` up to its centre. -/
def romHalf (r t : Nat) : Int := (Config.romCoef r t).toInt

/-- Twice the sum of the first `n` taps. -/
def romSum2 (r : Nat) : Nat → Int
  | 0 => 0
  | n + 1 => romSum2 r n + 2 * romHalf r n

/-- R126: coefficient `t` of response `r`. -/
def romTap (r t : Nat) : Int :=
  let n := respTaps r
  let c := (n - 1) / 2
  if n ≤ t then 0
  else if r = 15 then 0
  else if r = 14 then (if t = 64 then -(2 ^ 23) else 0)
  else if r = 3 ∨ r = 4 then romHalf r t
  else if r = 7 ∨ r = 8 ∨ r = 9 then
    (if t < c then romHalf r t else if t = c then 0 else -(romHalf r (n - 1 - t)))
  else if r = 5 ∨ r = 6 then
    (if t = c then 2 ^ 23 - romSum2 r c else if t < c then romHalf r t else romHalf r (n - 1 - t))
  else (if t ≤ c then romHalf r t else romHalf r (n - 1 - t))

/-- The sum of a delay line against coefficients from tap `t` on (R124), newest sample first. -/
def firSum (h : Nat → Int) : Nat → List Int → Int
  | _, [] => 0
  | t, x :: xs => h t * x + firSum h (t + 1) xs

/-- R158: the bytes of ROMCRC: both windows in address order, three bytes a coefficient, without the words beyond a
response's length (log entry 81). -/
def romBytes : List Byte :=
  ((List.range 16).flatMap fun r => (List.range (respTaps r)).flatMap fun t => leBytes 3 (toU 24 (romTap r t))) ++
  (([1, 2, 3, 4] : List Nat).flatMap fun i => (List.range (hbTaps i)).flatMap fun t => leBytes 3 (toU 24 (hbTap i t)))

/-- R158: FLT.ROMCRC. -/
def romCrc : Nat := crc32 romBytes

end Sys2Proof.Machine
end

