-- ==== Sys2Proof/Machine/StBar.lean ====
section
/-!
DEFINITION. The state of the Barrow event recorder (R444 to R458, R520) beside its registers.
-/
namespace Sys2Proof.Machine

/-- A log entry of R444 without its SEQ: what is fixed at acceptance. -/
structure LogEntry where
  tsec : Nat
  tns : Nat
  clk : Nat
  cls : Nat
  source : Nat
  held : Bool
  setback : Bool
  legalFull : Bool
  outlet : Nat
  data : List Nat
  snap : List Nat
  deriving DecidableEq, Repr, Inhabited

/-- A class record of R449: EN, NREG, and twelve snapshot addresses. -/
structure ClassRec where
  en : Bool
  nreg : Nat
  addrs : List Nat
  deriving DecidableEq, Repr, Inhabited

/-- A class record as manufactured: off, no snapshot. -/
def ClassRec.reset : ClassRec := ⟨false, 0, List.replicate 12 0⟩

/-- The recorder. -/
structure Bar where
  /-- The legal log, oldest first, with each entry's SEQ (R445). -/
  legal : List (Nat × LogEntry)
  /-- The general log, oldest first, with each entry's SEQ. -/
  general : List (Nat × LogEntry)
  /-- Accepted and not yet written, in order of acceptance (R446). -/
  queued : List LogEntry
  /-- The holding queue of a FREEZE (R453) or of a header rebuild (R520). -/
  held : List LogEntry
  /-- General entries lost during this FREEZE. -/
  lost : Nat
  /-- Both copies of the header fail their check (R520): legal, general. -/
  legalBad : Bool
  generalBad : Bool
  /-- The newest SEQ of each log kept in PD0 (R520). -/
  pd0Legal : Nat
  pd0General : Nat
  /-- The number accepted but not yet written, kept in PD0 (R454). -/
  pd0Unwritten : Nat
  /-- The class table of R449, by class. -/
  classes : SMap ClassRec
  deriving DecidableEq, Repr

/-- The recorder at reset: empty logs (R445). -/
def Bar.reset : Bar where
  legal := []
  general := []
  queued := []
  held := []
  lost := 0
  legalBad := false
  generalBad := false
  pd0Legal := 0
  pd0General := 0
  pd0Unwritten := 0
  classes := []

end Sys2Proof.Machine
end

