-- ==== Sys2Proof/Machine/StBill.lean ====
section
/-!
DEFINITION. The billing state of TE0 (R202 to R243); BIL shows a copy of it.
-/
namespace Sys2Proof.Machine

/-- A billing session (R231 to R234). -/
structure Sess where
  /-- Open; its identity and its kind (R231). -/
  op : Bool
  id : List Byte
  kind : Nat
  /-- CREDST of R235. -/
  st : Nat
  /-- Credit remaining (R232). -/
  remaining : Int
  /-- Emergency credit remaining, and what was granted. -/
  emerg : Int
  grant : Int
  /-- The residue of the currency charge (R232), in units of 10^−9 thousandths. -/
  residue : Nat
  /-- COUNTER of the reading at its begin (R231). -/
  startCnt : Nat
  /-- A SESSION_OPEN that waits for its first applied second: host queue and W0; a SESSION_CLOSE that waits with it. -/
  wait : Option (Nat × Nat)
  closeWait : Option (Nat × Nat)
  /-- Marked POWERFAIL (R228). -/
  pf : Bool
  /-- Ended; its end reading waits for TE15. -/
  ending : Bool
  deriving DecidableEq, Repr, Inhabited

def Sess.none : Sess := ⟨false, List.replicate 16 0, 0, 0, 0, 0, 0, 0, 0, .none, .none, false, false⟩

/-- The registers of one outlet (R205, R215 to R219). -/
structure BOut where
  /-- A+, A−, Q1 to Q4, S, NET of the latest applied summary. -/
  regs : List Nat
  /-- The registers TE0 sent in the last RESTORE (R207). -/
  sent : List Nat
  /-- Tariff registers of import and export (R205). -/
  timp : List Nat
  texp : List Nat
  /-- A+ and A− as the tariff registers were cleared (R206). -/
  baseI : Nat
  baseE : Nat
  /-- The open interval: its number, N, flags, A+ and A− at its start, and the first rate used in it. -/
  ivOpen : Bool
  ivM : Nat
  ivN : Nat
  ivF : Nat
  startI : Nat
  startE : Nat
  ivRate : Option Nat
  /-- MDIMP, MDIMPT, MDEXP, MDEXPT and the four PREV registers. -/
  md : List Nat
  /-- The next record of the profile (R218). -/
  prof : Nat
  /-- The rate of the last applied second, whether it was the default, friendly hours; and the rate in effect at HW. -/
  rate : Nat
  dflt : Bool
  friendly : Bool
  hwRate : Nat
  hwFriendly : Bool
  /-- The flags of the last applied summary, and its last frame index since the start. -/
  last : Nat
  seen : Option Nat
  /-- The session (R231). -/
  sess : Sess
  /-- A save gap since the outlet's last reading. -/
  gap : Bool
  deriving DecidableEq, Repr, Inhabited

def BOut.reset : BOut where
  regs := List.replicate 8 0
  sent := List.replicate 8 0
  timp := List.replicate 8 0
  texp := List.replicate 8 0
  baseI := 0
  baseE := 0
  ivOpen := false
  ivM := 0
  ivN := 0
  ivF := 0
  startI := 0
  startE := 0
  ivRate := none
  md := List.replicate 8 0
  prof := 0
  rate := 0
  dflt := false
  friendly := false
  hwRate := 0
  hwFriendly := false
  last := 0
  seen := none
  sess := Sess.none
  gap := false

/-- An accepted CLOCK_AUTH that waits for the next applied second: host queue, W0, W1 and the new LEGALADJ (mode 1). -/
structure ClkWait where
  n : Nat
  w0 : Nat
  adj : Option Int
  deriving DecidableEq, Repr, Inhabited

/-- The billing of the part. -/
structure Bill where
  outs : Vector BOut 8
  /-- Legal second of the last applied second, and its local second. -/
  t : Nat
  lsec : Nat
  /-- A second has been applied since the calendar first became active, and HW (R223). -/
  hwOn : Bool
  hw : Nat
  /-- A setback stands (R223). -/
  setback : Bool
  /-- The open setback was opened by a mode-1 CLOCK_AUTH (R224). -/
  byAuth : Bool
  /-- The open setback has already been reported (R224). -/
  reported : Bool
  /-- SETINV: legal time is invalid (R224). -/
  invalid : Bool
  /-- The clock status of the last applied second (R179). -/
  clk : Nat
  /-- A mode-1 CLOCK_AUTH has just taken effect (R224). -/
  authNow : Bool
  /-- The frame index of each pair that the last save records (R207), and that of the last applied summary. -/
  lastFrame : List (Option Nat)
  newFrame : List (Option Nat)
  /-- MD_RESETs that wait for their instant: host queue and W0 (R217). -/
  mdWait : List (Nat × Nat)
  /-- CLOCK_AUTHs that wait for the next applied second (R224, R239). -/
  clkWait : List ClkWait
  /-- A billing date waits for the end of a setback (R243). -/
  dateWait : Bool
  /-- The legal instant of the last bundle (R221). -/
  lastBundle : Nat
  /-- The last billing date carried out, or left to wait. -/
  lastDate : Nat
  /-- A power-fail slot has been written: no further summary (R228). -/
  closed : Bool
  /-- No second has been applied since the last restart. -/
  first : Bool
  /-- BILLING_RESTART has taken the state of the newest slot since the full reset, and has resumed billing since the
  start (R229). -/
  loaded : Bool
  resumed : Bool
  /-- A summary of each pair has been applied since the start (R432). -/
  live : List Bool
  /-- The last second is applied, in part or whole; its save or bundle is still to be written (R208, R517). -/
  unsaved : Bool
  /-- Closures made after a power-fail warning wait for the slot of KIND 3 (R221, R517). -/
  kind3 : Bool
  /-- Outlets whose billing-date reading waits for TE15; and the READ_SIGNED requests that wait for it: host queue and
  W0 (R240). -/
  dateDue : List Nat
  rdWait : List (Nat × Nat)
  /-- COUNTER and SEQ of the reading counter record (R237). -/
  counter : Nat
  cntSeq : Nat
  deriving DecidableEq, Repr

def Bill.reset : Bill where
  outs := Vector.replicate 8 BOut.reset
  t := 0
  lsec := 0
  hwOn := false
  hw := 0
  setback := false
  byAuth := false
  reported := false
  invalid := false
  clk := 0
  authNow := false
  lastFrame := [none, none]
  newFrame := [none, none]
  mdWait := []
  clkWait := []
  dateWait := false
  lastBundle := 0
  lastDate := 0
  closed := false
  first := true
  loaded := false
  resumed := false
  live := [false, false]
  unsaved := false
  kind3 := false
  dateDue := []
  rdWait := []
  counter := 0
  cntSeq := 0

end Sys2Proof.Machine
end

