-- ==== Sys2Proof/Machine/StOut.lean ====
section
/-!
DEFINITION. The state of an outlet engine's function (R244 to R269) beside its registers.
-/
namespace Sys2Proof.Machine

/-- A ramp-down (R259) or an immediate open (R260) in progress: the state it ends in, its reason, whether it is an
immediate open, whether the open has been asked for, and whether the 3 s limit was reached. -/
structure Ramp where
  target : Nat
  reason : Nat
  imm : Bool
  opening : Bool
  forced : Bool
  deriving DecidableEq, Repr, Inhabited

/-- A request that waits for its completion: host queue and W0. -/
structure Waiting where
  n : Nat
  w0 : Nat
  deriving DecidableEq, Repr, Inhabited

/-- One outlet. -/
structure OutSt where
  /-- The host's limit of R265, in 0.1 A. -/
  hostLim : Nat
  /-- SLAC (R255): 0 not decided since CONNECTED, 1 matched, 2 failed. -/
  slac : Nat
  /-- The pilot changes from B to C since it left A, for CM_VALIDATE (R281). -/
  toggles : Nat
  /-- The SLAC MME or CM_SET_KEY the engine took last; it discards every other (R270). -/
  mme : List Byte
  /-- The session runs as a basic session after a failed SLAC with HLC = 1 (R255). -/
  basic : Bool
  /-- Generator mode and duty from the next period on (R244). -/
  tMode : Nat
  tDuty : Nat
  /-- The ramp-down in progress (R259). -/
  ramp : Option Ramp
  /-- A suspend by OUT_STOP stands (R252). -/
  susp : Bool
  /-- The close in progress is not point-on-wave although POW.EN is 1 (R257). -/
  nopow : Bool
  /-- A brown-out or over-temperature restart has cut the outlet off: the reason that its engine reports (R263). -/
  cut : Option Nat
  /-- A K_CLOSE is out (R257). -/
  closing : Bool
  /-- LIVE messages in a row over the limit of R256, and below −100 W (R255). -/
  nOver : Nat
  nExp : Nat
  /-- OUT_SERVICE in its pilot check (R253), or waiting for a ramp-down (FORCE). -/
  check : Option Waiting
  leave : Option Waiting
  /-- OUT_AUTHORISE, OUT_LIMIT, OUT_STOP and OUT_ENERGISE in progress (R252, R265, R266). -/
  auth : Option Waiting
  limit : Option Waiting
  stop : Option (Waiting × Nat)
  energise : Option Waiting
  deriving DecidableEq, Repr

def OutSt.reset : OutSt where
  hostLim := 800
  slac := 0
  toggles := 0
  mme := []
  basic := false
  tMode := 2
  tDuty := 0
  ramp := none
  cut := none
  susp := false
  nopow := false
  closing := false
  nOver := 0
  nExp := 0
  check := none
  leave := none
  auth := none
  limit := none
  stop := none
  energise := none

end Sys2Proof.Machine
end

