-- ==== Sys2Proof/Machine/StFold.lean ====
section
/-!
DEFINITION. The state of the Fold (R296 to R344) beside its registers.
-/
namespace Sys2Proof.Machine

/-- A K_CLOSE in progress (R312): the fire instant in ns of the local clock, and whether step 1 still waits for the
evaluation of R318 to latch again (R321). -/
structure CloseReq where
  fire : Option Nat
  wait : Bool
  /-- Step 2 has come: both paths have been energised. -/
  fired : Bool
  deriving DecidableEq, Repr, Inhabited

/-- One outlet of the Fold. -/
structure FoldOut where
  /-- 0 OPEN, 1 CLOSING, 2 CLOSED, 3 OPENING, 4 CHECK. -/
  kst : Nat
  /-- The K_CLOSE in progress (R311, R312). -/
  close : Option CloseReq
  /-- A K_OPEN waits for its completion; the open that runs was caused by a trip with this cause. -/
  openReq : Bool
  trip : Option Nat
  /-- The KFB latch (R313). -/
  kfbLatch : Bool
  /-- Residual trips latched (causes 4 to 7 of R340). -/
  rcLatch : List Nat
  /-- An ISO, DOOR or hold deadline of 5 s runs (R310, R325). -/
  deadline : Bool
  /-- The taps of channels 0 to 3, newest frame first: value and status word; none where none was delivered (R299). -/
  tap : List (List (Option (Int × Nat)))
  /-- The PD1 copy of the calibration (R298): gain and offset of the I set of channel 12, bands 0 to 7, then of the V set
  of channel 13; and whether its CRC fails. -/
  cal : List (Nat × Int)
  calBad : Bool
  /-- µs of `now` at which both paths were energised; 1 ms samples in a row that show a drop-out (R313). -/
  onAt : Nat
  dropN : Nat
  /-- Channel 12 (R318): calibrated samples newest first, in units of 2^−53 of RCFS; consecutive samples that are not
  NORMAL; whether a NORMAL one has come since the enable. -/
  ring : List Int
  noNorm : Nat
  seen : Bool
  /-- The exciter is out of range (R322). -/
  excBad : Bool
  /-- Self-test (R321): 0 none, 1 periodic, 2 of the kind a close waits for; it also answers an RC_TEST. -/
  test : Nat
  testRc : Bool
  /-- Samples of channel 12 until the evaluation latches again (R321). -/
  mask : Nat
  /-- A self-test of the kind a close waits for is due; one has passed since the last residual latch (R321, R322). -/
  due : Bool
  passed : Bool
  /-- Channel 13, newest first (R323). -/
  v13 : List Int
  /-- Bridge state 0 to 3 of R323: 0, +, 0, −; U1 and U2 of the last state 0 in V, and consecutive FAULT results. -/
  insSt : Nat
  insZero : Option (Rat × Rat)
  insBad : Nat
  /-- The last result was OK or WARN (R325); what ISTATE shows without the latch of FAULT (R342). -/
  insGood : Bool
  insNow : Nat
  /-- Pilot hold (R262): 0 none, 1 held, 2 ramp-down, 3 opening after it, 4 ended by it or by an open under
  R260. -/
  hold : Nat
  /-- The held ramp-down reached its 3 s limit (R259, R262). -/
  forced : Bool
  /-- DC power of PSTAGE_SET (R337): 0 full, 1 limit, 2 stop; the limit in A; the hold's limit stands. -/
  pst : Nat
  plim : Nat
  pstWait : Bool
  /-- The ENABLE bit of PSTAGE_OUT. -/
  enable : Bool
  deriving DecidableEq, Repr

def FoldOut.reset : FoldOut where
  kst := 0
  close := none
  openReq := false
  trip := none
  kfbLatch := false
  rcLatch := []
  deadline := false
  tap := []
  cal := List.replicate 16 (0x400000, 0)
  calBad := false
  onAt := 0
  dropN := 0
  ring := []
  noNorm := 0
  seen := false
  excBad := false
  test := 0
  testRc := false
  mask := 0
  due := false
  passed := false
  v13 := []
  insSt := 0
  insZero := none
  insBad := 0
  insGood := false
  insNow := 0
  hold := 0
  forced := false
  pst := 2
  plim := 0
  pstWait := false
  enable := false

/-- A safety connection (R326 to R331). -/
structure Conn where
  /-- Next SEQ to send, or the last accepted; the next frame sent is a START frame. -/
  seq : Nat
  start : Bool
  /-- The payload last accepted or sent. -/
  pay : List Byte
  /-- µs of `now` of the check-value failures of the last 10 s (R330). -/
  crcAt : List Nat
  deriving DecidableEq, Repr, Inhabited

def Conn.reset : Conn := ⟨0, true, [], []⟩

/-- The clearing of a latched stop or door (R309): 0 not begun, 1 both channels have read open, 2 both have closed
since, and since when (µs of `now`). -/
structure Clearing where
  step : Nat
  at_ : Nat
  deriving DecidableEq, Repr, Inhabited

/-- A FOLD_STANDBY, RC_TEST or commit that waits: from TE0 or the host, and W0; for RC_TEST the mask asked, the mask
still running and the mask passed. -/
structure FoldWait where
  te0 : Bool
  w0 : Nat
  deriving DecidableEq, Repr, Inhabited

/-- The Fold. -/
structure Fold where
  outs : Vector FoldOut 8
  conns : Vector Conn 16
  /-- The committed record, the staged record; empty for none. -/
  record : List Byte
  staged : List Byte
  /-- The committed record failed its check at the start (R339). -/
  recBad : Bool
  /-- The password's salt and hash (R303); empty salt for none. -/
  salt : List Byte
  hash : List Byte
  /-- The count of failed passwords (R303). -/
  fails : Nat
  /-- A running lock: its length in s and the µs of `now` it began. -/
  lock : Option (Nat × Nat)
  /-- Latched: emergency stop, its discrepancy, door trip, its discrepancy. -/
  estop : Bool
  estopDisc : Bool
  door : Bool
  doorDisc : Bool
  /-- The four-step clearing of the emergency stop and of the door, as far as it has come (R309). -/
  eClear : Clearing
  dClear : Clearing
  /-- A commit waits until every outlet is OPEN (R305), with its record. -/
  commit : Option FoldWait
  commitRec : List Byte
  /-- The FOLD_STANDBY in progress, and whether it reloads (R336). -/
  standby : Option (FoldWait × Bool)
  /-- The RC_TESTs in progress: who asked, the outlet, and what is awaited (R321, R339). -/
  rcReq : List (FoldWait × Nat × Nat × Nat)
  /-- The requests of Q88 taken and not answered yet, in order: outlet, type, and W1 of its completion once made (R98). -/
  kq : List (Nat × Nat × Option Nat)
  /-- R298: the ports of the time, the temperature and the power-fail latch have failed. -/
  timeBad : Bool
  tempBad : Bool
  pfBad : Bool
  /-- A level of ESTOP_A, ESTOP_B, DOOR_A and DOOR_B has been accepted since the reset (R307). -/
  levels : List Bool
  /-- The last tapped frame of S0 to S3 (R299). -/
  supTap : List (Option (Int × Nat))
  /-- µs of `now` of the Fold pair faults of the last 60 s (R335). -/
  faults : List Nat
  /-- The PD1 window is kept (R297). -/
  pd1 : Bool
  /-- Crossings of S0 to S2 (R257), newest first: local-clock time of the report and tz, in 2^−16 ns; and the stamp of
  the last frame. -/
  cross : List (List (Nat × Int))
  lastC : Nat
  deriving DecidableEq, Repr

def Fold.reset : Fold where
  outs := Vector.replicate 8 FoldOut.reset
  conns := Vector.replicate 16 Conn.reset
  record := []
  staged := []
  recBad := false
  salt := []
  hash := []
  fails := 0
  lock := none
  estop := false
  estopDisc := false
  door := false
  doorDisc := false
  eClear := ⟨0, 0⟩
  dClear := ⟨0, 0⟩
  commit := none
  commitRec := []
  standby := none
  rcReq := []
  kq := []
  timeBad := false
  tempBad := false
  pfBad := false
  levels := [false, false, false, false]
  supTap := []
  faults := []
  pd1 := true
  cross := [[], [], []]
  lastC := 0

end Sys2Proof.Machine
end

