-- ==== Sys2Proof/Machine/StLcd.lean ====
section
/-!
DEFINITION. The state of the legal display (R459 to R467) and of the load switches (R469 to R479) beside their
registers.
-/
namespace Sys2Proof.Machine

/-- What a metering member keeps of one summary for the display check (R465). -/
structure Shown where
  outlet : Nat
  sec : Nat
  imp : Nat
  exp : Nat
  flags : Nat
  deriving DecidableEq, Repr

/-- The display.  FRONT stands in its registers, the free field of BACK in FREELO and FREEHI. -/
structure Lcd where
  /-- The legal field of BACK: one 24-bit row per common. -/
  back : List Nat
  /-- The picture in BACK: page, outlet and the summary second used. -/
  page : Nat
  outlet : Nat
  sec : Nat
  /-- A page has been built since the last full reset. -/
  built : Bool
  /-- The tag in TAG waits for EXP or for the next frame start. -/
  tagged : Bool
  /-- The CRC of EXP, bearing the tag in TAG. -/
  exp : Option Nat
  /-- A legal page is due since this time (µs of `now`), and the last swap. -/
  dueAt : Option Nat
  swapAt : Nat
  /-- The last eight summaries of each outlet, newest first. -/
  sums : List Shown
  deriving DecidableEq, Repr

def Lcd.reset : Lcd where
  back := [0, 0, 0, 0]
  page := 0
  outlet := 0
  sec := 0
  built := false
  tagged := false
  exp := none
  dueAt := none
  swapAt := 0
  sums := []

/-- One load-switch channel. -/
structure LsChan where
  /-- Times of the automatic switch-ons of the last 60 s, in µs of `now`. -/
  retries : List Nat
  /-- A retry is to come; its second has passed while shedding ran. -/
  due : Bool
  ready : Bool
  testing : Bool
  deriving DecidableEq, Repr, Inhabited

def LsChan.reset : LsChan := ⟨[], false, false, false⟩

/-- The load switches. -/
structure Lsw where
  ch : Vector LsChan 16
  /-- LS_EVENTs that wait for TE0, oldest first (R479): W0 and W1. -/
  wait : List (Nat × Nat)
  deriving DecidableEq, Repr

def Lsw.reset : Lsw := ⟨Vector.replicate 16 LsChan.reset, []⟩

end Sys2Proof.Machine
end

