-- ==== Sys2Proof/Machine/StMeter.lean ====
section
/-!
DEFINITION. The state of the energy computation of one outlet (R164 to R180, R516) beside its registers.
-/
namespace Sys2Proof.Machine

/-- What substitution keeps of one sample stream (R170): the values x̂ newest first, the length of the last complete
cycle of NORMAL samples (0 where there is none), the cycle under way, and the last NORMAL samples of a DC channel. -/
structure Hist where
  vals : List Int
  cycLen : Nat
  curN : Nat
  curOk : Bool
  normals : List Int
  deriving DecidableEq, Repr, Inhabited

def Hist.reset : Hist := ⟨[], 0, 0, false, []⟩

/-- A closed second whose SUMMARY is not sent yet (R178). -/
structure Summ where
  sec : Nat
  flags : Nat
  regs : List Nat
  first : Nat
  last : Nat
  sumP : Nat
  deriving DecidableEq, Repr, Inhabited

/-- The sums of a 100 ms interval (R177): per phase Σv²P, Σi²P (neutral last), Σp'P, Σq'P; ΣP; the sums of u and i on DC;
the frames counted and the last index. -/
structure LiveSum where
  sv : List Nat
  si : List Nat
  p : List Int
  q : List Int
  sumP : Nat
  u : Int
  i : Int
  n : Nat
  last : Nat
  deriving DecidableEq, Repr, Inhabited

def LiveSum.reset : LiveSum := ⟨[0, 0, 0, 0], [0, 0, 0, 0], [0, 0, 0], [0, 0, 0], 0, 0, 0, 0, 0⟩

/-- The energy computation of one outlet. -/
structure Meter where
  /-- RESTORE has been taken since the pair started (R516). -/
  restored : Bool
  /-- The first complete FRAME after RESTORE has been popped. -/
  billing : Bool
  /-- A+, A−, Q1 to Q4, S, NET: 96 bits each (R176). -/
  regs : List Nat
  /-- What substitution keeps of v, v90 and i of each channel (R170). -/
  hv : List Hist
  h90 : List Hist
  hi : List Hist
  /-- Residues of v, v90 and i of each channel (R165), in units of 2^−53. -/
  rv : List Nat
  r90 : List Nat
  ri : List Nat
  /-- Residues of the energy narrowing (R172 to R174): active (the three phases of ABSOLUTE, then SIGNED), reactive,
  apparent. -/
  resA : List Nat
  resQ : Nat
  resS : Nat
  /-- Buckets (R172, R173). -/
  b : List Int
  bq : Int
  /-- Sums since the last commit (R174, R175). -/
  sv : List Nat
  si : List Nat
  sumP : Nat
  cnt : Nat
  /-- Phases left out by the no-load test (R175). -/
  noload : List Bool
  /-- The last 80 currents of a DC outlet (R175). -/
  dcI : List Int
  /-- The commit detector (R171). -/
  armed : Bool
  prevX : Int
  zct : List Nat
  /-- The last stamp, in 2^−16 ns, and the last frame index. -/
  lastC : Nat
  lastN : Nat
  /-- The second under way: number, flags, first index, ΣP; and the flags of what takes effect with the next frame. -/
  sec : Option Nat
  flags : Nat
  next : Nat
  first : Nat
  secP : Nat
  /-- Summaries of seconds that have closed and wait for SUMMARY (R178). -/
  due : List Summ
  /-- The last second closed; at the RESTORE, the one before it (R178). -/
  lastSec : Option Nat
  /-- The type came from a CAL_APPLY since the pair started, so that its RESTORE is not among the first requests (R516). -/
  typed : Bool
  /-- The 100 ms interval under way and the last closed one. -/
  lvI : Nat
  lv : LiveSum
  lvDone : LiveSum
  /-- START and GAP stand in the next summaries (R179, R188). -/
  startF : Bool
  gapF : Bool
  /-- The first temperature reading since the pair started has come (R167). -/
  bandInit : Bool
  /-- The 100 ms interval of the band decision; a commit at a crossing has come since (R168). -/
  bandAt : Nat
  commitSince : Bool
  /-- A CAL_APPLY accepted and not yet in effect: host queue and W0 (R195). -/
  cal : Option (Nat × Nat)
  /-- A pair fault opened a gap at this time, in µs of `now` (R188). -/
  gapAt : Option Nat
  /-- µWh of import and export in the last summary's second (R188). -/
  lastInc : Nat × Nat
  /-- A+ and A− of the last summary. -/
  lastReg : Nat × Nat
  deriving DecidableEq, Repr

def Meter.reset : Meter where
  restored := false
  billing := false
  regs := [0, 0, 0, 0, 0, 0, 0, 0]
  hv := [Hist.reset, Hist.reset, Hist.reset]
  h90 := [Hist.reset, Hist.reset, Hist.reset]
  hi := [Hist.reset, Hist.reset, Hist.reset, Hist.reset]
  rv := [0, 0, 0]
  r90 := [0, 0, 0]
  ri := [0, 0, 0, 0]
  resA := [0, 0, 0, 0]
  resQ := 0
  resS := 0
  b := [0, 0, 0]
  bq := 0
  sv := [0, 0, 0]
  si := [0, 0, 0]
  sumP := 0
  cnt := 0
  noload := [false, false, false]
  dcI := []
  armed := false
  prevX := 0
  zct := []
  lastC := 0
  lastN := 0
  sec := none
  flags := 0
  next := 0
  first := 0
  secP := 0
  due := []
  lastSec := none
  typed := false
  lvI := 0
  lv := LiveSum.reset
  lvDone := LiveSum.reset
  startF := true
  gapF := false
  bandInit := false
  bandAt := 0
  commitSince := false
  cal := none
  gapAt := none
  lastInc := (0, 0)
  lastReg := (0, 0)

/-- The supply side (R177, R166): band in effect, the 100 ms sums of S0 to S3, the crossings of S0, and what substitution
keeps of each stream (R170). -/
structure Supply where
  /-- The temperature band in effect, and the rest of the supply side (R166, R177). -/
  band : Nat
  pend : Option (Nat × Nat)
  lvI : Nat
  sv : List Nat
  sumP : Nat
  done : List Nat × Nat
  armed : Bool
  prevX : Int
  zct : List Nat
  lastC : Nat
  rv : List Nat
  hv : List Hist
  cal : Option (Nat × Nat)
  deriving DecidableEq, Repr

def Supply.reset : Supply :=
  ⟨0, none, 0, [0, 0, 0, 0], 0, ([0, 0, 0, 0], 0), false, 0, [], 0, [0, 0, 0, 0],
    [Hist.reset, Hist.reset, Hist.reset, Hist.reset], none⟩

/-- The metering pairs beside their engines (R185 to R190): requests to a standby member, times of pair faults, the
saved state of a member's rejoin. -/
structure PairSt where
  /-- PAIR_STANDBY in progress: host queue, W0, reload. -/
  req : Option (Nat × Nat × Bool)
  /-- Times (µs of `now`) of the pair faults of the last 60 s. -/
  faults : List Nat
  /-- The rejoining member has copied the data memory (step 3 of R189). -/
  swept : Bool
  /-- State checks that did not match at the rejoin. -/
  mismatches : Nat
  /-- The standby's own staged pushes since the last acknowledgement point, each with its queue (R94, R186, R187). -/
  alt : List (Nat × Msg)
  /-- The stores of the active member and of the standby through the block window since the last acknowledgement point
  (R50, R186). -/
  stA : List (Nat × Nat)
  stB : List (Nat × Nat)
  deriving DecidableEq, Repr

/-- Nothing is left to compare: an acknowledgement point has passed, or one member is left (R186). -/
def PairSt.agreed (p : PairSt) : PairSt := { p with alt := [], stA := [], stB := [] }

def PairSt.reset : PairSt := ⟨none, [], false, 0, [], [], []⟩

end Sys2Proof.Machine
end

