-- ==== Sys2Proof/Machine/StPlm.lean ====
section
/-!
DEFINITION. The state of the eight powerline modems (R270 to R294) beside their registers.
-/
namespace Sys2Proof.Machine

/-- A frame a modem has taken (R277, R282): its modem, whether it is an MME, W0 of its request, its bytes, and the
status and result once it is finished. -/
structure TxFrame where
  modem : Nat
  mme : Bool
  w0 : Nat
  bytes : List Byte
  done : Option (Nat × Nat)
  /-- R274: it goes out as a broadcast, since the modem is in no AVLN. -/
  bcast : Bool := false
  /-- R289: its attempts without a SACK, and the PBs that SACKs have named. -/
  silent : Nat := 0
  named : Nat := 0
  /-- R291, R294: the status and result it gets at the end of the MPDU on the line, unless it is finished there. -/
  cut : Option (Nat × Nat) := none
  deriving DecidableEq, Repr, Inhabited

/-- An attenuation measurement (R282, R283): W0 of ATTEN_START, the vehicle's address, the sounds expected and
received, and for each group the sum and the number of the values received. -/
structure Atten where
  w0 : Nat
  addr : Nat
  expected : Nat
  count : Nat
  groups : List (Nat × Nat)
  deriving DecidableEq, Repr, Inhabited

/-- One modem. -/
structure Plm where
  /-- The NMK in use and the staged one (R275), and the NEK (R270); empty where there is none. -/
  nmk : List Byte
  staged : List Byte
  nek : List Byte
  /-- A LINK_SET mode 2 that waits for the peer (its W0). -/
  join : Option Nat
  /-- An attenuation measurement that runs (R281, R283). -/
  atten : Option Atten
  /-- PLM_TEST in progress: host queue and W0. -/
  test : Option (Nat × Nat)
  /-- PLM_ENABLE with enable 0 that waits for the end of the MPDU on the line (R291): host queue and W0. -/
  off : Option (Nat × Nat)
  /-- When the peer was heard last, in µs (R275, R288). -/
  heard : Nat
  /-- The PBs that the SACK sent last names (R280, R288). -/
  sack : List Nat
  /-- The data frame and the MME of which PBs have been received are marked (R288). -/
  rxData : Bool
  rxMme : Bool
  /-- Beacon alignment (R285, R286): the number of the crossing with count 0, the next beacon, the instant of the last
  beacon in 2^−16 ns, and the beacon period in effect in 2^−16 ns. -/
  anchor : Int
  next : Nat
  last : Option Int
  period : Option Int
  deriving DecidableEq, Repr

def Plm.reset : Plm where
  nmk := []
  staged := []
  nek := []
  join := none
  atten := none
  test := none
  off := none
  heard := 0
  sack := []
  rxData := false
  rxMme := false
  anchor := 0
  next := 0
  last := none
  period := none

/-- A reference channel (R285): how many crossings it has reported, the instant of the last in 2^−16 ns, and the mean
period found last (R257), in 2^−16 ns. -/
structure PlmRef where
  n : Nat
  tz : Option Int
  t : Option Int
  deriving DecidableEq, Repr, Inhabited

def PlmRef.reset : PlmRef := ⟨0, none, none⟩

/-- The modems: their frames taken and not completed, in order (R279), and the reference channels (R285). -/
structure Modems where
  m : Vector Plm 8
  frames : List TxFrame
  refs : List PlmRef
  deriving DecidableEq, Repr

def Modems.reset : Modems := ⟨Vector.replicate 8 Plm.reset, [], List.replicate 3 PlmRef.reset⟩

end Sys2Proof.Machine
end

