-- ==== Sys2Proof/Machine/StPwr.lean ====
section
/-!
DEFINITION. The state of power, reset and the host port (R481 to R512) beside their registers.
-/
namespace Sys2Proof.Machine

/-- Power, reset and host port. -/
structure Pwr where
  /-- The words the last READ or STATUS shifted out (R504). -/
  out : List W32
  /-- The wipe that runs (R88). -/
  wipe : Option WipeScope
  /-- The cause of the full reset that the next START shows in RSTCAUSE (R489, R512). -/
  cause : Nat
  /-- A failed wipe holds the part in reset (R89, R493). -/
  stuck : Bool
  /-- A full reset has taken the part down and START has not come. -/
  down : Bool
  /-- Domain switches in progress (R488): domain, on or off, host queue, W0. -/
  doms : List (Nat × Bool × Nat × Nat)
  /-- The PWR_CORE in progress: host queue and W0; the mode in force before it. -/
  core : Option (Nat × Nat)
  coreOld : Nat
  /-- The warning latched in PD0 that the next start follows (R430, R495). -/
  pfLatch : Bool
  /-- An over-temperature reset holds the part until every die sensor reads below 140 °C (R490). -/
  held : Bool
  /-- Junction above 135 °C: the transmitters are held off (R34). -/
  hot : Bool
  /-- The last retrigger of the TE0 watchdog, in µs of `now` (R494). -/
  wdtAt : Option Nat
  deriving DecidableEq, Repr

def Pwr.reset : Pwr where
  out := []
  wipe := none
  cause := 0
  stuck := false
  down := true
  held := false
  doms := []
  core := none
  coreOld := 1
  pfLatch := false
  hot := false
  wdtAt := none

end Sys2Proof.Machine
end

