-- ==== Sys2Proof/Machine/StSamp.lean ====
section
/-!
DEFINITION. The state of the sampling and decimation chain beside its registers (R115 to R157): one path per modulator,
the two response slots, the tail halvings, the splice and the detectors of each channel.
-/
namespace Sys2Proof.Machine

/-- A stage that narrows by residue carry (R125): its delay line, newest first, and its residue. -/
structure Fir where
  line : List Int
  res : Nat
  /-- A decimating stage holds one input of the pair it decimates. -/
  odd : Bool
  deriving DecidableEq, Repr, Inhabited

/-- A response slot (R138, R140): its delay line, newest first, and the residues of its response, of the new response
of a cross-fade and of the cross-fade itself (the last in units of 2^−10 of a unit). -/
structure Slot where
  line : List Int
  res : Nat
  resNew : Nat
  xf : Nat
  deriving DecidableEq, Repr, Inhabited

/-- A change accepted and not yet in effect (R139, R142, R155). -/
inductive Change where
  | none
  | resp (r : Nat)
  /-- Response `r` runs at 8 kHz and waits for its SW output at the channel's rate. -/
  | switched (r : Nat)
  | xfade (r v : Nat)
  | rate (k : Nat)
  | comp
  | compOff
  | preset (p : Nat)
  | splice (m : Nat)
  | detect (cfg thr : Nat)
  | enable
  | disable
  /-- A setting that changes nothing: it completes at the next frame. -/
  | nothing
  deriving DecidableEq, Repr, Inhabited

/-- One channel: the path of its modulator and what follows it. -/
structure Chan where
  /-- The five integrators and the five combs (R121), 28 bits each. -/
  ints : List Nat
  combs : List Nat
  /-- Instants since the last CIC output. -/
  cic : Nat
  /-- The half-band stages HB1 to HB4 (R122 to R124). -/
  hb1 : Fir
  hb2 : Fir
  hb3 : Fir
  hb4 : Fir
  /-- The two response slots (R126, R127), and the tail stages (R128). -/
  slotA : Slot
  slotB : Slot
  tails : List Fir
  /-- The extreme code held and for how many instants (R117). -/
  ext : Int
  run : Nat
  /-- Instants left of a loop-filter reset. -/
  rst : Nat
  /-- Overload onsets, resets and replaced codes not yet counted in MODCNT. -/
  nOvl : Nat
  nRst : Nat
  nErr : Nat
  /-- Modulator instants since the enable, the last overloaded or reset instant, the last instant of R136's RECOVER
  and the last injected instant; saturating. -/
  ageStart : Nat
  ageOvl : Nat
  ageRec : Nat
  ageTest : Nat
  /-- Modulator instants since the last output computed with response 14 or 15 (R136); saturating. -/
  ageSelf : Nat
  /-- A stage saturated since the last output (R125), and since the last companion output. -/
  sat : Bool
  /-- A stage saturated in an output that was not delivered since the last one that was (R125). -/
  satAcc : Bool
  /-- A stage saturated since the last companion output (R125). -/
  sat90 : Bool
  /-- The next output is the substitute of a missed deadline (R28, R137). -/
  missed : Bool
  /-- The companion of the next frame is substituted after a missed deadline (R28, R137). -/
  missed90 : Bool
  /-- Instants fed since the last frame. -/
  fed : Nat
  /-- FAST outputs that have completed and not entered a queue yet. -/
  outs : List Int
  /-- The last slot outputs: main, companion, shadow. -/
  main : Int
  comp : Int
  shad : Int
  /-- The injected reference stands on the inputs (R192). -/
  inject : Bool
  /-- The next output carries SW (R139, R141, R142). -/
  sw : Bool
  sw90 : Bool
  /-- Splice (R134): sums, sample count, block count, convergence count, residue of r × l. -/
  shl : Int
  sll : Int
  spk : Nat
  blk : Nat
  conv : Nat
  yres : Nat
  /-- Detectors (R150, R151): samples in the window, sum of squares, extremes, peak event seen, envelope, armed, the
  previous sample, a window that has ended and is not yet reported. -/
  wn : Nat
  sumsq : Nat
  pkmax : Int
  pkmin : Int
  pkSeen : Bool
  env : Nat
  armed : Bool
  prevX : Int
  wfull : Bool
  /-- The last delivered sample and its status word, whether a crossing fell in the last frame, and its fraction, 0 to
  256 (R151). -/
  x : Int
  stat : Nat
  zc : Bool
  zf : Nat
  /-- A sample was delivered in the last frame. -/
  got : Bool
  /-- The pending change, and who asked: host queue, request type, W0. -/
  chg : Change
  chgN : Nat
  chgT : Nat
  chgW : Nat
  /-- An in-service test runs (R191 to R194): host queue and W0 of its request; and the tests of the last 3600 s, as
  (µs of `now`, ms). -/
  testOn : Bool
  /-- Frames of injection left (R191). -/
  testLeft : Nat
  /-- An in-service test runs (R191 to R194): host queue and W0 of its request. -/
  testN : Nat
  testW : Nat
  /-- The tests of the last 3600 s, as (µs of `now`, ms) (R193). -/
  testLog : List (Nat × Nat)
  /-- Σ high × low and Σ low² of the injection's frames (R194). -/
  tHL : Int
  tLL : Int
  /-- Times (µs of `now`) of the misses of the last 10 s (R157). -/
  misses : List Nat
  deriving DecidableEq, Repr, Inhabited

/-- A cleared path (R118). -/
def Fir.clear : Fir := ⟨[], 0, false⟩
def Slot.clear : Slot := ⟨[], 0, 0, 0⟩

/-- A channel at reset: disabled. -/
def Chan.reset : Chan where
  ints := [0, 0, 0, 0, 0]
  combs := [0, 0, 0, 0, 0]
  cic := 0
  hb1 := Fir.clear
  hb2 := Fir.clear
  hb3 := Fir.clear
  hb4 := Fir.clear
  slotA := Slot.clear
  slotB := Slot.clear
  tails := [Fir.clear, Fir.clear, Fir.clear, Fir.clear, Fir.clear, Fir.clear]
  ext := 0
  run := 0
  rst := 0
  nOvl := 0
  nRst := 0
  nErr := 0
  ageStart := 0
  ageOvl := 2 ^ 20
  ageRec := 2 ^ 20
  ageTest := 2 ^ 20
  ageSelf := 2 ^ 20
  sat := false
  satAcc := false
  sat90 := false
  missed := false
  missed90 := false
  fed := 0
  outs := []
  main := 0
  comp := 0
  shad := 0
  inject := false
  sw := false
  sw90 := false
  shl := 0
  sll := 0
  spk := 0
  blk := 0
  conv := 0
  yres := 0
  wn := 0
  sumsq := 0
  pkmax := 0
  pkmin := 0
  pkSeen := false
  env := 0
  armed := false
  prevX := 0
  wfull := false
  x := 0
  stat := 0
  zc := false
  zf := 0
  got := false
  chg := .none
  chgN := 0
  chgT := 0
  chgW := 0
  testOn := false
  testLeft := 0
  testN := 0
  testW := 0
  testLog := []
  tHL := 0
  tLL := 0
  misses := []

/-- The chain: the channels (14 × outlet + channel, S0 to S3 after them), and the frame counting of R143 to R146. -/
structure Samp where
  chans : Vector Chan 126
  /-- The index has started. -/
  started : Bool
  /-- f(n − 1) of R145. -/
  lastF : Nat
  /-- The next frame is the first since PD4 came up. -/
  fresh : Bool
  /-- The local clock was stepped since the last frame. -/
  stepped : Bool
  /-- A pair has read ROMCRC at a start since the last full reset; the register reads its reset value until then (R158). -/
  romRead : Bool
  deriving DecidableEq, Repr

def Samp.reset : Samp where
  chans := Vector.replicate 126 Chan.reset
  started := false
  lastF := 0
  fresh := true
  stepped := false
  romRead := false

end Sys2Proof.Machine
end

