-- ==== Sys2Proof/Machine/StTag.lean ====
section
/-!
DEFINITION. The state of the contactless reader (R375 to R391) beside its registers.
-/
namespace Sys2Proof.Machine

/-- A card of the last polls: its identity, whether the last poll missed it, its failed authentications in this
presentation, and the words of TAG_EVENT. -/
structure Seen where
  uid : List Byte
  typeB : Bool
  sakAtqa : W24
  missed : Bool
  fails : Nat
  deriving DecidableEq, Repr, Inhabited

/-- A journal entry (R384, R385): the card, its expected CNT, the new record, the profile, and whether the shadow is
written (SHADOW) or not (PREPARED). -/
structure Journal where
  uid : List Byte
  typeB : Bool
  cnt : Nat
  record : List Byte
  profile : Nat
  shadow : Bool
  deriving DecidableEq, Repr, Inhabited

/-- What TE0 keeps of a card for credit work: the CNT of its last TAG_CREDIT_READ and the profile used. -/
structure LastRead where
  uid : List Byte
  typeB : Bool
  cnt : Nat
  profile : Nat
  deriving DecidableEq, Repr, Inhabited

/-- A host request that waits: its queue and W0. -/
structure TagWait where
  n : Nat
  w0 : Nat
  deriving DecidableEq, Repr, Inhabited

/-- The reader. -/
structure TagSt where
  seen : List Seen
  /-- The card that is OPEN or SECURED, and the profile of its TAG_AUTH (R380). -/
  card : Option (Card × Nat)
  /-- The rate in use after its activation, coded as TCFG.MAXRATE (R375). -/
  rate : Nat
  /-- The record last read of each card (R383, R384). -/
  reads : List LastRead
  /-- In MRAM (R385). -/
  journal : List Journal
  /-- A TAG_ENABLE and a TAG_TEST in progress (R386, R390). -/
  enableWait : Option TagWait
  testWait : Option TagWait
  /-- The reader was enabled (R386). -/
  on : Bool
  /-- The field is off for the 5 ms of a field reset (R377). -/
  fieldReset : Bool
  deriving DecidableEq, Repr

def TagSt.reset : TagSt where
  seen := []
  card := none
  rate := 0
  reads := []
  journal := []
  enableWait := none
  testWait := none
  on := false
  fieldReset := false

end Sys2Proof.Machine
end

