-- ==== Sys2Proof/Machine/StTime.lean ====
section
/-!
DEFINITION. The state of the local clock's servos, the Ethernet ports and the Sward link (R345 to R374) beside their
registers.
-/
namespace Sys2Proof.Machine

/-- A master heard by Announce (R349): source port, grandmaster, rank as the best master clock algorithm orders it (lower is
better), and when it was heard last, in µs. -/
structure Master where
  src : BitVec 64
  gm : BitVec 64
  rank : Nat
  at_ : Nat
  deriving DecidableEq, Repr, Inhabited

/-- A message the PTP engine has sent (R349): port, messageType of IEEE 1588, sourcePortIdentity, sequenceId, and the stamp
that it bears or that is taken of it, in 2^−16 ns. -/
structure PtpTx where
  port : Nat
  typ : Nat
  ident : BitVec 80
  seq : BitVec 16
  stamp : Int
  deriving DecidableEq, Repr, Inhabited

/-- A servo slot (R349 to R352). -/
structure Servo where
  /-- The frequency term ri of R350. -/
  ri : Int
  /-- Consecutive offsets below VALIDLIM, and at VALIDLIM or more (R351). -/
  good : Nat
  bad : Nat
  /-- Since when the slot has been LOCKED without a break, in µs of `now`. -/
  lockedAt : Option Nat
  /-- The masters heard by Announce, and the selected one. -/
  heard : List Master
  master : Option (BitVec 64)
  /-- A two-step Sync that waits for its Follow_Up: source, sequence, ingress stamp less correctionField, sync interval. -/
  wait : Option (BitVec 64 × BitVec 16 × Int × Nat)
  /-- The Syncs whose path delay is not in hand yet (R350), oldest first, and the last Sync: origin time and ingress stamp,
  corrected, and the sync interval. -/
  syncs : List (Int × Int × Nat)
  last : Option (Int × Int)
  /-- The mean path delay to the selected master has been measured. -/
  delayed : Bool
  /-- A Delay_Req that is out and not answered: its sequenceId and egress stamp; the next sequenceId, and the interval of
  Delay_Req that the master announces (logMinDelayReqInterval). -/
  dreq : Option (BitVec 16 × Int)
  dseq : BitVec 16
  dint : Nat
  /-- The last 16 offsets in 2^−16 ns with their sync intervals, newest first (R350). -/
  offs : List (Int × Nat)
  /-- UTCOFS announced with a leap flag: it takes effect at the end of the UTC day (R355). -/
  leap : Option Int
  deriving DecidableEq, Repr, Inhabited

def Servo.reset : Servo where
  ri := 0
  good := 0
  bad := 0
  lockedAt := none
  heard := []
  master := none
  wait := none
  syncs := []
  last := none
  delayed := false
  dreq := none
  dseq := 0
  dint := 0
  offs := []
  leap := none

/-- A frame a sender keeps until it is acknowledged (R364): LSEQ and the eight payload bytes. -/
structure Kept where
  lseq : Nat
  body : List Byte
  deriving DecidableEq, Repr, Inhabited

/-- One direction of one class toward or from one ring position (R364). -/
structure Link where
  /-- Kept frames, oldest first; the next LSEQ to send; the next LSEQ expected. -/
  kept : List Kept
  next : Nat
  expect : Nat
  deriving DecidableEq, Repr, Inhabited

def Link.reset : Link := ⟨[], 0, 0⟩

/-- A frame as it is sent on a lane, oldest first (R363): lane 0, lane 1 or both. -/
structure LaneFrame where
  lane : Nat
  bytes : List Byte
  deriving DecidableEq, Repr, Inhabited

/-- The clock, the ports and the ring. -/
structure Net where
  servos : Vector Servo 2
  /-- Holdover is still within HOLDTIME of the last LOCKED (R353). -/
  holdOk : Bool
  /-- The last 16 values of RATE (R353). -/
  rates : List Int
  /-- PD0: the backup clock in ns, the µs of `now` it was set at, and the last UTCOFS (R347). -/
  bkNs : Nat
  bkAt : Nat
  bkUtc : Int
  /-- Since when the clock is in holdover, in µs of `now`. -/
  holdFrom : Option Nat
  /-- The slot a pending move goes to (R352). -/
  move : Option Nat
  /-- The Pdelay_Req that is out on each port: its sequenceId and egress stamp; the next sequenceId; and that the peer delay
  has been measured (R349). -/
  pdreq : List (Option (BitVec 16 × Int))
  pdseq : BitVec 16
  pdone : List Bool
  /-- The receive and transmit slots of R360. -/
  rx : SMap Byte
  tx : SMap Byte
  /-- Frames held for forwarding out of a port: port, bytes, ingress stamp in 2^−16 ns. -/
  held : List (Nat × List Byte × Nat)
  /-- Residence added by a two-step Sync, for its Follow_Up: ingress port, sequence, correction. -/
  resid : List (Nat × Nat × Int)
  /-- Frames that left the ports, newest first (port, bytes): what an outside observer sees last. -/
  lastTx : List (Nat × List Byte)
  /-- The messages the PTP engine sent last, newest first. -/
  ptpTx : List PtpTx
  /-- EBYP is energised (R361). -/
  ebyp : Bool
  /-- Links toward each position: QMSG, then SAFE. -/
  qlink : List Link
  slink : List Link
  /-- The last frames put on the lanes. -/
  lanes : List LaneFrame
  /-- Clock status and TLEADEN of each position as its last TOPO reported them. -/
  peers : List (Option (Nat × Bool))
  /-- The positions that have left the ring (R368). -/
  gone : List Bool
  /-- The ring position of the message taken last from Q93, for its continuations. -/
  safeDest : Nat
  /-- This module turns traffic back (R367). -/
  wrapped : Bool
  /-- R365, R367: when a TOPO of each position was last heard without WRAP on lane 0 and on lane 1, when one with WRAP was
  heard last, in µs, and that a position has left since the ring broke. -/
  straight : List (Option Nat × Option Nat)
  turnedAt : Option Nat
  split : Bool
  /-- The seconds and UTCOFS of the last TIMEX, and that there has been one. -/
  ringSec : Nat
  ringUtc : Int
  ringKnown : Bool
  deriving DecidableEq, Repr

def Net.reset : Net where
  servos := Vector.replicate 2 Servo.reset
  holdOk := false
  rates := []
  holdFrom := none
  bkNs := 0
  bkAt := 0
  bkUtc := 0
  move := none
  pdreq := [none, none]
  pdseq := 0
  pdone := [false, false]
  rx := []
  tx := []
  held := []
  resid := []
  lastTx := []
  ptpTx := []
  ebyp := false
  qlink := List.replicate 8 Link.reset
  slink := List.replicate 8 Link.reset
  lanes := []
  peers := List.replicate 8 none
  gone := List.replicate 8 false
  safeDest := 0
  wrapped := false
  straight := List.replicate 8 (none, none)
  turnedAt := none
  split := false
  ringSec := 0
  ringUtc := 0
  ringKnown := false

end Sys2Proof.Machine
end

