-- ==== Sys2Proof/Machine/StUpd.lean ====
section
/-!
DEFINITION. The state of the update block and of TE0's update work (R421 to R443) beside its registers.
-/
namespace Sys2Proof.Machine

/-- The update of the part. -/
structure Upd where
  /-- An accepted UPD_ACTIVATE whose restart has not come yet: the mask of regions (R429); TE0 takes no further host
  request. -/
  act : Option Nat
  /-- The host queue of that request, and when it was accepted (R429 step 2). -/
  actQ : Nat
  actAt : Nat
  /-- A fallback of R433 that waits for its restart: the mask of regions. -/
  fbWait : Nat
  /-- Which manifest slot of each region 1 to 5 is in force. -/
  slot : List Nat
  /-- The regions whose verification failed at the last start (R437). -/
  bad : List Bool
  /-- UPD_EVENTs due at the first start after a restart: region, kind, cause (R440). -/
  due : List (Nat × Nat × Nat)
  deriving DecidableEq, Repr

def Upd.reset : Upd where
  act := none
  actQ := 0
  actAt := 0
  fbWait := 0
  slot := [0, 0, 0, 0, 0]
  bad := [false, false, false, false, false]
  due := []

end Sys2Proof.Machine
end

