-- ==== Sys2Proof/Machine/StVault.lean ====
section
/-!
DEFINITION. The state of the Gorse vault (R392 to R413) that no register shows: key material, the keys stored under SK
in the vault partition, the anchors, the tamper seed and the directory.
-/
namespace Sys2Proof.Machine

/-- A temporary slot T0 to T3 (R396); attribute 0 where it is empty. -/
structure TempKey where
  key : List Byte
  attr : Nat
  alg : Nat
  owner : Nat
  deriving DecidableEq, Repr, Inhabited

/-- A loaded key as the vault partition keeps it under SK (R394, R401). -/
structure StoredKey where
  slot : Nat
  key : List Byte
  attr : Nat
  alg : Nat
  owner : Nat
  ver : Nat
  deriving DecidableEq, Repr, Inhabited

/-- The vault. -/
structure Vault where
  /-- The key of each of the 32 slots; empty where the slot holds none. -/
  keys : List (List Byte)
  /-- The full VERSION of each slot (GV.SLOT shows 16 bits of it). -/
  vers : List Nat
  temps : List TempKey
  /-- The public keys of the anchors 0 to 7. -/
  anchors : List (List Byte)
  stored : List StoredKey
  /-- SEED of R393 in PD0; empty once cleared (R405). -/
  seed : List Byte
  /-- One copy of the directory is valid (R401). -/
  dirOk : Bool
  dirSeq : Nat
  /-- The lifecycle change whose wipe runs (R408 step 4): host queue, W0, FROM.  The queue is
8 where a full reset has lost it, and 16 more where a supervisor reset fell in the wipe. -/
  life : Option (Nat × Nat × Nat)
  /-- The source of a tamper event that fell while the supplies were down and is not in the legal log yet (R406). -/
  unlogged : Option Nat
  deriving DecidableEq, Repr

/-- The vault of a part as manufactured: a valid directory, a SEED (log entry 20), no loaded key. -/
def Vault.reset : Vault where
  keys := List.replicate 32 []
  vers := List.replicate 32 0
  temps := List.replicate 4 ⟨[], 0, 0, 0⟩
  anchors := List.replicate 8 []
  stored := []
  seed := List.replicate 32 0
  dirOk := true
  dirSeq := 0
  life := none
  unlogged := none

end Sys2Proof.Machine
end

