-- ==== Sys2Proof/Machine/State.lean ====
section
/-!
DEFINITION. The state of the part as plain data, the two reason types of a stopped step, and the state after reset.
-/
namespace Sys2Proof.Machine

/-- The part has no way to stop: an access to an address that does not exist answers 0 and completes DENIED (R30), and
a faulty block completes FAULT (R14).  No command raises a fault. -/
inductive Fault where
  deriving DecidableEq, Repr

/-- Why a command has no meaning. -/
inductive Refusal where
  /-- Raised by Machine/Dispatch.lean for a row of the table without a meaning yet.  Safe: the run stops. -/
  | notModelled (mnemonic : String)
  deriving DecidableEq, Repr

/-- The whole machine. -/
structure State where
  /-- The commands waiting, first in, first out. -/
  pending : List Instr
  /-- Microseconds since reset. -/
  now : Nat
  /-- How many free values have been drawn (the model's own field, log entry 3). -/
  freeCtr : Nat
  /-- Every register field whose value differs from its reset value (Machine/Regs.lean). -/
  regs : SMap Nat
  /-- The 32 MiB of MRAM (R421). -/
  mram : List Host.Cell
  /-- The sixteen engines (R41). -/
  engs : Vector Eng 16
  /-- The 128 queues (R91). -/
  qs : Vector Queue 128
  /-- Producer and consumer of the spare queues Q120 to Q127 as the queue plan gives them: 0 to 15 an engine, 16 the
  host (R93). -/
  spare : List (Option (Nat × Nat))
  /-- The requests taken and not yet completed, in the order taken (R98). -/
  owed : List Owed
  /-- The local clock, in units of 2^−40 ns (R347). -/
  clock : Nat
  /-- The recorder (R444), the sampling chain (R115), the metering of the outlets and of the supply (R160). -/
  bar : Bar
  samp : Samp
  meters : Vector Meter 8
  supply : Supply
  /-- TE9–TE10, TE11–TE12 and the Fold's TE13–TE14. -/
  pairs : Vector PairSt 3
  /-- The active and the pending tariff calendar (R211, R242); empty where none exists. -/
  calAct : List Byte
  calPend : List Byte
  /-- The vault (R393), billing (R202), firmware update (R423), time and links (R345), the outlet engines (R244), the
  Fold (R296), the modems (R270), the reader (R375), supplies and resets (R483), the display (R459) and the load
  switches (R470). -/
  vault : Vault
  bill : Bill
  upd : Upd
  net : Net
  outs : Vector OutSt 8
  fold : Fold
  plm : Modems
  tag : TagSt
  pwr : Pwr
  lcd : Lcd
  lsw : Lsw
  deriving DecidableEq, Repr

/-- The part right after reset. -/
def State.reset : State where
  pending := []
  now := 0
  freeCtr := 0
  regs := []
  mram := []
  engs := Vector.replicate 16 Eng.start
  qs := Vector.replicate 128 Queue.reset
  spare := List.replicate 8 none
  owed := []
  clock := 0
  bar := Bar.reset
  samp := Samp.reset
  meters := Vector.replicate 8 Meter.reset
  supply := Supply.reset
  pairs := Vector.replicate 3 PairSt.reset
  calAct := []
  calPend := []
  vault := Vault.reset
  bill := Bill.reset
  upd := Upd.reset
  net := Net.reset
  outs := Vector.replicate 8 OutSt.reset
  fold := Fold.reset
  plm := Modems.reset
  tag := TagSt.reset
  pwr := Pwr.reset
  lcd := Lcd.reset
  lsw := Lsw.reset

end Sys2Proof.Machine
end

