-- ==== Sys2Proof/Machine/RegAcc.lean ====
section
/-!
DEFINITION. The one way to a register field, to an engine, to a queue, to MRAM bytes, to a free value and to the
recorder.  Every other file goes through these.
-/
namespace Sys2Proof.Machine

/-- The value of a register field. -/
def rd (f : Fld) (s : State) : Nat := SMap.get f.rst s.regs f.key

/-- Write a register field; the value is cut to the field's width. -/
def wr (f : Fld) (v : Nat) (s : State) : State :=
  { s with regs := SMap.put f.rst s.regs f.key (v % 2 ^ f.wid) }

/-- A one-bit field. -/
def flag (f : Fld) (s : State) : Bool := rd f s == 1

/-- Write a one-bit field. -/
def wrB (f : Fld) (b : Bool) (s : State) : State := wr f (b2n b) s

/-- Add 1 to a saturating counter field. -/
def incSat (f : Fld) (s : State) : State := wr f (satInc f.wid (rd f s)) s

/-- Add `n` to a saturating counter field. -/
def addSat (f : Fld) (n : Nat) (s : State) : State := wr f (min (rd f s + n) (2 ^ f.wid - 1)) s

/-- Add 1 to a counter field that wraps. -/
def incWrap (f : Fld) (s : State) : State := wr f (rd f s + 1) s

/-- Write a list of fields, in order. -/
def wrs (l : List (Fld × Nat)) (s : State) : State := l.foldl (fun s e => wr e.1 e.2 s) s

def getEng (e : Eid) (s : State) : Eng := vget s.engs e

def setEng (e : Eid) (x : Eng) (s : State) : State := { s with engs := vset s.engs e x }

def modEng (e : Eid) (f : Eng → Eng) (s : State) : State := setEng e (f (getEng e s)) s

def getQ (q : Qid) (s : State) : Queue := vget s.qs q

def setQ (q : Qid) (x : Queue) (s : State) : State := { s with qs := vset s.qs q x }

def modQ (q : Qid) (f : Queue → Queue) (s : State) : State := setQ q (f (getQ q s)) s

def modBar (f : Bar → Bar) (s : State) : State := { s with bar := f s.bar }

/-- A byte of MRAM; an unlisted byte reads 0 (log entry 7). -/
def mramRd (s : State) (a : Nat) : Byte := SMap.get 0 s.mram a

def mramRdN (s : State) (a n : Nat) : List Byte := SMap.getN 0 s.mram a n

/-- Write bytes of MRAM from `a` on. -/
def mramWr (a : Nat) (bs : List Byte) (s : State) : State := { s with mram := SMap.putN 0 s.mram a bs }

/-- The next free value, of `w` bits (log entry 3). -/
def freeNow (w : Nat) (s : State) : BitVec w := Config.free w s.freeCtr

/-- Advance to the following free value. -/
def nextFree (s : State) : State := { s with freeCtr := s.freeCtr + 1 }

/-- `n` free bytes. -/
def freeBytes (s : State) : Nat → List Byte
  | 0 => []
  | n + 1 => Config.free 8 (s.freeCtr + n) :: freeBytes s n

/-- Seconds of `now`. -/
def nowSec (s : State) : Nat := s.now / 1000000

/-- Apply a state change when a condition holds. -/
def whenS (c : Bool) (f : State → State) (s : State) : State := if c then f s else s

/-- Apply a state change for each member of a list, in order. -/
def forEach {α : Type} (l : List α) (f : α → State → State) (s : State) : State := l.foldl (fun s a => f a s) s

/-- Every outlet number. -/
def outlets : List Nat := [0, 1, 2, 3, 4, 5, 6, 7]

/-- An outlet number as a number of `Fin 8`; larger numbers are cut. -/
def o8 (n : Nat) : Fin 8 := ⟨n % 8, Nat.mod_lt _ (by decide)⟩

/-- A queue number; larger numbers are cut. -/
def qn (n : Nat) : Qid := ⟨n % 128, Nat.mod_lt _ (by decide)⟩

/-- An engine number; larger numbers are cut. -/
def en (n : Nat) : Eid := ⟨n % 16, Nat.mod_lt _ (by decide)⟩

end Sys2Proof.Machine
end

