-- ==== Sys2Proof/Machine/CheckUnit.lean ====
section
/-!
DEFINITION. The check-value units CK0 to CK3 as they see passing data (R414, R415): feeding bytes, and the snoops of
queue messages, bus accesses and Sward frames.  CKVALLO and CKVALHI hold VAL; the shadow (`Fld.eff`) of CKVALHI and of
CKCNT hold the latches of CKVALHI and CKRESHI.
-/
namespace Sys2Proof.Machine

/-- The parameters a unit's registers give (R414, R420). -/
def ckParam (u : Nat) (s : State) : CrcParam where
  w := rd (R.CHK_CKCFG_WIDTH u) s + 1
  poly := (rd (R.CHK_CKPOLYLO_P u) s + 2 ^ 32 * rd (R.CHK_CKPOLYHI_P u) s) % 2 ^ (rd (R.CHK_CKCFG_WIDTH u) s + 1)
  init := (rd (R.CHK_CKINITLO_I u) s + 2 ^ 32 * rd (R.CHK_CKINITHI_I u) s) % 2 ^ (rd (R.CHK_CKCFG_WIDTH u) s + 1)
  refin := flag (R.CHK_CKCFG_REFIN u) s
  refout := flag (R.CHK_CKCFG_REFOUT u) s
  inv := flag (R.CHK_CKCFG_INV u) s

/-- VAL of a unit. -/
def ckVal (u : Nat) (s : State) : Nat := rd (R.CHK_CKVALLO_V u) s + 2 ^ 32 * rd (R.CHK_CKVALHI_V u) s

/-- R414: the result of a unit. -/
def ckRes (u : Nat) (s : State) : Nat := crcResult (ckParam u s) (ckVal u s)

/-- Set VAL. -/
def ckSetVal (u v : Nat) (s : State) : State :=
  wr (R.CHK_CKVALHI_V u) (v / 2 ^ 32) (wr (R.CHK_CKVALLO_V u) v s)

/-- Feed bytes to a unit and count them in CKCNT. -/
def ckFeed (u : Nat) (bs : List Byte) (s : State) : State :=
  wr (R.CHK_CKCNT_N u) (rd (R.CHK_CKCNT_N u) s + bs.length)
    (ckSetVal u (bs.foldl (crcFeed (ckParam u s)) (ckVal u s)) s)

/-- Is the unit enabled with this source? -/
def ckOn (u src : Nat) (s : State) : Bool :=
  flag (R.CHK_CKCFG_EN u) s && (rd (R.CHK_CKCFG_SRC u) s == src)

/-- R415, SRC 1: a message entered in queue `q` with number `seq`. -/
def ckQueueOne (q : Nat) (seq : Byte) (m : Msg) (s : State) (u : Nat) : State :=
  if ckOn u 1 s && (rd (R.CHK_CKCFG_SEL u) s == q)
      && decide (rd (R.CHK_CKTYPE_TLO u) s ≤ m.typ.toNat) && decide (m.typ.toNat ≤ rd (R.CHK_CKTYPE_THI u) s) then
    let w := leBytes 3 m.w0.toNat ++ leBytes 3 m.w1.toNat
    if rd (R.CHK_CKCFG_MODE u) s == 0 then ckFeed u ([seq, m.typ] ++ w) s
    else if rd (R.CHK_CKCFG_MODE u) s == 1 then ckFeed u w s
    else s
  else s

def ckQueue (q : Nat) (seq : Byte) (m : Msg) (s : State) : State := [0, 1, 2, 3].foldl (ckQueueOne q seq m) s

/-- R415, SRC 2: a completed access that moves `bs` at host address `a`: the bytes inside the window. -/
def ckBusOne (isWrite : Bool) (a : Nat) (bs : List Byte) (s : State) (u : Nat) : State :=
  let md := rd (R.CHK_CKCFG_MODE u) s
  if ckOn u 2 s && (if isWrite then md == 0 || md == 2 else md == 1 || md == 2) then
    let lo := rd (R.CHK_CKWBASE_A u) s
    let hi := lo + rd (R.CHK_CKWLEN_L u) s
    let bs := bs.zipIdx.filter fun e => decide (lo ≤ a + e.2) && decide (a + e.2 < hi)
    ckFeed u (bs.map Prod.fst) s
  else s

def ckSpan (isWrite : Bool) (a : Nat) (bs : List Byte) (s : State) : State := [0, 1, 2, 3].foldl (ckBusOne isWrite a bs) s

/-- An access of the host: 4 bytes. -/
def ckBus (isWrite : Bool) (a v : Nat) (s : State) : State := ckSpan isWrite a (leBytes 4 v) s

/-- R415, R422: TE0 writes MRAM through its path. -/
def te0Wr (off : Nat) (bs : List Byte) (s : State) : State := ckSpan true (0x40000000 + off) bs (mramWr off bs s)

/-- R415, R422: TE0 reads `n` bytes of MRAM through its path; what the units see of it. -/
def te0Rd (off n : Nat) (s : State) : State := ckSpan false (0x40000000 + off) (mramRdN s off n) s

/-- R415, SRC 3: a frame received on a Sward lane with a good check value. -/
def ckLaneOne (lane : Nat) (kind : Nat) (bs : List Byte) (s : State) (u : Nat) : State :=
  if ckOn u 3 s && (rd (R.CHK_CKCFG_MODE u) s == lane)
      && (rd (R.CHK_CKCFG_SEL u) s % 16 == 0 || rd (R.CHK_CKCFG_SEL u) s % 16 == kind) then
    ckFeed u (bs.take 12) s
  else s

def ckLane (lane kind : Nat) (bs : List Byte) (s : State) : State := [0, 1, 2, 3].foldl (ckLaneOne lane kind bs) s

end Sys2Proof.Machine
end

