-- ==== Sys2Proof/Machine/Ops.lean ====
section
/-!
DEFINITION. The queue fabric (R91 to R114): the assignment of queues, entry, delivery and acknowledgement, withdrawal,
and how a request reaches its owner and is completed.
-/
namespace Sys2Proof.Machine

/-- Bits of a message word. -/
def fld (w : W24) (hi lo : Nat) : Nat := bits w.toNat hi lo

/-- A 24-bit word from a number. -/
def w24 (n : Nat) : W24 := BitVec.ofNat 24 n

/-- The statuses of R14. -/
def stOK : Nat := 0
def stWITHDRAWN : Nat := 1
def stBUDGET : Nat := 2
def stBUSY : Nat := 3
def stDENIED : Nat := 4
def stSEALED : Nat := 5
def stSTALE : Nat := 6
def stFAULT : Nat := 7

/-- R16: the status of the first refusal that applies, in the fixed order; OK where none does. -/
def refusal (fault denied sealed busy stale budget : Bool) : Nat :=
  if fault then stFAULT else if denied then stDENIED else if sealed then stSEALED else if busy then stBUSY
  else if stale then stSTALE else if budget then stBUDGET else stOK

/-- Build a message. -/
def mkMsg (t w0 w1 : Nat) : Msg := ⟨BitVec.ofNat 8 t, w24 w0, w24 w1⟩

/-- R95, R96: a continuation. -/
def contMsg (c : Cont) : Msg := ⟨0xC0, c.1, c.2⟩

/-- R277: bytes six to a continuation, W0 first, least significant byte first, zeros after the end. -/
def bytesToConts : Nat → List Byte → List Cont
  | 0, _ => []
  | n + 1, bs => (w24 (leNat (bs.take 3)), w24 (leNat ((bs.drop 3).take 3))) :: bytesToConts n (bs.drop 6)

/-- The bytes of continuations, six each. -/
def contsToBytes (cs : List Cont) : List Byte :=
  cs.flatMap fun c => leBytes 3 c.1.toNat ++ leBytes 3 c.2.toNat

/-- R106: STATE of engine `e`. -/
def engState (e : Nat) (s : State) : Nat := rd (R.QM_ENGSTAT_STATE e) s

def setEngState (e v : Nat) (s : State) : State := wr (R.QM_ENGSTAT_STATE e) v s

/-- An engine that executes: RUNNING or STANDBY (R106). -/
def running (e : Nat) (s : State) : Bool := engState e s == 3 || engState e s == 6

/-- TE0 runs. -/
def te0Up (s : State) : Bool := engState 0 s == 3

/-- The lower engine of the pair that serves outlet `o` (R23). -/
def pairOf (o : Nat) : Nat := if o < 4 then 9 else 11

/-- Some member of the pair with lower engine `lo` is the active member. -/
def pairUp (lo : Nat) (s : State) : Bool := engState lo s == 3 || engState (lo + 1) s == 3

/-- The active member of a pair. -/
def activeOf (lo : Nat) (s : State) : Nat := if engState lo s == 3 then lo else lo + 1

/-- Both members of the pair execute. -/
def pairDuplex (lo : Nat) (s : State) : Bool := running lo s && running (lo + 1) s && pairUp lo s

/-- The lower engine of the pair of an engine TE9 to TE14; the engine itself elsewhere. -/
def pairLow (e : Nat) : Nat := if 9 ≤ e ∧ e ≤ 14 then (if e % 2 = 1 then e else e - 1) else e

def isPaired (e : Nat) : Bool := decide (9 ≤ e ∧ e ≤ 14)

/-- R92, R93: is engine `e` a listed producer of queue `q`? -/
def engProduces (e q : Nat) (s : State) : Bool :=
  if q < 8 then false
  else if q < 24 then e == 0
  else if q < 50 then false
  else if q = 50 ∨ q = 54 then e == 9 || e == 10
  else if q = 51 ∨ q = 55 then e == 11 || e == 12
  else if q < 54 then e == 0
  else if q < 64 then pairLow e == pairOf (q - 56) && isPaired e
  else if q < 72 then e == 0
  else if q < 80 then e == q - 71
  else if q < 88 then e == 13 || e == 14
  else if q = 88 ∨ q = 106 then decide (1 ≤ e ∧ e ≤ 8)
  else if q = 89 ∨ q = 108 ∨ q = 112 ∨ q = 114 then e == 0
  else if q = 90 ∨ q = 92 ∨ q = 93 then e == 13 || e == 14
  else if q = 111 ∨ q = 113 then e == 15
  else if q = 116 then true
  else if q < 120 then false
  else match s.spare[q - 120]? with
    | some (some p) => p.1 == e
    | _ => false

/-- R92, R93: is engine `e` a listed consumer of queue `q`? -/
def engConsumes (e q : Nat) (s : State) : Bool :=
  if q < 8 then e == 0
  else if q < 24 then false
  else if q < 32 then e == 0
  else if q < 40 then pairLow e == pairOf (q - 32) && isPaired e
  else if q < 48 then e == 13 || e == 14
  else if q = 48 ∨ q = 52 then e == 9 || e == 10
  else if q = 49 ∨ q = 53 then e == 11 || e == 12
  else if q < 56 then e == 0
  else if q < 64 then e == q - 55
  else if q < 72 then e == q - 63
  else if q < 80 then e == 0
  else if q < 88 then e == q - 79
  else if q = 88 ∨ q = 89 ∨ q = 91 ∨ q = 94 then e == 13 || e == 14
  else if q = 90 ∨ q = 107 ∨ q = 109 ∨ q = 113 ∨ q = 115 ∨ q = 117 then e == 0
  else if 96 ≤ q ∧ q < 104 then e == q - 95
  else if q = 110 ∨ q = 112 then e == 15
  else if q < 120 then false
  else match s.spare[q - 120]? with
    | some (some p) => p.2 == e
    | _ => false

/-- R92, R93: the host pushes into `q`. -/
def hostProduces (q : Nat) (s : State) : Bool :=
  decide (q < 8) || q == 91 || q == 104 || q == 118 ||
    match s.spare[q - 120]? with
    | some (some p) => decide (120 ≤ q) && p.1 == 16
    | _ => false

/-- R92, R93: the host pops from `q`. -/
def hostConsumes (q : Nat) (s : State) : Bool :=
  decide (8 ≤ q ∧ q < 16) || q == 92 || q == 105 || q == 119 ||
    match s.spare[q - 120]? with
    | some (some p) => decide (120 ≤ q) && p.2 == 16
    | _ => false

/-- R92: the queue that takes the completions of request queue `q`; `o` is the outlet of the request. -/
def complQ (q o : Nat) : Option Nat :=
  if q < 8 then some (q + 8)
  else if 16 ≤ q ∧ q < 24 then some (q + 8)
  else if q = 52 then some 54
  else if q = 53 then some 55
  else if 64 ≤ q ∧ q < 72 then some (q + 8)
  else if q = 88 then some (80 + o % 8)
  else if q = 89 then some 90
  else if q = 91 then some 92
  else if q = 104 then some 105
  else if q = 106 then some (96 + o % 8)
  else if q = 108 then some 109
  else if q = 110 then some 111
  else if q = 112 then some 113
  else if q = 114 then some 115
  else if q = 118 then some 119
  else none

/-- R92: the capacity of the shipped queue plan. -/
def shippedCap (q : Nat) : Nat :=
  if q < 8 then 64 else if q < 32 then 256 else if q < 40 then 512 else if q < 50 then 256
  else if q < 52 then 1024 else if q < 54 then 64 else if q < 56 then 256 else if q < 72 then 64
  else if q < 80 then 128 else if q < 88 then 64 else if q = 88 then 128 else if q = 89 then 64
  else if q = 90 then 128 else if q < 93 then 64 else if q < 95 then 128 else if q = 95 then 0
  else if q < 104 then 128 else if q = 104 then 1024 else if q = 105 then 2048 else if q = 106 then 512
  else if q < 109 then 64 else if q = 109 then 256 else if q < 112 then 64 else if q = 112 then 128
  else if q = 113 then 256 else if q = 114 then 256 else if q = 115 then 64 else if q = 116 then 512
  else if q = 117 then 64 else if q = 118 then 16 else if q = 119 then 512 else 0

/-- R96: the class of a message. -/
def isReq (m : Msg) : Bool := decide (1 ≤ m.typ.toNat ∧ m.typ.toNat ≤ 0x3F)
def isUnsol (m : Msg) : Bool := decide (0x40 ≤ m.typ.toNat ∧ m.typ.toNat ≤ 0x7F)
def isCont (m : Msg) : Bool := m.typ == 0xC0

/-- R102: entries in use. -/
def Queue.used (q : Queue) : Nat := q.ent.length + q.stg.length + q.dlv.length

/-- R102: a full queue. -/
def Queue.full (q : Queue) : Bool := decide (q.cap ≤ q.used)

/-- R97: the number of the next message to be delivered. -/
def Queue.head (q : Queue) : Byte := (q.ent.head?.map Prod.fst).getD q.tail

/-- R97, R99: enter a message. -/
def Queue.enter (m : Msg) (q : Queue) : Queue := { q with ent := q.ent ++ [(q.tail, m)], tail := q.tail + 1 }

/-- R97: enabling a queue restarts or continues the numbering; disabling keeps everything held (R110). -/
def Queue.enable (cap : Nat) (q : Queue) : Queue :=
  if q.used = 0 then { q with en := decide (0 < cap), cap := cap, tail := 0, ack := 0xFF, ackReq := false }
  else { q with en := decide (0 < cap), cap := cap }

/-- Acknowledge everything delivered up to and including the `k`-th delivered message (R99). -/
def Queue.ackN (k : Nat) (q : Queue) : Queue :=
  match (q.dlv.take k).getLast? with
  | some e => { q with dlv := q.dlv.drop k, ack := e.1 }
  | none => q

/-- R104, R113: return every delivered, unacknowledged message to the head, with its number. -/
def Queue.replay (q : Queue) : Queue := { q with ent := q.dlv ++ q.ent, dlv := [] }

/-- Enter in queue `q`, with the snoop of the check-value units (R415). -/
def enterNow (q : Nat) (m : Msg) (s : State) : State :=
  modQ (qn q) (Queue.enter m) (ckQueue q (getQ (qn q) s).tail m s)

/-- Enter waiting messages of the fabric and of hardware producers while there is room (R112). -/
def drainLate (q : Nat) : List Msg → State → State
  | [], s => modQ (qn q) (fun x => { x with late := [] }) s
  | m :: ms, s =>
    if (getQ (qn q) s).full then modQ (qn q) (fun x => { x with late := m :: ms }) s
    else drainLate q ms (enterNow q m s)

/-- Let waiting messages of queue `q` enter. -/
def settle (q : Nat) (s : State) : State := drainLate q (getQ (qn q) s).late s

/-- Enter one message in an enabled queue, or let it wait for room behind those already waiting. -/
def putQ (q : Nat) (m : Msg) (s : State) : State :=
  if !(getQ (qn q) s).en then s
  else if (getQ (qn q) s).late.isEmpty && !(getQ (qn q) s).full then enterNow q m s
  else modQ (qn q) (fun x => { x with late := x.late ++ [m] }) s

/-- R98: a completion made by the fabric; `seq` is none for a request never entered. -/
def fabricCompl (q : Nat) (typ : Nat) (seq : Option Byte) : Msg :=
  mkMsg (typ + 0x80) ((match seq with | some n => n.toNat | none => 2 ^ 15) + q * 2 ^ 8) stWITHDRAWN

/-- The message `m` and its continuations stand at the head of queue `q`. -/
def atHead (q : Nat) (ms : List Msg) (s : State) : Bool :=
  ((getQ (qn q) s).ent.take ms.length).map Prod.snd == ms

/-- R106, R113: the entries `es` of queue `q` are read; a single-bit error in one is corrected and counted. -/
def corrected (q : Nat) (es : List (Byte × Msg)) (s : State) : State :=
  let hit := (es.map Prod.fst).filter (getQ (qn q) s).err1.contains
  if hit.isEmpty then s
  else addSat R.QM_ERR_CORR hit.length
    (modQ (qn q) (fun x => { x with err1 := x.err1.filter fun n => !(hit.contains n) }) s)

/-- Take `k` messages from the head of a queue: delivered and acknowledged (R99). -/
def takeN (q k : Nat) (s : State) : State :=
  let s := corrected q ((getQ (qn q) s).ent.take k) s
  let x := getQ (qn q) s
  let a := match (x.ent.take k).getLast? with
    | some e => if x.dlv.isEmpty then e.1 else x.ack
    | none => x.ack
  settle q (setQ (qn q) { x with ent := x.ent.drop k, ack := a } s)

/-- Nothing waits in queue `q`, and there is room. -/
def clearQ (q : Nat) (s : State) : Bool :=
  (getQ (qn q) s).ent.isEmpty && (getQ (qn q) s).late.isEmpty && !(getQ (qn q) s).full

/-- R103: the messages `ms` can be taken from queue `q` now: they stand at its head, or nothing waits in it. -/
def canTake (q : Nat) (ms : List Msg) (s : State) : Bool := atHead q ms s || clearQ q s

/-- Messages that are entered and taken within one command (log entry 10); where others wait in the queue they leave it
as it is. -/
def passQ (q : Nat) (ms : List Msg) (s : State) : State :=
  if (getQ (qn q) s).en && clearQ q s then takeN q ms.length (forEach ms (enterNow q) s) else s

/-- What waits in queue `q`, in order, and behind it `ms`, which a disabled queue does not take (R110, R111). -/
def waitingMsgs (q : Nat) (ms : List Msg) (s : State) : List Msg :=
  let x := getQ (qn q) s
  x.ent.map Prod.snd ++ x.late ++ (if x.en then ms else [])

/-- The consumer takes what waits in the queue, in order (R103), and then the messages `ms`. -/
def drainQ (q : Nat) (ms : List Msg) (s : State) : State :=
  let x := getQ (qn q) s
  takeN q (waitingMsgs q ms s).length
    (forEach ((waitingMsgs q ms s).drop x.ent.length) (enterNow q) (modQ (qn q) (fun x => { x with late := [] }) s))

/-- A message arrives at its consumer: taken from the head of the queue where it stands there, otherwise it passes
through the queue within this command (log entry 10). -/
def arrive (q : Nat) (ms : List Msg) (s : State) : State :=
  if atHead q ms s then takeN q ms.length s else passQ q ms s

/-! ### Completions in the order the requests were taken (R98) -/

/-- No request is the one taken last. -/
def notLast (l : List Owed) : List Owed := l.map fun x => { x with last := false }

/-- R98: a request is taken: type, W0, the completion queue `c`, and the request queue of its owner. -/
def owe (c own t w0 : Nat) (s : State) : State :=
  { s with owed := notLast s.owed ++ [⟨c, own, none, t, w0, none, true, true⟩] }

/-- The request taken last is forwarded on queue `f`, whose completions come back on `v`; its owner takes it at once or
later. -/
def oweVia (f : Nat) (v : Option Nat) (now : Bool) (s : State) : State :=
  { s with owed := s.owed.modify (s.owed.length - 1) fun x => { x with own := f, via := v, taken := now, last := now } }

/-- A request of Q(n) that has waited at its owner in queue `f` is taken there. -/
def waited (f c t w0 : Nat) (x : Owed) : Bool :=
  x.own == f && x.c == c && x.t == t && x.w0 == w0 && !x.taken && x.done.isNone
def oweTaken (f c t w0 : Nat) (s : State) : State :=
  match s.owed.findIdx? (waited f c t w0) with
  | some k => { s with owed := (notLast s.owed).modify k fun x => { x with taken := true, last := true } }
  | none => s

/-- The completion of a request is made: with `now` of the one taken last, else of the oldest of type `t` with this W0, else
of the oldest of the type; one that was never noted as taken stands behind all others. -/
def markOwed (now : Bool) (c t w0 : Nat) (ms : List Msg) (l : List Owed) : List Owed :=
  let mine (x : Owed) := x.c == c && x.t == t && x.done.isNone
  match ((if now then l.findIdx? (fun x => mine x && x.last) else none).orElse fun _ =>
      l.findIdx? fun x => mine x && x.w0 == w0).orElse fun _ => l.findIdx? mine with
  | some k => l.modify k fun x => { x with done := some ms }
  | none => l ++ [⟨c, 128 + c, none, t, w0, some ms, true, false⟩]

/-- R98: enter the completions that are made and behind no earlier one of the same owner or of the same queue; those
an owner gives to TE0 wait while TE0 does not run. -/
def releaseOwed : List Owed → List Owed → State → State
  | kept, [], s => { s with owed := kept }
  | kept, x :: xs, s =>
    match x.done with
    | none => releaseOwed (kept ++ [x]) xs s
    | some ms =>
      if kept.any (fun y => y.c == x.c || (y.own == x.own && y.done.isNone)) || (x.via.isSome && !(te0Up s)) then
        releaseOwed (kept ++ [x]) xs s
      else
        releaseOwed kept xs (forEach ms (putQ x.c) (match x.via with | some v => passQ v (ms.take 1) s | none => s))

def settleOwed (s : State) : State := releaseOwed [] s.owed s

/-- A completion of request type `t` with its payload words and its continuations; the status stands in W1[7:0]
(R96).  It is entered once no earlier request of its owner or of its queue is left (R98).  With `now` it answers the
request taken last. -/
def completeAs (now : Bool) (q t w0 w1 status : Nat) (cs : List Cont) (s : State) : State :=
  let ms := mkMsg (t + 0x80) w0 (w1 / 256 * 256 + status) :: cs.map contMsg
  settleOwed { s with owed := markOwed now q t w0 ms s.owed }

def completeWith (q t w0 w1 status : Nat) (cs : List Cont) (s : State) : State := completeAs false q t w0 w1 status cs s
def complete (q t w0 w1 status : Nat) (s : State) : State := completeWith q t w0 w1 status [] s

/-- R98, R110, R111: a request of queue `q` completes WITHDRAWN; one that TE0 had forwarded for the host goes back the
way it came. -/
def withdraw (q o typ w0 : Nat) (seq : Option Byte) (s : State) : State :=
  match s.owed.find? fun x => seq.isSome && x.own == q && x.via.isSome && x.t == typ && x.w0 == w0 && x.done.isNone with
  | some x => complete x.c typ w0 0 stWITHDRAWN s
  | none =>
    match complQ q o with
    | some c => putQ c (fabricCompl q typ seq) s
    | none => s

/-- The outlet a request of queue `q` concerns, where its words name one (R282, R337). -/
def msgOutlet (q o : Nat) (m : Msg) : Nat := if q = 88 ∨ q = 106 then fld m.w0 2 0 else o

/-- R111: a push into a disabled queue. -/
def pushDisabled (q o : Nat) (m : Msg) (s : State) : State :=
  if isReq m then withdraw q o m.typ.toNat m.w0.toNat none s
  else if isUnsol m then incSat (R.QM_QWDCNT_COUNT q) s
  else s

/-- R111: a push of a producer, with the fate of a continuation: `enter` is done where the queue takes the message. -/
def pushBy (id q o : Nat) (m : Msg) (enter : State → State) (s : State) : State :=
  let x := getQ (qn q) s
  if isCont m && x.cut.contains id then s
  else if x.en then
    enter (if x.cut.contains id then modQ (qn q) (fun x => { x with cut := x.cut.filter (· != id) }) s else s)
  else pushDisabled q o m (if isCont m || x.cut.contains id then s else modQ (qn q) (fun x => { x with cut := id :: x.cut }) s)

/-- A push by a hardware block, by the host or by a function of an engine: entered at once (R99), or treated as R111
states where the queue is disabled.  `o` is the outlet the message concerns. -/
def pushQ (q o : Nat) (m : Msg) (s : State) : State :=
  if (getQ (qn q) s).en then putQ q m s else pushDisabled q o m s

/-- Push a message and its continuations (R96, R111). -/
def pushAll (q o : Nat) (m : Msg) (cs : List Cont) (s : State) : State :=
  if (getQ (qn q) s).en then forEach (m :: cs.map contMsg) (putQ q) s else pushDisabled q o m s

/-- TE0 takes what waits in `q` and then the messages `ms`, and forwards those that need no completion (R103). -/
def forward (q : Nat) (dest : Msg → Nat) (ms : List Msg) (s : State) : State :=
  forEach ((waitingMsgs q ms s).filter fun m => isUnsol m || isCont m) (fun m s => putQ (dest m) m s) (drainQ q ms s)

/-- R437: recovery mode, and the request types the loader serves in it. -/
def recovery (s : State) : Bool := flag R.UPD_LDRSTAT_MODE s
def loaderServes (t : Nat) : Bool := t == 0x0A || t == 0x0B || t == 0x0D

/-- TE0 runs its billing module (R437); no power-fail slot has been written (R228). -/
def billingOn (s : State) : Bool := te0Up s && !(recovery s) && !(s.upd.bad.getD 2 false) && !s.bill.closed

/-- And it has resumed billing (R229). -/
def billingUp (s : State) : Bool := billingOn s && s.bill.resumed

/-- R26, R34: summaries wait in TE0's queues: before them TE0 takes neither a request nor an event of another kind. -/
def billingWaits (s : State) : Bool :=
  billingOn s && [50, 51].any fun q => match (getQ (qn q) s).ent with
    | e :: _ => e.2.typ == 0x50 || e.2.typ == 0x52
    | [] => false

/-- R103, R457: a producer's messages reach TE0 through queue `q`, and TE0 forwards what needs no completion to the
queue `dest` of each; what waits in `q` goes first.  While TE0 does not run, or billing events wait (R34), they wait in
`q`. -/
def relay (q o : Nat) (dest : Msg → Nat) (m : Msg) (cs : List Cont) (s : State) : State :=
  if te0Up s && !(billingWaits s) && (getQ (qn q) s).en then forward q dest (m :: cs.map contMsg) s
  else pushAll q o m cs s

/-- R34, R84, R103, R457: what has waited for TE0 in the queues toward the host goes on, once no billing event waits, and
the completions that its owners made meanwhile are given back. -/
def te0Resumes (s : State) : State :=
  if !(te0Up s) || billingWaits s then s
  else
    let s := forEach outlets (fun o => forward (72 + o) (fun _ => 8 + o) []) s
    let s := forward 117 (fun _ => 8) [] (forward 109 (fun _ => 8) [] (forward 107 (fun m => 8 + fld m.w0 2 0) [] s))
    settleOwed (drainQ 90 [] s)

/-- The host or an engine pushes messages that must wait; a full queue takes none (R102). -/
def pushWait (q : Nat) (ms : List Msg) (s : State) : State :=
  if (getQ (qn q) s).cap < (getQ (qn q) s).used + ms.length then s else forEach ms (putQ q) s

/-- A request that an engine, a block or the host pushes for the consumer of queue `q`, type `t`, W0 `w0`, outlet `o`:
WITHDRAWN on a disabled queue (R111); taken where the consumer is ready and nothing stands before it (R84, R103); else it
waits in `q`. -/
def takeReq (q o t w0 : Nat) (ms : List Msg) (ready : Bool) (k : State → State) (s : State) : State :=
  if !(getQ (qn q) s).en then withdraw q o t w0 none s
  else if ready && canTake q ms s then
    let s := arrive q ms s
    k (match complQ q o with | some c => owe c q t w0 s | none => s)
  else if atHead q ms s then s
  else pushWait q ms s

/-- The messages of a host request. -/
def reqMsgs (t : Nat) (w0 w1 : W24) (cs : List Cont) : List Msg := ⟨BitVec.ofNat 8 t, w0, w1⟩ :: cs.map contMsg

/-- The request types a chapter gives TE0's queues Q0 to Q7. -/
def hostServes (t : Nat) : Bool :=
  (decide (1 ≤ t ∧ t ≤ 0x0F) && t != 0x0C) || (decide (0x10 ≤ t ∧ t ≤ 0x22) && t != 0x16) || decide (0x30 ≤ t ∧ t ≤ 0x35) ||
    [0x3A, 0x3B, 0x3D, 0x3E, 0x3F].contains t

/-- TE0 takes a message: at the head of Q(n), of a type no chapter serves there. -/
def unserved (m : Msg) : Bool := !(isReq m && hostServes m.typ.toNat)

/-- R16, R196: TE0 takes what no chapter serves from the head of Q(n): it completes a request, such as the host's RESTORE,
DENIED, and discards any other message (log entry 103). -/
def refuseHeads (n : Nat) : List Msg → State → State
  | [], s => s
  | m :: ms, s =>
    if unserved m then
      let s := takeN n 1 s
      refuseHeads n ms (if isReq m then
          completeAs true (8 + n) m.typ.toNat m.w0.toNat 0 stDENIED [] (owe (8 + n) n m.typ.toNat m.w0.toNat s) else s)
    else s

/-- R196: TE0 looks at the head of Q(n), where it takes requests at all. -/
def lookAtHead (n : Nat) (s : State) : State :=
  if te0Up s && s.upd.act.isNone && !(recovery s) && !(billingWaits s) then
    refuseHeads n ((getQ (qn n) s).ent.map Prod.snd) s
  else s

/-- A request of the host on Q(n) reaches TE0 (R92).  On a disabled queue it completes WITHDRAWN (R111).  It waits
behind earlier messages (R103), while TE0 does not run (R38, R84), takes no request under R429 or has summaries to
apply (R26, R34), and while the owner named by `ready` does not run.  In recovery mode every request the loader does
not serve completes FAULT (R437).  Otherwise TE0 takes it and `k` gives its effect. -/
def hostReq (n : Fin 8) (t : Nat) (w0 w1 : W24) (cs : List Cont) (ready : Bool) (k : State → State) (s : State) :
    State :=
  let ms := reqMsgs t w0 w1 cs
  let taken (s : State) := owe (8 + n) n t w0.toNat (arrive n ms s)
  if !(getQ (qn n) s).en then withdraw n 0 t w0.toNat none s
  else
    let s := if canTake n ms s then s else lookAtHead n s
    if !(canTake n ms s) then pushWait n ms s
    else if te0Up s && s.upd.act.isNone && recovery s && !(loaderServes t) then
      completeAs true (8 + n) t w0.toNat 0 stFAULT [] (taken s)
    else if te0Up s && s.upd.act.isNone && !(billingWaits s) && ready then k (taken s)
    else if atHead n ms s then s
    else pushWait n ms s

/-- The host request of Q(n) that was taken last completes, with its W0 repeated. -/
def reply (n : Fin 8) (t : Nat) (w0 : Nat) (w1 : Nat) (status : Nat) (s : State) : State :=
  completeAs true (8 + n) t w0 w1 status [] s

/-- A request of TE0's own on queue `q`, which its owner completes at once on the completion queue of R92: the numbers
of both queues move on (log entry 10). -/
def transit (q o t : Nat) (w0 w1 : W24) (s : State) : State :=
  let s := passQ q [⟨BitVec.ofNat 8 t, w0, w1⟩] s
  match complQ q o with
  | some c => passQ c [mkMsg (t + 0x80) w0.toNat 0] s
  | none => s

/-- The request that TE0 has forwarded on queue `f` for Q(n) still waits there for its owner. -/
def waitsAt (f : Nat) (n : Fin 8) (t : Nat) (w0 : W24) (ms : List Msg) (s : State) : Bool :=
  atHead f ms s && s.owed.any (waited f (8 + n) t w0.toNat)

/-- A host request of Q(n) that TE0 has taken goes on to its owner on queue `f` (R92); `o` is its outlet.  The owner
carries it out where `ready` and nothing waits before it; else it waits in `f` (R84, R103).  On a disabled queue it
completes WITHDRAWN (R111). -/
def forwardReq (f o : Nat) (n : Fin 8) (t : Nat) (w0 w1 : W24) (cs : List Cont) (ready : Bool) (k : State → State)
    (s : State) : State :=
  let ms := reqMsgs t w0 w1 cs
  if !(getQ (qn f) s).en then reply n t w0.toNat 0 stWITHDRAWN s
  else if ready && clearQ f s then k (passQ f ms (oweVia f (complQ f o) true s))
  else forEach ms (putQ f) (oweVia f (complQ f o) false s)

/-- A host request whose owner is not TE0; one that already waits at its owner goes on from there. -/
def viaReq (f o : Nat) (n : Fin 8) (t : Nat) (w0 w1 : W24) (cs : List Cont) (ready : Bool) (k : State → State)
    (s : State) : State :=
  let ms := reqMsgs t w0 w1 cs
  if waitsAt f n t w0 ms s then (if ready then k (takeN f ms.length (oweTaken f (8 + n) t w0.toNat s)) else s)
  else hostReq n t w0 w1 cs true (forwardReq f o n t w0 w1 cs ready k) s

/-- R110: disable one queue of a function: its entered requests complete WITHDRAWN in order, and its stream gets one
STREAM_END when it held unsolicited messages or is a stream queue. -/
def withdrawEntered (q o : Nat) : List (Byte × Msg) → State → State
  | [], s => s
  | e :: es, s => withdrawEntered q o es (if isReq e.2 then withdraw q (msgOutlet q o e.2) e.2.typ.toNat e.2.w0.toNat (some e.1) s else s)

/-- The fabric's STREAM_END (R96). -/
def streamEnd : Msg := mkMsg 0xF0 0 stWITHDRAWN

/-- R110: the stream queue `q` toward TE0 ends, behind what waits in it for `dest`. -/
def endStream (q : Nat) (dest : Msg → Nat) (s : State) : State :=
  if te0Up s && !(billingWaits s) then forward q dest [streamEnd] s else putQ q streamEnd s

/-- Drop entered requests and the continuations that follow them; keep unsolicited messages and theirs. -/
def keepUnsol : Bool → List (Byte × Msg) → List (Byte × Msg)
  | _, [] => []
  | k, e :: es =>
    if isCont e.2 then (if k then e :: keepUnsol k es else keepUnsol k es)
    else if isReq e.2 then keepUnsol false es
    else e :: keepUnsol true es

/-- R110, R111: the requests that still wait for room complete WITHDRAWN as never entered. -/
def withdrawLate (q o : Nat) (ms : List Msg) (s : State) : State :=
  forEach (ms.filter isReq) (fun m => withdraw q (msgOutlet q o m) m.typ.toNat m.w0.toNat none) s

/-- R110: of what a queue holds only unsolicited messages and their continuations stay. -/
def Queue.shed (x : Queue) : Queue :=
  let ent := keepUnsol true x.ent
  { x with ent := ent, late := (keepUnsol true (x.late.map fun m => (0, m))).map Prod.snd,
           err1 := x.err1.filter fun n => (x.dlv ++ ent).any fun e => e.1 == n }

/-- R110: disable queue `q`: what is entered completes first, then what waits for room.  `stream` says that it is a
stream queue of the function. -/
def disableQ (q o : Nat) (stream : Bool) (s : State) : State :=
  let x := getQ (qn q) s
  if !x.en then s
  else
    let s := withdrawLate q o x.late (withdrawEntered q o x.ent s)
    let s := modQ (qn q) Queue.shed s
    let s := whenS stream (putQ q streamEnd) s
    modQ (qn q) (fun x => { x with en := false }) s

/-- R91, R97: TE0 enables queue `q` with a capacity. -/
def enableQ (q cap : Nat) (s : State) : State := modQ (qn q) (Queue.enable cap) s

end Sys2Proof.Machine
end

