-- ==== Sys2Proof/Machine/RegView.lean ====
section
/-!
DEFINITION. What a read of a host register returns (R12, R13, R29, R30): the fields of Machine/Regs.lean put together,
and the registers that are another view of state that stands elsewhere.  Reading here has no side effect; the effects
of QPOPH, CKVALLO, CKRESLO and CLKSECLO reads are commands of their own.
-/
namespace Sys2Proof.Machine

/-- The local-clock time in whole seconds, nanoseconds within the second, and 2^−16 ns within the nanosecond. -/
def clkSec (s : State) : Nat := s.clock / (1000000000 * 2 ^ 40)
def clkNs (s : State) : Nat := s.clock / 2 ^ 40 % 1000000000
def clkSub (s : State) : Nat := s.clock / 2 ^ 24 % 2 ^ 16

/-- R17: the clock status. -/
def clkStatus (s : State) : Nat := rd R.PTP_CLKSTAT_STATUS s

/-- R199: the staged calibration set of channel `c` of outlet `o`, band `b`, quantity `q`: gain (θ for PH). -/
def calGain (o c b q : Nat) : Fld :=
  ⟨0x300000000 + ((o * 16 + c) * 8 + b) * 64 + q * 8, 0, 24, if q = 5 then 0 else 0x400000, .rwl⟩

/-- R199: the staged offset. -/
def calOfs (o c b q : Nat) : Fld := ⟨0x300000000 + ((o * 16 + c) * 8 + b) * 64 + q * 8 + 4, 0, 24, 0, .rwl⟩

/-- R163: channel `c` of outlet `o` (8 for S0 to S3) carries quantity `q`. -/
def carries (o c q : Nat) : Bool :=
  if o = 8 then decide (c < 4) && q == 0
  else if q = 0 then decide (c < 4) || c == 12 || c == 13
  else if q = 1 then decide (4 ≤ c ∧ c ≤ 7) || c == 12
  else if q = 2 ∨ q = 3 ∨ q = 5 then decide (4 ≤ c ∧ c ≤ 6)
  else if q = 4 then c == 4
  else false

/-- The CAL window registers of R199: outlet, channel, and 0 for CALGAIN or 4 for CALOFS. -/
def calAddr (a : Nat) : Option (Nat × Nat × Nat) :=
  let x := a - 0x11000000
  let o := x / 0x1000
  let c := x % 0x1000 / 0x100
  let r := x % 0x100
  if a < 0x11000000 ∨ 9 ≤ o ∨ 14 ≤ c ∨ (o = 8 ∧ 4 ≤ c) then none
  else if r = 0x88 then some (o, c, 0) else if r = 0x8C then some (o, c, 4) else none

/-- The field a CAL window presents through the given index registers; none where the channel does not carry the
quantity (R199). -/
def calField (o c k band qty : Nat) : Option Fld :=
  if carries o c qty then some (if k = 0 then calGain o c band qty else calOfs o c band qty) else none

/-- Registers of FLT that the tables give to some channels only (R158, R199). -/
def fltExists (a : Nat) : Bool :=
  let x := a - 0x11000000
  let o := x / 0x1000
  let c := x % 0x1000 / 0x100
  let r := x % 0x100
  if a < 0x11000000 ∨ 0x11008E00 ≤ a then true
  else if 0xE00 ≤ x % 0x1000 then true
  else if o = 8 ∧ 4 ≤ c then false
  else if r = 0x08 then decide (c < 8)
  else if 0x10 ≤ r ∧ r < 0x28 then decide (4 ≤ c ∧ c < 8) && decide (o < 8)
  else true

/-- The fields of the register at `a` in the tables of spec/. -/
def regFields (a : Nat) : List Fld := if fltExists a then fieldsAt a else []

/-- A register put together from its fields. -/
def joinFields (fs : List Fld) (s : State) : Nat := fs.foldl (fun v f => v + rd f s * 2 ^ f.lsb) 0

/-- R106: QM.POOL. -/
def poolUsed (s : State) : Nat := s.qs.toList.foldl (fun n q => n + q.used) 0
def poolConf (s : State) : Nat := s.qs.toList.foldl (fun n q => n + q.cap) 0

/-- R106: the queue registers that show typed state. -/
def qcfgVal (q : Queue) : Nat := q.cap % 2 ^ 13 + b2n q.en * 2 ^ 16
def qstatVal (q : Queue) : Nat := q.ent.length % 2 ^ 13 + q.dlv.length % 2 ^ 8 * 2 ^ 16 + b2n q.ackReq * 2 ^ 24
def qseqVal (q : Queue) : Nat := q.tail.toNat + q.head.toNat * 2 ^ 8 + q.ack.toNat * 2 ^ 16

/-- A queue register of R106: the queue and the offset within its block. -/
def qregAddr (a : Nat) : Option (Nat × Nat) :=
  if 0x10001000 ≤ a ∧ a < 0x10003000 then some ((a - 0x10001000) / 0x40, a % 0x40) else none

/-- R404, R419: IDENT's fused words. -/
def identWord (r : Nat) : Option Nat :=
  let d := beBytes 16 Config.devId.toNat
  let m := beBytes 6 Config.mac.toNat
  if r = 0x00 ∨ r = 0x04 ∨ r = 0x08 ∨ r = 0x0C then some (leNat ((d.drop r).take 4))
  else if r = 0x10 then some (leNat (m.take 4))
  else if r = 0x14 then some (leNat (m.drop 4))
  else if r = 0x60 then some (0x8160 + Config.fusedRev.toNat % 256 * 2 ^ 16)
  else none

/-- R506: any of the host's queues of a range holds a message. -/
def anyHeld (lo n : Nat) (s : State) : Bool := (List.range n).any fun i => !(getQ (qn (lo + i)) s).ent.isEmpty

/-- R512: HIRQSRC. -/
def hirqSrc (s : State) : Nat :=
  b2n (anyHeld 8 8 s) + 2 * b2n (anyHeld 92 1 s) + 4 * b2n (anyHeld 105 1 s) + 8 * b2n (anyHeld 119 1 s)
    + 16 * b2n (decide (rd R.PTP_HRXPTR_HEAD s ≠ rd R.PTP_HRXPTR_TAIL s))

/-- R506, R512: nHIRQ asserted. -/
def hirq (s : State) : Bool := flag R.PWR_HCFG_IRQEN s && decide (hirqSrc s ≠ 0)

/-- The coefficient windows of R158: response window, half-band window. -/
def coefWord (a : Nat) : Option Nat :=
  if 0x1100A000 ≤ a ∧ a < 0x1100E000 then
    let x := a - 0x1100A000
    some (toU 24 (romTap (x / 0x400) (x % 0x400 / 4)))
  else if 0x1100E000 ≤ a ∧ a < 0x1100E200 then
    let x := a - 0x1100E000
    some (toU 24 (hbTap (x / 0x80 + 1) (x % 0x80 / 4)))
  else none

/-- The calendar windows of R242: the active and the pending calendar. -/
def calendarWord (s : State) (a : Nat) : Option Nat :=
  if 0x13008000 ≤ a ∧ a < 0x13008000 + 1296 then some (leNat ((s.calAct.drop (a - 0x13008000)).take 4))
  else if 0x13009000 ≤ a ∧ a < 0x13009000 + 1296 then some (leNat ((s.calPend.drop (a - 0x13009000)).take 4))
  else none

/-- R371: CLKSTAT.HOLDS, the seconds in holdover. -/
def holdSecs (s : State) : Nat :=
  if clkStatus s = 1 then min ((s.now - s.net.holdFrom.getD s.now) / 1000000) 0xFFFF else 0

/-- R475: the automatic switch-ons of load switch `c` in the last 60 s. -/
def lsRetries (c : Nat) (s : State) : List Nat :=
  (vget s.lsw.ch (en c)).retries.filter fun t => decide (s.now < t + 60000000)

/-- R48, R49: words of data memory and of program memory. -/
def memWords (e : Nat) : Nat := if e = 0 then 0x20000 else 0x4000

/-- R185: what the word `w` at `a` adds to the state check value beyond a wiped word. -/
def chkWord (a w : Nat) : Nat := Nat.xor (crc32 (leBytes 3 a ++ leBytes 3 w)) (crc32 (leBytes 3 a ++ leBytes 3 0))

/-- R185: the state check value of a data memory, as its difference from that of a wiped one. -/
def chkOf (m : SMap W24) : Nat := m.foldl (fun x e => Nat.xor x (chkWord e.1 e.2.toNat)) 0

/-- R185: the member's state check finds no difference. -/
def stateOk (e : Nat) (s : State) : Bool :=
  let x := getEng (en e) s
  chkOf x.dmem == x.chk && x.dErr2.isEmpty

/-- R185: the state check value itself. -/
def chkFull (e : Nat) (x : Eng) : Nat :=
  (List.range (memWords e)).foldl (fun v a => Nat.xor v (crc32 (leBytes 3 a ++ leBytes 3 0))) x.chk

/-- R201: PAIRCHK of metering pair `p`. -/
def pairChk (p : Nat) (s : State) : Nat :=
  let lo := 9 + 2 * p
  let e := if rd (R.QM_ENGSTAT_STATE (lo + 1)) s = 3 then lo + 1 else lo
  chkFull e (getEng (en e) s)

/-- R188, R201: the pair faults of metering pair `p` in the last 60 s. -/
def pairFaults (p : Nat) (s : State) : List Nat :=
  (vget s.pairs ⟨p % 3, Nat.mod_lt _ (by decide)⟩).faults.filter fun t => decide (s.now < t + 60000000)

/-- R449: the record of a class, and its word `w` as the class table holds it. -/
def classRec (c : Nat) (s : State) : ClassRec := SMap.get ClassRec.reset s.bar.classes c
def classWord (c w : Nat) (s : State) : Nat :=
  let r := classRec c s
  if w = 0 then b2n r.en + r.nreg * 2 ^ 8 else r.addrs.getD (w - 1) 0

/-- The registers that show state held elsewhere; `eng` says that an engine reads (CALEIDX, R199). -/
def viewWord (eng : Bool) (s : State) (a : Nat) : Option Nat :=
  if a = 0x10000000 then some (poolUsed s % 2 ^ 16 + poolConf s % 2 ^ 16 * 2 ^ 16)
  else match qregAddr a with
  | some (q, r) =>
    if r = 0 then some (qcfgVal (getQ (qn q) s))
    else if r = 4 then some (qstatVal (getQ (qn q) s))
    else if r = 8 then some (qseqVal (getQ (qn q) s))
    else none
  | none =>
    match calAddr a with
    | some (o, c, k) =>
      let band := if eng then rd (R.FLT_CALEIDX_BAND o c) s else rd (R.FLT_CALHIDX_BAND o c) s
      let qty := if eng then rd (R.FLT_CALEIDX_QTY o c) s else rd (R.FLT_CALHIDX_QTY o c) s
      match calField o c k band qty with
      | some f => if k = 4 ∧ qty = 5 then some 0 else some (rd f s)
      | none => some 0
    | none =>
      if a = 0x1100F00C then some (if s.samp.romRead then romCrc else 0)
      else if a = 0x17000000 then some (clkSec s % 2 ^ 32)
      else if a = 0x17000010 then some (joinFields (fieldsAt a) s + holdSecs s * 2 ^ 16)
      else if 0x17100000 ≤ a ∧ a < 0x17120000 then some (leNat (SMap.getN 0 s.net.rx (a - 0x17100000) 4))
      else if 0x17180000 ≤ a ∧ a < 0x17190000 then some (leNat (SMap.getN 0 s.net.tx (a - 0x17180000) 4))
      else if a = 0x2000001C then some (if s.pwr.down then 0 else (Config.supply s.now).toNat)
      else if a = 0x20000028 then some (rd R.PWR_HSTAT_LAST s + b2n (hirq s) * 2 ^ 8)
      else if a = 0x2000002C then some (hirqSrc s)
      else if a = 0x1C00F014 then some (rd R.UPD_LDRSTAT_MODE s + Config.fusedRev.toNat / 256 * 2 ^ 8)
      else if 0x1F000000 ≤ a ∧ a < 0x1F001000 ∧ a % 0x100 = 8 then
        some (joinFields (fieldsAt a) s + min (lsRetries ((a - 0x1F000000) / 0x100) s).length 3 * 2 ^ 7)
      else if a = 0x12009000 ∨ a = 0x12009100 then
        some (joinFields (fieldsAt a) s + min (pairFaults ((a - 0x12009000) / 0x100) s).length 15 * 2 ^ 20)
      else if a = 0x12009004 ∨ a = 0x12009104 then some (pairChk ((a - 0x12009004) / 0x100) s)
      else if eng ∧ 0x1D010000 ≤ a ∧ a < 0x1D012000 then some (classWord ((a - 0x1D010000) / 64) (a % 64 / 4) s)
      else if 0x1D000100 ≤ a ∧ a < 0x1D000300 then
        let n := (a - 0x1D000100) / 4
        some (classWord n 0 s % 2 + b2n (decide (1 ≤ n ∧ n ≤ 0x1F)) * 2 + (classRec n s).nreg * 4 + rd (R.BAR_CLASS_COUNT n) s * 2 ^ 16)
      else if 0x20002000 ≤ a ∧ a < 0x20002020 ∨ a = 0x20002060 then identWord (a - 0x20002000)
      else if a % 0x100 = 0x20 ∧ 0x1B000000 ≤ a ∧ a < 0x1B000400 then
        some (ckRes ((a - 0x1B000000) / 0x100) s % 2 ^ 32)
      else if a % 0x100 = 0x24 ∧ 0x1B000000 ≤ a ∧ a < 0x1B000400 then
        some (rd (R.CHK_CKCNT_N ((a - 0x1B000000) / 0x100)).eff s)
      else if a % 0x100 = 0x1C ∧ 0x1B000000 ≤ a ∧ a < 0x1B000400 then
        some (rd (R.CHK_CKVALHI_V ((a - 0x1B000000) / 0x100)).eff s)
      else (coefWord a).orElse fun _ => calendarWord s a

/-- R12, R13: the word a read of the register at `a` returns; write-only fields, reserved bits and unlisted offsets
read 0. -/
def readWord (eng : Bool) (s : State) (a : Nat) : Nat :=
  match viewWord eng s a with
  | some v => v
  | none => joinFields ((regFields a).filter fun f => f.acc != .wo) s

/-- R29: the address lies in a block of the host address map. -/
def inBlocks (a : Nat) : Bool := decide (0x10000000 ≤ a ∧ a < 0x21000000)

/-- R29: the address lies in the MRAM window. -/
def inMram (a : Nat) : Bool := decide (0x40000000 ≤ a ∧ a < 0x42000000)

end Sys2Proof.Machine
end

