-- ==== Sys2Proof/Machine/LogOps.lean ====
section
/-!
DEFINITION. Taking a trigger into the Barrow recorder (R446 to R453, R513): time stamp, snapshot, holding queue; and
the trigger of each class other chapters record.
-/
namespace Sys2Proof.Machine

/-- R448: a legal class. -/
def legalCls (c : Nat) : Bool := decide (1 ≤ c ∧ c ≤ 0x1F)

/-- R448: a class the table reserves. -/
def reservedCls (c : Nat) : Bool :=
  c == 0 || decide (0x12 ≤ c ∧ c ≤ 0x1F) || decide (0x2C ≤ c ∧ c ≤ 0x5F) || decide (0x80 ≤ c)

/-- R446, R449: the snapshot a trigger takes. -/
def snapshot (c ndata : Nat) (s : State) : List Nat :=
  (((classRec c s).addrs.take (classRec c s).nreg).take (12 - ndata)).map (readWord false s)

/-- R444, R446: the entry accepted now. -/
def newEntry (src c outlet : Nat) (data snap : List Nat) (s : State) : LogEntry where
  tsec := clkSec s % 2 ^ 48
  tns := clkNs s
  clk := clkStatus s
  cls := c
  source := src
  held := false
  setback := flag (R.BIL_BSTAT_SETBACK (if outlet < 8 then outlet else 0)) s
  legalFull := false
  outlet := outlet
  data := data
  snap := snap

/-- A message for TE0 that TE0 forwards to the host on Q8; it waits in its queue while TE0 does not run (R457). -/
def toHostVia (q : Nat) (m : Msg) (s : State) : State := relay q 0 (fun _ => 8) m [] s

/-- With its continuations. -/
def toHostViaC (q : Nat) (m : Msg) (cs : List Cont) (s : State) : State := relay q 0 (fun _ => 8) m cs s

/-- R456: LOG_STATUS. -/
def logStatus (kind count : Nat) (s : State) : State := toHostVia 117 (mkMsg 0x5D kind (min count (2 ^ 24 - 1))) s

/-- R451: a legal-class entry that goes to the general log. -/
def legalShut (s : State) : Bool := rd R.LIFE_LSTATE_STATE s == 4 || flag R.BAR_LSTAT_FULL s

/-- R520: the header of the log to which an entry of class `c` goes is being rebuilt. -/
def headerBad (c : Nat) (s : State) : Bool :=
  (legalCls c && s.bar.legalBad) ||
    ((!(legalCls c) || legalShut s || s.bar.legal.length == 2047) && s.bar.generalBad)

/-- R520: the entries of `l` whose log has its header. -/
def writable (l : List LogEntry) (s : State) : List LogEntry := l.filter fun e => !(headerBad e.cls s)

/-- Put an accepted entry in line for writing (R446, R454). -/
def queueEntry (e : LogEntry) (s : State) : State :=
  modBar (fun b => { b with queued := b.queued ++ [e], pd0Unwritten := b.pd0Unwritten + 1 }) s

/-- An entry of the recorder's own (source 0x11): it bears no EN. -/
def ownEntry (c : Nat) (data : List Nat) (s : State) : State := queueEntry (newEntry 0x11 c 15 data [] s) s

/-- R453, R520: the held entries go in line, in order, but for those whose log waits for its header. -/
def releaseHeld (s : State) : State :=
  let keep := s.bar.held.filter fun e => headerBad e.cls s
  wr R.BAR_FREEZE_HELD keep.length
    (modBar (fun b => { b with queued := b.queued ++ writable b.held s, held := keep }) s)

/-- R453: the FREEZE ends; the held entries go in line, then HOLD_LOST when entries were lost. -/
def freezeEnd (cause : Nat) (s : State) : State :=
  if !(flag R.BAR_FREEZE_FRZ s) then s
  else
    let lost := s.bar.lost
    let s := modBar (fun b => { b with lost := 0 })
      (releaseHeld (wrs [(R.BAR_FREEZE_FRZ, 0), (R.BAR_FREEZE_FCAUSE, cause)] s))
    if lost = 0 then s else logStatus 2 lost (ownEntry 0x29 [lost] s)

/-- An entry of class `c` waits: a FREEZE is on, or the header of its log is being rebuilt (R453, R520). -/
def mustHold (c : Nat) (s : State) : Bool := flag R.BAR_FREEZE_FRZ s || headerBad c s

/-- Put an entry in the holding queue of 64 (R453). -/
def holdEntry (e : LogEntry) (s : State) : State :=
  if s.bar.held.length < 64 then
    let s := modBar (fun b => { b with held := b.held ++ [{ e with held := true }], pd0Unwritten := b.pd0Unwritten + 1 }) s
    wr R.BAR_FREEZE_HELD s.bar.held.length s
  else if legalCls e.cls then queueEntry e (freezeEnd 2 s)
  else modBar (fun b => { b with lost := b.lost + b2n (flag R.BAR_FREEZE_FRZ s) }) (incSat R.BAR_HOLD_HOLDOVF s)

/-- R453: the FREEZE begins: what is accepted and not yet written waits in the holding queue (log entry 120). -/
def freezeBegin (s : State) : State :=
  if flag R.BAR_FREEZE_FRZ s then s
  else
    let l := s.bar.queued
    let s := modBar (fun b => { b with queued := [], pd0Unwritten := b.pd0Unwritten - l.length, lost := 0 }) s
    forEach l (fun e s => if flag R.BAR_FREEZE_FRZ s then holdEntry e s else queueEntry e s) (wr R.BAR_FREEZE_FRZ 1 s)

/-- R446 to R453: accept a trigger that has passed the checks of R447. -/
def acceptTrigger (src c outlet : Nat) (data : List Nat) (s : State) : State :=
  let s := incSat (R.BAR_CLASS_COUNT c) s
  if !(legalCls c) && !(classRec c s).en then s
  else
    let e := newEntry src c outlet data (snapshot c data.length s) s
    if mustHold c s then holdEntry e s else queueEntry e s

/-- R447: the messages of a trigger. -/
def triggerConts (data : List Nat) : List Cont := data.map fun v => (w24 v, w24 (v / 2 ^ 24))

/-- A trigger of the part's own functions: it is accepted at the moment it is entered in Q116 (R446), and the recorder
takes it at once where nothing stands before it.  Before TE0 has enabled Q116, and behind triggers that wait there, it
is accepted without an entry of its own in the queue (log entry 10). -/
def logEvent (src c outlet : Nat) (data : List Nat) (s : State) : State :=
  let m := mkMsg 0x58 (c + outlet * 2 ^ 8 + data.length * 2 ^ 12) 0
  let ms := m :: (triggerConts data).map contMsg
  acceptTrigger src c outlet data (whenS (clearQ 116 s) (passQ 116 ms) s)

/-- R513: a FAULT entry in the legal (true) or the general log: source code, engine or stage, queue, detail. -/
def logFault (legal : Bool) (code eng q detail : Nat) (s : State) : State :=
  logEvent 0x10 (if legal then 0x02 else 0x20) 15 [code + eng * 2 ^ 8 + q * 2 ^ 16, detail] s

/-- R513: an ENGINE entry. -/
def logEngine (e kind exc : Nat) (s : State) : State :=
  logEvent 0 0x24 15 [e + kind * 2 ^ 4 + exc * 2 ^ 8, rd (R.QM_ENGSTAT_RELOADS e) s] s

/-- R513: a FOLD entry: outlet (15 the module), kind, cause, word 1. -/
def logFold (o kind cause w1 : Nat) (s : State) : State :=
  logEvent 13 0x23 o [o + kind * 2 ^ 4 + cause * 2 ^ 8, w1] s

/-- R109: each new count of SLKLOW goes to the general log as SLACK, for which the spec gives no event words. -/
def logSlack (s : State) : State := logEvent 0 0x21 15 [] s

/-- The lifecycle states of R235: 0 BLANK, 1 PROVISIONED, 2 SEALED, 3 SERVICE, 4 SCRAPPED. -/
def lifeState (s : State) : Nat := rd R.LIFE_LSTATE_STATE s
def isSealed (s : State) : Bool := lifeState s == 2
def isScrapped (s : State) : Bool := lifeState s == 4

/-- R12: SEALED or SCRAPPED, where RWL fields are locked. -/
def locked (s : State) : Bool := isSealed s || isScrapped s

end Sys2Proof.Machine
end

