-- ==== Sys2Proof/Machine/Common.lean ====
section
/-!
DEFINITION. Conditions that several chapters share: power domains (R21), the core-voltage limits (R36), outlets in and
out of service (R250, R251), and requests for the pairs, the Fold and the vault on their way through TE0.
-/
namespace Sys2Proof.Machine

/-- R512: power domain `d` is on. -/
def pdOn (d : Nat) (s : State) : Bool := (rd R.PWR_PDSTAT_ON s).testBit d

/-- R36, R485: the mode whose limits apply: 0 CORE-LOW, 1 CORE-NOM, 2 CORE-HIGH; the lower of the two during a
change. -/
def limitMode (s : State) : Nat := min (rd R.PWR_CORE_MODE s) (rd R.PWR_CORE_TARGET s)

/-- R36: the limits of a mode: modems active, channels at FAST, channels under test, ports at 1000 Mb/s. -/
def limModems (m : Nat) : Nat := if m = 0 then 4 else 8
def limFast (m : Nat) : Nat := if m = 0 then 8 else 16
def limTests (m : Nat) : Nat := if m = 0 then 2 else 8
def limGig (m : Nat) : Nat := if m = 0 then 1 else 2

/-- R250: the state of an outlet. -/
def ostate (o : Nat) (s : State) : Nat := rd (R.OUT_STATE_OSTATE o) s

/-- R160: the metering type in effect. -/
def metType (o : Nat) (s : State) : Nat := rd (R.MET_OCFG_TYPE o).eff s

/-- R251: in a session: READY to RAMPDOWN. -/
def inSession (o : Nat) (s : State) : Bool := decide (3 ≤ ostate o s ∧ ostate o s ≤ 7)

/-- R260: the metering configuration of type `t` uses channel `c` (R160). -/
def typeUses (t c : Nat) : Bool :=
  if t = 1 then c == 0 || c == 4 || c == 7
  else if t = 2 then decide (c ≤ 2) || decide (4 ≤ c ∧ c ≤ 7)
  else if t = 3 then c == 0 || c == 1 || c == 4
  else false

/-- R85: an engine left STOPPED. -/
def stopped (e : Nat) (s : State) : Bool := engState e s == 5

/-- R188: a pair left STOPPED. -/
def pairStopped (lo : Nat) (s : State) : Bool := stopped lo s && stopped (lo + 1) s

/-- R188, R251: out of service. -/
def outOfService (o : Nat) (s : State) : Bool :=
  pairStopped (pairOf o) s || ostate o s == 0 || ostate o s == 9 || metType o s == 0 || !(pdOn 5 s)

/-- R516: TE0 has sent the RESTOREs with which it begins to a metering pair that has started. -/
def pairRestored (lo : Nat) (s : State) : Bool :=
  (outlets.filter fun o => pairOf o == lo).all fun o =>
    let m := vget s.meters (o8 o)
    metType o s == 0 || m.restored || m.typed

/-- R516: a pair that serves the host's requests: the Fold where it runs, a metering pair behind its RESTOREs. -/
def pairServes (lo : Nat) (s : State) : Bool := pairUp lo s && (lo == 13 || pairRestored lo s)

/-- A pair that serves requests, or that is STOPPED so that TE0 completes them FAULT (R188). -/
def pairReady (lo : Nat) (s : State) : Bool := pairUp lo s || pairStopped lo s

/-- R153: the lower engine of the owner of channel `c` of outlet `o`. -/
def chanOwner (o c : Nat) : Nat := if o = 8 then 9 else if c < 12 then pairOf o else 13

/-- R92: the request queue from TE0 to a pair or the Fold. -/
def ownerQ (lo : Nat) : Nat := if lo = 9 then 52 else if lo = 11 then 53 else 89

/-- The Fold runs. -/
def foldUp (s : State) : Bool := pairUp 13 s

/-- R353: the clock status from STEPPED, SETINV, the selected slot and the holdover. -/
def reStatus (s : State) : State :=
  let sel := rd R.PTP_CLKSTAT_SEL s
  let locked := rd (R.PTP_SSTAT_LOCK sel) s == 2
  let ok := flag R.PTP_CLKSTAT_STEPPED s && !(flag R.PTP_CLKSTAT_SETINV s)
  wr R.PTP_CLKSTAT_STATUS (if ok && locked then 2 else if ok && s.net.holdOk then 1 else 0) s

/-- R354: TE0 writes SETINV. -/
def setInv (b : Bool) (s : State) : State := reStatus (wrB R.PTP_CLKSTAT_SETINV b s)

def getBo (o : Nat) (s : State) : BOut := vget s.bill.outs (o8 o)
def setBo (o : Nat) (b : BOut) (s : State) : State := { s with bill := { s.bill with outs := vset s.bill.outs (o8 o) b } }
def modBo (o : Nat) (f : BOut → BOut) (s : State) : State := setBo o (f (getBo o s)) s
def modBill (f : Bill → Bill) (s : State) : State := { s with bill := f s.bill }

/-- R206: the base registers take A+ and A−, and the tariff registers are cleared. -/
def rebase (o : Nat) (s : State) : State :=
  modBo o (fun b => { b with baseI := b.regs.getD 0 0, baseE := b.regs.getD 1 0, timp := List.replicate 8 0,
                             texp := List.replicate 8 0 }) s

/-- R219: an outlet whose TYPE was NONE has no open interval: the first one of its new TYPE opens with its first second
(log entry 104). -/
def noInterval (o : Nat) (s : State) : State :=
  modBo o (fun b => { b with ivOpen := false, ivN := 0, ivF := 0, ivRate := none }) s

/-- A power-fail warning since the last full reset (R496, R512). -/
def warned (s : State) : Bool := flag R.PWR_PFWST_WARN s

/-! ### Engines that stop and are reloaded (R83 to R90, R113) -/

def engs16 : List Nat := List.range 16
def qs128 : List Nat := List.range 128

/-! ### Engine memory -/

/-- R43, R85, R88: the engine as a wipe leaves it; what the queue manager knows of its history stays. -/
def Eng.wiped (x : Eng) : Eng := { Eng.start with faults := x.faults, final := x.final, ran := x.ran }

def wipeEng (e : Nat) (s : State) : State := modEng (en e) Eng.wiped s

/-- R43, R106: the program of engine `e` starts, in state `st`. -/
def beginEng (e st : Nat) (s : State) : State := setEngState e st (modEng (en e) Eng.begun s)

/-! ### Queue state of an engine that stops (R113) -/

/-- The number under which an engine's staged messages stand: a pair's stand under its lower member. -/
def stageId (e : Nat) : Nat := pairLow e

/-- R113: staged pushes are discarded; delivered, unacknowledged messages return to the head of their queues. -/
def returnQueues (e : Nat) (s : State) : State :=
  forEach qs128 (fun q s =>
    let x := getQ (qn q) s
    let stg := x.stg.filter fun m => m.1 != stageId e
    if engConsumes e q s && !x.dlv.isEmpty then setQ (qn q) { Queue.replay x with stg := stg } s
    else if stg.length < x.stg.length then settle q (setQ (qn q) { x with stg := stg } s)
    else s) s

/-- R85, R88: the wipe and reload of an engine begin; QM.WIPE shows a wipe under way. -/
def startReload (e : Nat) (s : State) : State :=
  let s := wr R.QM_WIPE_DONE 0 (setEngState e 1 (incSat (R.QM_ENGSTAT_RELOADS e) s))
  logEngine e 1 0 (wipeEng e (returnQueues e s))

end Sys2Proof.Machine
end

