-- ==== Sys2Proof/Machine/HostAcc.lean ====
section
/-!
DEFINITION. What every host access to a register or to the MRAM window passes (R30, R38, R90, R437, R493): whether the
access is judged before the register is reached, the snoop of R415, and the status in HSTAT.LAST.
-/
namespace Sys2Proof.Machine

def modPwr (f : Pwr → Pwr) (s : State) : State := { s with pwr := f s.pwr }

/-- R29: the host's block bases. -/
def isPwrReg (a : Nat) : Bool := decide (0x20000000 ≤ a ∧ a < 0x20001000)
def isLife (a : Nat) : Bool := decide (0x20001000 ≤ a ∧ a < 0x20002000)
def isIdent (a : Nat) : Bool := decide (0x20002000 ≤ a ∧ a < 0x20003000)
def inBlock (b a : Nat) : Bool := decide (b ≤ a ∧ a < b + 0x1000000)
def isQm (a : Nat) : Bool := inBlock 0x10000000 a

/-- R422: the legal data partition in the MRAM window. -/
def isLegalData (a : Nat) : Bool := decide (0x40060000 ≤ a ∧ a < 0x40080000)

/-- A wipe of a full reset runs (R90). -/
def fullWipe (s : State) : Bool := s.pwr.wipe == some WipeScope.full

/-- R38: what the host may still reach in SCRAPPED. -/
def scrapReach (write : Bool) (a : Nat) : Bool :=
  isQm a || isPwrReg a || (!write && (isIdent a || isLife a || inBlock 0x13000000 a || inBlock 0x12000000 a || isLegalData a))

/-- The status of an access that is refused before its register is looked at; none where it goes on. -/
def hostGate (write : Bool) (a : Nat) (s : State) : Option Nat :=
  if s.pwr.stuck then
    if !write && (isPwrReg a || isIdent a || a == 0x1000000C) then none else some stDENIED
  else if !(inBlocks a) && !(inMram a) then some stDENIED
  else if fullWipe s && isQm a then some stDENIED
  else if recovery s && !(isQm a || isIdent a || inBlock 0x1C000000 a || inMram a) then some stDENIED
  else if isScrapped s && !(scrapReach write a) then some stSEALED
  else none

/-- A host write of the word `v` at `a`, whose register has the effect `f`; the status is not yet in LAST. -/
def hostPut (a v : Nat) (f : State → State × Nat) (s : State) : State × Nat :=
  match hostGate true a s with
  | some st => (s, st)
  | none => let r := f s; (ckBus true a v r.1, r.2)

/-- A host access of its own: its status goes to HSTAT.LAST (R504). -/
def acc (r : State × Nat) : State := wr R.PWR_HSTAT_LAST r.2 r.1

/-- A host write as a transaction of one word. -/
def hostWrite (a v : Nat) (f : State → State × Nat) (s : State) : State := acc (hostPut a v f s)

/-- A host read at `a`, whose register has the effect and the status of `f`: the word and the status. -/
def hostGet (a : Nat) (f : State → State × Nat) (s : State) : State × Nat × Nat :=
  match hostGate false a s with
  | some st => (s, 0, st)
  | none =>
    let r := f s
    if r.2 = stOK then
      let v := readWord false r.1 a % 2 ^ 32
      (ckBus false a v r.1, v, stOK)
    else (r.1, 0, r.2)

/-- The word shifted out and the status of a transaction of one read. -/
def accRead (r : State × Nat × Nat) : State := acc (modPwr (fun p => { p with out := [BitVec.ofNat 32 r.2.1] }) r.1, r.2.2)

/-- A host read as a transaction of one word, of a register whose read has the effect `f`. -/
def hostRead (a : Nat) (f : State → State) (s : State) : State := accRead (hostGet a (fun s => (f s, stOK)) s)

end Sys2Proof.Machine
end

