-- ==== Sys2Proof/Machine/TimeOps.lean ====
section
/-!
DEFINITION. The local clock, the servo slots and the clock status (R345 to R355): offsets, lock states, moves between
slots, holdover and UTCOFS.  Times and stamps are signed numbers of 2^−16 ns; intervals are in ns.
-/
namespace Sys2Proof.Machine

def getSv (i : Nat) (s : State) : Servo := vget s.net.servos ⟨i % 2, Nat.mod_lt _ (by decide)⟩
def modNet (f : Net → Net) (s : State) : State := { s with net := f s.net }
def modSv (i : Nat) (f : Servo → Servo) (s : State) : State :=
  modNet (fun n => { n with servos := vset n.servos ⟨i % 2, Nat.mod_lt _ (by decide)⟩ (f (getSv i s)) }) s

/-- R351: the lock states. -/
def lkNONE : Nat := 0
def lkACQUIRING : Nat := 1
def lkLOCKED : Nat := 2
def lkLOST : Nat := 3
def lockOf (i : Nat) (s : State) : Nat := rd (R.PTP_SSTAT_LOCK i) s
def selSlot (s : State) : Nat := rd R.PTP_CLKSTAT_SEL s
def slotSrc (i : Nat) (s : State) : Nat := rd (R.PTP_SCFG_SRC i) s

/-- The local clock in 2^−16 ns. -/
def clk16 (s : State) : Int := (s.clock / 2 ^ 24 : Nat)

/-- R345: the clock's modulus, 2^48 seconds, in its own units of 2^−40 ns. -/
def clockMod : Nat := 2 ^ 48 * 1000000000 * 2 ^ 40

/-- R348: move the clock by an offset in 2^−16 ns. -/
def stepClock (o16 : Int) (s : State) : State :=
  { s with clock := (((s.clock : Int) + o16 * 2 ^ 24) % clockMod).toNat, samp := { s.samp with stepped := true } }

/-- R350: RATEMAX in units of 2^−40. -/
def rateMax (s : State) : Int := (rd R.PTP_CLKCFG_RATEMAX s * 2 ^ 40 / 1000000 : Nat)

/-- RATE, signed. -/
def rateNow (s : State) : Int := sext 32 (rd R.PTP_RATE_RATE s)

/-- R371: CLAMP says that RATE stands at ± RATEMAX. -/
def showClamp (s : State) : State :=
  wrB R.PTP_CLKSTAT_CLAMP (decide (rateNow s = rateMax s ∨ rateNow s = -(rateMax s))) s

/-- R350, R371: set RATE, with CLAMP. -/
def setRate (r : Int) (s : State) : State :=
  modNet (fun n => { n with rates := (r :: n.rates).take 16 }) (showClamp (wr R.PTP_RATE_RATE (toU 32 r) s))

/-- R353: a loss of lock of the selected slot starts the holdover, a lock ends it. -/
def holdCheck (s : State) : State :=
  reStatus (
    if lockOf (selSlot s) s = lkLOCKED then modNet (fun n => { n with holdOk := true, holdFrom := none }) s
    else if s.net.holdOk && s.net.holdFrom.isNone then modNet (fun n => { n with holdFrom := some s.now }) s
    else s)

/-- SOFS of a slot. -/
def sofs (i : Nat) (s : State) : Int := sext 32 (rd (R.PTP_SOFS_O i) s)

/-- R352: a move to slot `i` is within SWLIM. -/
def moveOk (i : Nat) (s : State) : Bool := decide ((sofs i s).natAbs ≤ rd R.PTP_SWLIM_NS s)

/-- R352: the automatic selection. -/
def autoSelect (s : State) : State :=
  if rd R.PTP_CLKCFG_SELMODE s ≠ 2 then s
  else
    let back := match (getSv 0 s).lockedAt with
      | some t => decide (60000000 ≤ s.now - t)
      | none => false
    let m :=
      if selSlot s = 0 then
        if lockOf 0 s = lkLOST && lockOf 1 s ≠ lkLOST && moveOk 1 s then some 1 else none
      else if lockOf 0 s = lkLOCKED && back && moveOk 0 s then some 0 else none
    modNet (fun n => { n with move := m }) s

/-- R355: a new UTCOFS, written to PD0. -/
def setUtc (v : Int) (s : State) : State := modNet (fun n => { n with bkUtc := v }) (wr R.BIL_UTCOFS_S (toU 16 v) s)

/-- R353: the mean of the last values of RATE; where it is no whole number, which neighbour is held is open. -/
def meanRate (s : State) : Int :=
  let l := s.net.rates
  let sum := l.foldl (· + ·) 0
  let q := sum / (l.length : Int)
  if sum % (l.length : Int) = 0 then q else q + ((freeNow 1 s).toNat : Int)

/-- R349: the best of the masters heard: the lowest rank, then the lowest source identity. -/
def bestMaster : List Master → Option Master
  | [] => none
  | m :: ms =>
    match bestMaster ms with
    | none => some m
    | some b => if m.rank < b.rank ∨ (m.rank = b.rank ∧ m.src.toNat ≤ b.src.toNat) then some m else some b

/-- R349, R351: the masters of which an Announce has been heard within the announce receipt timeout; the spec gives 3 s
before a master is selected, and no other value (log entry 115). -/
def stillHeard (now : Nat) (l : List Master) : List Master := l.filter fun m => decide (now < m.at_ + 3000000)

/-- R349: a slot drops the masters it hears no more and takes the best of the others; the measurements of a master do not
hold for another. -/
def reselect (now : Nat) (x : Servo) : Servo :=
  let l := stillHeard now x.heard
  let m := (bestMaster l).map Master.src
  if m = x.master then { x with heard := l }
  else { x with heard := l, master := m, wait := none, syncs := [], last := none, delayed := false, dreq := none }

/-- R351: slot `i` becomes LOST. -/
def slotLostNow (i : Nat) (s : State) : State :=
  if lockOf i s = lkACQUIRING ∨ lockOf i s = lkLOCKED then
    let s := incSat (R.PTP_SCNT_LOSS i) (wr (R.PTP_SSTAT_LOCK i) lkLOST s)
    let s := modSv i (fun x => reselect s.now
      { x with good := 0, bad := 0, lockedAt := none, wait := none, syncs := [], dreq := none }) s
    let s := whenS (i == selSlot s && !s.net.rates.isEmpty) (fun s => nextFree (setRate (meanRate s) s)) s
    autoSelect (holdCheck s)
  else s

/-- A number limited to lo..hi. -/
def within2 (lo hi x : Int) : Int := if x < lo then lo else if hi < x then hi else x

/-- R350: the steering of the selected slot by one offset; at a move RATE changes by at most RATEMAX (R352). -/
def steer (i : Nat) (moves : Bool) (o16 : Int) (ts : Nat) (s : State) : State :=
  let f := (o16 * 2 ^ 24).tdiv ts
  let ri := (getSv i s).ri + f.tdiv (2 ^ rd (R.PTP_SCFG_KI i) s)
  let r := ri + f.tdiv (2 ^ rd (R.PTP_SCFG_KP i) s)
  let m := rateMax s
  let r := within2 (-m) m r
  setRate (if moves then within2 (rateNow s - m) (rateNow s + m) r else r) (modSv i (fun x => { x with ri := ri }) s)

/-- R351: count one offset toward or against LOCKED; `may` says that the slot may be LOCKED at all. -/
def lockCount (i : Nat) (o16 : Int) (may : Bool) (s : State) : State :=
  let small := decide (o16.natAbs < rd R.PTP_VALIDLIM_NS s * 2 ^ 16)
  let s := modSv i (fun x => { x with good := if small then x.good + 1 else 0, bad := if small then 0 else x.bad + 1 }) s
  let x := getSv i s
  if lockOf i s = lkLOCKED then
    if !may || decide (4 ≤ x.bad) then
      modSv i (fun x => { x with lockedAt := none }) (wr (R.PTP_SSTAT_LOCK i) lkACQUIRING s)
    else s
  else if may && decide (16 ≤ x.good) then
    modSv i (fun x => { x with lockedAt := some s.now }) (wr (R.PTP_SSTAT_LOCK i) lkLOCKED s)
  else s

/-- R348, R350 to R352: slot `i` accepts the offset `o16` at sync interval `ts`. -/
def offsetIn (i : Nat) (o16 : Int) (ts : Nat) (may : Bool) (s : State) : State :=
  let s := whenS (lockOf i s != lkLOCKED) (wr (R.PTP_SSTAT_LOCK i) lkACQUIRING) s
  let s := incSat (R.PTP_SCNT_SYNC i) s
  let offs := ((o16, ts) :: (getSv i s).offs).take 16
  let sd := (Config.sourceRate offs).toInt
  let s := modSv i (fun x => { x with offs := offs })
    (wrs [(R.PTP_SOFS_O i, toU 32 (satS 32 (o16.tdiv (2 ^ 16)))), (R.PTP_SDRATE_R i, toU 32 sd)] s)
  let moves := s.net.move == some i && moveOk i s
  let mine := moves || i == selSlot s
  let first := mine && !(flag R.PTP_CLKSTAT_STEPPED s)
  let old := selSlot s
  let s := whenS moves (fun s => modNet (fun n => { n with move := none }) (wr R.PTP_CLKSTAT_SEL i s)) s
  let s := if first then
      forEach [0, 1] (fun k => modSv k fun x => { x with offs := [] }) (wrB R.PTP_CLKSTAT_STEPPED true (stepClock o16 s))
    else if mine then
      steer i (moves && old != i) o16 ts (whenS (moves && old != i) (modSv i fun x => { x with ri := (getSv old s).ri + sd }) s)
    else s
  autoSelect (holdCheck (lockCount i (if first then 0 else o16) may s))

/-- R349: slot `i` tracks the domain of the port it names, and port and PTP engine are there. -/
def tracks1588 (i : Nat) (s : State) : Bool :=
  pdOn 7 s && (slotSrc i s == 1 || slotSrc i s == 2) && flag (R.PTP_PCFG_EN (slotSrc i s - 1)) s

/-- R349, R350: the path delay has been measured: to the selected master, or to the port's peer. -/
def delayKnown (i : Nat) (s : State) : Bool :=
  if flag (R.PTP_SCFG_PDELAY i) s then s.net.pdone.getD (slotSrc i s - 1) false else (getSv i s).delayed

/-- R349: the path delay in hand: the mean path delay, or the port's peer delay, in ns. -/
def pathDelay (i : Nat) (s : State) : Nat :=
  if flag (R.PTP_SCFG_PDELAY i) s then rd (R.PTP_PPDLY_D (slotSrc i s - 1)) s else rd (R.PTP_SMPD_D i) s

/-- A delay in a register field of `w` bits in ns; a value outside it is not stated. -/
def delayField (f : Fld) (d16 : Int) (s : State) : State :=
  let d := d16 / 2 ^ 16
  if 0 ≤ d ∧ d < 2 ^ f.wid then wr f d.toNat s else nextFree (wr f (freeNow 32 s).toNat s)

/-- R370: the frames held for forwarding out of port `p` are dropped and counted. -/
def dropHeld (p : Nat) (s : State) : State :=
  addSat (R.PTP_PCNT_DROP p) (s.net.held.filter fun f => f.1 == p).length
    (modNet (fun x => { x with held := x.held.filter fun f => f.1 != p }) s)

/-- R361: EBYP. -/
def ebypUpdate (s : State) : State :=
  modNet (fun n => { n with ebyp := pdOn 7 s && flag (R.PTP_PCFG_FWD 0) s && flag (R.PTP_PCFG_FWD 1) s && !(warned s) }) s

/-- R357: the latency register of a port at its present speed. -/
def latTx (p : Nat) (s : State) : Int := (rd (R.PTP_PLAT_TX p (rd (R.PTP_PCFG_SPEED p) s)) s * 2 ^ 16 : Nat)
def latRx (p : Nat) (s : State) : Int := (rd (R.PTP_PLAT_RX p (rd (R.PTP_PCFG_SPEED p) s)) s * 2 ^ 16 : Nat)

/-- R357: the ingress and the egress stamp of a frame now, in 2^−16 ns. -/
def ingressStamp (p : Nat) (s : State) : Int := clk16 s - latRx p s
def egressStamp (p : Nat) (s : State) : Int := clk16 s + latTx p s

/-- R349: sourcePortIdentity of a port: the EUI-64 of the base MAC address (FF FE after its third byte, log entry 116), then
portNumber 1 or 2. -/
def portIdent (p : Nat) : BitVec 80 :=
  let m := Config.mac.toNat
  BitVec.ofNat 80 (((m / 2 ^ 24) * 2 ^ 40 + 0xFFFE * 2 ^ 24 + m % 2 ^ 24) * 2 ^ 16 + (p + 1))

/-- R349: the PTP engine sends a message of type `t` on port `p`, with a sequenceId and a stamp. -/
def ptpSend (p t : Nat) (seq : BitVec 16) (stamp : Int) (s : State) : State :=
  modNet (fun n => { n with ptpTx := (⟨p, t, portIdent p, seq, stamp⟩ :: n.ptpTx).take 8 }) s

end Sys2Proof.Machine
end

