-- ==== Sys2Proof/Machine/Check.lean ====
section
/-!
DEFINITION. The accesses to the check-value units CK0 to CK3 (R414 to R416, R420).
-/
namespace Sys2Proof.Machine

/-- The width of a unit. -/
def ckW (u : Nat) (s : State) : Nat := rd (R.CHK_CKCFG_WIDTH u) s + 1

/-- R420: bits at or above the width read 0. -/
def ckMask (u : Nat) (s : State) : State :=
  let m := 2 ^ ckW u s
  let cut (lo hi : Fld) (s : State) : State :=
    let v := (rd lo s + 2 ^ 32 * rd hi s) % m
    wrs [(lo, v), (hi, v / 2 ^ 32)] s
  cut (R.CHK_CKPOLYLO_P u) (R.CHK_CKPOLYHI_P u) (cut (R.CHK_CKINITLO_I u) (R.CHK_CKINITHI_I u)
    (cut (R.CHK_CKVALLO_V u) (R.CHK_CKVALHI_V u) s))

/-- R416: the window would overlap GV, LIFE, IDENT or the vault partition. -/
def ckWindowBad (lo len : Nat) : Bool :=
  [(0x1A000000, 0x1000000), (0x20001000, 0x1000), (0x20002000, 0x1000), (0x40020000, 0x20000)].any fun r =>
    decide (0 < len ∧ lo < r.1 + r.2 ∧ r.1 < lo + len)

/-- R414, R416: the effect of a write of CKCFG. -/
def ckcfgSet (u v : Nat) (s : State) : State × Nat :=
  if flag (R.CHK_CKCFG_EN u) s && v % 2 == 1 then (s, stDENIED)
  else
    let s := wrs [(R.CHK_CKCFG_EN u, v), (R.CHK_CKCFG_WIDTH u, v / 2), (R.CHK_CKCFG_REFIN u, v / 2 ^ 7),
      (R.CHK_CKCFG_REFOUT u, v / 2 ^ 8), (R.CHK_CKCFG_INV u, v / 2 ^ 9), (R.CHK_CKCFG_SRC u, v / 2 ^ 10),
      (R.CHK_CKCFG_MODE u, v / 2 ^ 12), (R.CHK_CKCFG_SEL u, v / 2 ^ 16)] s
    let s := ckMask u s
    if v.testBit 23 then
      (wrs [(R.CHK_CKCNT_N u, 0), (R.CHK_CKSTAT_OVF u, 0)]
        (ckSetVal u (rd (R.CHK_CKINITLO_I u) s + 2 ^ 32 * rd (R.CHK_CKINITHI_I u) s) s), stOK)
    else (s, stOK)

/-- CK_LOAD (R414): a write of CKCFG. -/
def execCkLoad (u : Fin 4) (v : W32) (s : State) : Host.Outcome State Fault Refusal := .next (hostWrite (0x1B000000 + u.val * 0x100) v.toNat (ckcfgSet u v.toNat) s)

/-- R415: direct bytes reach an enabled unit whose source they are. -/
def ckDirect (u : Nat) (bs : List Byte) (s : State) : State × Nat := (whenS (ckOn u 0 s) (ckFeed u bs) s, stOK)

/-- CKDATA (R415). -/
def execCkdata (u : Fin 4) (v : W32) (s : State) : Host.Outcome State Fault Refusal :=
  .next (hostWrite (0x1B000030 + u.val * 0x100) v.toNat (ckDirect u (leBytes 4 v.toNat)) s)

/-- CKDATAB (R415). -/
def execCkdatab (u : Fin 4) (v : W32) (s : State) : Host.Outcome State Fault Refusal :=
  .next (hostWrite (0x1B000034 + u.val * 0x100) v.toNat (ckDirect u (leBytes 1 v.toNat)) s)

/-- R420: a read of CKVALLO latches CKVALHI; a read of CKRESLO latches CKRESHI. -/
def ckvalLatch (u : Nat) (s : State) : State := wr (R.CHK_CKVALHI_V u).eff (rd (R.CHK_CKVALHI_V u) s) s
def ckresLatch (u : Nat) (s : State) : State := wr (R.CHK_CKCNT_N u).eff (ckRes u s / 2 ^ 32) s

/-- CKVALLO_READ (R420). -/
def execCkvalloRead (u : Fin 4) (s : State) : Host.Outcome State Fault Refusal := .next (hostRead (0x1B000018 + u.val * 0x100) (ckvalLatch u) s)

/-- CKRESLO_READ (R420). -/
def execCkresloRead (u : Fin 4) (s : State) : Host.Outcome State Fault Refusal := .next (hostRead (0x1B000020 + u.val * 0x100) (ckresLatch u) s)

/-- R416, R420: a write of another register of unit `u` at offset `r`. -/
def ckregSet (u r v : Nat) (s : State) : State × Nat :=
  let en := flag (R.CHK_CKCFG_EN u) s
  if r = 0 then ckcfgSet u v s
  else if r = 0x30 then ckDirect u (leBytes 4 v) s
  else if r = 0x34 then ckDirect u (leBytes 1 v) s
  else if r = 0x28 then
    if en || ckWindowBad v (rd (R.CHK_CKWLEN_L u) s) then (s, stDENIED) else (wr (R.CHK_CKWBASE_A u) v s, stOK)
  else if r = 0x2C then
    if en || ckWindowBad (rd (R.CHK_CKWBASE_A u) s) v then (s, stDENIED) else (wr (R.CHK_CKWLEN_L u) v s, stOK)
  else if r = 4 ∨ (8 ≤ r ∧ r ≤ 0x1C) then
    if en then (s, stDENIED)
    else
      let s := forEach ((fieldsAt (0x1B000000 + u * 0x100 + r)).filter fun f => f.acc == .rw)
        (fun f s => wr f (v / 2 ^ f.lsb) s) s
      (ckMask u s, stOK)
  else (s, stOK)

end Sys2Proof.Machine
end

