-- ==== Sys2Proof/Machine/Chain.lean ====
section
/-!
DEFINITION. The filters of the sampling and decimation chain (R116 to R142): the modulator's code check, the CIC, the
half-band stages, the response slots with cross-fade, the tail halvings and the splice, each as a function of one
channel.
-/
namespace Sys2Proof.Machine

/-- The place of channel `c` of outlet `o` (8 for S0 to S3) in the chain (R115). -/
def chIx (o c : Nat) : Fin 126 := ⟨(if o < 8 then o * 14 + c else 112 + c) % 126, Nat.mod_lt _ (by decide)⟩

def getCh (o c : Nat) (s : State) : Chan := vget s.samp.chans (chIx o c)

def setCh (o c : Nat) (x : Chan) (s : State) : State :=
  { s with samp := { s.samp with chans := vset s.samp.chans (chIx o c) x } }

def modCh (o c : Nat) (f : Chan → Chan) (s : State) : State := setCh o c (f (getCh o c s)) s

/-- Ages saturate here; every window of R132 is shorter. -/
def ageCap : Nat := 2 ^ 20

def older (n : Nat) : Nat := if n < ageCap then n + 1 else n

/-- R121: the integrators, each adding the present value of the one before it, modulo 2^28. -/
def integrate : Nat → List Nat → List Nat
  | _, [] => []
  | x, i :: is => ((i + x) % 2 ^ 28) :: integrate ((i + x) % 2 ^ 28) is

/-- R121: the combs: new states and the output, modulo 2^28. -/
def combs : Nat → List Nat → List Nat × Nat
  | x, [] => ([], x)
  | x, p :: ps => let r := combs ((x + 2 ^ 28 - p) % 2 ^ 28) ps; (x :: r.1, r.2)

/-- R122: the CIC output as it enters HB1. -/
def cicToQ31 (c : Nat) : Int :=
  let v := sext 28 c * 2 ^ 5
  if 2 ^ 31 - 1 < v then 0x7FFFFFE0 else v

/-- R125: narrow a 56-bit result to Q1.31 by residue carry: output, residue, saturation. -/
def narrow (acc : Int) (res : Nat) : Int × Nat × Bool :=
  let a := acc + res
  let y := a / 2 ^ 23
  if y < -(2 ^ 31) then (-(2 ^ 31), 0, true)
  else if 2 ^ 31 - 1 < y then (2 ^ 31 - 1, 0, true)
  else (y, (a % 2 ^ 23).toNat, false)

/-- R123: one input of half-band stage `i`: an output with every second input. -/
def hbFeed (i : Nat) (x : Int) (f : Fir) : Fir × Option (Int × Bool) :=
  let line := (x :: f.line).take (hbTaps i)
  if f.odd then
    let r := narrow (firSum (hbTap i) 0 line) f.res
    (⟨line, r.2.1, false⟩, some (r.1, r.2.2))
  else (⟨line, f.res, true⟩, none)

/-- R128: the tail stages on the output of frame `n`; stage `i` delivers when n mod 2^i = 0 and its line is full, so that
a stage that fills for a new rate hands on fully formed outputs alone (R139, R142).  The outputs, by stage, each with whether it
saturated. -/
def tailRun (n : Nat) : Nat → Nat → Int → List Fir → List Fir × List (Nat × Int × Bool)
  | _, 0, _, fs => (fs, [])
  | _, _, _, [] => ([], [])
  | i, d + 1, x, f :: fs =>
    let line := (x :: f.line).take (respTaps 13)
    if n % 2 ^ i = 0 ∧ respTaps 13 ≤ line.length then
      let r := narrow (firSum (romTap 13) 0 line) f.res
      let t := tailRun n (i + 1) d r.1 fs
      (⟨line, r.2.1, false⟩ :: t.1, (i, r.1, r.2.2) :: t.2)
    else (⟨line, f.res, false⟩ :: fs, [])

/-- The roles and responses of a channel's slots, and the cross-fade under way: new response, v and output number. -/
structure Roles where
  roleA : Nat
  respA : Nat
  roleB : Nat
  respB : Nat
  xf : Option (Nat × Nat × Nat)
  deriving DecidableEq, Repr

/-- R127: the 90° match of a main response. -/
def match90 (r : Nat) : Nat := if r = 0 then 7 else if r = 1 then 8 else 9

/-- One input of a slot with response `r`; in a cross-fade to `xf` (R140).  The output and whether a stage saturated. -/
def slotFeed (r : Nat) (xf : Option (Nat × Nat × Nat)) (x : Int) (sl : Slot) : Slot × Int × Bool :=
  let line := (x :: sl.line).take (match xf with | some (rn, _, _) => max (respTaps r) (respTaps rn) | none => respTaps r)
  let yo := narrow (firSum (romTap r) 0 (line.take (respTaps r))) sl.res
  match xf with
  | none => (⟨line, yo.2.1, sl.resNew, sl.xf⟩, yo.1, yo.2.2)
  | some (rn, v, j) =>
    let yn := narrow (firSum (romTap rn) 0 (line.take (respTaps rn))) sl.resNew
    let a := (yn.1 - yo.1) * (j : Int) * 2 ^ (4 - v) + sl.xf
    (⟨line, yo.2.1, yn.2.1, (a % 1024).toNat⟩, yo.1 + a / 1024, yo.2.2 || yn.2.2)

/-- R136: a main output computed with response 14 or 15, alone or in a cross-fade. -/
def selfTest (r : Nat) (xf : Option (Nat × Nat × Nat)) : Bool :=
  decide (14 ≤ r) || match xf with | some (rn, _, _) => decide (14 ≤ rn) | none => false

/-- R125: a stage that main and companion share saturated. -/
def Chan.over (b : Bool) (ch : Chan) : Chan := { ch with sat := ch.sat || b, sat90 := ch.sat90 || b }

/-- R139: a shadow whose line was full before this input: its output is the first one that is delivered at 32 kHz. -/
def shadowDelivers (role r : Nat) (sl : Slot) : Bool := role == 2 && r == 12 && decide (respTaps 12 ≤ sl.line.length)

/-- One input of a slot by its role; the outputs go to the main, shadow or companion place of the channel. -/
def slotStep (role r : Nat) (xf : Option (Nat × Nat × Nat)) (isA : Bool) (x : Int) (ch : Chan) : Chan :=
  if role = 0 then ch
  else
    let xf' := match xf with
      | some (rn, v, j) => if role = 1 then some (rn, v, j) else if role = 3 then some (match90 rn, v, j) else none
      | none => none
    let sl := if isA then ch.slotA else ch.slotB
    let f := slotFeed r xf' x sl
    let ch := if isA then { ch with slotA := f.1 } else { ch with slotB := f.1 }
    if role = 1 then { ch with main := f.2.1, sat := ch.sat || f.2.2, ageSelf := if selfTest r xf then 0 else ch.ageSelf }
    else if role = 3 then { ch with comp := f.2.1, sat90 := ch.sat90 || f.2.2 }
    else { ch with shad := f.2.1, sat := ch.sat || (shadowDelivers role r sl && f.2.2) }

/-- The slots that run at 32 kHz (response 12), or at 8 kHz (all others). -/
def slotsStep (fast : Bool) (ro : Roles) (x : Int) (ch : Chan) : Chan :=
  let ch := if (ro.respA == 12) == fast then slotStep ro.roleA ro.respA ro.xf true x ch else ch
  if (ro.respB == 12) == fast then slotStep ro.roleB ro.respB ro.xf false x ch else ch

/-- R129, R139: the FAST output of an HB2 input: of the main slot, or of a shadow whose line was full before it. -/
def fastOut (ro : Roles) (before ch : Chan) : List Int :=
  let of (role resp : Nat) (sl : Slot) : List Int :=
    if role = 1 ∧ resp = 12 then [ch.main] else if shadowDelivers role resp sl then [ch.shad] else []
  of ro.roleA ro.respA before.slotA ++ of ro.roleB ro.respB before.slotB

/-- R120: what an HB2 output drives: the FAST response, HB3, HB4 and the 8 kHz slots. -/
def afterHb2 (ro : Roles) (x : Int) (before : Chan) : Chan :=
  let ch := slotsStep true ro x before
  let ch := { ch with outs := ch.outs ++ fastOut ro before ch }
  let h3 := hbFeed 3 x ch.hb3
  let ch := { ch with hb3 := h3.1 }
  match h3.2 with
  | none => ch
  | some (y3, s3) =>
    let h4 := hbFeed 4 y3 ch.hb4
    let ch := Chan.over s3 { ch with hb4 := h4.1 }
    match h4.2 with
    | none => ch
    | some (y4, s4) => slotsStep false ro y4 (Chan.over s4 ch)

/-- What a CIC output drives: HB1, HB2 and the stages after them. -/
def afterCic (ro : Roles) (x : Int) (ch : Chan) : Chan :=
  let h1 := hbFeed 1 x ch.hb1
  let ch := { ch with hb1 := h1.1 }
  match h1.2 with
  | none => ch
  | some (y1, s1) =>
    let h2 := hbFeed 2 y1 ch.hb2
    let ch := Chan.over s1 { ch with hb2 := h2.1 }
    match h2.2 with
    | none => ch
    | some (y2, s2) => afterHb2 ro y2 (Chan.over s2 ch)

/-- R116: a code the capture FIFO replaces. -/
def badCode (c : BitVec 3) : Bool := c == 3 || c == 4 || c == 5

/-- A shadow fills or a cross-fade runs (R157). -/
def Roles.changing (ro : Roles) : Bool := ro.roleA == 2 || ro.roleB == 2 || ro.xf.isSome

/-- R116, R117: the modulator's side of one sample instant: the code as taken, overload, loop-filter reset, ages; an
overload while a change runs also counts for RECOVER (R157). -/
def modStep (changing : Bool) (code : BitVec 3) (ch : Chan) : Chan × Int :=
  let ch := { ch with ageStart := older ch.ageStart, ageOvl := older ch.ageOvl, ageRec := older ch.ageRec,
                      ageTest := if ch.inject then 0 else older ch.ageTest, ageSelf := older ch.ageSelf }
  if 0 < ch.rst then ({ ch with rst := ch.rst - 1, ageOvl := 0, ageRec := 0, ext := 0, run := 0 }, 0)
  else
    let v : Int := if badCode code then 0 else code.toInt
    let ch := if badCode code then { ch with nErr := ch.nErr + 1, ageRec := 0 } else ch
    let run := if v = 2 ∨ v = -2 then (if v = ch.ext then ch.run + 1 else 1) else 0
    let ch := { ch with ext := if run = 0 then 0 else v, run := run,
                        nOvl := if run = 32 then ch.nOvl + 1 else ch.nOvl,
                        ageOvl := if 32 ≤ run then 0 else ch.ageOvl,
                        ageRec := if 32 ≤ run ∧ changing = true then 0 else ch.ageRec }
    if run = 256 then ({ ch with rst := 64, nRst := ch.nRst + 1, ageRec := 0, ageOvl := 0, run := 0, ext := 0 }, v)
    else (ch, v)

/-- One sample instant of a channel. -/
def instantOf (ro : Roles) (ch : Chan) (code : BitVec 3) : Chan :=
  let m := modStep ro.changing code ch
  let ints := integrate (toU 28 m.2) m.1.ints
  let ch : Chan := { m.1 with ints := ints, fed := m.1.fed + 1 }
  if ch.cic + 1 < 32 then { ch with cic := ch.cic + 1 }
  else
    let c := combs (ints.getLastD 0) ch.combs
    afterCic ro (cicToQ31 c.2) { ch with cic := 0, combs := c.1 }

/-- Feed codes up to `upto` instants of the frame; instants for which the command brings no code take the code 0
(log entry 12). -/
def feedTo (ro : Roles) (upto : Nat) (codes : List (BitVec 3)) (ch : Chan) : Chan :=
  let n := upto - ch.fed
  (codes.take n ++ List.replicate (n - codes.length) 0).foldl (instantOf ro) ch

/-- R118: every register of the path cleared, the lines of the `k` tail stages that run filled with zeros; the phase
starts in START.  What belongs to the pending request, to tests and to misses stays. -/
def Chan.enabled (k : Nat) (ch : Chan) : Chan :=
  { Chan.reset with
    tails := Chan.reset.tails.zipIdx.map fun fi => if fi.2 < k then { fi.1 with line := List.replicate (respTaps 13) 0 } else fi.1
    chg := ch.chg, chgN := ch.chgN, chgT := ch.chgT, chgW := ch.chgW, misses := ch.misses
    testOn := ch.testOn, testLeft := ch.testLeft, testN := ch.testN, testW := ch.testW, testLog := ch.testLog
    tHL := ch.tHL, tLL := ch.tLL }

/-- R117, R136, R487: the modulator of an enabled channel has its supply again, or the path its own: it is in START, and its
output instants fall on the frames as before; nothing else of the path changes (R125; log entry 95). -/
def Chan.resumed (ch : Chan) : Chan :=
  let even (f : Fir) : Fir := { f with odd := false }
  { ch with ageStart := 0, ext := 0, run := 0, rst := 0, cic := 0, fed := 0, outs := [],
            hb1 := even ch.hb1, hb2 := even ch.hb2, hb3 := even ch.hb3, hb4 := even ch.hb4 }

/-- R131, R132: the window of an output in instants. -/
def windowOf (privileged : Bool) (preset rate : Nat) : Nat :=
  if privileged then (if preset = 1 then 2012 else if preset = 2 then 150748 else 26844)
  else 75996 + 15360 * (2 ^ rate - 1)

/-- R136: the phase of an output with window `w`; its tail reaches back over the outputs of w − 75,996 instants. -/
def phaseOf (w : Nat) (ch : Chan) : Nat :=
  if ch.missed || decide (ch.ageRec < w) then 3
  else if ch.ageTest < w ∨ ch.ageSelf < w - 75995 then 2
  else if ch.ageStart < w then 1 else 0

/-- R117, R125, R148: OVL of an output with window `w`. -/
def ovlOf (w : Nat) (ch : Chan) : Bool := decide (ch.ageOvl < w) || ch.sat || ch.satAcc

/-- R137: outside NORMAL the delivered value is rounded convergently to 24 bits, with guard 0; one that the rounding
carries to 2^23 saturates (DESIGN CHOICE, log entry 96). -/
def deliverVal (phase : Nat) (y : Int) : Int := if phase = 0 then y else satS 24 (roundTo 1 y 8) * 256

/-- R148: the status word. -/
def statusWord (ch : Nat) (range ovl interp test : Bool) (phase : Nat) (xf sw : Bool) (sub : Nat) (rconv : Bool) : Nat :=
  ch + b2n range * 2 ^ 4 + b2n ovl * 2 ^ 5 + b2n interp * 2 ^ 6 + b2n test * 2 ^ 7 + phase * 2 ^ 9 + b2n xf * 2 ^ 11
    + b2n sw * 2 ^ 12 + sub * 2 ^ 13 + b2n rconv * 2 ^ 15

/-- R147: a SAMPLE or SAMPLE90 message. -/
def sampleMsg (typ : Nat) (y : Int) (stat : Nat) : Msg :=
  mkMsg typ (toU 24 (y / 256)) ((y % 256).toNat * 2 ^ 16 + stat)

/-- R152: a DETECT message. -/
def detectMsg (value kind ch n : Nat) : Msg := mkMsg 0x64 value (kind * 2 ^ 20 + ch * 2 ^ 16 + n % 2 ^ 16)

end Sys2Proof.Machine
end

