-- ==== Sys2Proof/Machine/Sampling.lean ====
section
/-!
DEFINITION. The commands of the sampling and decimation chain (R115 to R158): frames, detectors, the events inside a
frame, and the requests of R154.  The events that fall between two frames (a switch to a new response, rate or preset,
the end of a cross-fade, the end of a splice block) are carried out by their own commands, and by the next FRAME where
no command came first (log entry 13).
-/
namespace Sys2Proof.Machine

/-- The channels of an outlet; 8 is the supply side. -/
def chansOf (o : Nat) : List Nat := if o = 8 then [0, 1, 2, 3] else List.range 14

/-- Every channel of the part. -/
def allChans : List (Nat × Nat) := (List.range 9).flatMap fun o => (chansOf o).map fun c => (o, c)

/-- The channel whose configuration governs channel `c` (R127, R138). -/
def govern (o c : Nat) : Nat := if o < 8 ∧ 8 ≤ c ∧ c < 12 then c - 4 else c

def isPriv (o c : Nat) : Bool := decide (o < 8 ∧ 12 ≤ c)
def isCurrent (o c : Nat) : Bool := decide (o < 8 ∧ 4 ≤ c ∧ c < 8)

/-- The channel is enabled and its domains are on (R21, R118). -/
def chOn (o c : Nat) (s : State) : Bool :=
  flag (R.FLT_CHCFG_EN o (govern o c)) s && pdOn 4 s && pdOn (if 4 ≤ o ∧ o < 8 then 3 else 2) s

/-- R147: the queues that carry a channel. -/
def streamQs (o c : Nat) : List Nat := if o = 8 then [48, 49] else if c < 12 then [32 + o] else [40 + o]

/-- The cross-fade under way on a channel: new response, v, number of the next output (R140). -/
def xfOf (o c : Nat) (s : State) : Option (Nat × Nat × Nat) :=
  match (getCh o c s).chg with
  | .xfade r v => let rem := rd (R.FLT_CHSTAT_XFREM o c) s
                  if rem = 0 then none else some (r, v, 64 * 2 ^ v - rem + 1)
  | _ => none

def rolesOf (o c : Nat) (s : State) : Roles :=
  let g := govern o c
  ⟨rd (R.FLT_CHSTAT_SLOTA o g) s, rd (R.FLT_CHSTAT_RESPA o g) s, rd (R.FLT_CHSTAT_SLOTB o g) s,
    rd (R.FLT_CHSTAT_RESPB o g) s, xfOf o g s⟩

/-- Set both slots; the two paths of a current channel always agree (R138). -/
def setSlots (o c ra pa rb pb : Nat) (s : State) : State :=
  let one (c : Nat) := wrs [(R.FLT_CHSTAT_SLOTA o c, ra), (R.FLT_CHSTAT_RESPA o c, pa), (R.FLT_CHSTAT_SLOTB o c, rb),
    (R.FLT_CHSTAT_RESPB o c, pb)]
  let s := one c s
  if isCurrent o c then one (c + 4) s else s

/-- The response a channel runs when it is enabled: its main response, or that of its preset (R126, R129). -/
def enableResp (o c : Nat) (s : State) : Nat :=
  if isPriv o c then
    (if rd (R.FLT_CHCFG_PRESET o c) s = 1 then 12 else if rd (R.FLT_CHCFG_PRESET o c) s = 2 then 11 else 10)
  else rd (R.FLT_CHCFG_RESP o c) s

/-- The privileged channels. -/
def privChans : List (Nat × Nat) := outlets.flatMap fun o => [(o, 12), (o, 13)]

/-- A privileged channel at FAST. -/
def atFast (o c : Nat) (s : State) : Bool := flag (R.FLT_CHCFG_EN o c) s && rd (R.FLT_CHCFG_PRESET o c) s == 1

/-- R130: FLT.FASTCNT. -/
def fastCount (s : State) : Nat := privChans.countP fun oc => atFast oc.1 oc.2 s

/-- A pending request brings the channel to FAST. -/
def toFast (o c : Nat) (s : State) : Bool :=
  match (getCh o c s).chg with
  | .preset p => p == 1 && flag (R.FLT_CHCFG_EN o c) s
  | .enable => rd (R.FLT_CHCFG_PRESET o c) s == 1
  | _ => false

/-- R35, R130: the privileged channels at FAST and those that accepted requests bring there. -/
def fastBooked (s : State) : Nat := privChans.countP fun oc => atFast oc.1 oc.2 s || toFast oc.1 oc.2 s

def recount (s : State) : State := wr R.FLT_FASTCNT_N (fastCount s) s

/-- R120: the tail stages that a path runs: those of its rate; three for QUIET. -/
def stagesOf (o c : Nat) (s : State) : Nat :=
  if isPriv o c then (if rd (R.FLT_CHCFG_PRESET o c) s = 2 then 3 else 0) else rd (R.FLT_CHCFG_RATE o (govern o c)) s

/-- R118: the path of one modulator starts. -/
def startPath (o c : Nat) (s : State) : State := modCh o c (Chan.enabled (stagesOf o c s)) s

/-- The slots of a channel that starts; an enabled companion fills its slot first (R141). -/
def startSlots (o c : Nat) (s : State) : State :=
  let r := enableResp o c s
  if flag (R.FLT_CHCFG_COMP o c) s then setSlots o c 1 r 2 (match90 r) s else setSlots o c 1 r 0 0 s

/-- R165, R170: the pair's residues and histories of a channel that is enabled. -/
def clearMeter (o c : Nat) (s : State) : State :=
  if o = 8 then
    { s with supply := { s.supply with rv := s.supply.rv.set c 0, hv := s.supply.hv.set c Hist.reset } }
  else if 8 ≤ c then s
  else
    let m := vget s.meters (o8 o)
    let m := if c < 4 then
        { m with rv := m.rv.set c 0, r90 := m.r90.set c 0, hv := m.hv.set c Hist.reset, h90 := m.h90.set c Hist.reset }
      else { m with ri := m.ri.set (c - 4) 0, hi := m.hi.set (c - 4) Hist.reset }
    { s with meters := vset s.meters (o8 o) m }

/-- R118: enable a channel.  CHCFG of a low range mirrors EN and nothing else (log entry 82). -/
def enableChan (o c : Nat) (s : State) : State :=
  let s := clearMeter o c (startPath o c s)
  let s := if isCurrent o c then
      wrs [(R.FLT_CHCFG_EN o (c + 4), 1), (R.FLT_CHSTAT_XFREM o (c + 4), 0), (R.FLT_CHSTAT_FLT o (c + 4), 0)]
        (startPath o (c + 4) s)
    else s
  let s := startSlots o c s
  let s := wrs [(R.FLT_CHCFG_EN o c, 1), (R.FLT_CHSTAT_XFREM o c, 0), (R.FLT_CHSTAT_FLT o c, 0)] s
  let s := if isCurrent o c then
      wrs [(R.FLT_SPLR_R o c, rd (R.FLT_SPLRINIT_R o c) s), (R.FLT_SPLSTAT_RANGE o c, 0), (R.FLT_SPLSTAT_QCNT o c, 0),
        (R.FLT_SPLSTAT_RCONV o c, 0)] s
    else s
  recount s

/-- R118: disable a channel. -/
def disableChan (o c : Nat) (s : State) : State :=
  let off (c : Nat) := wrs [(R.FLT_CHCFG_EN o c, 0), (R.FLT_CHSTAT_MODOVL o c, 0)]
  let s := off c s
  let s := if isCurrent o c then off (c + 4) s else s
  recount (setSlots o c 0 (rd (R.FLT_CHSTAT_RESPA o c) s) 0 (rd (R.FLT_CHSTAT_RESPB o c) s) s)

/-- R155: the pending change is in effect from the frame of index `n`; its request completes OK. -/
def changeDone (o c n : Nat) (s : State) : State :=
  let ch := getCh o c s
  complete (8 + ch.chgN) ch.chgT ch.chgW (n % 2 ^ 16 * 256) stOK (modCh o c (fun ch => { ch with chg := .none }) s)

/-- Do the same to both paths of a current channel, to the one path of another. -/
def modPaths (o c : Nat) (f : Chan → Chan) (s : State) : State :=
  let s := modCh o c f s
  if isCurrent o c then modCh o (c + 4) f s else s

/-- XFREM of a channel, of both its paths. -/
def setXfrem (o c v : Nat) (s : State) : State :=
  let s := wr (R.FLT_CHSTAT_XFREM o c) v s
  if isCurrent o c then wr (R.FLT_CHSTAT_XFREM o (c + 4)) v s else s

/-- A shadow that fills becomes idle, a cross-fade ends where it stands (R157). -/
def dropChange (o c : Nat) (s : State) : State :=
  let ro := rolesOf o c s
  let idle (k : Nat) := if k = 2 then 0 else k
  match (getCh o c s).chg with
  | .resp _ | .comp | .preset _ => setSlots o c (idle ro.roleA) ro.respA (idle ro.roleB) ro.respB s
  | .xfade _ _ => setXfrem o c 0 (modPaths o c (fun ch => { ch with sw := false, sw90 := false }) s)
  | _ => s

/-- The pending change completes without effect; it leaves nothing behind (R157, R188). -/
def changeEnds (status o c : Nat) (s : State) : State :=
  let ch := getCh o c s
  if ch.chg = .none then s
  else complete (8 + ch.chgN) ch.chgT ch.chgW 0 status (modCh o c (fun ch => { ch with chg := .none }) (dropChange o c s))

/-- R22, R157: the pending change completes WITHDRAWN. -/
def changeWithdrawn (o c : Nat) (s : State) : State := changeEnds stWITHDRAWN o c s

/-- The slot in role `k`. -/
def slotIn (k : Nat) (ro : Roles) (ch : Chan) : Slot := if ro.roleA = k then ch.slotA else ch.slotB

/-- R139: the shadow's delay line holds as many inputs as its response has taps, on every path of the channel. -/
def shadowFull (o c r : Nat) (s : State) : Bool :=
  let ro := rolesOf o c s
  decide (ro.roleA = 2 ∨ ro.roleB = 2) && decide (respTaps r ≤ (slotIn 2 ro (getCh o c s)).line.length) &&
    (!(isCurrent o c) || decide (respTaps r ≤ (slotIn 2 ro (getCh o (c + 4) s)).line.length))

/-- The tail stage `k` holds a full line and delivers in frame `n` (R128, R142). -/
def tailReady (o c k n : Nat) (s : State) : Bool :=
  k == 0 || (decide (respTaps 13 ≤ ((getCh o c s).tails.getD (k - 1) Fir.clear).line.length) && n % 2 ^ k == 0)

/-- The shadow becomes main and the old slot idle (R139). -/
def shadowToMain (o c : Nat) (s : State) : State :=
  let ro := rolesOf o c s
  if ro.roleA = 2 then setSlots o c 1 ro.respA 0 ro.respB s else setSlots o c 0 ro.respA 1 ro.respB s

/-- R141: the shadow is full and becomes the companion; its first sample carries SW. -/
def shadowToComp (o c : Nat) (s : State) : State :=
  let ro := rolesOf o c s
  modCh o c (fun ch => { ch with sw90 := true })
    (if ro.roleA = 2 then setSlots o c 3 ro.respA ro.roleB ro.respB s else setSlots o c ro.roleA ro.respA 3 ro.respB s)

/-- The response in the shadow slot. -/
def shadowResp (ro : Roles) : Nat := if ro.roleA = 2 then ro.respA else ro.respB

/-- R139: a response change whose shadow is full switches, from frame `n`; at a reduced rate it completes with its SW
output (R155).  The companion of a channel that started fills in the same way (R141). -/
def doRespSwitch (o c n : Nat) (s : State) : State :=
  match (getCh o c s).chg with
  | .resp r =>
    if shadowFull o c r s then
      let s := modPaths o c (fun ch => { ch with sw := true }) (shadowToMain o c s)
      if n % 2 ^ rd (R.FLT_CHCFG_RATE o c) s = 0 then changeDone o c n (wr (R.FLT_CHCFG_RESP o c) r s)
      else modCh o c (fun ch => { ch with chg := .switched r }) s
    else s
  | .comp =>
    if shadowFull o c (shadowResp (rolesOf o c s)) s then
      changeDone o c n (wr (R.FLT_CHCFG_COMP o c) 1 (shadowToComp o c s))
    else s
  | _ =>
    if flag (R.FLT_CHCFG_COMP o c) s && shadowFull o c (shadowResp (rolesOf o c s)) s then shadowToComp o c s else s

/-- R125: after a cross-fade the new response goes on with its own residue. -/
def Slot.faded (sl : Slot) : Slot := { sl with res := sl.resNew, resNew := sl.res }

/-- R140: a cross-fade that has delivered its last output, in frame `n`, leaves only the new response. -/
def doXfadeEnd (o c n : Nat) (s : State) : State :=
  match (getCh o c s).chg with
  | .xfade r _ =>
    let ro := rolesOf o c s
    if rd (R.FLT_CHSTAT_XFREM o c) s = 0 ∧ (ro.roleA = 1 ∨ ro.roleB = 1) then
      let f (role old : Nat) := if role = 1 then r else if 2 ≤ role then match90 r else old
      let swap (role : Nat) (sl : Slot) := if role = 1 ∨ role = 3 then Slot.faded sl else sl
      let s := modPaths o c (fun ch => { ch with slotA := swap ro.roleA ch.slotA, slotB := swap ro.roleB ch.slotB }) s
      changeDone o c n (wr (R.FLT_CHCFG_RESP o c) r
        (setSlots o c ro.roleA (f ro.roleA ro.respA) ro.roleB (f ro.roleB ro.respB) s))
    else s
  | _ => s

/-- R142: a rate change whose new tail is full takes effect from frame `n`. -/
def doRateSwitch (o c n : Nat) (s : State) : State :=
  match (getCh o c s).chg with
  | .rate k =>
    if tailReady o c k n s then
      changeDone o c n (modPaths o c (fun ch => { ch with sw := true }) (wr (R.FLT_CHCFG_RATE o c) k s))
    else s
  | _ => s

/-- The response of a preset (R126, R129). -/
def presetResp (p : Nat) : Nat := if p = 1 then 12 else if p = 2 then 11 else 10

/-- The index before `n`. -/
def prevIdx (n : Nat) : Nat := (n + 2 ^ 24 - 1) % 2 ^ 24

/-- The preset `p` runs from frame `n` on. -/
def presetNow (o c p n : Nat) (s : State) : State :=
  changeDone o c n (recount (modCh o c (fun ch => { ch with sw := true })
    (wr (R.FLT_CHCFG_PRESET o c) p (shadowToMain o c s))))

/-- R129, R139: a preset change whose shadow, and whose tails for QUIET, are full takes effect with the next output: for
FAST in the frame under way, else in frame `n`; a channel leaves FAST after SUB 3. -/
def doPresetSwitch (o c n : Nat) (s : State) : State :=
  let fed := (getCh o c s).fed
  match (getCh o c s).chg with
  | .preset p =>
    if shadowFull o c (presetResp p) s && (p != 2 || tailReady o c 3 n s) && (!(atFast o c s) || decide (384 ≤ fed)) then
      presetNow o c p (if p = 1 ∧ fed < 384 then prevIdx n else n) s
    else s
  | _ => s

/-- R129, R139: a FAST shadow that was full has given its first output, in frame `n`. -/
def doFastSwitch (n : Nat) (oc : Nat × Nat) (s : State) : State :=
  let (o, c) := oc
  if (getCh o c s).chg = .preset 1 ∧ (getCh o c s).outs ≠ [] then presetNow o c 1 n s else s

/-- R134: the end of a block of 4,096 frames: the ratio estimate.  The sample of the block's last frame still carries the
RCONV before it (log entry 77). -/
def doSpliceBlock (o c : Nat) (s : State) : State :=
  let ch := getCh o c s
  if ch.blk < 4096 then s
  else
    let r := rd (R.FLT_SPLR_R o c) s
    let rb : Int := (ch.shl * 2 ^ 32) / ch.sll
    let good := decide (0x0F0F0F0F ≤ rb ∧ rb ≤ 0x11111111)
    let enough := decide (1024 ≤ ch.spk)
    let conv := if enough then (if good then (if (rb - (r : Int)).natAbs ≤ 0x1000 then ch.conv + 1 else 0) else 0) else ch.conv
    let s := if enough && good then wr (R.FLT_SPLR_R o c) ((r : Int) + (rb - r) / 16).toNat s else s
    let s := if enough && !good then incSat (R.FLT_SPLSTAT_REJ o c) s else s
    wrB (R.FLT_SPLSTAT_RCONV o c) (decide (4 ≤ conv))
      (setCh o c { ch with shl := 0, sll := 0, spk := 0, blk := 0, conv := conv } s)

/-- The DETCFG fields of a 24-bit word (R158).  The window under way keeps its sums (log entry 80). -/
def wrDetcfg (o c v : Nat) (s : State) : State :=
  wrs [(R.FLT_DETCFG_WIN o c, bits v 3 0), (R.FLT_DETCFG_WSRC o c, bits v 4 4), (R.FLT_DETCFG_ZCREF o c, bits v 8 5),
    (R.FLT_DETCFG_ATT o c, bits v 12 9), (R.FLT_DETCFG_REL o c, bits v 16 13), (R.FLT_DETCFG_ZCHYS o c, bits v 20 17),
    (R.FLT_DETCFG_EVPK o c, bits v 21 21), (R.FLT_DETCFG_EVZC o c, bits v 22 22), (R.FLT_DETCFG_EVWIN o c, bits v 23 23)] s

/-- A setting of a disabled channel; none for the changes that do not wait for a stage. -/
def setDisabled (o c : Nat) (chg : Change) (s : State) : Option State :=
  match chg with
  | .resp r | .xfade r _ => some (wr (R.FLT_CHCFG_RESP o c) r s)
  | .rate k => some (wr (R.FLT_CHCFG_RATE o c) k s)
  | .comp => some (wr (R.FLT_CHCFG_COMP o c) 1 s)
  | .preset p => some (wr (R.FLT_CHCFG_PRESET o c) p s)
  | _ => none

/-- The changes that take effect at the next frame (R155), and those of a disabled channel.  A companion, which may still
be filling its slot, ends and its request completes there too (DESIGN CHOICE, log entry 97). -/
def doAtFrame (o c n : Nat) (s : State) : State :=
  match (getCh o c s).chg with
  | .switched r =>
    if n % 2 ^ rd (R.FLT_CHCFG_RATE o c) s = 0 then changeDone o c n (wr (R.FLT_CHCFG_RESP o c) r s) else s
  | .splice m => changeDone o c n (wr (R.FLT_CHCFG_SPLMODE o c) m s)
  | .detect v t => changeDone o c n (wr (R.FLT_PKTHR_THR o c) t (wrDetcfg o c v s))
  | .nothing => changeDone o c n s
  | .enable => changeDone o c n (enableChan o c s)
  | .disable => changeDone o c n (disableChan o c s)
  | .compOff =>
    let ro := rolesOf o c s
    let idle (k : Nat) := if 2 ≤ k then 0 else k
    changeDone o c n (wr (R.FLT_CHCFG_COMP o c) 0 (setSlots o c (idle ro.roleA) ro.respA (idle ro.roleB) ro.respB s))
  | chg =>
    if flag (R.FLT_CHCFG_EN o c) s then s
    else match setDisabled o c chg s with
      | some s => changeDone o c n s
      | none => s

/-- R150: the window of a channel ends in frame `n`: the results are written together and reported. -/
def endWindow (o c n : Nat) (s : State) : State :=
  let ch := getCh o c s
  let rms := Nat.sqrt (ch.sumsq / ch.wn)
  let s := wrs [(R.FLT_PKMAX_X o c, toU 24 ch.pkmax), (R.FLT_PKMIN_X o c, toU 24 ch.pkmin), (R.FLT_RMS_X o c, rms),
    (R.FLT_ENV_X o c, ch.env / 256), (R.FLT_DETIDX_N o c, n)] s
  let s := setCh o c { ch with wn := 0, sumsq := 0, pkmax := 0, pkmin := 0, pkSeen := false, wfull := false } s
  if flag (R.FLT_DETCFG_EVWIN o c) s then
    forEach (streamQs o c) (fun q s =>
      forEach [detectMsg (toU 24 ch.pkmax) 0 c n, detectMsg (toU 24 ch.pkmin) 1 c n, detectMsg rms 2 c n,
        detectMsg (ch.env / 256) 3 c n] (pushQ q o) s) s
  else s

/-- A window that ended with a FAST sub-sample and has not been reported yet. -/
def doWindowEnd (o c n : Nat) (s : State) : State := if (getCh o c s).wfull then endWindow o c n s else s

/-- Everything due on a channel before frame `n`. -/
def applyDue (o c n : Nat) (s : State) : State :=
  doAtFrame o c n (doPresetSwitch o c n (doRateSwitch o c n (doRespSwitch o c n
    (doXfadeEnd o c (prevIdx n) (doSpliceBlock o c (doWindowEnd o c (prevIdx n) s))))))

/-- MODCNT and CHSTAT.MODOVL from the path's counts (R117, R158). -/
def flushCounts (o c : Nat) (s : State) : State :=
  let ch := getCh o c s
  let s := addSat (R.FLT_MODCNT_OVLCNT o c) ch.nOvl (addSat (R.FLT_MODCNT_RSTCNT o c) ch.nRst
    (addSat (R.FLT_MODCNT_CODEERR o c) ch.nErr s))
  wrB (R.FLT_CHSTAT_MODOVL o c) (decide (32 ≤ ch.run)) (setCh o c { ch with nOvl := 0, nRst := 0, nErr := 0 } s)

/-- Feed a channel up to `upto` instants of the present frame period. -/
def feedChan (o c upto : Nat) (codes : List (BitVec 3)) (s : State) : State :=
  if chOn o c s then flushCounts o c (modCh o c (feedTo (rolesOf o c s) upto codes) s) else s

/-- R150, R151: a sample for the peak, RMS and envelope detectors; the peak event, if it falls here. -/
def detFeed (o c n : Nat) (s : State) : State × List Msg :=
  let ch := getCh o c s
  let a := ch.x.natAbs
  let e := ch.env
  let env := if e < a * 256 then e + (a * 256 - e) / 2 ^ rd (R.FLT_DETCFG_ATT o c) s
             else e - (e - a * 256) / 2 ^ rd (R.FLT_DETCFG_REL o c) s
  let hit := !ch.pkSeen && decide (rd (R.FLT_PKTHR_THR o c) s ≤ a)
  let first := decide (ch.wn = 0)
  (setCh o c { ch with wn := ch.wn + 1, sumsq := ch.sumsq + a * a, env := env, pkSeen := ch.pkSeen || hit,
                       pkmax := if first || decide (ch.pkmax < ch.x) then ch.x else ch.pkmax,
                       pkmin := if first || decide (ch.x < ch.pkmin) then ch.x else ch.pkmin } s,
   if hit && flag (R.FLT_DETCFG_EVPK o c) s then [detectMsg (toU 24 ch.x) 4 c n] else [])

/-- The window of a channel is complete: its length with WSRC 0, the forced end with WSRC 1 (R150). -/
def windowComplete (o c : Nat) (s : State) : Bool :=
  let n := (getCh o c s).wn
  if flag (R.FLT_DETCFG_WSRC o c) s then decide (65536 ≤ n)
  else decide (2 ^ (rd (R.FLT_DETCFG_WIN o c) s + 3) ≤ n)

/-- R151: the zero-crossing detector of a voltage channel in frame `n`.  Where both samples are 0 the spec's fraction
is 0 / 0, and where x[n] alone is 0 it is 256, which ZCIDX.F has no code for: free values (log entry 14).  The crossing
itself lies at C(n) then. -/
def zcFeed (o c n : Nat) (s : State) : State :=
  let ch := getCh o c s
  if ch.armed && decide (0 ≤ ch.x) then
    let den := ch.x - ch.prevX
    let q := (256 * (-ch.prevX) / den).toNat
    let f := if den = 0 ∨ q = 256 then (freeNow 8 s).toNat else q
    wrs [(R.FLT_ZCIDX_N o c, n), (R.FLT_ZCIDX_F o c, f)]
      (setCh o c { ch with armed := false, zc := true, zf := if q = 256 then 256 else f, prevX := ch.x }
        (if den = 0 ∨ q = 256 then nextFree s else s))
  else
    let thr := (rd (R.FLT_DETCFG_ZCHYS o c) s * 0x8000 : Nat)
    setCh o c { ch with armed := ch.armed || decide (ch.x ≤ -(thr : Int)), zc := false, prevX := ch.x } s

/-- The reference channel of DETCFG.ZCREF had a crossing in this frame (R150, R158). -/
def refCrossed (o c : Nat) (s : State) : Bool :=
  let z := rd (R.FLT_DETCFG_ZCREF o c) s
  if z < 4 then (getCh o z s).zc else if 8 ≤ z ∧ z < 12 then (getCh 8 (z - 8) s).zc else false

/-- R150 to R152: the detectors of a channel in frame `n`, with their DETECT messages in ascending kind. -/
def detFrame (n : Nat) (oc : Nat × Nat) (s : State) : State :=
  let (o, c) := oc
  let s := whenS (chOn o c s && flag (R.FLT_DETCFG_WSRC o c) s && refCrossed o c s && decide (0 < (getCh o c s).wn))
    (endWindow o c n) s
  if !(getCh o c s).got then s
  else
    let d := detFeed o c n s
    let s := if windowComplete o c d.1 then endWindow o c n d.1 else d.1
    let zcMsgs := if (getCh o c s).zc && flag (R.FLT_DETCFG_EVZC o c) s then
        [detectMsg (rd (R.FLT_ZCIDX_F o c) s) 5 c n] else []
    forEach (streamQs o c) (fun q s => forEach (d.2 ++ zcMsgs) (pushQ q o) s) s

/-- A delivered sample of a channel: recorded for the detectors and entered as SAMPLE. -/
def deliver (o c : Nat) (y : Int) (stat phase : Nat) (s : State) : State :=
  let s := modCh o c (fun ch => { ch with x := y / 256, stat := stat, got := true, sw := false, missed := false,
                                          sat := false, satAcc := false }) s
  let s := wr (R.FLT_CHSTAT_PHASE o c) phase s
  forEach (streamQs o c) (fun q => pushQ q o (sampleMsg 0x61 y stat)) s

/-- An output of one path with window `w`, by R136, R137 and R148. -/
def deliverPath (o c : Nat) (w : Nat) (y : Int) (sub : Nat) (s : State) : State :=
  let ch := getCh o c s
  let ph := phaseOf w ch
  let y := if ch.missed then 0 else deliverVal ph y
  let st := statusWord c (decide (o < 8 ∧ 8 ≤ c ∧ c < 12)) (ovlOf w ch || ch.missed) ch.missed (decide (ch.ageTest < w)) ph
    (xfOf o (govern o c) s).isSome ch.sw sub false
  deliver o c y st ph s

/-- How many tail stages of a path run: those of its rate and of a pending one; three for QUIET. -/
def tailDepth (o c : Nat) (s : State) : Nat :=
  match (getCh o (govern o c) s).chg with
  | .rate k => max (stagesOf o c s) k
  | .preset 2 => 3
  | _ => stagesOf o c s

/-- Run the tails of a channel on an 8 kHz value in frame `n`; the outputs by stage.  A stage that still fills for a new
rate or preset delivers nothing, nor does its saturation show. -/
def runTails (o c n : Nat) (x : Int) (s : State) : State × List (Nat × Int) :=
  let ch := getCh o c s
  let t := tailRun n 1 (tailDepth o c s) x ch.tails
  let k := stagesOf o c s
  (setCh o c { ch with tails := t.1, sat := ch.sat || t.2.any fun y => decide (y.1 ≤ k) && y.2.2 } s,
    t.2.map fun y => (y.1, y.2.1))

/-- The value a channel delivers in frame `n` at its rate: none where its rate delivers nothing (R128, R149). -/
def atRate (k : Nat) (y8 : Int) (outs : List (Nat × Int)) : Option Int :=
  if k = 0 then some y8 else (outs.find? fun e => e.1 == k).map Prod.snd

/-- A voltage or supply channel in frame `n`. -/
def frameVoltage (o c n : Nat) (s : State) : State :=
  let k := rd (R.FLT_CHCFG_RATE o c) s
  let y8 := (getCh o c s).main
  let t := runTails o c n y8 s
  match atRate k y8 t.2 with
  | some y => deliverPath o c (windowOf false 0 k) y 0 t.1
  | none => t.1

/-- A privileged channel in frame `n`: FAST adds SUB 0, QUIET its tail (R120, R149). -/
def framePriv (o c n : Nat) (s : State) : State :=
  let p := rd (R.FLT_CHCFG_PRESET o c) s
  let ch := getCh o c s
  let filling := decide (ch.chg = .preset 2)
  let t := if filling then (if shadowFull o c 11 s then runTails o c n ch.shad s else (s, []))
           else runTails o c n ch.main s
  let y := if p = 1 then ch.outs.getLast? else if p = 2 then atRate 3 ch.main t.2 else some ch.main
  match y with
  | some y => deliverPath o c (windowOf true p 0) y 0 (modCh o c (fun ch => { ch with outs := [] }) t.1)
  | none => modCh o c (fun ch => { ch with outs := [] }) t.1

/-- R133: a range output less its offset.  Outside the Q1.31 range the spec states no result: a free value (log
entry 76). -/
def lessOffset (x : Int) (ofs : Nat) (s : State) : Int × State :=
  let d := x - sext 24 ofs * 256
  if -(2 ^ 31) ≤ d ∧ d < 2 ^ 31 then (d, s) else ((freeNow 32 s).toInt, nextFree s)

/-- R134: an 8 kHz output of one range is NORMAL and carries no OVL. -/
def rangeOk (ch : Chan) : Bool :=
  phaseOf (windowOf false 0 0) ch == 0 && !(decide (ch.ageOvl < windowOf false 0 0) || ch.sat)

/-- One frame of the splice (R133 to R135) on channel `c`: the value, the range it is from, and l_ok. -/
def spliceFrame (o c : Nat) (s : State) : State × Int × Bool × Bool :=
  let ho := lessOffset (getCh o c s).main (rd (R.FLT_SPLOFSH_OFS o c) s) s
  let lw := lessOffset (getCh o (c + 4) s).main (rd (R.FLT_SPLOFSL_OFS o c) s) ho.2
  let h := ho.1
  let l := lw.1
  let s := lw.2
  let hi := getCh o c s
  let lo := getCh o (c + 4) s
  let lok := rangeOk lo
  let hok := rangeOk hi
  let half : Nat := 0x30000000
  let la := l.natAbs
  let low0 := flag (R.FLT_SPLSTAT_RANGE o c) s
  let q0 := rd (R.FLT_SPLSTAT_QCNT o c) s
  let leave := low0 && (!lok || decide (half ≤ la))
  let at64 := !low0 && q0 == 64
  let low := if leave then false else if at64 then lok && decide (la < half) else low0
  let q1 := if leave || at64 then 0 else q0
  let q := if low then q1 else (if lok && decide (la < 0x26666666) then q1 + 1 else 0)
  let r := rd (R.FLT_SPLR_R o c) s
  let a := (r : Int) * l + hi.yres
  let mode := rd (R.FLT_CHCFG_SPLMODE o c) s
  let useLow := if mode = 1 then false else if mode = 2 then true else low
  let y := if useLow then a / 2 ^ 32 else h
  let yres := if useLow then (a % 2 ^ 32).toNat else hi.yres
  let both := lok && hok && decide (0x06000000 ≤ la ∧ la < half)
  let step := (a / 2 ^ 32 - h).natAbs
  let hi := { hi with yres := yres, shl := if both then hi.shl + h * l else hi.shl,
                      sll := if both then hi.sll + l * l else hi.sll, spk := if both then hi.spk + 1 else hi.spk,
                      blk := min (hi.blk + 1) 4096, sat := if useLow then lo.sat else hi.sat,
                      missed := hi.missed || (useLow && lo.missed),
                      tHL := if hi.inject then hi.tHL + h * l else hi.tHL,
                      tLL := if hi.inject then hi.tLL + l * l else hi.tLL }
  let s := setCh o c hi s
  let s := wrs [(R.FLT_SPLSTAT_RANGE o c, b2n low), (R.FLT_SPLSTAT_QCNT o c, q)] s
  let s := if low != low0 then
      wr (R.FLT_SPLMAX_STEP o c) (max (rd (R.FLT_SPLMAX_STEP o c) s) (min step (2 ^ 16 - 1))) s else s
  (s, y, useLow, lok)

/-- A current channel in frame `n`: the splice, the tails, and the raw low range in SPLMODE 3. -/
def frameCurrent (o c n : Nat) (s : State) : State :=
  let k := rd (R.FLT_CHCFG_RATE o c) s
  let sp := spliceFrame o c s
  let useLow := sp.2.2.1
  let t := runTails o c n sp.2.1 sp.1
  let s := t.1
  match atRate k sp.2.1 t.2 with
  | some y =>
    let w := windowOf false 0 k
    let ch := getCh o c s
    let missed := ch.missed
    let src := if useLow then getCh o (c + 4) s else ch
    let ph := if missed then 3 else phaseOf w src
    let y := if missed then 0 else deliverVal ph y
    let ovl := decide (src.ageOvl < w) || ch.sat || ch.satAcc || missed || (rd (R.FLT_CHCFG_SPLMODE o c) s == 2 && !sp.2.2.2)
    let st := statusWord c useLow ovl missed (decide (src.ageTest < w)) ph (xfOf o c s).isSome ch.sw 0
      (flag (R.FLT_SPLSTAT_RCONV o c) s)
    deliver o c y st ph s
  | none => s

/-- The low range of a current channel: its tails, and in SPLMODE 3 the raw output at the channel's rate (R133); in the
other modes nothing of it is delivered. -/
def frameLow (o c n : Nat) (s : State) : State :=
  let g := govern o c
  let k := rd (R.FLT_CHCFG_RATE o g) s
  let y8 := (getCh o c s).main
  let t := runTails o c n y8 s
  let s := t.1
  if rd (R.FLT_CHCFG_SPLMODE o g) s = 3 then
    match atRate k y8 t.2 with
    | some y => deliverPath o c (windowOf false 0 k) y 0 s
    | none => s
  else
    let s := wr (R.FLT_CHSTAT_PHASE o c) (phaseOf (windowOf false 0 0) (getCh o c s)) s
    modCh o c (fun ch => { ch with sw := false, missed := false, sat := false, satAcc := false }) s

/-- R125: a saturation of a frame that delivers nothing shows in the next sample. -/
def keepSat (o c : Nat) (s : State) : State :=
  modCh o c (fun ch => if ch.got then ch else { ch with satAcc := ch.satAcc || ch.sat, sat := false }) s

/-- One channel's SAMPLE of frame `n`. -/
def frameChan (n : Nat) (oc : Nat × Nat) (s : State) : State :=
  let (o, c) := oc
  let s := modCh o c (fun ch => { ch with got := false, zc := false, fed := 0 }) s
  if !(chOn o c s) then s
  else if o = 8 ∨ c < 4 then
    let s := frameVoltage o c n s
    if (getCh o c s).got then zcFeed o c n s else keepSat o c s
  else if c < 8 then keepSat o c (frameCurrent o c n s)
  else if c < 12 then keepSat o c (frameLow o c n s)
  else keepSat o c (framePriv o c n s)

/-- R137, R141, R147: one channel's SAMPLE90 of a frame; of a missed deadline it is substituted as the SAMPLE is. -/
def frame90 (oc : Nat × Nat) (s : State) : State :=
  let (o, c) := oc
  let ch := getCh o c s
  let ro := rolesOf o c s
  let s := modCh o c (fun ch => { ch with sat90 := false, missed90 := false }) s
  if chOn o c s && decide (c < 3) && decide (ro.roleA = 3 ∨ ro.roleB = 3) then
    let w := windowOf false 0 0
    let ph := if ch.missed90 then 3 else phaseOf w ch
    let y := if ch.missed90 then 0 else deliverVal ph ch.comp
    let st := statusWord c false (decide (ch.ageOvl < w) || ch.sat90 || ch.missed90) ch.missed90 (decide (ch.ageTest < w)) ph
      (xfOf o c s).isSome ch.sw90 0 false
    let s := modCh o c (fun ch => { ch with sw90 := false }) s
    forEach (streamQs o c) (fun q => pushQ q o (sampleMsg 0x62 y st)) s
  else s

/-- R149, R150: a FAST sample SUB `sub` of frame `n`, with its peak event behind it; a window it completes is reported
before the next sample (log entry 98). -/
def fastSample (o c n sub : Nat) (y : Int) (s : State) : State :=
  let s := doWindowEnd o c n (modCh o c (fun ch => { ch with outs := [] }) s)
  let d := detFeed o c n (deliverPath o c (windowOf true 1 0) y sub s)
  let s := forEach (streamQs o c) (fun q s => forEach d.2 (pushQ q o) s) d.1
  if windowComplete o c s then modCh o c (fun ch => { ch with wfull := true }) s else s

/-- R149, R155: a privileged channel has reached 128 × `sub` instants of the frame period of frame `n`: a channel at FAST
delivers SUB `sub`, but in the period before its first frame in START (log entry 98); after SUB 3 it may leave FAST. -/
def subDone (n sub : Nat) (oc : Nat × Nat) (s : State) : State :=
  let (o, c) := oc
  let s := doFastSwitch n oc s
  let ch := getCh o c s
  let s := match ch.outs.getLast? with
    | some y => if chOn o c s && atFast o c s && decide (512 ≤ ch.ageStart) then fastSample o c n sub y s
                else modCh o c (fun ch => { ch with outs := [] }) s
    | none => s
  if sub = 3 then doPresetSwitch o c ((n + 1) % 2 ^ 24) s else s

/-- R149: a privileged channel goes on to the end of SUB `sub` of frame `n`; the codes left for the instants after it. -/
def feedSub (n : Nat) (oc : Nat × Nat) (sub : Nat) (r : State × List (BitVec 3)) : State × List (BitVec 3) :=
  let fed := (getCh oc.1 oc.2 r.1).fed
  if 128 * sub ≤ fed || !(chOn oc.1 oc.2 r.1) then r
  else (subDone n sub oc (feedChan oc.1 oc.2 (128 * sub) r.2 r.1), r.2.drop (128 * sub - fed))

/-- A channel goes on to `upto` instants of the frame period of frame `n`; the FAST samples that complete on the way
enter (R149). -/
def feedOn (n : Nat) (oc : Nat × Nat) (upto : Nat) (codes : List (BitVec 3)) (s : State) : State :=
  if isPriv oc.1 oc.2 then
    let r := (([1, 2, 3] : List Nat).filter fun k => decide (128 * k ≤ upto)).foldl (fun r k => feedSub n oc k r) (s, codes)
    feedChan oc.1 oc.2 upto r.2 r.1
  else feedChan oc.1 oc.2 upto codes s

/-- R140: one output of a cross-fade has been delivered. -/
def countXfade (oc : Nat × Nat) (s : State) : State :=
  let r := rd (R.FLT_CHSTAT_XFREM oc.1 oc.2) s
  if 0 < r ∧ govern oc.1 oc.2 = oc.2 then setXfrem oc.1 oc.2 (r - 1) s else s

/-- R145, R146: the period of this frame, its FLAG, and whether the measured value was out of range. -/
def framePeriod (s : State) : Nat × Bool × Option Nat :=
  let p := s.clock / 2 ^ 34 - s.samp.lastF
  if s.samp.fresh || s.samp.stepped then (8000000, true, none)
  else if p < 7600000 ∨ 8388607 < p then (8000000, true, some p) else (p, false, none)

/-- R144: the FRAME message and its continuations. -/
def frameMsgs (n p : Nat) (fl : Bool) (s : State) : List Msg :=
  [mkMsg 0x60 n (p + b2n fl * 2 ^ 23),
   mkMsg 0xC0 (clkNs s) (clkNs s / 2 ^ 24 + clkSub s * 2 ^ 6 + clkStatus s * 2 ^ 22),
   mkMsg 0xC0 (clkSec s) (clkSec s / 2 ^ 24)]

/-- R143: enter FRAME in each stream queue that serves an enabled channel. -/
def enterFrame (ms : List Msg) (s : State) : State :=
  let en (o : Nat) (cs : List Nat) (s : State) := cs.any fun c => chOn o c s
  let s := forEach outlets (fun o s =>
    let s := if en o (List.range 12) s then forEach ms (pushQ (32 + o) o) s else s
    if en o [12, 13] s then forEach ms (pushQ (40 + o) o) s else s) s
  if en 8 [0, 1, 2, 3] s then forEach [48, 49] (fun q s => forEach ms (pushQ q 8) s) s else s

/-- R191, R192: a frame of an injected reference has passed; after the last one the terminals are back. -/
def testFrame (oc : Nat × Nat) (s : State) : State :=
  let ch := getCh oc.1 oc.2 s
  if !(ch.testOn && ch.inject) then s
  else
    let s := modCh oc.1 oc.2 (fun ch => { ch with testLeft := ch.testLeft - 1 }) s
    if 1 < ch.testLeft then s else modPaths oc.1 oc.2 (fun ch => { ch with inject := false }) s

/-- R107 to R109: the slack monitors of a frame in which every stage meets its deadline; the least slack of a stage is a
measured value, left free (log entry 15).  Below 128 the stage still works, and TE0 records the new count. -/
def slackPeriod (s : State) : State :=
  forEach (List.range 11) (fun st s =>
    let v := 1 + (freeNow 8 s).toNat % 255
    let s := nextFree (wr (R.QM_SLKMIN_MIN st) (min (rd (R.QM_SLKMIN_MIN st) s) v) s)
    if v < 128 then logSlack (incSat (R.QM_SLKLOW_COUNT st) s) else s) s

/-- The index of the frame that comes next (R143). -/
def nextIdx (s : State) : Nat := if s.samp.started then (rd R.FLT_IDX_N s + 1) % 2 ^ 24 else 0

/-- The sample instants up to frame `n`: the privileged channels first, to the end of SUB 1, 2 and 3 of the frame before, in
ascending CH (R149), and the windows these complete; then the rest.  `codes` are those of the instants still to come. -/
def feedFrame (n : Nat) (codes : List (List (BitVec 3))) (s0 : State) : State :=
  let m := prevIdx n
  let code (oc : Nat × Nat) := codes.getD (chIx oc.1 oc.2).val []
  let left (k : Nat) (oc : Nat × Nat) := (code oc).drop (128 * k - (getCh oc.1 oc.2 s0).fed)
  let s := forEach ([1, 2, 3] : List Nat) (fun k => forEach privChans (fun oc s => (feedSub m oc k (s, left (k - 1) oc)).1)) s0
  let s := forEach privChans (fun oc => doWindowEnd oc.1 oc.2 m) s
  let s := forEach allChans (fun oc => feedChan oc.1 oc.2 512 (if isPriv oc.1 oc.2 then left 3 oc else code oc)) s
  forEach privChans (doFastSwitch n) s

/-- R144: a frame instant of the chain.  `codes` brings the codes of the modulators, by the numbering of R115. -/
def frameStep (codes : List (List (BitVec 3))) (s : State) : State :=
  let n := nextIdx s
  if !(pdOn 4 s) then
    if s.samp.started then wr R.FLT_IDX_N n s else s
  else
    let s := forEach allChans (fun oc => applyDue oc.1 oc.2 n) s
    let s := feedFrame n codes s
    let (p, fl, bad) := framePeriod s
    let s := match bad with
      | some v => logEvent 0x10 0x22 15 [n, min v (2 ^ 32 - 1)] s
      | none => s
    let s := wrs [(R.FLT_IDX_N, n), (R.FLT_PERIOD_P, p), (R.FLT_PERIOD_FLAG, b2n fl)] s
    let s := { s with samp := { s.samp with started := true, lastF := s.clock / 2 ^ 34, fresh := false,
                                            stepped := false } }
    let s := enterFrame (frameMsgs n p fl s) s
    let s := forEach allChans (frameChan n) s
    let s := forEach allChans frame90 s
    let s := forEach allChans (detFrame n) s
    let s := forEach allChans testFrame (forEach allChans countXfade s)
    slackPeriod s

/-- FAST_SUBSAMPLE (R149): a FAST channel completes SUB 1, 2 or 3 of the present frame. -/
def execFastSubsample (o : Fin 8) (aux : Bool) (sub : Fin 4) (codes : List (BitVec 3)) (s : State) :
    Host.Outcome State Fault Refusal :=
  let c := if aux then 13 else 12
  if !(chOn o c s) || !(atFast o c s || decide ((getCh o c s).chg = .preset 1)) || sub.val == 0 || !s.samp.started then
    .next s
  else if (getCh o c s).fed < 128 * (sub.val - 1) then .next s
  else .next (feedSub (rd R.FLT_IDX_N s) (o, c) sub (s, codes)).1

/-- MOD_CODE_ERROR (R116): one instant with a code the capture FIFO replaces. -/
def execModCodeError (o : Fin 9) (c : Fin 14) (code : BitVec 3) (s : State) : Host.Outcome State Fault Refusal :=
  if badCode code && decide ((getCh o c s).fed < 511) then
    .next (feedOn (rd R.FLT_IDX_N s) (o, c) ((getCh o c s).fed + 1) [code] s)
  else .next s

/-- MODULATOR_RESET (R117): the 256th consecutive instant at one extreme resets the loop filter. -/
def execModulatorReset (o : Fin 9) (c : Fin 14) (s : State) : Host.Outcome State Fault Refusal :=
  let ch := getCh o c s
  if ch.run == 255 && decide (ch.fed < 511) then
    .next (feedOn (rd R.FLT_IDX_N s) (o, c) (ch.fed + 1) [if ch.ext < 0 then 6 else 2] s)
  else .next s

/-- SPLICE_BLOCK (R134): the end of a block of 4,096 frames. -/
def execSpliceBlock (o : Fin 8) (c : Fin 4) (s : State) : Host.Outcome State Fault Refusal :=
  .next (doSpliceBlock o (4 + c.val) s)

/-- DETECTOR_WINDOW_END (R150): a complete window of a channel is reported. -/
def execDetectorWindowEnd (o : Fin 9) (c : Fin 14) (s : State) : Host.Outcome State Fault Refusal :=
  .next (doWindowEnd o c (rd R.FLT_IDX_N s) s)

/-- RESPONSE_SWITCH (R139): the shadow's delay line is full and the next output comes from it. -/
def execResponseSwitch (o : Fin 9) (c : Fin 14) (s : State) : Host.Outcome State Fault Refusal :=
  .next (doRespSwitch o c (nextIdx s) s)

/-- CROSSFADE_END (R140): output N has been delivered. -/
def execCrossfadeEnd (o : Fin 9) (c : Fin 14) (s : State) : Host.Outcome State Fault Refusal :=
  .next (doXfadeEnd o c (rd R.FLT_IDX_N s) s)

/-- RATE_SWITCH (R142): the tail of the new rate is full. -/
def execRateSwitch (o : Fin 9) (c : Fin 14) (s : State) : Host.Outcome State Fault Refusal :=
  .next (doRateSwitch o c (nextIdx s) s)

/-- PRESET_SWITCH (R129): the first fully formed output of the new preset. -/
def execPresetSwitch (o : Fin 8) (aux : Bool) (s : State) : Host.Outcome State Fault Refusal :=
  .next (doPresetSwitch o (if aux then 13 else 12) (nextIdx s) s)

/-- STAGE_DEADLINE_MISS (R28): a stage misses the deadline of its period: SLKMISS, FAULT in the legal log, the next
sample of the channel substituted, and FLT after three misses within 10 s (R157). -/
def execStageDeadlineMiss (st : Fin 11) (o : Fin 9) (c : Fin 14) (s : State) : Host.Outcome State Fault Refusal :=
  let s := incSat (R.QM_SLKMISS_COUNT st) s
  let s := wr (R.QM_SLKMIN_MIN st) 0 (incSat (R.QM_SLKLOW_COUNT st) s)
  let s := logSlack (logFault true 2 st 0x7F (nextIdx s) s)
  if !(chOn o c s) then .next s
  else
    let recent := s.now :: (getCh o c s).misses.filter fun t => decide (s.now < t + 10000000)
    let s := modCh o c (fun ch => { ch with missed := true, missed90 := true, ageRec := 0, misses := recent }) s
    .next (if 3 ≤ recent.length then wr (R.FLT_CHSTAT_FLT o c) 1 s else s)

/-- Where a request of R154 points, and who owns the channel. -/
def reqOutlet (w0 : W24) : Nat := fld w0 7 4
def reqChan (w0 : W24) : Nat := fld w0 3 0

/-- R154: W0 names a channel of the part. -/
def chanNamed (w0 : W24) : Bool :=
  decide (reqOutlet w0 < 8 ∧ reqChan w0 < 14) || decide (reqOutlet w0 = 8 ∧ reqChan w0 < 4)

/-- R154: W0 is as listed. -/
def chanListed (w0 : W24) : Bool := fld w0 23 8 == 0 && chanNamed w0

/-- R153: a request for the owner of a channel.  TE0 answers for a channel the part has not got, and for a pair that is
STOPPED (R188); any other request goes to its owner, and `k` has its effect. -/
def ownerReq (n : Fin 8) (t : Nat) (w0 w1 : W24) (cs : List Cont) (k : State → State) (s : State) : State :=
  let lo := chanOwner (reqOutlet w0) (reqChan w0)
  if !(chanNamed w0) then hostReq n t w0 w1 cs true (reply n t w0.toNat 0 stDENIED) s
  else if pairStopped lo s then hostReq n t w0 w1 cs true (reply n t w0.toNat 0 stFAULT) s
  else viaReq (ownerQ lo) (reqOutlet w0) n t w0 w1 cs (pairServes lo s) k s

/-- R153, R156: a request for a channel's owner; `accept` gets the channel. -/
def chanReq (n : Fin 8) (t : Nat) (w0 w1 : W24) (cs : List Cont) (denied sealed budget : Nat → Nat → State → Bool)
    (fltCounts : Bool) (accept : Nat → Nat → State → State) (s : State) : State :=
  let o := reqOutlet w0
  let c := reqChan w0
  ownerReq n t w0 w1 cs (fun s =>
    let st := refusal (fltCounts && flag (R.FLT_CHSTAT_FLT o c) s) (!(chanListed w0) || denied o c s)
      (locked s && sealed o c s) false false (budget o c s)
    if st = stOK then accept o c s else reply n t w0.toNat 0 st s) s

/-- R156: a change is pending on the channel, or it is under in-service test. -/
def chanBusy (o c : Nat) (s : State) : Bool := decide ((getCh o c s).chg ≠ .none) || (getCh o c s).testOn

/-- The change waits to take effect. -/
def pendChange (n : Fin 8) (t : Nat) (w0 : W24) (chg : Change) (o c : Nat) (s : State) : State :=
  modCh o c (fun ch => { ch with chg := chg, chgN := n, chgT := t, chgW := w0.toNat }) s

/-- R127: the responses a channel accepts. -/
def respAccepted (o c r : Nat) : Bool :=
  if o = 8 ∨ c < 4 then [0, 1, 2, 5, 6, 14, 15].contains r
  else if c < 8 then decide (r ≤ 6) || r == 14 || r == 15 else false

/-- Fill the idle slot as shadow with response `r` (R139). -/
def fillShadow (o c r : Nat) (s : State) : State :=
  let ro := rolesOf o c s
  let clr (isA : Bool) (ch : Chan) : Chan :=
    if isA then { ch with slotA := { ch.slotA with line := [] } } else { ch with slotB := { ch.slotB with line := [] } }
  let isA := ro.roleA != 1
  let s := modCh o c (clr isA) s
  let s := if isCurrent o c then modCh o (c + 4) (clr isA) s else s
  if isA then setSlots o c 2 r ro.roleB ro.respB s else setSlots o c ro.roleA ro.respA 2 r s

/-- SET_RESPONSE (R154, R138 to R141). -/
def execSetResponse (n : Fin 8) (w0 w1 : W24) (s : State) : Host.Outcome State Fault Refusal :=
  let r := fld w1 3 0
  let force := fld w1 4 4 == 1
  let v := fld w1 7 5
  .next (chanReq n 0x10 w0 w1 []
    (fun o c s => fld w1 23 8 != 0 || decide (4 < v) || !(respAccepted o c r) ||
      ((force || flag (R.FLT_CHCFG_COMP o c) s) && rd (R.FLT_CHCFG_RATE o c) s != 0) ||
      (flag (R.FLT_CHCFG_COMP o c) s && decide (2 < r)))
    (fun o c s => !((rd (R.FLT_PERMIT_MASK o c) s).testBit r)) chanBusy true
    (fun o c s =>
      if !(flag (R.FLT_CHCFG_EN o c) s) then pendChange n 0x10 w0 (.resp r) o c s
      else if force || flag (R.FLT_CHCFG_COMP o c) s then
        pendChange n 0x10 w0 (.xfade r v) o c (setXfrem o c (64 * 2 ^ v)
          (modPaths o c (fun ch => { ch with sw := true, sw90 := flag (R.FLT_CHCFG_COMP o c) s }) s))
      else pendChange n 0x10 w0 (.resp r) o c (fillShadow o c r s)) s)

/-- R156: the metering configuration of an in-service outlet uses the channel. -/
def chanMetered (o c : Nat) (s : State) : Bool :=
  decide (o < 8) && !(outOfService o s) && typeUses (metType o s) c

/-- Clear the tail stages above `k0` up to `k` before they fill (R142). -/
def clearTails (k0 k : Nat) (ch : Chan) : Chan :=
  { ch with tails := ch.tails.zipIdx.map fun fi =>
      if k0 ≤ fi.2 ∧ fi.2 < k then { fi.1 with line := [], odd := false } else fi.1 }

/-- SET_RATE (R154, R142). -/
def execSetRate (n : Fin 8) (w0 w1 : W24) (s : State) : Host.Outcome State Fault Refusal :=
  let k := fld w1 2 0
  .next (chanReq n 0x11 w0 w1 []
    (fun o c s => fld w1 23 3 != 0 || k == 7 || !(decide (o = 8) || decide (c < 8)) || chanMetered o c s ||
      (k != 0 && flag (R.FLT_CHCFG_COMP o c) s))
    (fun _ _ _ => false) chanBusy true
    (fun o c s =>
      let k0 := rd (R.FLT_CHCFG_RATE o c) s
      if !(flag (R.FLT_CHCFG_EN o c) s) then pendChange n 0x11 w0 (.rate k) o c s
      else pendChange n 0x11 w0 (.rate k) o c (modPaths o c (clearTails k0 k) s)) s)

/-- SET_COMPANION (R154, R141).  It is also DENIED while the present main response has no 90° match (log entry 78). -/
def execSetCompanion (n : Fin 8) (w0 w1 : W24) (s : State) : Host.Outcome State Fault Refusal :=
  let on := fld w1 0 0 == 1
  .next (chanReq n 0x12 w0 w1 []
    (fun o c s => fld w1 23 1 != 0 || !(decide (c < 3)) ||
      (on && (rd (R.FLT_CHCFG_RATE o c) s != 0 || decide (2 < rd (R.FLT_CHCFG_RESP o c) s))))
    (fun _ _ _ => false) chanBusy true
    (fun o c s =>
      if !(flag (R.FLT_CHCFG_EN o c) s) then
        pendChange n 0x12 w0 (if on then .comp else .compOff) o c s
      else if on == flag (R.FLT_CHCFG_COMP o c) s then pendChange n 0x12 w0 .nothing o c s
      else if on then pendChange n 0x12 w0 .comp o c (fillShadow o c (match90 (rd (R.FLT_CHCFG_RESP o c) s)) s)
      else pendChange n 0x12 w0 .compOff o c s) s)

/-- R158: WIN 14 and 15 are invalid; ZCREF names 0 to 3 or 8 to 11. -/
def detcfgListed (v : Nat) : Bool :=
  decide (bits v 3 0 < 14) && (decide (bits v 8 5 < 4) || decide (8 ≤ bits v 8 5 ∧ bits v 8 5 < 12))

/-- SET_DETECT (R154, R150 to R152). -/
def execSetDetect (n : Fin 8) (w0 w1 cw0 cw1 : W24) (s : State) : Host.Outcome State Fault Refusal :=
  .next (chanReq n 0x13 w0 w1 [(cw0, cw1)]
    (fun _ _ _ => cw1 != 0 || !(detcfgListed w1.toNat)) (fun _ _ _ => false) chanBusy true
    (fun o c s => pendChange n 0x13 w0 (.detect w1.toNat cw0.toNat) o c s) s)

/-- SET_ENABLE (R154, R118, R157). -/
def execSetEnable (n : Fin 8) (w0 w1 : W24) (s : State) : Host.Outcome State Fault Refusal :=
  let on := fld w1 0 0 == 1
  .next (chanReq n 0x14 w0 w1 []
    (fun o c s => fld w1 23 1 != 0 || decide (o < 8 ∧ 8 ≤ c ∧ c < 12) || (!on && chanMetered o c s))
    (fun _ _ _ => false)
    (fun o c s => if on then chanBusy o c s ||
        (isPriv o c && !(flag (R.FLT_CHCFG_EN o c) s) && rd (R.FLT_CHCFG_PRESET o c) s == 1 &&
          decide (limFast (limitMode s) ≤ fastBooked s))
      else (getCh o c s).testOn) false
    (fun o c s =>
      if on && flag (R.FLT_CHCFG_EN o c) s then pendChange n 0x14 w0 .nothing o c s
      else if on then pendChange n 0x14 w0 .enable o c s
      else pendChange n 0x14 w0 .disable o c (changeWithdrawn o c s)) s)

/-- SET_SPLICE (R154, R133). -/
def execSetSplice (n : Fin 8) (w0 w1 : W24) (s : State) : Host.Outcome State Fault Refusal :=
  let m := fld w1 1 0
  .next (chanReq n 0x15 w0 w1 []
    (fun o c _ => fld w1 23 2 != 0 || !(isCurrent o c)) (fun _ _ _ => m == 1 || m == 2) chanBusy true
    (fun o c s => pendChange n 0x15 w0 (.splice m) o c s) s)

/-- SET_PRESET (R154, R129, R130). -/
def execSetPreset (n : Fin 8) (w0 w1 : W24) (s : State) : Host.Outcome State Fault Refusal :=
  let p := fld w1 1 0
  .next (chanReq n 0x18 w0 w1 []
    (fun o c s => fld w1 23 2 != 0 || p == 3 || !(isPriv o c) || (p == 2 && c == 12 && !(outOfService o s)))
    (fun _ _ _ => false)
    (fun o c s => chanBusy o c s ||
      (p == 1 && flag (R.FLT_CHCFG_EN o c) s && rd (R.FLT_CHCFG_PRESET o c) s != 1 &&
        decide (limFast (limitMode s) ≤ fastBooked s)))
    true
    (fun o c s =>
      if !(flag (R.FLT_CHCFG_EN o c) s) then pendChange n 0x18 w0 (.preset p) o c s
      else if rd (R.FLT_CHCFG_PRESET o c) s = p then pendChange n 0x18 w0 .nothing o c s
      else pendChange n 0x18 w0 (.preset p) o c
        (whenS (p == 2) (modCh o c (clearTails 0 3)) (fillShadow o c (presetResp p) s))) s)

end Sys2Proof.Machine
end

