-- ==== Sys2Proof/Machine/Metering.lean ====
section
/-!
DEFINITION. The energy computation of the metering pairs (R160 to R180, R191 to R196, R514, R516).  Every energy value is
kept exact: calibrated powers in units of 2^−107 of UREF × IREF, per-frame energies in units of 2^−131 of 2^−32 µWh.
-/
namespace Sys2Proof.Machine

/-- The copy of a staged field that a CAL_APPLY takes at its acceptance (R195). -/
def Fld.copy (f : Fld) : Fld := { f with addr := f.addr + 0x400000000, acc := .ro }

def getMt (o : Nat) (s : State) : Meter := vget s.meters (o8 o)
def setMt (o : Nat) (m : Meter) (s : State) : State := { s with meters := vset s.meters (o8 o) m }
def modMt (o : Nat) (f : Meter → Meter) (s : State) : State := setMt o (f (getMt o s)) s

/-- The flags of R179. -/
def sfINTERP : Nat := 1
def sfTEST : Nat := 2
def sfOVL : Nat := 4
def sfPERIOD : Nat := 8
def sfSWITCH : Nat := 16
def sfSIMPLEX : Nat := 32
def sfNOLOAD : Nat := 64
def sfBANDCHG : Nat := 128
def sfCALCHG : Nat := 256
def sfGAP : Nat := 512
def sfREVERSE : Nat := 1024
def sfFORCED : Nat := 2048
def sfSTART : Nat := 16384

/-- A flag when a condition holds. -/
def flagIf (c : Bool) (f : Nat) : Nat := if c then f else 0

/-- A frame as a pair pops it: index, period, FLAG, stamp in 2^−16 ns (none where it is lost) and its messages. -/
structure FrameIn where
  n : Nat
  p : Nat
  fl : Bool
  c : Option Nat
  clk : Nat
  body : List Msg
  deriving DecidableEq, Repr

/-- The messages up to the next FRAME, a lost FRAME or a STREAM_END. -/
def bodyOf : List Msg → List Msg
  | [] => []
  | m :: ms =>
    if m.typ == 0x60 || m.typ == 0xF0 || (m.typ == 0xF1 && (ms.head?.map isCont).getD false) then []
    else m :: bodyOf ms

/-- The frame at the head of a stream queue and how many messages it takes; a message that belongs to no frame is
discarded by itself (R516), and a CORRUPT in the place of FRAME or of either part of its stamp loses the stamp (R170). -/
def parseFrame (last : Nat) : List Msg → Option (Option FrameIn × Nat)
  | [] => none
  | m :: ms =>
    let start := m.typ == 0x60 || (m.typ == 0xF1 && (ms.head?.map isCont).getD false)
    if !start then some (none, 1)
    else
      let cs := (ms.take 2).takeWhile fun m => isCont m || m.typ == 0xF1
      let body := bodyOf (ms.drop cs.length)
      let lost : FrameIn := ⟨(last + 1) % 2 ^ 24, 8000000, true, none, 0, body⟩
      match cs with
      | [c1, c2] =>
        if m.typ == 0x60 && isCont c1 && isCont c2 then
          let ns := c1.w0.toNat + fld c1.w1 5 0 * 2 ^ 24
          let sec := c2.w0.toNat + c2.w1.toNat * 2 ^ 24
          some (some ⟨m.w0.toNat, fld m.w1 22 0, fld m.w1 23 23 == 1,
            some ((sec * 1000000000 + ns) * 2 ^ 16 + fld c1.w1 21 6), fld c1.w1 23 22, body⟩, 3 + body.length)
        else some (some lost, 3 + body.length)
      | _ => some (some lost, 1 + cs.length + body.length)

/-- The sample of a channel in a frame: the 32-bit value of R164 and its status word. -/
def sampleOf (typ c : Nat) (body : List Msg) : Option (Int × Nat) :=
  (body.find? fun m => m.typ.toNat == typ && fld m.w1 3 0 == c).map fun m =>
    (sext 24 m.w0.toNat * 256 + fld m.w1 23 16, fld m.w1 15 0)

/-- R170: a usable sample: NORMAL, without INTERP and without TEST. -/
def usable (st : Nat) : Bool := bits st 10 9 == 0 && !(st.testBit 6) && !(st.testBit 7)

/-- R170: the value a stream contributes to a frame, whether it is a substitute, and the history after it.  The mean of
a DC channel is floored to a unit of the sample (log entry 83). -/
def histStep (dc cross : Bool) (x : Option (Int × Nat)) (h : Hist) : Int × Bool × Hist :=
  let good := match x with | some (_, st) => usable st | none => false
  let v : Int := match x with
    | some (y, st) => if usable st then y
        else if dc then (if h.normals.isEmpty then 0 else h.normals.sum / h.normals.length)
        else if h.cycLen = 0 then 0 else h.vals.getD (h.cycLen - 1) 0
    | none => if dc then (if h.normals.isEmpty then 0 else h.normals.sum / h.normals.length)
        else if h.cycLen = 0 then 0 else h.vals.getD (h.cycLen - 1) 0
  let keep := if dc then 0 else max h.cycLen (if h.curOk then h.curN + 1 else 0) + 1
  let h := { h with vals := (v :: h.vals).take keep, normals := if good then (v :: h.normals).take 80 else h.normals }
  if cross then
    (v, !good, { h with cycLen := if h.curOk && decide (0 < h.curN) then h.curN else h.cycLen, curN := 1, curOk := good })
  else (v, !good, { h with curN := h.curN + 1, curOk := h.curOk && good })

/-- R164, R165: a calibrated sample: gain × (value) narrowed to Q1.31 by residue carry. -/
def narrowCal (gain : Nat) (x : Int) (res : Nat) : Int × Nat × Bool :=
  let a := gain * x + res
  let y := a / 2 ^ 22
  if y < -(2 ^ 31) then (-(2 ^ 31), 0, true)
  else if 2 ^ 31 - 1 < y then (2 ^ 31 - 1, 0, true)
  else (y, (a % 2 ^ 22).toNat, false)

/-- The coefficients in effect (R163): gain (θ for PH) and offset. -/
def gainEff (o c b q : Nat) (s : State) : Nat := rd (calGain o c b q).eff s
def ofsEff (o c b q : Nat) (s : State) : Int := sext 24 (rd (calOfs o c b q).eff s)
def thetaEff (o c b : Nat) (s : State) : Int := sext 24 (rd (calGain o c b 5).eff s)

/-- R298: hardware writes the PD1 copy of the Fold's calibration: the I set of channel 12 and the V set of channel 13. -/
def writePd1 (o : Nat) (s : State) : State :=
  let set (c q : Nat) := (List.range 8).map fun b => (gainEff o c b q s, ofsEff o c b q s)
  let x := vget s.fold.outs (o8 o)
  let x := { x with cal := set 12 1 ++ set 13 0, calBad := false }
  { s with fold := { s.fold with outs := vset s.fold.outs (o8 o) x } }

/-- R161: KE in effect. -/
def keEff (o : Nat) (s : State) : Nat := rd (R.MET_KELO_KE o) s + rd (R.MET_KEHI_KE o) s * 2 ^ 32

/-- R160: how many phases a metering type has. -/
def phases (t : Nat) : Nat := if t = 2 then 3 else 1

/-- R164: calibrated active power of phase `k`, in units of 2^−107. -/
def calP (o k b : Nat) (v v90 i : Int) (s : State) : Int :=
  gainEff o (4 + k) b 2 s * (v * i * 2 ^ 23 + thetaEff o (4 + k) b s * (v90 * i)) - ofsEff o (4 + k) b 2 s * 2 ^ 84

/-- R164: calibrated reactive power of phase `k`. -/
def calQ (o k b : Nat) (v v90 i : Int) (s : State) : Int :=
  gainEff o (4 + k) b 3 s * (v90 * i * 2 ^ 23 - thetaEff o (4 + k) b s * (v * i)) - ofsEff o (4 + k) b 3 s * 2 ^ 84

/-- R164: calibrated DC power. -/
def calDC (o b : Nat) (u i : Int) (s : State) : Int :=
  gainEff o 4 b 4 s * (u * i) * 2 ^ 23 - ofsEff o 4 b 4 s * 2 ^ 84

/-- R172: narrow an exact value in units of 2^−`k` to whole units by residue carry. -/
def carryTo (k : Nat) (z : Int) (res : Nat) : Int × Nat := ((z + res) / 2 ^ k, ((z + res) % 2 ^ k).toNat)

/-- Add to a 96-bit register (R176). -/
def add96 (i : Nat) (v : Int) (rs : List Nat) : List Nat := rs.modify i fun r => toU 96 (r + v)

/-- R171 to R175: a commit moves every bucket of an outlet into its registers. -/
def commitMeter (ty : Nat) (abs : Bool) (ke iref noload : Nat) (forced : Bool) (m : Meter) : Meter :=
  let total : Int := m.b.sum
  let regs := if abs then add96 0 ((m.b.map fun x => (x.natAbs : Int)).sum) m.regs
    else if 0 ≤ total then add96 7 total (add96 0 total m.regs) else add96 7 total (add96 1 (-total) m.regs)
  let quad := if 0 ≤ total then (if 0 ≤ m.bq then 2 else 5) else (if 0 ≤ m.bq then 3 else 4)
  let regs := if ty = 3 then regs else add96 quad m.bq.natAbs regs
  let zs : Nat := (List.zipWith (fun a b => Nat.sqrt (a * b)) m.sv m.si).sum * ke
  let sN := carryTo 86 zs m.resS
  let regs := if ty = 3 then add96 6 total.natAbs regs else add96 6 sN.1 regs
  let low (si : Nat) : Bool := decide (si * iref * iref * 10000 < noload * noload * m.sumP * 2 ^ 62)
  { m with regs := regs, b := [0, 0, 0], bq := 0, resS := if ty = 3 then m.resS else sN.2,
           noload := if ty = 3 then m.noload else m.si.map low, sv := [0, 0, 0], si := [0, 0, 0], sumP := 0, cnt := 0,
           flags := m.flags ||| flagIf forced sfFORCED ||| flagIf (abs && m.b.any fun x => decide (x < 0)) sfREVERSE }

/-- The commit of an outlet with the parameters in effect. -/
def commitOutlet (o : Nat) (forced : Bool) (s : State) : State :=
  modMt o (commitMeter (metType o s) (flag (R.MET_OCFG_ACCMODE o).eff s) (keEff o s) (rd (R.MET_IREF_MA o).eff s)
    (rd (R.MET_NOLOAD_I o).eff s) forced) s

/-- What one frame gives: per phase v, v90, i and the powers; the neutral current; u on DC; OVL; a substitution. -/
structure FrameVals where
  v : List Int
  i : List Int
  p : List Int
  q : List Int
  u : Int
  ovl : Bool
  sub : Bool
  deriving Repr

/-- R164, R170: one voltage, 90° or current stream of a frame: substitute, calibrate, narrow. -/
def streamStep (dc cross : Bool) (gain : Nat) (ofs : Int) (x : Option (Int × Nat)) (h : Hist) (res : Nat) :
    Int × Bool × Bool × Hist × Nat :=
  let st := histStep dc cross x h
  let nr := narrowCal gain (st.1 - ofs * 256) res
  let ovl := nr.2.2 || (match x with | some (_, w) => w.testBit 5 | none => false)
  (nr.1, st.2.1, ovl, st.2.2, nr.2.1)

/-- The phases that the type of an outlet meters; AC1 and DC use phase 0. -/
def phaseList (t : Nat) : List Nat := if t = 2 then [0, 1, 2] else [0]

/-- R164: one AC phase of a frame. -/
def acPhase (o b : Nat) (cross : Bool) (f : FrameIn) (s : State) (a : Meter × FrameVals) (k : Nat) :
    Meter × FrameVals :=
  let (m, fv) := a
  let g := gainEff o k b 0 s
  let v := streamStep false cross g (ofsEff o k b 0 s) (sampleOf 0x61 k f.body) (m.hv.getD k Hist.reset) (m.rv.getD k 0)
  let w := streamStep false cross g 0 (sampleOf 0x62 k f.body) (m.h90.getD k Hist.reset) (m.r90.getD k 0)
  let i := streamStep false cross (gainEff o (4 + k) b 1 s) (ofsEff o (4 + k) b 1 s) (sampleOf 0x61 (4 + k) f.body)
    (m.hi.getD k Hist.reset) (m.ri.getD k 0)
  ({ m with hv := m.hv.set k v.2.2.2.1, h90 := m.h90.set k w.2.2.2.1, hi := m.hi.set k i.2.2.2.1,
            rv := m.rv.set k v.2.2.2.2, r90 := m.r90.set k w.2.2.2.2, ri := m.ri.set k i.2.2.2.2 },
   { fv with v := fv.v ++ [v.1], i := fv.i ++ [i.1], p := fv.p ++ [calP o k b v.1 w.1 i.1 s],
             q := fv.q ++ [calQ o k b v.1 w.1 i.1 s], ovl := fv.ovl || v.2.2.1 || w.2.2.1 || i.2.2.1,
             sub := fv.sub || v.2.1 || w.2.1 || i.2.1 })

/-- The neutral current of an AC outlet (channel 7). -/
def neutralStep (o b : Nat) (cross : Bool) (f : FrameIn) (s : State) (a : Meter × FrameVals) : Meter × FrameVals × Int :=
  let (m, fv) := a
  let i := streamStep false cross (gainEff o 7 b 1 s) (ofsEff o 7 b 1 s) (sampleOf 0x61 7 f.body)
    (m.hi.getD 3 Hist.reset) (m.ri.getD 3 0)
  ({ m with hi := m.hi.set 3 i.2.2.2.1, ri := m.ri.set 3 i.2.2.2.2 },
   { fv with ovl := fv.ovl || i.2.2.1, sub := fv.sub || i.2.1 }, i.1)

/-- R164: a DC frame. -/
def dcStep (o b : Nat) (f : FrameIn) (s : State) (m : Meter) : Meter × FrameVals :=
  let v0 := streamStep true false (gainEff o 0 b 0 s) (ofsEff o 0 b 0 s) (sampleOf 0x61 0 f.body)
    (m.hv.getD 0 Hist.reset) (m.rv.getD 0 0)
  let v1 := streamStep true false (gainEff o 1 b 0 s) (ofsEff o 1 b 0 s) (sampleOf 0x61 1 f.body)
    (m.hv.getD 1 Hist.reset) (m.rv.getD 1 0)
  let i := streamStep true false (gainEff o 4 b 1 s) (ofsEff o 4 b 1 s) (sampleOf 0x61 4 f.body)
    (m.hi.getD 0 Hist.reset) (m.ri.getD 0 0)
  let u := v0.1 - v1.1
  ({ m with hv := (m.hv.set 0 v0.2.2.2.1).set 1 v1.2.2.2.1, hi := m.hi.set 0 i.2.2.2.1,
            rv := (m.rv.set 0 v0.2.2.2.2).set 1 v1.2.2.2.2, ri := m.ri.set 0 i.2.2.2.2,
            dcI := (i.1 :: m.dcI).take 80 },
   ⟨[u], [i.1], [calDC o b u i.1 s], [0], u, v0.2.2.1 || v1.2.2.1 || i.2.2.1, v0.2.1 || v1.2.1 || i.2.1⟩)

/-- R171: the commit detector on the delivered channel-0 stream, with the fixed hysteresis 4 × 0x00_8000: a crossing's
fraction f, and the detector after the frame. -/
def commitDetect (x : Option Int) (armed : Bool) (prev : Int) : Option Nat × Bool × Int :=
  match x with
  | none => (none, armed, prev)
  | some x =>
    if armed && decide (0 ≤ x) then (some (256 * (-prev) / (x - prev)).toNat, false, x)
    else (none, armed || decide (x ≤ -0x20000), x)

/-- R169, R172, R173: the energy of one frame into the buckets; phases left out by R175 contribute nothing. -/
def bucketFrame (abs : Bool) (ke p : Nat) (fv : FrameVals) (m : Meter) : Meter :=
  let keep (l : List Int) := (l.zip m.noload).map fun e => if e.2 then 0 else e.1 * p * ke
  let zp := keep fv.p
  let zq := carryTo 131 (keep fv.q).sum m.resQ
  if abs then
    let es := (zp.zip m.resA).map fun e => carryTo 131 e.1 e.2
    { m with b := (m.b.zip (es.map Prod.fst ++ [0, 0, 0])).map fun e => e.1 + e.2,
             resA := es.map Prod.snd ++ m.resA.drop es.length, bq := m.bq + zq.1, resQ := zq.2 }
  else
    let e := carryTo 131 zp.sum (m.resA.getD 3 0)
    { m with b := m.b.modify 0 (· + e.1), resA := m.resA.set 3 e.2, bq := m.bq + zq.1, resQ := zq.2 }

/-- R174, R175: the sums of a commit interval. -/
def addSums (p : Nat) (fv : FrameVals) (m : Meter) : Meter :=
  let sq (l : List Int) := l.map fun x => x.natAbs * x.natAbs * p
  let add (a b : List Nat) := (a.zip (b ++ [0, 0, 0])).map fun e => e.1 + e.2
  { m with sv := add m.sv (sq fv.v), si := add m.si (sq fv.i), sumP := m.sumP + p, cnt := m.cnt + 1 }

/-- R177: the sums of a 100 ms interval. -/
def liveAdd (f : FrameIn) (fv : FrameVals) (neutral : Int) (l : LiveSum) : LiveSum :=
  let sq (x : List Int) := x.map fun x => x.natAbs * x.natAbs * f.p
  let addN (a b : List Nat) := (a.zip (b ++ [0, 0, 0, 0])).map fun e => e.1 + e.2
  let addI (a b : List Int) := (a.zip (b ++ [0, 0, 0])).map fun e => e.1 + e.2
  let si := addN l.si (sq fv.i)
  { l with sv := addN l.sv (sq fv.v), si := si.modify 3 (· + neutral.natAbs * neutral.natAbs * f.p),
           p := addI l.p (fv.p.map (· * f.p)), q := addI l.q (fv.q.map (· * f.p)), sumP := l.sumP + f.p,
           u := l.u + fv.u, i := l.i + fv.i.headD 0, n := l.n + 1, last := f.n }

/-- The 100 ms interval of a stamp in 2^−16 ns. -/
def interval100 (c : Nat) : Nat := c / (100000000 * 2 ^ 16)

/-- START and GAP of the second under way (R178, R179, R188). -/
def startGap (m : Meter) : Nat := flagIf m.startF sfSTART ||| flagIf m.gapF sfGAP

/-- Close the second under way (R178). -/
def closeSecond (m : Meter) : Meter :=
  match m.sec with
  | none => m
  | some t =>
    { m with due := m.due ++ [⟨t, m.flags ||| startGap m, m.regs, m.first, m.lastN, m.secP⟩],
             startF := false, gapF := false, flags := 0, secP := 0, sec := none, lastSec := some t }

/-- An in-service test runs on a channel of the outlet (R38, R168); 8 is the supply side. -/
def outletTested (o : Nat) (s : State) : Bool := (chansOf o).any fun c => (getCh o c s).testOn

/-- R179: flags of a frame that come from the part's state, and TEST of a sample of a test already ended (R193). -/
def ambientFlags (o : Nat) (f : FrameIn) (s : State) : Nat :=
  flagIf (outletTested o s || f.body.any fun m => m.typ == 0x61 && fld m.w1 7 7 == 1) sfTEST ||| flagIf f.fl sfPERIOD |||
    flagIf (!(pairDuplex (pairOf o) s)) sfSIMPLEX

/-- R38, R168: put a band change of an outlet in effect; one that waits for the end of an in-service test stays pending. -/
def applyBand (o : Nat) (s : State) : State :=
  if flag (R.MET_TEMP_PEND o) s && !(outletTested o s) then
    modMt o (fun m => { m with next := m.next ||| sfBANDCHG, commitSince := false })
      (wrs [(R.MET_TEMP_BAND o, rd (R.MET_TEMP_TBAND o) s), (R.MET_TEMP_PEND o, 0)] s)
  else s

/-- R168: the pending band change of an outlet is due at a frame stamped `c`. -/
def bandDue (o c : Nat) (s : State) : Bool :=
  let m := getMt o s
  flag (R.MET_TEMP_PEND o) s && !(outletTested o s) &&
    (m.commitSince || ((metType o s == 3 || decide (m.bandAt + 1 < interval100 c) || metType o s == 0)
      && decide (m.bandAt < interval100 c)))

/-- The channels that carry sets on outlet `o`, with bands and quantities in the order of R514. -/
def calSets (o : Nat) : List (Nat × Nat × Nat) :=
  (chansOf o).flatMap fun c => (List.range 8).flatMap fun b =>
    ((List.range 6).filter (carries o c)).map fun q => (c, b, q)

/-- R514: the bytes of OCFGCRC. -/
def ocfgBytes (o : Nat) (s : State) : List Byte :=
  let head := if o = 8 then leBytes 4 (rd (R.MET_UREF_MV 8).eff s) else
    leBytes 4 (rd (R.MET_OCFG_TYPE o).eff s + rd (R.MET_OCFG_ACCMODE o).eff s * 4 + rd (R.MET_OCFG_FBAND o).eff s * 16
      + rd (R.MET_OCFG_FEN o).eff s * 128) ++
    leBytes 4 (rd (R.MET_UREF_MV o).eff s) ++ leBytes 4 (rd (R.MET_IREF_MA o).eff s) ++
    leBytes 4 (rd (R.MET_NOLOAD_I o).eff s) ++ leBytes 4 (rd (R.MET_KELO_KE o) s) ++
    leBytes 4 (rd (R.MET_KEHI_KE o) s) ++ leBytes 4 (rd (R.MET_CALID_ID o).eff s)
  head ++ (calSets o).flatMap fun (c, b, q) =>
    leBytes 3 (rd (calGain o c b q).eff s) ++ (if q = 5 then [0, 0, 0] else leBytes 3 (rd (calOfs o c b q).eff s))

/-- The configuration fields of an outlet (R198). -/
def metFields (o : Nat) : List Fld :=
  if o = 8 then [R.MET_UREF_MV 8]
  else [R.MET_OCFG_TYPE o, R.MET_OCFG_ACCMODE o, R.MET_OCFG_FBAND o, R.MET_OCFG_FEN o, R.MET_UREF_MV o, R.MET_IREF_MA o,
    R.MET_NOLOAD_I o, R.MET_CALID_ID o]

def calFields (o : Nat) : List Fld :=
  metFields o ++ (calSets o).flatMap fun (c, b, q) => [calGain o c b q, calOfs o c b q]

/-- The calibrated channels of an outlet (R158, R199). -/
def calChans (o : Nat) : List Nat := (chansOf o).filter fun c => o == 8 || decide (c < 8) || c == 12 || c == 13

/-- R199: the index registers of the calibration windows, which the record takes as they are written (DESIGN CHOICE, log
entry 102). -/
def idxFields (o c : Nat) : List Fld :=
  [R.FLT_CALHIDX_BAND o c, R.FLT_CALHIDX_QTY o c, R.FLT_CALEIDX_BAND o c, R.FLT_CALEIDX_QTY o c]

/-- R199, R516: what the calibration record keeps beside the applied configuration and sets: the registers that show
them, and the set-up of the channels the metering type uses. -/
def recordFields (o : Nat) (s : State) : List Fld :=
  [R.MET_OCFGCRC_CRC o, R.MET_KELO_KE o, R.MET_KEHI_KE o] ++ (calChans o).map (fun c => R.FLT_CALSTAT_APPLIED o c) ++
    (if o = 8 then [] else (List.range 8).filter (typeUses (metType o s))).flatMap fun c =>
      [R.FLT_CHCFG_RESP o c, R.FLT_CHCFG_RATE o c, R.FLT_CHCFG_COMP o c, R.FLT_CHCFG_SPLMODE o c]

/-- R161: KE from UREF and IREF. -/
def keOf (uref iref : Nat) : Nat := uref * iref * 2 ^ 50 / 3600000000000

/-- R195, R514: a CAL_APPLY takes effect: the copy of its acceptance becomes the values applied; KE, OCFGCRC, CALSTAT
and the CALIBRATION entry follow; index `n` is the first frame with it. -/
def calEffect (o n : Nat) (by_ : Nat × Nat) (s : State) : State :=
  let old := metType o s
  let s := forEach (calFields o) (fun f s => wr f.eff (rd f.copy s) s) s
  let s := if o < 8 then writePd1 o s else s
  let s := if o < 8 ∧ old ≠ metType o s ∧ metType o s ≠ 0 then rebase o s else s
  let s := if o < 8 ∧ old = 0 then noInterval o s else s
  let s := if o < 8 ∧ old = 0 then modMt o (fun m => { m with typed := true }) s else s
  let s := if o = 8 then s else
    let ke := if metType o s = 0 then 0 else keOf (rd (R.MET_UREF_MV o).eff s) (rd (R.MET_IREF_MA o).eff s)
    wrs [(R.MET_KELO_KE o, ke), (R.MET_KEHI_KE o, ke / 2 ^ 32)] s
  let s := wr (R.MET_OCFGCRC_CRC o) (crc32 (ocfgBytes o s)) s
  let s := forEach (calChans o)
    (fun c s => wr (R.FLT_CALSTAT_DIRTY o c) (rd (R.FLT_CALSTAT_DIRTY o c).copy s) (incSat (R.FLT_CALSTAT_APPLIED o c) s)) s
  let s := logEvent (if o < 4 ∨ o = 8 then 9 else 11) 0x0F (if o < 8 then o else 8)
    [if o < 8 then rd (R.MET_CALID_ID o).eff s else 0] s
  let s := forEach (recordFields o s) (fun f s => wr f.eff (rd f s) s) s
  let s := if o < 8 then modMt o (fun m => { m with cal := none, next := m.next ||| sfCALCHG }) (applyBand o s)
           else { s with supply := { s.supply with cal := none } }
  complete (8 + by_.1) 0x20 by_.2 (n % 2 ^ 16 * 256) stOK s

/-- A pending CAL_APPLY of an outlet takes effect from frame `n`. -/
def calDue (o n : Nat) (s : State) : State :=
  match (getMt o s).cal with
  | some c => calEffect o n c s
  | none => s

/-- R188: the first frame billed after a pair fault closes the gap: METER_GAP in the legal log. -/
def closeGap (o : Nat) (s : State) : State :=
  match (getMt o s).gapAt with
  | none => s
  | some t =>
    let ms := (s.now - t) / 1000
    let est (inc : Nat) := min (inc * ms / 1000) 0xFFFFFFFE
    let m := getMt o s
    logEvent (pairOf o) 0x04 o [ms, est m.lastInc.1, est m.lastInc.2, ms] (modMt o (fun m => { m with gapAt := none }) s)

/-- R177: the crossings of the last second at a frame stamped `c` of period `p`, in 2^−16 ns. -/
def crossTimes (c p : Nat) (f : Option Nat) (z : List Nat) : List Nat :=
  (match f with | some fr => [c - p * 2 ^ 10 * (256 - fr) / 256] | none => []) ++
    z.filter fun z => decide (c < z + 1000000000 * 2 ^ 16)

/-- R164 to R175: bill one frame of an outlet.  The clock status of a lost FRAME is a free value (log entry 84).  With fewer
than 80 DC frames held the no-load test takes the mean of those held, and leaves nothing out with none (DESIGN CHOICE, log
entry 99). -/
def billFrame (o : Nat) (f : FrameIn) (s : State) : State :=
  let m := getMt o s
  let ty := metType o s
  let c := match f.c with | some c => c | none => m.lastC + 125000 * 2 ^ 16
  let t := c / (1000000000 * 2 ^ 16)
  let m := if m.sec = some t ∨ m.sec = none then m else closeSecond m
  let m := if m.sec = none then { m with sec := some t, first := f.n } else m
  let m := if interval100 c ≠ m.lvI then { m with lvDone := m.lv, lv := LiveSum.reset, lvI := interval100 c } else m
  let s := setMt o m s
  let s := modMt o (fun m => { m with bandAt := if outletTested o s then interval100 c else m.bandAt }) s
  let s := if bandDue o c s then applyBand o s else s
  let s := modMt o (fun m => { m with flags := m.flags ||| m.next, next := 0 }) s
  let s := if f.c.isNone then nextFree s else s
  let m := getMt o s
  let clk := if f.c.isNone then (freeNow 2 s).toNat else f.clk
  let b := rd (R.MET_TEMP_BAND o) s
  let ke := keEff o s
  let abs := flag (R.MET_OCFG_ACCMODE o).eff s
  let det := commitDetect ((sampleOf 0x61 0 f.body).map fun x => x.1 / 256) m.armed m.prevX
  let cross := ty != 3 && det.1.isSome
  let full := ty != 3 && decide (400 ≤ m.cnt)
  let m := if ty = 3 then
      let mean : Int := (m.dcI.sum).natAbs
      let low := decide (0 < m.dcI.length) &&
        decide (mean * rd (R.MET_IREF_MA o).eff s * 100 < rd (R.MET_NOLOAD_I o).eff s * m.dcI.length * 2 ^ 31)
      { m with noload := [low, false, false] }
    else m
  let mf : Meter × FrameVals × Int :=
    if ty = 3 then let d := dcStep o b f s m; (d.1, d.2, 0)
    else neutralStep o b cross f s ((phaseList ty).foldl (acPhase o b cross f s) (m, ⟨[], [], [], [], 0, false, false⟩))
  let fv := mf.2.1
  let m := addSums f.p fv (bucketFrame abs ke f.p fv mf.1)
  let m := { m with armed := det.2.1, prevX := det.2.2, lastC := c, lastN := f.n, secP := m.secP + f.p,
                    lv := liveAdd f fv mf.2.2 m.lv,
                    zct := crossTimes c f.p det.1 m.zct,
                    flags := m.flags ||| flagIf (fv.sub || f.c.isNone) sfINTERP ||| flagIf fv.ovl sfOVL ||| ambientFlags o f s |||
                      flagIf ((phaseList ty).any fun k => m.noload.getD k false) sfNOLOAD }
  let m := { m with flags := m.flags % 2 ^ 12 + clk * 2 ^ 12 + m.flags / 2 ^ 14 * 2 ^ 14 }
  let s := setMt o m s
  let commit := ty == 3 || cross || full
  let s := if commit then
      modMt o (fun m => { m with commitSince := m.commitSince || (cross && !(outletTested o s)) }) (commitOutlet o (!cross) s) else s
  let s := if commit then calDue o ((f.n + 1) % 2 ^ 24) s else s
  closeGap o s

/-- R177: a frame of the supply channels for TE9–TE10: sums and crossings of S0. -/
def supplyFrame (f : FrameIn) (s : State) : State :=
  let u := s.supply
  let c := match f.c with | some c => c | none => u.lastC + 125000 * 2 ^ 16
  let u := match u.pend with
    | some (b, at_) => if at_ < interval100 c ∧ outletTested 8 s = false then { u with band := b, pend := none } else u
    | none => u
  let u := if interval100 c ≠ u.lvI then { u with done := (u.sv, u.sumP), sv := [0, 0, 0, 0], sumP := 0, lvI := interval100 c }
           else u
  let det := commitDetect ((sampleOf 0x61 0 f.body).map fun x => x.1 / 256) u.armed u.prevX
  let xs := (List.range 4).map fun k =>
    streamStep false det.1.isSome (gainEff 8 k u.band 0 s) (ofsEff 8 k u.band 0 s) (sampleOf 0x61 k f.body)
      (u.hv.getD k Hist.reset) (u.rv.getD k 0)
  let u := { u with sv := (u.sv.zip xs).map fun e => e.1 + e.2.1.natAbs * e.2.1.natAbs * f.p, sumP := u.sumP + f.p,
                    rv := xs.map fun x => x.2.2.2.2, hv := xs.map fun x => x.2.2.2.1, armed := det.2.1, prevX := det.2.2,
                    lastC := c, zct := crossTimes c f.p det.1 u.zct }
  let s := { s with supply := u }
  match u.cal with
  | some k => calEffect 8 ((f.n + 1) % 2 ^ 24) k s
  | none => s

/-- Take one frame, or one message that belongs to none, from a stream queue. -/
def popFrame (q last : Nat) (s : State) : State × Option FrameIn :=
  match parseFrame last ((getQ (qn q) s).ent.map Prod.snd) with
  | none => (s, none)
  | some (f, k) => (takeN q k s, f)

/-- A stream queue that no enabled channel feeds holds nothing: no frame will come. -/
def noFrames (q o : Nat) (s : State) : Bool :=
  (getQ (qn q) s).ent.isEmpty && (chansOf o).all fun c => decide (o < 8 ∧ 12 ≤ c) || !(chOn o c s)

/-- FRAME_BILLING (R164 to R175, R516): the pair of outlet `o` pops one frame of its stream and bills it, once the first
reading has set the band (R167); it bills from the first complete FRAME after the RESTORE. -/
def execFrameBilling (o : Fin 8) (s : State) : Host.Outcome State Fault Refusal :=
  let lo := pairOf o
  if !(pairUp lo s) then .next s
  else
    let sup := popFrame (if lo = 9 then 48 else 49) 0 s
    let s := if o.val = 0 ∨ o.val = 4 then
        (match sup.2 with | some f => if o.val = 0 then supplyFrame f sup.1 else sup.1 | none => sup.1) else s
    let s := match s.supply.cal with
      | some c => if o.val = 0 ∧ noFrames 48 8 s = true then calEffect 8 (nextIdx s) c s else s
      | none => s
    let idle := metType o s = 0 ∨ noFrames (32 + o) o s
    if (getMt o s).restored ∧ !(getMt o s).bandInit then .next s
    else
      let f := popFrame (32 + o) (getMt o s).lastN s
      let s := f.1
      if idle then .next (whenS (bandDue o (s.clock / 2 ^ 24) s) (applyBand o) (calDue o (nextIdx s) s))
      else match f.2 with
        | none => .next s
        | some f =>
          if !((getMt o s).restored) || (!(getMt o s).billing && f.c.isNone) then .next s
          else .next (billFrame o f (modMt o (fun m => { m with billing := true }) s))

/-- R166: the band that contains a reading in 0.1 °C. -/
def bandOf (t : Int) : Nat :=
  if t < -200 then 0 else if t < 0 then 1 else if t < 200 then 2 else if t < 400 then 3 else if t < 600 then 4
  else if t < 800 then 5 else if t < 1000 then 6 else 7

/-- R167: the target from band `c` at a reading: with hysteresis of 1 °C. -/
def bandTarget (c : Nat) (t : Int) : Nat :=
  let upper : Int := (c : Int) * 200 - 200
  let lower : Int := (c : Int) * 200 - 400
  if bandOf t > c then (if upper + 10 ≤ t then bandOf t else c)
  else if bandOf t < c then (if t < lower - 10 then bandOf t else c)
  else c

/-- TEMP_READING (R167, R168): the pair reads the sensor of an outlet's front end. -/
def execTempReading (o : Fin 8) (t : BitVec 16) (s : State) : Host.Outcome State Fault Refusal :=
  if !(pairUp (pairOf o) s) then .next s
  else
    let s := wr (R.MET_TEMP_T o) t.toNat s
    let forced := flag (R.MET_OCFG_FEN o).eff s && !(locked s)
    let cur := rd (R.MET_TEMP_BAND o) s
    let first := !((getMt o s).bandInit)
    let tgt := if forced then rd (R.MET_OCFG_FBAND o).eff s else if first then bandOf t.toInt else bandTarget cur t.toInt
    let stgt := if first then bandOf t.toInt else bandTarget s.supply.band t.toInt
    let s := if o.val = 0 then
        { s with supply := if first then { s.supply with band := stgt, pend := none }
                           else if stgt = s.supply.band then { s.supply with pend := none }
                           else if s.supply.pend.map Prod.fst = some stgt then s.supply
                           else { s.supply with pend := some (stgt, interval100 (s.clock / 2 ^ 24)) } } else s
    if first then
      .next (modMt o (fun m => { m with bandInit := true })
        (wrs [(R.MET_TEMP_BAND o, tgt), (R.MET_TEMP_TBAND o, tgt), (R.MET_TEMP_PEND o, 0)] s))
    else if tgt = cur then .next (wrs [(R.MET_TEMP_TBAND o, tgt), (R.MET_TEMP_PEND o, 0)] s)
    else if flag (R.MET_TEMP_PEND o) s && rd (R.MET_TEMP_TBAND o) s == tgt then .next s
    else
      .next (modMt o (fun m => { m with bandAt := interval100 (s.clock / 2 ^ 24), commitSince := false })
        (wrs [(R.MET_TEMP_TBAND o, tgt), (R.MET_TEMP_PEND o, 1)] s))

/-- BAND_CHANGE (R168): the pending band of an outlet takes effect, where it is due. -/
def execBandChange (o : Fin 8) (s : State) : Host.Outcome State Fault Refusal :=
  if pairUp (pairOf o) s && bandDue o (s.clock / 2 ^ 24) s then .next (applyBand o s) else .next s

/-- Rounded half-up quotient of a signed number. -/
def divRound (a : Int) (d : Nat) : Int := (2 * a + d) / (2 * d)

/-- R177: a square root rounded half-up, of a / d. -/
def sqrtRound (a d : Nat) : Nat := (Nat.sqrt (4 * a / d) + 1) / 2

/-- Saturate to an unsigned field of `w` bits. -/
def satU (w v : Nat) : Nat := min v (2 ^ w - 1)

/-- R177: the frequency in mHz from the crossings of the last second; with fewer than two the spec states no value: a
free value (log entry 16). -/
def freqOf (z : List Nat) (s : State) : Nat × State :=
  match z.head?, z.getLast? with
  | some a, some b =>
    if b < a then (satU 24 (divRound ((z.length - 1) * 1000 * 1000000000 * 2 ^ 16) (a - b)).toNat, s)
    else ((freeNow 24 s).toNat, nextFree s)
  | _, _ => ((freeNow 24 s).toNat, nextFree s)

/-- The values of a 100 ms interval for phase `k` (R177): Vrms, Irms, P, Q, S, PF.  On DC a negative mean or product
saturates at 0, the limit of its unsigned field. -/
def livePhase (o k : Nat) (l : LiveSum) (s : State) : List Nat :=
  let u := rd (R.MET_UREF_MV o).eff s
  let i := rd (R.MET_IREF_MA o).eff s
  let sv := l.sv.getD k 0
  let si := l.si.getD k 0
  let dc := metType o s == 3
  let v := if dc then (divRound (l.u * u) (l.n * 2 ^ 31)).toNat else sqrtRound (sv * u * u) (l.sumP * 2 ^ 62)
  let a := if dc then (divRound (l.i * i * 10) (l.n * 2 ^ 31)).toNat
           else sqrtRound (si * i * i * 100) (l.sumP * 2 ^ 62)
  let p := divRound (l.p.getD k 0 * u * i) (l.sumP * 2 ^ 107 * 1000000)
  let q := divRound (l.q.getD k 0 * u * i) (l.sumP * 2 ^ 107 * 1000000)
  let ap := if dc then (divRound (l.u * l.i * u * i) (l.n * l.n * 2 ^ 62 * 1000000)).toNat
            else sqrtRound (sv * si * u * u * i * i) (l.sumP * l.sumP * 2 ^ 124 * 10 ^ 12)
  let pf := if ap = 0 then 0 else divRound (p * 2 ^ 23) ap
  [satU 24 v, satU 24 a, toU 24 (satS 24 p), toU 24 (satS 24 q), satU 24 ap, toU 24 (satS 24 pf)]

/-- R177, R200: the supply voltages of the last closed 100 ms interval and the supply frequency. -/
def supplyLive (s : State) : State :=
  if s.supply.done.2 = 0 then s
  else
    let su := rd (R.MET_UREF_MV 8).eff s
    let s := forEach ([0, 1, 2, 3] : List Nat) (fun k s =>
      wr (R.NRG_SVRMS_V k) (satU 24 (sqrtRound (s.supply.done.1.getD k 0 * su * su) (s.supply.done.2 * 2 ^ 62))) s) s
    let sf := freqOf s.supply.zct s
    wr R.NRG_SFREQ_F sf.1 { sf.2 with supply := { sf.2.supply with done := ([0, 0, 0, 0], 0) } }

/-- R177, R180: the last closed 100 ms interval of an outlet, written to NRG; and the highest phase Irms, the total
power and the LIVE message with its continuations; none where no interval has closed.  The lowest Vrms is rounded to 10 mV
from its value in mV, and the total power is the sum of the phases' values in W (DESIGN CHOICE, log entry 100). -/
def liveStep (o : Fin 8) (s : State) : State × Option (Nat × Int × Msg × List Cont) :=
  let s := whenS (o == 0 && pairUp 9 s) supplyLive s
  let m := getMt o s
  let l := m.lvDone
  if !(pairUp (pairOf o) s) || metType o s == 0 || l.n == 0 then (s, none)
  else
    let ks := phaseList (metType o s)
    let vs := ks.map fun k => (k, livePhase o k l s)
    let s := forEach vs (fun e => wrs [(R.NRG_VRMS_V o e.1, e.2.getD 0 0), (R.NRG_IRMS_I o e.1, e.2.getD 1 0),
      (R.NRG_PWR_P o e.1, e.2.getD 2 0), (R.NRG_RPWR_Q o e.1, e.2.getD 3 0), (R.NRG_APWR_S o e.1, e.2.getD 4 0),
      (R.NRG_PF_PF o e.1, e.2.getD 5 0)]) s
    let i := rd (R.MET_IREF_MA o).eff s
    let neutral := satU 24 (sqrtRound (l.si.getD 3 0 * i * i * 100) (l.sumP * 2 ^ 62))
    let s := if metType o s = 3 then s else wr (R.NRG_IRMS_I o 3) neutral s
    let fr := freqOf m.zct s
    let s := wr (R.NRG_FREQ_F o) fr.1 fr.2
    let irms := (vs.map fun e => e.2.getD 1 0).foldl max 0
    let ptot : Int := (vs.map fun e => sext 24 (e.2.getD 2 0)).sum
    let vmin := (vs.map fun e => e.2.getD 0 0).foldl min (2 ^ 24 - 1)
    let s := modMt o (fun m => { m with lvDone := LiveSum.reset }) s
    (s, some (irms, ptot, mkMsg 0x51 irms (toU 24 (satS 24 ptot)),
      [(w24 (divRound vmin 10).toNat, w24 (rd (R.NRG_FREQ_F o) s)), (w24 (m.flags ||| startGap m), w24 l.last)]))

/-- The messages of a summary (R178). -/
def summConts (u : Summ) : List Cont :=
  (w24 (u.sec / 2 ^ 24), w24 u.flags) ::
    (u.regs.flatMap fun r => [(w24 r, w24 (r / 2 ^ 24)), (w24 (r / 2 ^ 48), w24 (r / 2 ^ 72))]) ++
    [(w24 u.first, w24 u.last), (w24 u.sumP, w24 (u.sumP / 2 ^ 24))]

/-- R200: the registers of the last summary. -/
def wrSummary (o : Nat) (u : Summ) (s : State) : State :=
  let s := forEach (u.regs.zipIdx) (fun e => wrs [(R.NRG_ENERGY_V o (e.2 * 3), e.1), (R.NRG_ENERGY_V o (e.2 * 3 + 1), e.1 / 2 ^ 32),
    (R.NRG_ENERGY_V o (e.2 * 3 + 2), e.1 / 2 ^ 64)]) s
  wrs [(R.NRG_SECLO_S o, u.sec), (R.NRG_SECHI_S o, u.sec / 2 ^ 32), (R.NRG_SUMSTAT_ST o, u.flags)] s

/-- R178, R227: push the summary of a closed second, or a power-fail summary, by its type. -/
def pushSummaryT (typ o : Nat) (u : Summ) (s : State) : State :=
  let a := u.regs.getD 0 0
  let e := u.regs.getD 1 0
  let s := modMt o (fun m => { m with due := m.due.drop 1, lastReg := (a, e),
                                      lastInc := (toU 96 ((a : Int) - m.lastReg.1) / 2 ^ 32, toU 96 ((e : Int) - m.lastReg.2) / 2 ^ 32) }) s
  pushAll (if o < 4 then 50 else 51) o (mkMsg typ o u.sec) (summConts u) (wrSummary o u s)

def pushSummary (o : Nat) (u : Summ) (s : State) : State := pushSummaryT 0x50 o u s

/-- R197, R227: the forced commit and the power-fail summary of an outlet, behind the summaries of its closed
seconds. -/
def powerSummary (o : Nat) (s : State) : State :=
  if metType o s = 0 ∨ !(pairUp (pairOf o) s) ∨ !(getMt o s).restored then s
  else
    let s := forEach (getMt o s).due (pushSummary o) s
    let s := modMt o (fun m => if m.sec.isSome then m else { m with sec := some (clkSec s), first := m.lastN }) s
    let s := modMt o closeSecond (commitOutlet o true s)
    match (getMt o s).due with
    | [] => s
    | u :: _ => pushSummaryT 0x52 o u s

/-- A frame of second `t` waits to be billed. -/
def frameWaits (o t : Nat) (s : State) : Bool :=
  let m := getMt o s
  match parseFrame m.lastN ((getQ (qn (32 + o)) s).ent.map Prod.snd) with
  | some (some f, _) => decide (f.c.getD (m.lastC + 125000 * 2 ^ 16) / (1000000000 * 2 ^ 16) ≤ t)
  | some (none, _) => true
  | none => false

/-- R178: a second in which no frame of the outlet is billed, since none of its channels delivers any: its summary's
frame indices and clock status are free values (log entry 101). -/
def emptySecond (o : Nat) (s : State) : State :=
  let t := clkSec s - 1
  let m := getMt o s
  if m.due.isEmpty && noFrames (32 + o) o s && m.lastSec.any (· != t) && decide (0 < clkSec s) then
    let f := (freeNow 24 s).toNat
    let l := freeNow 24 (nextFree s)
    let clk := freeNow 2 (nextFree (nextFree s))
    nextFree (nextFree (nextFree (modMt o (fun m =>
      { closeSecond { m with sec := some t, first := f, lastN := l.toNat, flags := m.flags ||| clk.toNat * 2 ^ 12, secP := 0 } with
        lastN := m.lastN }) s)))
  else s

/-- R178: where no frame of a later second has come but the clock has passed the second under way, and none of its
frames waits to be billed, it closes. -/
def closeIfPast (o : Nat) (s : State) : State :=
  match (getMt o s).sec with
  | some t => if t < clkSec s ∧ frameWaits o t s = false then modMt o closeSecond s else s
  | none => emptySecond o s

/-- R160: the set-up a type requires of a channel: RATE 0, a response, the companion, the splice. -/
def setupOk (o : Nat) (ty : Nat) (s : State) : Bool :=
  let rate (c : Nat) := rd (R.FLT_CHCFG_RATE o c) s == 0
  let resp (c : Nat) := rd (R.FLT_CHCFG_RESP o c) s
  let comp (c : Nat) := flag (R.FLT_CHCFG_COMP o c) s
  let spl (c : Nat) := rd (R.FLT_CHCFG_SPLMODE o c) s == 0 || rd (R.FLT_CHCFG_SPLMODE o c) s == 3
  let cur (c : Nat) := rate c && spl c && (resp c == resp 0 || resp c == 3 || resp c == 4)
  if ty = 0 then true
  else if ty = 1 then rate 0 && decide (resp 0 ≤ 2) && comp 0 && cur 4 && cur 7
  else if ty = 2 then
    [0, 1, 2].all (fun c => rate c && decide (resp c ≤ 2) && comp c && resp c == resp 0) && [4, 5, 6, 7].all cur
  else [0, 1, 4].all (fun c => rate c && (resp c == 5 || resp c == 6)) && !(comp 0) && !(comp 1) && spl 4

/-- R161: KE of a configuration is usable. -/
def keOk (ty uref iref : Nat) : Bool := ty == 0 || (decide (0 < keOf uref iref) && decide (keOf uref iref < 2 ^ 48))

/-- CAL_APPLY (R195, R196): the staged configuration and sets of an outlet are copied and take effect later. -/
def execCalApply (n : Fin 8) (w0 w1 : W24) (s : State) : Host.Outcome State Fault Refusal :=
  .next (chanReq n 0x20 w0 w1 []
    (fun o _ s => w1 != 0 || (decide (o < 8) && (
      !(setupOk o (rd (R.MET_OCFG_TYPE o) s) s) ||
      !(keOk (rd (R.MET_OCFG_TYPE o) s) (rd (R.MET_UREF_MV o) s) (rd (R.MET_IREF_MA o) s)) ||
      inSession o s ||
      (!(outOfService o s) && (rd (R.MET_OCFG_TYPE o) s != metType o s || rd (R.MET_UREF_MV o) s != rd (R.MET_UREF_MV o).eff s
        || rd (R.MET_IREF_MA o) s != rd (R.MET_IREF_MA o).eff s || rd (R.MET_OCFG_ACCMODE o) s != rd (R.MET_OCFG_ACCMODE o).eff s)) ||
      (flag (R.MET_OCFG_ACCMODE o) s && flag (R.OUT_OCFG_BIDIR o).eff s))))
    (fun _ _ _ => true)
    (fun o _ s => if o < 8 then (getMt o s).cal.isSome else s.supply.cal.isSome) true
    (fun o _ s =>
      let s := forEach (calFields o) (fun f s => wr f.copy (rd f s) s) s
      let s := forEach (calChans o) (fun c s => wr (R.FLT_CALSTAT_DIRTY o c).copy 0 s) s
      if o < 8 then modMt o (fun m => { m with cal := some (n.val, w0.toNat) }) s
      else { s with supply := { s.supply with cal := some (n.val, w0.toNat) } }) s)

/-- R36: the channels under in-service test. -/
def testCount (s : State) : Nat := allChans.countP fun oc => (getCh oc.1 oc.2 s).testOn

/-- R39: injection time of a channel in the last 3600 s, in ms. -/
def testBudget (o c : Nat) (s : State) : Nat :=
  (((getCh o c s).testLog.filter fun e => decide (s.now < e.1 + 3600000000)).map Prod.snd).sum

/-- CH_TEST (R191 to R196): an injected reference on one metering channel. -/
def execChTest (n : Fin 8) (w0 w1 : W24) (s : State) : Host.Outcome State Fault Refusal :=
  let ms := fld w1 9 0
  .next (chanReq n 0x21 w0 w1 []
    (fun o c s => fld w1 23 10 != 0 || ms == 0 || decide (1000 < ms) || decide (o < 8 ∧ 8 ≤ c) ||
      !(flag (R.FLT_CHCFG_EN o c) s))
    (fun _ _ _ => false)
    (fun o c s => !(pairDuplex (chanOwner o c) s) || chanBusy o c s || decide (1000 < testBudget o c s + ms) ||
      decide (limTests (limitMode s) ≤ testCount s) || ((chansOf o).any fun d => (getCh o d s).testOn))
    true
    (fun o c s =>
      let lg := (s.now, ms) :: (getCh o c s).testLog.filter fun e => decide (s.now < e.1 + 3600000000)
      let s := whenS (decide (o < 8)) (modMt o fun m => { m with commitSince := false }) s
      modPaths o c (fun ch => { ch with inject := true })
        (modCh o c (fun ch => { ch with testOn := true, testLeft := 8 * ms, testN := n, testW := w0.toNat, testLog := lg, tHL := 0, tLL := 0 }) s)) s)

/-- The reference is off the inputs and no test runs. -/
def testOver (o c : Nat) (s : State) : State :=
  modPaths o c (fun ch => { ch with inject := false }) (modCh o c (fun ch => { ch with testOn := false, testLeft := 0 }) s)

/-- R194: a test ends and its request completes with the measured errors. -/
def endTest (o c : Nat) (gain ratio : Nat) (s : State) : State :=
  let ch := getCh o c s
  completeWith (8 + ch.testN) 0x21 ch.testW (gain * 256) stOK (if isCurrent o c then [(w24 ratio, 0)] else []) (testOver o c s)

/-- R194: a measured error in ppm; −32,768 stands for no result. -/
def ppmOf (e : BitVec 16) : Nat := if e = 0x8000 then 0x8001 else e.toNat

/-- The frames that a test affects are over: the injection and the window after it (R193). -/
def testPast (o c : Nat) (s : State) : Bool :=
  let ch := getCh o c s
  ch.testOn && !ch.inject && decide (windowOf false 0 (rd (R.FLT_CHCFG_RATE o c) s) ≤ ch.ageTest)

/-- R194: the ratio error of a current channel in ppm: the ratio of the two ranges' outputs over the injection, in the sense
of r (R134), less the present r, divided by r, floored and saturated.  Where the injection left no low-range output, or r
is 0, there is no ratio: the operand `e` (log entry 85). -/
def ratioErr (o c : Nat) (e : BitVec 16) (s : State) : Nat :=
  let ch := getCh o c s
  let r := rd (R.FLT_SPLR_R o c) s
  if ch.tLL = 0 ∨ r = 0 then ppmOf e
  else toU 16 (max (-32767) (min 32767 ((ch.tHL * 2 ^ 32 / ch.tLL - r) * 1000000 / r)))

/-- CH_TEST_END (R194): the end of the affected frames.  The operands are the measured gain error, and the ratio error
where the samples give none (log entry 85). -/
def execChTestEnd (o : Fin 9) (c : Fin 14) (gainErr ratioErr : BitVec 16) (s : State) :
    Host.Outcome State Fault Refusal :=
  if testPast o c s then .next (endTest o c (ppmOf gainErr) (Sys2Proof.Machine.ratioErr o c ratioErr s) s) else .next s

/-- R34, R194, R197: a power-fail warning ends every test OK with no result. -/
def abortTests (s : State) : State :=
  forEach allChans (fun oc s => if (getCh oc.1 oc.2 s).testOn then endTest oc.1 oc.2 0x8000 0x8000 s else s) s

end Sys2Proof.Machine
end

