-- ==== Sys2Proof/Machine/Vault.lean ====
section
/-!
DEFINITION. The Gorse vault (R392 to R406, R411 to R413): derivation, slots, authorisations, key and anchor loads,
generation of working keys, signing, tamper and the health of the noise source.
-/
namespace Sys2Proof.Machine

/-- The order n, the prime p and the coefficient b of P-256 and P-384 (FIPS 186, which the spec cites). -/
def nP256 : Nat := 0xFFFFFFFF00000000FFFFFFFFFFFFFFFFBCE6FAADA7179E84F3B9CAC2FC632551
def nP384 : Nat :=
  0xFFFFFFFFFFFFFFFFFFFFFFFFFFFFFFFFFFFFFFFFFFFFFFFFC7634D81F4372DDF581A0DB248B0A77AECEC196ACCC52973
def pP256 : Nat := 2 ^ 256 - 2 ^ 224 + 2 ^ 192 + 2 ^ 96 - 1
def pP384 : Nat := 2 ^ 384 - 2 ^ 128 - 2 ^ 96 + 2 ^ 32 - 1
def bP256 : Nat := 0x5AC635D8AA3A93E7B3EBBD55769886BC651D06B0CC53B0F63BCE3C3E27D2604B
def bP384 : Nat :=
  0xB3312FA7E23EE7E4988E056BE3F82D19181D9C6EFE8141120314088F5013875AC656398D8A2ED19D2A85C8EDD3EC2AEF

/-- The point X ‖ Y lies on y² = x³ − 3x + b. -/
def onCurve (p b : Nat) (key : List Byte) : Bool :=
  let x := beNat (key.take (key.length / 2))
  let y := beNat (key.drop (key.length / 2))
  decide (x < p ∧ y < p ∧ y * y % p = (x * x * x + (p - 3) * x + b) % p)

def devIdBytes : List Byte := beBytes 16 Config.devId.toNat

/-- ASCII bytes of a label. -/
def ascii (t : String) : List Byte := t.toList.map fun c => BitVec.ofNat 8 c.toNat

/-- R393: block `i` of the counter-mode KDF. -/
def kdfBlock (label ctx : List Byte) (l i : Nat) : List Byte :=
  beBytes 32 (Config.hmacSha256 (beBytes 32 Config.uniqueSecret.toNat)
    (beBytes 4 i ++ label ++ [0] ++ ctx ++ beBytes 4 l)).toNat

/-- R393: derive(label, context, l), l in bits. -/
def derive (label : String) (ctx : List Byte) (l : Nat) : List Byte :=
  ((List.range ((l + 255) / 256)).flatMap fun i => kdfBlock (ascii label) ctx l (i + 1)).take (l / 8)

def epoch (s : State) : Nat := rd R.LIFE_EPOCH_E s

/-- R393: the three identity keys. -/
def keyRDK : List Byte := beBytes 32 (beNat (derive "RDK" devIdBytes 384) % (nP256 - 1) + 1)
def keyWRK (s : State) : List Byte := derive "WRAP" (devIdBytes ++ beBytes 4 (epoch s)) 256
def keyTK : List Byte := derive "TRANSPORT" devIdBytes 256

def modV (f : Vault → Vault) (s : State) : State := { s with vault := f s.vault }

/-- Fill a slot (R394, R395, R417). -/
def setSlot (k : Nat) (key : List Byte) (attr alg owner ver : Nat) (s : State) : State :=
  wrs [(R.GV_SLOT_VALID k, 1), (R.GV_SLOT_ATTR k, attr), (R.GV_SLOT_ALG k, alg), (R.GV_SLOT_OWNER k, owner),
    (R.GV_SLOT_VERSION k, ver)]
    (modV (fun v => { v with keys := v.keys.set k key, vers := v.vers.set k ver }) s)

/-- Clear a slot. -/
def clearSlot (k ver : Nat) (s : State) : State :=
  wrs [(R.GV_SLOT_VALID k, 0), (R.GV_SLOT_ATTR k, 0), (R.GV_SLOT_ALG k, 0), (R.GV_SLOT_OWNER k, 0),
    (R.GV_SLOT_VERSION k, ver)]
    (modV (fun v => { v with keys := v.keys.set k [], vers := v.vers.set k ver }) s)

def clearSlots (ks : List Nat) (s : State) : State := forEach ks (fun k s => clearSlot k 0 s) s

def clearTemps (s : State) : State := modV (fun v => { v with temps := List.replicate 4 ⟨[], 0, 0, 0⟩ }) s

def loadableSlots : List Nat := (List.range 29).map (· + 3)

/-- R394: TE15 derives the identity slots; in SCRAPPED only slot 0. -/
def deriveIdentity (s : State) : State :=
  let s := setSlot 0 keyRDK 5 5 1 0 s
  let s := if isScrapped s then s else setSlot 2 keyTK 2 2 4 0 (setSlot 1 (keyWRK s) 3 2 4 0 s)
  let pub := beBytes 64 (Config.ecPublic256 keyRDK).toNat
  let s := forEach (List.range 16) (fun i s => wr (R.IDENT_RDPUB_W i) (leNat ((pub.drop (4 * i)).take 4)) s) s
  wr R.GV_VSTAT_READY 1 s

/-- R401: one change of the directory. -/
def commitDir (s : State) : State :=
  wr R.GV_VSTAT_DIRSEQ (s.vault.dirSeq + 1) (modV (fun v => { v with dirSeq := v.dirSeq + 1 }) s)

/-- TE15 serves requests. -/
def te15Up (s : State) : Bool := engState 15 s == 3

/-- R395: the algorithms an attribute allows. -/
def attrAllows (attr alg : Nat) : Bool :=
  if attr = 1 ∨ attr = 2 ∨ attr = 3 then alg == 1 || alg == 2
  else if attr = 4 then decide (1 ≤ alg ∧ alg ≤ 4)
  else if attr = 5 then decide (3 ≤ alg ∧ alg ≤ 6)
  else false

/-- R395, R400: key bytes of an algorithm. -/
def keyLen (alg : Nat) : Nat := if alg = 1 then 16 else if alg = 4 ∨ alg = 6 then 48 else 32

/-- R395: the slot may be used so: it holds a key of this attribute, and one of the parties owns it. -/
def slotFor (k attr parties : Nat) (s : State) : Bool :=
  flag (R.GV_SLOT_VALID k) s && rd (R.GV_SLOT_ATTR k) s == attr && rd (R.GV_SLOT_OWNER k) s &&& parties != 0

/-- R398: an authorisation as it stands in a staging area. -/
structure Auth where
  format : Nat
  purpose : Nat
  anchor : Nat
  res : Bool
  counter : Nat
  devid : List Byte
  plen : Nat
  params : List Byte
  signed : List Byte
  rest : List Byte
  deriving DecidableEq, Repr

def parseAuth (b : List Byte) : Auth :=
  let at1 (i : Nat) := (b.getD i 0).toNat
  let plen := at1 24 + 256 * at1 25
  { format := at1 0, purpose := at1 1, anchor := at1 2,
    res := at1 3 == 0 && ((b.drop 26).take 6).all (· == 0),
    counter := leNat ((b.drop 4).take 4), devid := (b.drop 8).take 16, plen := plen,
    params := (b.drop 32).take plen, signed := b.take (32 + plen), rest := b.drop (32 + plen) }

/-- R397: the curve of a loaded anchor: 5 P-256, 6 P-384. -/
def anchorCurve (a : Nat) (s : State) : Nat := rd (R.GV_ANCINFO_CURVE a) s

def anchorLoaded (a : Nat) (s : State) : Bool := flag (R.GV_ANCINFO_LOADED a) s

/-- R398: a signature over `msg` under anchor `a`, r ‖ s at the front of `sig`. -/
def anchorVerifies (a : Nat) (msg sig : List Byte) (s : State) : Bool :=
  let key := s.vault.anchors.getD a []
  if anchorCurve a s = 6 then Config.ecdsaVerify384 key msg (sig.take 96) else Config.ecdsaVerify256 key msg (sig.take 64)

/-- R399: everything about an authorisation that fails with DENIED. -/
def authDenied (a : Auth) (purpose : Nat) (plenOk anchorOk : Bool) (s : State) : Bool :=
  a.format != 1 || !a.res || a.purpose != purpose || !plenOk || decide (448 < a.plen) || a.devid != devIdBytes ||
    !anchorOk || decide (5 < a.anchor) || !(anchorLoaded a.anchor s) || !(anchorVerifies a.anchor a.signed a.rest s)

/-- R399: the counter is spent. -/
def authStale (a : Auth) (s : State) : Bool := decide (a.counter ≤ rd (R.GV_ANCCNT_CNT a.anchor) s)

/-- R399: the anchor's counter takes the value of an accepted authorisation. -/
def takeCount (a : Auth) (s : State) : State := wr (R.GV_ANCCNT_CNT a.anchor) a.counter s

/-- R399, R401: the counter is committed before an action that is no change of the directory.  A key, an anchor, EPOCH
or the lifecycle is committed together with the spent counter, for no mixture of old and new may arise. -/
def spend (a : Auth) (s : State) : State := commitDir (takeCount a s)

/-- The authorisation in the vault staging area and in the tariff staging area (R422). -/
def vaultAuth (s : State) : Auth := parseAuth (mramRdN s 0x0A0000 576)
def tariffAuth (s : State) : Auth := parseAuth (mramRdN s 0x0B0000 576)

/-- R412: FAULT of a vault request; `rnd` says that it needs randomness (R402), a write of a slot for its scrambling
values (R403). -/
def vaultFault (rnd : Bool) (s : State) : Bool := !s.vault.dirOk || (rnd && flag R.GV_VSTAT_DRBGF s)

/-- R408: the wipe of step 4 runs. -/
def wiping (s : State) : Bool := flag R.LIFE_LSTATE_PEND s

/-- A vault request of the host, forwarded to TE15 on Q112 (R411). -/
def vaultReq (n : Fin 8) (t : Nat) (w0 w1 : W24) (status : State → Nat) (act : State → State × Nat) (s : State) :
    State :=
  viaReq 112 0 n t w0 w1 [] (te15Up s) (fun s =>
    let st := status s
    if st = stOK then let r := act s; reply n t w0.toNat r.2 stOK r.1 else reply n t w0.toNat 0 st s) s

/-- R400: the scalar of a P-256 or P-384 key lies in 1 to n − 1. -/
def scalarOk (alg : Nat) (key : List Byte) : Bool :=
  if alg = 5 then decide (1 ≤ beNat key ∧ beNat key < nP256)
  else if alg = 6 then decide (1 ≤ beNat key ∧ beNat key < nP384) else true

/-- R400: PARAMS of a KEY_LOAD. -/
structure KeyParams where
  slot : Nat
  attr : Nat
  alg : Nat
  owner : Nat
  ver : Nat
  wrapped : List Byte
  deriving DecidableEq, Repr

def keyParams (p : List Byte) : KeyParams :=
  let at1 (i : Nat) := (p.getD i 0).toNat
  ⟨at1 0, at1 1, at1 2, at1 3 % 8, leNat ((p.drop 4).take 4), p.drop 8⟩

/-- R400: PLEN of a KEY_LOAD. -/
def keyPlenOk (a : Auth) : Bool :=
  let k := keyParams a.params
  if k.attr = 0 then a.plen == 8 else a.plen == 16 + keyLen k.alg

/-- R400: the key of a KEY_LOAD under TK. -/
def keyOf (k : KeyParams) (s : State) : Option (List Byte) :=
  match Config.kwpUnwrap (s.vault.keys.getD 2 []) k.wrapped with
  | some b => if b.length = keyLen k.alg then some b else none
  | none => none

def keyLoadBad (k : KeyParams) (s : State) : Bool :=
  decide (k.slot < 3) || decide (32 ≤ k.slot) || decide (k.ver ≤ s.vault.vers.getD k.slot 0) ||
    (k.attr != 0 && (!(attrAllows k.attr k.alg) || !(slotFor 2 2 4 s) ||
      match keyOf k s with | some b => !(scalarOk k.alg b) | none => true))

/-- VAULT_KEY_LOAD (R400, R401). -/
def execVaultKeyLoad (n : Fin 8) (w0 w1 : W24) (s : State) : Host.Outcome State Fault Refusal :=
  .next (vaultReq n 0x3A w0 w1
    (fun s =>
      let a := vaultAuth s
      refusal (vaultFault true s)
        (w0 != 0 || w1 != 0 || authDenied a 1 (keyPlenOk a) (a.anchor == 1) s || flag R.GV_VSTAT_TAMPER s ||
          keyLoadBad (keyParams a.params) s)
        (isScrapped s) false (authStale a s) (wiping s))
    (fun s =>
      let a := vaultAuth s
      let k := keyParams a.params
      let s := takeCount a s
      let s := if k.attr = 0 then
          modV (fun v => { v with stored := v.stored.filter fun e => e.slot != k.slot }) (clearSlot k.slot k.ver s)
        else
          let key := (keyOf k s).getD []
          modV (fun v => { v with stored := (v.stored.filter fun e => e.slot != k.slot) ++
              [⟨k.slot, key, k.attr, k.alg, k.owner, k.ver⟩] })
            (setSlot k.slot key k.attr k.alg k.owner k.ver s)
      (commitDir s, k.slot * 256)) s)

/-- R397, R400: the anchor that signs the load of anchor `i`. -/
def anchorSigner (i : Nat) (s : State) : Nat := if i = 1 ∧ lifeState s = 0 then 0 else 1

/-- R400: PARAMS of an ANCHOR_LOAD. -/
def anchorBad (p : List Byte) (s : State) : Bool :=
  let i := (p.getD 0 0).toNat
  let c := (p.getD 1 0).toNat
  let key := p.drop 8
  i == 0 || decide (5 < i) || !(c == 5 || c == 6) || (i == 3 && c == 6) || p.getD 2 0 != 0 || p.getD 3 0 != 0 ||
    !(if c = 5 then onCurve pP256 bP256 key else onCurve pP384 bP384 key) || flag R.GV_VSTAT_TAMPER s

/-- R417: an anchor and the registers that show it. -/
def setAnchor (i c cnt : Nat) (key : List Byte) (s : State) : State :=
  wrs [(R.GV_ANCINFO_LOADED i, 1), (R.GV_ANCINFO_CURVE i, c), (R.GV_ANCCNT_CNT i, cnt),
    (R.GV_ANCHASH_H i, leNat ((beBytes 32 (Config.sha256 key).toNat).take 4))]
    (modV (fun v => { v with anchors := v.anchors.set i key }) s)

/-- VAULT_ANCHOR_LOAD (R400, R401, R410). -/
def execVaultAnchorLoad (n : Fin 8) (w0 w1 : W24) (s : State) : Host.Outcome State Fault Refusal :=
  .next (vaultReq n 0x3B w0 w1
    (fun s =>
      let a := vaultAuth s
      let i := (a.params.getD 0 0).toNat
      refusal (vaultFault false s)
        (w0 != 0 || w1 != 0 ||
          authDenied a 2 (a.plen == (if (a.params.getD 1 0) = 5 then 72 else 104)) (a.anchor == anchorSigner i s) s ||
          anchorBad a.params s)
        (isScrapped s || (isSealed s && (i == 2 || i == 3))) false (authStale a s) (wiping s))
    (fun s =>
      let a := vaultAuth s
      let i := (a.params.getD 0 0).toNat
      (commitDir (setAnchor i (a.params.getD 1 0).toNat (leNat ((a.params.drop 4).take 4)) (a.params.drop 8)
        (takeCount a s)), i * 256)) s)

/-- Draw `k` bytes from the DRBG (R402; log entry 3). -/
def drbg (k : Nat) (s : State) : List Byte × State := (freeBytes s k, { s with freeCtr := s.freeCtr + k })

/-- TAMPER_CLEAR (R406). -/
def execTamperClear (n : Fin 8) (w0 w1 : W24) (s : State) : Host.Outcome State Fault Refusal :=
  .next (vaultReq n 0x3D w0 w1
    (fun s =>
      let a := vaultAuth s
      refusal (vaultFault true s) (w0 != 0 || w1 != 0 || authDenied a 4 (a.plen == 0) (a.anchor == 1) s)
        (isScrapped s) false (authStale a s) (wiping s))
    (fun s =>
      let s := takeCount (vaultAuth s) s
      let d := drbg 32 s
      let s := modV (fun v => { v with seed := d.1, stored := [] }) d.2
      let s := wr R.LIFE_EPOCH_E (epoch s + 1) s
      let s := commitDir (wr R.GV_VSTAT_TAMPER 0 s)
      (setSlot 1 (keyWRK s) 3 2 4 0 s, 0)) s)

/-- A generated key of an algorithm: a scalar of the curve, or random bytes. -/
def freshKey (alg : Nat) (s : State) : List Byte × State :=
  let d := drbg (keyLen alg) s
  if alg = 5 then (beBytes 32 (beNat d.1 % (nP256 - 1) + 1), d.2)
  else if alg = 6 then (beBytes 48 (beNat d.1 % (nP384 - 1) + 1), d.2)
  else d

/-- R396: the header and key of a working-key blob. -/
def blobPlain (attr alg owner : Nat) (key : List Byte) (s : State) : List Byte :=
  [BitVec.ofNat 8 attr, BitVec.ofNat 8 alg, BitVec.ofNat 8 owner, 0] ++ beBytes 4 (epoch s) ++ key

/-- VAULT_GENERATE (R396, R411). -/
def execVaultGenerate (n : Fin 8) (w0 w1 : W24) (s : State) : Host.Outcome State Fault Refusal :=
  let attr := fld w1 2 0
  let alg := fld w1 5 3
  let k := fld w1 13 9
  .next (vaultReq n 0x3E w0 w1
    (fun s =>
      refusal (vaultFault true s) (w0 != 0 || fld w1 23 14 != 0 || !(attrAllows attr alg) || !(slotFor k 3 5 s))
        (isScrapped s) false false (wiping s))
    (fun s =>
      let g := freshKey alg s
      let blob := Config.kwpWrap (s.vault.keys.getD k []) (blobPlain attr alg (fld w1 8 6) g.1 s)
      (mramWr 0x0A0000 blob g.2, (keyLen alg + 16) / 8 * 256)) s)

/-- R396: unwrap the blob in the staging area with one slot; none where it fails or is of another EPOCH. -/
def blobTry (blob : List Byte) (s : State) (k : Nat) : Option TempKey :=
  if !(slotFor k 3 5 s) then none
  else match Config.kwpUnwrap (s.vault.keys.getD k []) blob with
    | none => none
    | some b =>
      let t : TempKey := ⟨b.drop 8, (b.getD 0 0).toNat, (b.getD 1 0).toNat, (b.getD 2 0).toNat⟩
      if b.getD 3 0 = 0 ∧ beNat ((b.drop 4).take 4) = epoch s ∧ b.length = 8 + keyLen t.alg ∧
        attrAllows t.attr t.alg = true then some t else none

/-- The lengths of a blob and the WRAP slots it may be under. -/
def blobOpen (s : State) : Option TempKey :=
  ([32, 48, 64].flatMap fun l => (List.range 32).map fun k => (l, k)).findSome? fun lk =>
    blobTry (mramRdN s 0x0A0000 lk.1) s lk.2

/-- The completion of an internal service of TE15 on Q113 (R411). -/
def te15Reply (t w0 w1 status : Nat) (cs : List Cont) (s : State) : State :=
  if status = stOK then completeWith 113 t w0 w1 status cs s else complete 113 t w0 w1 status s

/-- An internal request reaches TE15 on Q112 (R411); it waits there while TE15 does not run. -/
def te15Req (t : Nat) (w0 w1 : W24) (cs : List Cont) (k : State → State) (s : State) : State :=
  takeReq 112 0 t w0.toNat (reqMsgs t w0 w1 cs) (te15Up s) k s

/-- BLOB_LOAD (R396). -/
def execBlobLoad (w0 w1 : W24) (s : State) : Host.Outcome State Fault Refusal :=
  .next (te15Req 0x36 w0 w1 [] (fun s =>
    let t := blobOpen s
    let st := refusal (vaultFault true s) (fld w0 23 2 != 0 || w1 != 0 || t.isNone) (isScrapped s) false false (wiping s)
    match t with
    | some t =>
      if st = stOK then
        te15Reply 0x36 w0.toNat 0 stOK [] (modV (fun v => { v with temps := v.temps.set (fld w0 1 0) t }) s)
      else te15Reply 0x36 w0.toNat 0 st [] s
    | none => te15Reply 0x36 w0.toNat 0 st [] s) s)

/-- R236, R402: a signature of the reading key can be made. -/
def canSign (s : State) : Bool := !(flag R.GV_VSTAT_DRBGF s) && slotFor 0 5 1 s && te15Up s

/-- R236: the signature r ‖ s over a body, with a fresh nonce. -/
def signBody (body : List Byte) (s : State) : List Byte × State :=
  (beBytes 64 (Config.ecdsaSign256 (s.vault.keys.getD 0 []) (Config.sha256 body) (freeNow 256 s)).toNat, nextFree s)

/-- SIGN_READING (R236, R411). -/
def execSignReading (body : List Byte) (s : State) : Host.Outcome State Fault Refusal :=
  .next (te15Req 0x24 0 0 (bytesToConts 27 body) (fun s =>
    let st := refusal (vaultFault true s) (!(slotFor 0 5 1 s)) false false false false
    if st = stOK then let g := signBody (body.take 160) s; te15Reply 0x24 0 0 stOK (bytesToConts 11 g.1) g.2
    else te15Reply 0x24 0 0 st [] s) s)

/-- R397, R399: the anchor that CLOCK_AUTH, MD_RESET and LOG_CLEAR require, and their PLEN. -/
def serviceAnchor (purpose : Nat) : Nat := if purpose = 0x20 then 5 else 3
def servicePlen (purpose plen : Nat) : Bool :=
  if purpose = 0x10 then plen == 0 || plen == 4 else if purpose = 0x11 then plen == 0 else plen == 12

/-- VERIFY_AUTH (R399, R411). -/
def execVerifyAuth (auth : List Byte) (s : State) : Host.Outcome State Fault Refusal :=
  .next (te15Req 0x25 0 0 (bytesToConts ((auth.length + 5) / 6) auth) (fun s =>
    let a := parseAuth auth
    let listed := a.purpose == 0x10 || a.purpose == 0x11 || a.purpose == 0x20
    let st := refusal (vaultFault false s)
      (!listed || authDenied a a.purpose (servicePlen a.purpose a.plen) (a.anchor == serviceAnchor a.purpose) s)
      (isScrapped s) false (authStale a s) false
    if st = stOK then
      te15Reply 0x25 0 0 stOK (bytesToConts 6 (beBytes 32 (Config.sha256 a.params).toNat)) (spend a s)
    else te15Reply 0x25 0 0 st [] s) s)

/-- R406: a tamper event goes to the legal log with its source and the legal time; one that fell while the supplies were
down, at the next start. -/
def tamperLog (src : Nat) (s : State) : State :=
  if s.pwr.down then modV (fun v => { v with unlogged := some src }) s
  else
    let t := s.bill.t
    logEvent 15 0x0A 15 [src, t % 2 ^ 32, t / 2 ^ 32] (modV (fun v => { v with unlogged := none }) s)

/-- R405, R406: the hardware's action on a tamper event; TE15 derives the identity slots again where it runs.  In
SCRAPPED slot 0 is derived again and nothing else changes (R413). -/
def tamper (src : Nat) (s : State) : State :=
  if isScrapped s then whenS (te15Up s) deriveIdentity s else
  let s := clearTemps (clearSlots (List.range 32) s)
  let s := modV (fun v => { v with seed := [], stored := [] }) s
  let s := wrs [(R.GV_VSTAT_READY, 0), (R.GV_TAMPST_MESHA, b2n (src == 0)), (R.GV_TAMPST_MESHB, b2n (src == 1)),
    (R.GV_TAMPST_COVER, b2n (src == 2)), (R.GV_TAMPST_VBAT, b2n (src == 3))] (incSat R.GV_TAMPST_COUNT s)
  let s := forEach (List.range 16) (fun i s => wr (R.IDENT_RDPUB_W i) 0 s) s
  whenS (te15Up s) deriveIdentity (tamperLog src (wr R.GV_VSTAT_TAMPER 1 s))

/-- TAMPER_EVENT (R404, R405).  VBAT lost while the supplies are down clears SEED; the next start finds it so. -/
def execTamperEvent (src : Fin 4) (s : State) : Host.Outcome State Fault Refusal :=
  if src.val = 3 && s.pwr.down then .next (modV (fun v => { v with seed := [], stored := [] }) s)
  else if lifeState s = 0 || (src.val == 2 && !(flag R.LIFE_TCFG_COVEREN s)) then .next s
  else .next (tamper src s)

/-- DRBG_HEALTH_FAIL (R402). -/
def execDrbgHealthFail (s : State) : Host.Outcome State Fault Refusal :=
  .next (logFault false 6 15 0x7F 0 (wr R.GV_VSTAT_DRBGF 1 s))

/-- SOURCE_TEST (R402): a fresh test of the noise source passes. -/
def execSourceTest (s : State) : Host.Outcome State Fault Refusal := .next (wr R.GV_VSTAT_DRBGF 0 s)

/-- R397: the check of anchor 0 against the fused digest, and its place among the anchors. -/
def loadMfr (s : State) : State :=
  let key := beBytes 96 Config.mfrKey.toNat
  if Config.sha384 key = Config.mfrDigest then setAnchor 0 6 (rd (R.GV_ANCCNT_CNT 0) s) key s
  else wr (R.GV_ANCINFO_LOADED 0) 0 s

/-- R394, R405: what TE15 does at every start: anchor 0, the identity slots, the loaded keys under SK; a cleared SEED
is found invalid and sets TAMPER with the cause VBAT; a tamper event not yet logged is logged. -/
def vaultStart (s : State) : State :=
  let s := clearTemps (loadMfr s)
  let s := match s.vault.unlogged with
    | some src => tamperLog src s
    | none => s
  let s := if s.vault.seed.isEmpty && !(flag R.GV_VSTAT_TAMPER s) && lifeState s != 0 then tamper 3 s else s
  let s := deriveIdentity (forEach (List.range 32) (fun k s => wr (R.GV_SLOT_VERSION k) (s.vault.vers.getD k 0) s) s)
  if isScrapped s then s
  else forEach s.vault.stored (fun k s => setSlot k.slot k.key k.attr k.alg k.owner k.ver s) s

end Sys2Proof.Machine
end

