-- ==== Sys2Proof/Machine/Calendar.lean ====
section
/-!
DEFINITION. The tariff calendar (R204, R209 to R214): dates, the layout, the checks of R211 and the selection of a rate.
-/
namespace Sys2Proof.Machine

/-- R204: year, month and day of a day number counted from 1970-01-01, by the proleptic Gregorian calendar. -/
def civil (d : Nat) : Nat × Nat × Nat :=
  let z := d + 719468
  let era := z / 146097
  let doe := z % 146097
  let yoe := (doe - doe / 1460 + doe / 36524 - doe / 146096) / 365
  let doy := doe - (365 * yoe + yoe / 4 - yoe / 100)
  let mp := (5 * doy + 2) / 153
  let m := if mp < 10 then mp + 3 else mp - 9
  (yoe + era * 400 + (if m ≤ 2 then 1 else 0), m, doy - (153 * mp + 2) / 5 + 1)

/-- Days of a month. -/
def monthDays (leap : Bool) (m : Nat) : Nat :=
  if m = 2 then (if leap then 29 else 28) else if m = 4 ∨ m = 6 ∨ m = 9 ∨ m = 11 then 30 else 31

def leapYear (y : Nat) : Bool := decide (y % 4 = 0 ∧ (y % 100 ≠ 0 ∨ y % 400 = 0))

def validDate (leap : Bool) (m d : Nat) : Bool := decide (1 ≤ m ∧ m ≤ 12 ∧ 1 ≤ d ∧ d ≤ monthDays leap m)

/-- R209: fields of a calendar. -/
def cal1 (c : List Byte) (i : Nat) : Nat := (c.getD i 0).toNat
def calN (c : List Byte) (i n : Nat) : Nat := leNat ((c.drop i).take n)
def calId (c : List Byte) : Nat := calN c 0 4
def calSeq (c : List Byte) : Nat := calN c 4 4
def calActivate (c : List Byte) : Nat := calN c 8 6
def calSeasons (c : List Byte) : Nat := cal1 c 14
def calBillDay (c : List Byte) : Nat := cal1 c 15
def calBillMin (c : List Byte) : Nat := calN c 16 2
def calDefRate (c : List Byte) (o : Nat) : Nat := cal1 c (18 + o)
def calEmWh (c : List Byte) : Nat := calN c 28 4
def calEmMu (c : List Byte) : Nat := calN c 32 4
def calZone (c : List Byte) : Int := sext 32 (calN c 36 4)
/-- Month, day and week profile of season `i`. -/
def calSeason (c : List Byte) (i : Nat) : Nat × Nat × Nat := (cal1 c (64 + 4 * i), cal1 c (65 + 4 * i), cal1 c (66 + 4 * i))
def calWeek (c : List Byte) (p wd : Nat) : Nat := cal1 c (80 + 8 * p + wd)
def calDayCount (c : List Byte) (p : Nat) : Nat := cal1 c (144 + 32 * p)
def calEntry (c : List Byte) (p i : Nat) : Nat := calN c (146 + 32 * p + 2 * i) 2
/-- Year, month, day and day profile of special day `i`. -/
def calSpecial (c : List Byte) (i : Nat) : Nat × Nat × Nat × Nat :=
  (calN c (656 + 8 * i) 2, cal1 c (658 + 8 * i), cal1 c (659 + 8 * i), cal1 c (660 + 8 * i))
def calImp (c : List Byte) (k : Nat) : Nat := calN c (1168 + 8 * k) 4
def calExp (c : List Byte) (k : Nat) : Nat := calN c (1172 + 8 * k) 4

/-- R211: the message the tariff authority signs. -/
def calSigned (c : List Byte) : List Byte := beBytes 32 (Config.sha256 (c.take 1232)).toNat ++ devIdBytes

/-- No two members of a list are equal. -/
def distinct {α : Type} [DecidableEq α] : List α → Bool
  | [] => true
  | x :: xs => !(xs.contains x) && distinct xs

/-- R211: the seasons. -/
def seasonsOk (c : List Byte) : Bool :=
  let n := calSeasons c
  let us := (List.range n).map (calSeason c)
  decide (1 ≤ n ∧ n ≤ 4) && us.all (fun u => validDate true u.1 u.2.1) && distinct (us.map fun u => (u.1, u.2.1)) &&
    (List.range (16 - 4 * n)).all fun i => cal1 c (64 + 4 * n + i) == 0

/-- R211: a day profile. -/
def dayOk (c : List Byte) (p : Nat) : Bool :=
  let n := calDayCount c p
  let ms := (List.range n).map fun i => calEntry c p i % 2 ^ 11
  decide (1 ≤ n ∧ n ≤ 12) && ms.headD 1 == 0 && ms.all (fun m => decide (m ≤ 1439)) &&
    (ms.zip (ms.drop 1)).all (fun e => decide (e.1 < e.2)) &&
    (List.range n).all (fun i => !((calEntry c p i).testBit 15)) &&
    (List.range (12 - n)).all fun i => calEntry c p (n + i) == 0

/-- R211: the special days. -/
def specialsOk (c : List Byte) : Bool :=
  let us := (List.range 64).map (calSpecial c)
  let used := us.filter fun u => u.2.1 != 0
  used.all (fun u => validDate (u.1 == 0 || leapYear u.1) u.2.1 u.2.2.1) &&
    distinct (used.map fun u => (u.1, u.2.1, u.2.2.1)) &&
    (List.range 64).all fun i => (calSpecial c i).2.1 != 0 || ((c.drop (656 + 8 * i)).take 8).all (· == 0)

/-- R209: a reserved byte of the calendar. -/
def calReserved (i : Nat) : Bool :=
  i == 26 || i == 27 || decide (40 ≤ i ∧ i < 64) || decide (64 ≤ i ∧ i < 80 ∧ i % 4 = 3) ||
    decide (80 ≤ i ∧ i < 144 ∧ i % 8 = 7) || decide (144 ≤ i ∧ i < 656 ∧ ((i - 144) % 32 = 1 ∨ 26 ≤ (i - 144) % 32)) ||
    decide (656 ≤ i ∧ i < 1168 ∧ 5 ≤ i % 8)

/-- R13, R209: every reserved byte is 0. -/
def reservedOk (c : List Byte) : Bool := c.zipIdx.all fun b => !(calReserved b.2) || b.1 == 0

/-- R211, R240: every check of a calendar that fails with DENIED. -/
def calBad (c : List Byte) (s : State) : Bool :=
  !(reservedOk c) || !(anchorLoaded 3 s) || !(anchorVerifies 3 (calSigned c) (c.drop 1232) s) || !(seasonsOk c) ||
    !((List.range 8).all fun p => (List.range 7).all fun d => decide (calWeek c p d < 16)) ||
    !((List.range 8).all fun o => decide (calDefRate c o < 8)) || !((List.range 16).all (dayOk c)) || !(specialsOk c) ||
    decide (28 < calBillDay c) || decide (1439 < calBillMin c) || decide (calZone c < -50400) || decide (50400 < calZone c)

/-- R213: the week profile of a date: the used season with the latest start on or before it, else the latest. -/
def weekProfile (c : List Byte) (m d : Nat) : Nat :=
  let us := (List.range (calSeasons c)).map fun i => let u := calSeason c i; (u.1 * 32 + u.2.1, u.2.2)
  let best (l : List (Nat × Nat)) : Option (Nat × Nat) :=
    l.foldl (fun b u => match b with | none => some u | some v => if v.1 ≤ u.1 then some u else some v) none
  match best (us.filter fun u => decide (u.1 ≤ m * 32 + d)) with
  | some u => u.2
  | none => match best us with | some u => u.2 | none => 0

/-- R213: the day profile of a legal second.  A profile byte of a special day above 15 and a week profile above 7, which no
check of R211 refuses, count modulo 16 and 8 (log entry 105). -/
def dayProfile (c : List Byte) (t : Nat) : Nat :=
  let dn := t / 86400
  let (y, m, d) := civil dn
  let us := (List.range 64).map (calSpecial c)
  match us.find? (fun u => u.1 == y && u.2.1 == m && u.2.2.1 == d) with
  | some u => u.2.2.2 % 16
  | none =>
    match us.find? (fun u => u.1 == 0 && u.2.1 == m && u.2.2.1 == d) with
    | some u => u.2.2.2 % 16
    | none => calWeek c (weekProfile c m d % 8) ((dn + 3) % 7) % 16

/-- R213: rate index and FRIENDLY of a legal second. -/
def calRate (c : List Byte) (t : Nat) : Nat × Bool :=
  let p := dayProfile c t
  let minute := t % 86400 / 60
  let es := ((List.range (calDayCount c p)).map (calEntry c p)).filter fun e => decide (e % 2 ^ 11 ≤ minute)
  match es.getLast? with
  | some e => (bits e 13 11, e.testBit 14)
  | none => (0, false)

/-- R217: the billing-date instants after `lo` and up to `hi`. -/
def billingDates (c : List Byte) (lo hi : Nat) : List Nat :=
  if calBillDay c = 0 then []
  else ((List.range (hi / 86400 + 1 - lo / 86400)).filterMap fun i =>
    let dn := lo / 86400 + i
    if (civil dn).2.2 = calBillDay c then some (dn * 86400 + calBillMin c * 60) else none).filter fun t =>
      decide (lo < t ∧ t ≤ hi)

end Sys2Proof.Machine
end

