-- ==== Sys2Proof/Machine/Readings.lean ====
section
/-!
DEFINITION. Signed readings (R235 to R238), the billing sessions (R231 to R234), the BIL registers (R241, R242) and the
saving of the billing state (R218, R226).
-/
namespace Sys2Proof.Machine

/-- R422: MRAM offsets of the billing slots, the reading buffer, the reading counter record and the load profiles. -/
def slotBase : Nat := 0x060000
def rdBase : Nat := 0x068000
def cntBase : Nat := 0x06C000
def profBase : Nat := 0x900000

/-- A 96-bit register as 12 bytes, fraction first (R226, R235). -/
def reg12 (r : Nat) : List Byte := leBytes 12 r

/-- R235: the 160-byte body of a reading. -/
def readingBody (o trigger content counter : Nat) (s : State) : List Byte :=
  let b := getBo o s
  let se := b.sess
  let open_ := se.op
  let flags := b2n s.bill.setback + 2 * b2n b.dflt + 4 * (b.last % 2) + 8 * b2n (!(pairDuplex (pairOf o) s)) +
    16 * b2n (open_ && se.st == 2) + 32 * b2n (open_ && se.st == 3) + 64 * b2n (open_ && se.pf) + 128 * b2n b.gap
  let rs := if content = 0 then b.regs else if content = 1 then b.timp else b.texp
  leBytes 1 1 ++ leBytes 1 (trigger + content * 16) ++ leBytes 2 flags ++ leBytes 1 o ++
    leBytes 1 (s.bill.clk + lifeState s * 4) ++ leBytes 2 (rd R.LIFE_SEAL_CNT s) ++ leBytes 4 (rd R.UPD_LEGALVER_V s) ++
    devIdBytes ++ leBytes 8 counter ++ leBytes 6 s.bill.t ++ leBytes 1 (b.rate + 128 * b2n b.dflt) ++
    leBytes 1 (if open_ then se.st + 64 * se.kind else 0) ++ (if open_ then se.id else List.replicate 16 0) ++
    rs.flatMap reg12 ++ leBytes 4 0

/-- R237: the reading counter record: two copies of 16 bytes, written in turn. -/
def counterCopy (counter seq : Nat) : List Byte :=
  let b := leBytes 8 counter ++ leBytes 4 seq
  b ++ leBytes 4 (crc32 b)

/-- R242: the reading counter registers. -/
def showCounter (s : State) : State :=
  wrs [(R.BIL_RDCNTLO_C, s.bill.counter), (R.BIL_RDCNTHI_C, s.bill.counter / 2 ^ 32)] s

/-- R236 to R238: make, sign and buffer a reading; the slot and the counter, or none where it cannot be signed. -/
def makeReading (o trigger content : Nat) (s : State) : State × Option (Nat × Nat) :=
  if !(canSign s) then (s, none)
  else
    let cnt := s.bill.counter + 1
    let slot := (cnt - 1) % 64
    let body := readingBody o trigger content cnt s
    let g := signBody body (transit 112 0 0x24 0 0 s)
    let s := te0Wr (rdBase + slot * 256) (body ++ g.1 ++ List.replicate 32 0) g.2
    let seq := s.bill.cntSeq + 1
    let s := te0Wr (cntBase + seq % 2 * 16) (counterCopy cnt seq) s
    let s := showCounter (modBill (fun b => { b with counter := cnt, cntSeq := seq }) s)
    let s := modBo o (fun b => { b with gap := false }) s
    let s := if trigger = 0 then s else putQ 8 (mkMsg 0x70 (o + trigger * 16 + slot * 256) cnt) s
    (s, some (slot, cnt))

/-- A request that returns a reading completes with its slot and counter, or FAULT where none can be signed (R402). -/
def completeReading (n t w0 : Nat) (r : State × Option (Nat × Nat)) : State :=
  match r.2 with
  | some (slot, cnt) => complete (n + 8) t w0 (slot * 256 + cnt % 1024 * 2 ^ 14) stOK r.1
  | none => complete (n + 8) t w0 0 stFAULT r.1

/-- TE15 does not run and will: a reading waits for it. -/
def te15Away (s : State) : Bool := !(te15Up s) && !(stopped 15 s)

/-- R234, R239: the end of a billing session: the end reading of trigger 2, once TE15 can sign it; a SESSION_CLOSE that
waits completes. -/
def endSession (o : Nat) (pf : Bool) (s : State) : State :=
  let se := (getBo o s).sess
  if !se.op then s
  else
    let s := modBo o (fun b => { b with sess := { b.sess with pf := b.sess.pf || pf, ending := te15Away s } }) s
    if te15Away s then s else
    let s := match se.wait with
      | some (n, w0) => completeReading n 0x31 w0 (makeReading o 1 0 s)
      | none => s
    let r := makeReading o 2 0 s
    let s := match se.closeWait with
      | some (n, w0) => completeReading n 0x32 w0 r
      | none => r.1
    modBo o (fun b => { b with sess := { b.sess with op := false, wait := none, closeWait := none } }) s

/-- R233: emergency credit of the active calendar. -/
def emCredit (kind : Nat) (s : State) : Int :=
  if kind = 1 then (calEmWh s.calAct : Int) * 1000000 else (calEmMu s.calAct : Int)

/-- R232, R233: charge one applied second and change the credit state at its end. -/
def chargeSess (em : Int) (friendly : Bool) (charge : Int) (residue : Nat) (x : Sess) : Sess :=
  let x := { x with remaining := x.remaining - charge, residue := residue }
  let x := if x.st = 3 then { x with emerg := min (x.emerg - charge) x.grant } else x
  if x.st = 1 then
    (if x.remaining ≤ 0 then (if friendly then { x with st := 2 } else { x with st := 3, emerg := em, grant := em }) else x)
  else if x.st = 2 then
    (if 0 < x.remaining then { x with st := 1 } else if friendly then x else { x with st := 3, emerg := em, grant := em })
  else if x.st = 3 then
    (if 0 < x.remaining then { x with st := 1 } else if friendly then { x with st := 2 }
     else if x.emerg ≤ 0 then { x with st := 4 } else x)
  else x

/-- The open session of an outlet at the end of an applied second with its differences of A+ and A− (R231 to R234,
R239). -/
def sessSecond (o : Nat) (dA dE : Nat) (s : State) : State :=
  let b := getBo o s
  let se := b.sess
  if !se.op || se.ending then s
  else match se.wait with
  | some (n, w0) =>
    if te15Away s then s else
    let s := modBo o (fun b => { b with sess := { b.sess with wait := none, st := if se.kind = 0 then 0 else 1 } }) s
    let r := makeReading o 1 0 s
    let s := completeReading n 0x31 w0 r
    let s := modBo o (fun b => { b with sess := { b.sess with startCnt := (r.2.map Prod.snd).getD 0 } }) s
    if se.closeWait.isSome then endSession o false s else s
  | none =>
    if se.kind = 0 then s
    else
      let imp : Int := (dA / 2 ^ 32 : Nat)
      let ex : Int := (dE / 2 ^ 32 : Nat)
      let cost := carryCost (imp * calImp s.calAct b.rate - ex * calExp s.calAct b.rate) se.residue
      let x := if se.kind = 1 then chargeSess (emCredit 1 s) b.friendly (imp - ex) se.residue se
               else chargeSess (emCredit 2 s) b.friendly cost.1 cost.2 se
      let s := modBo o (fun b => { b with sess := x }) s
      if se.st ≠ 4 ∧ x.st = 4 then pushQ (64 + o) o (mkMsg 0x38 0 0) s else s
where
  /-- R232: whole thousandths of a cost in units of 10^−9 of them, with its residue (narrow of R172). -/
  carryCost (c : Int) (res : Nat) : Int × Nat := ((c + res) / 1000000000, ((c + res) % 1000000000).toNat)

/-- R241: BIL shows the billing state of an outlet. -/
def showOutlet (o : Nat) (s : State) : State :=
  let b := getBo o s
  let se := b.sess
  let three (f : Nat → Fld) (v : Nat) (s : State) := wrs [(f 0, v), (f 1, v / 2 ^ 32), (f 2, v / 2 ^ 64)] s
  let s := forEach (List.range 8) (fun k s => three (R.BIL_TEXP_V o k) (b.texp.getD k 0)
    (three (R.BIL_TIMP_V o k) (b.timp.getD k 0) s)) s
  let s := three (R.BIL_TBASEE_V o) b.baseE (three (R.BIL_TBASEI_V o) b.baseI s)
  let s := forEach (List.range 8) (fun i s => wr (R.BIL_MD_V o i) (b.md.getD i 0) s) s
  let rem := toU 64 se.remaining
  let debt := (max 0 (-se.remaining)).toNat
  let s := wrs [(R.BIL_BSTAT_RATE o, b.rate), (R.BIL_BSTAT_DEF o, b2n b.dflt), (R.BIL_BSTAT_FRIENDLY o, b2n b.friendly),
    (R.BIL_BSTAT_SETBACK o, b2n s.bill.setback), (R.BIL_BSTAT_CLOCK o, s.bill.clk),
    (R.BIL_BSTAT_CREDST o, if se.op then se.st else 0), (R.BIL_BSTAT_CREDKIND o, if se.op then se.kind else 0),
    (R.BIL_IVAL_M o, b.ivM), (R.BIL_IVSEC_N o, b.ivN), (R.BIL_IVSEC_FLAGS o, b.ivF), (R.BIL_PROFCNT_N o, b.prof),
    (R.BIL_CREDREM_V o 0, rem), (R.BIL_CREDREM_V o 1, rem / 2 ^ 32), (R.BIL_DEBT_V o 0, debt),
    (R.BIL_DEBT_V o 1, debt / 2 ^ 32)] s
  forEach [0, 1, 2, 3] (fun i s =>
    wr (R.BIL_SESSID_ID o i) (if se.op then leNat ((se.id.drop (4 * i)).take 4) else 0) s) s

/-- R242: the global billing registers. -/
def showGlobal (s : State) : State :=
  let b := s.bill
  showCounter (wrs [(R.BIL_LSECLO_T, b.t), (R.BIL_LSECHI_T, b.t / 2 ^ 32), (R.BIL_HWLO_T, b.hw),
    (R.BIL_HWHI_T, b.hw / 2 ^ 32), (R.BIL_CALACT_ID, calId s.calAct), (R.BIL_CALSEQ_SEQ, calSeq s.calAct),
    (R.BIL_CALPEND_ID, calId s.calPend), (R.BIL_ZONEOFS_S, calN s.calAct 36 4), (R.BIL_RDBASE_OFS, rdBase),
    (R.BIL_PROFBASE_OFS, profBase)] s)

def showBilling (s : State) : State := showGlobal (forEach outlets showOutlet s)

/-- R226: the 448 bytes of an outlet. -/
def slotOutlet (o : Nat) (s : State) : List Byte :=
  let b := getBo o s
  let se := b.sess
  (b.regs ++ b.timp ++ b.texp ++ [b.startI, b.startE]).flatMap reg12 ++
    leBytes 4 b.ivM ++ leBytes 2 b.ivN ++ leBytes 2 b.ivF ++ b.md.flatMap (leBytes 4) ++ leBytes 4 b.prof ++
    se.id ++ leBytes 1 se.kind ++ leBytes 1 se.st ++ leBytes 8 (toU 64 se.remaining) ++
    leBytes 8 (max 0 (-se.remaining)).toNat ++ leBytes 8 se.residue ++ leBytes 8 se.startCnt ++
    leBytes 1 (b2n se.op + 2 * b2n b.gap) ++ leBytes 1 0 ++ leBytes 8 (toU 64 se.emerg) ++
    reg12 b.baseI ++ reg12 b.baseE ++ leBytes 8 0

/-- R226: bytes 0 to 3647 of a slot. -/
def slotBytes (seq kind : Nat) (s : State) : List Byte :=
  let b := s.bill
  let fr (p : Nat) := (b.lastFrame.getD p none)
  leBytes 4 seq ++ leBytes 1 kind ++ leBytes 3 0 ++ leBytes 6 b.lsec ++ leBytes 6 b.t ++ leBytes 6 b.hw ++
    leBytes 3 ((fr 0).getD 0) ++ leBytes 3 ((fr 1).getD 0) ++
    leBytes 2 (b.clk + 4 * b2n b.setback + 8 * b2n b.invalid) ++ leBytes 4 (calSeq s.calAct) ++
    leBytes 4 (rd R.BIL_LEGALADJ_S s) ++ leBytes 6 b.lastBundle ++ leBytes 2 (rd R.BIL_SAVEGAP_N s) ++
    leBytes 1 (b2n b.byAuth + 2 * b2n (!b.mdWait.isEmpty) + 4 * b2n (fr 0).isSome + 8 * b2n (fr 1).isSome) ++
    leBytes 13 0 ++ outlets.flatMap (fun o => slotOutlet o s)

/-- R226: write the next slot; its CRC-32 is written last.  It records the last frame applied of each pair (R207). -/
def writeSlot (kind : Nat) (s : State) : State :=
  let s := modBill (fun b => { b with lastFrame := b.newFrame }) s
  let seq := rd R.BIL_SAVESEQ_SEQ s + 1
  let b := slotBytes seq kind s
  wr R.BIL_SAVESEQ_SEQ seq (te0Wr (slotBase + seq % 8 * 4096) (b ++ leBytes 4 (crc32 b) ++ List.replicate 444 0) s)

end Sys2Proof.Machine
end

