-- ==== Sys2Proof/Machine/OutOps.lean ====
section
/-!
DEFINITION. The operations of an outlet engine that several commands share (R244 to R268): the offered current and the
generator, the change of state with its report, the ramp-down and the immediate open, and what the engine does with the
Fold's answers.
-/
namespace Sys2Proof.Machine

def getOs (o : Nat) (s : State) : OutSt := vget s.outs (o8 o)
def setOs (o : Nat) (x : OutSt) (s : State) : State := { s with outs := vset s.outs (o8 o) x }
def modOs (o : Nat) (f : OutSt → OutSt) (s : State) : State := setOs o (f (getOs o s)) s

/-- The engine of outlet `o` runs (R23). -/
def outUp (o : Nat) (s : State) : Bool := engState (o + 1) s == 3

/-- The Fold holds the pilot of the outlet (R261). -/
def held (o : Nat) (s : State) : Bool := flag (R.OUT_STATE_HOLD o) s

/-- The outlet engine runs and has the pilot. -/
def outActive (o : Nat) (s : State) : Bool := outUp o s && !(held o s)

/-- A DC outlet (R160, R269). -/
def isDC (o : Nat) (s : State) : Bool := metType o s == 3 || rd (R.OUT_OCFG_CONN o).eff s == 2

/-- R255: on DC, HLC is taken as 2. -/
def hlcOf (o : Nat) (s : State) : Nat := if isDC o s then 2 else rd (R.OUT_OCFG_HLC o).eff s

/-- The pilot state accepted, as R267 codes it: 0 A, 1 B, 2 C, 3 D, 4 E, 5 INVALID, 6 DIODE. -/
def pilotOf (o : Nat) (s : State) : Nat := rd (R.OUT_STATE_PILOT o) s

/-- R246: the state that a positive plateau in 10 mV shows. -/
def plateauState (v : Int) : Nat :=
  if 1050 ≤ v then 0 else if 750 ≤ v then 1 else if 450 ≤ v then 2 else if 150 ≤ v then 3 else if -150 < v then 4 else 5

/-- R246: a reading within 0.2 V of a boundary. -/
def nearBoundary (v : Int) : Bool := [1050, 750, 450, 150, -150].any fun b : Int => decide ((v - b).natAbs ≤ 20)

/-- R246: the state one period shows, with generator mode and duty and the state in effect; none where the positive
plateau is shorter than 20 µs, and at steady −12 V in place of INVALID. -/
def periodState (mode duty was : Nat) (m : Plateaus) : Option Nat :=
  let v := m.hi.toInt
  let p := if nearBoundary v then was else plateauState v
  if mode = 0 ∧ duty < 40 then none
  else if mode = 2 ∧ p = 5 then none
  else if mode = 0 ∧ duty ≤ 1960 ∧ 1 ≤ p ∧ p ≤ 3 ∧ -1050 < m.lo.toInt then some 6
  else some p

/-- R246: the state accepted after three consecutive periods that show it. -/
def pilotAccepts (o : Nat) (m1 m2 m3 : Plateaus) (s : State) : Option Nat :=
  let f := periodState (rd (R.OUT_DUTY_MODE o) s) (rd (R.OUT_DUTY_D o) s) (pilotOf o s)
  if f m1 = f m3 ∧ f m2 = f m3 then f m3 else none

/-- R269: the plateaus of a period lie within 1.0 V of their targets in generator mode `mode`. -/
def onTarget (mode : Nat) (m : Plateaus) : Bool :=
  let near (t v : Int) : Bool := decide ((v - t).natAbs ≤ 100)
  near (if mode = 2 then -1200 else 1200) m.hi.toInt && (mode != 0 || near (-1200) m.lo.toInt)

/-- R246, R269: PILOT shows the plateaus measured last; three periods on target with no load end a generator fault. -/
def showPilot (o : Nat) (m1 m2 m3 : Plateaus) (s : State) : State :=
  let mode := rd (R.OUT_DUTY_MODE o) s
  let d := rd (R.OUT_DUTY_D o) s
  let s := if mode = 0 ∧ d < 40 then s else wr (R.OUT_PILOT_VHI o) m3.hi.toNat s
  let s := if mode = 1 ∨ (mode = 0 ∧ 1960 < d) then s else wr (R.OUT_PILOT_VLO o) m3.lo.toNat s
  if [m1, m2, m3].all (onTarget mode) then wr (R.OUT_DUTY_GENF o) 0 s else s

/-- R247: state D without VENT is handled as B. -/
def pilotAs (o p : Nat) (s : State) : Nat := if p = 3 ∧ rd (R.OUT_OCFG_VENT o).eff s = 0 then 1 else p

/-- R249: the row of the proximity table a resistance falls in; 5 is a short, 6 any other value. -/
def ppRow (r : Nat) : Nat :=
  if 4500 < r then 0
  else if 1200 ≤ r ∧ r ≤ 2000 then 1
  else if 560 ≤ r ∧ r ≤ 820 then 2
  else if 180 ≤ r ∧ r ≤ 270 then 3
  else if 80 ≤ r ∧ r ≤ 120 then 4
  else if r < 50 then 5
  else 6

/-- R249: the capacity of the cable on a socket outlet: 0 for none; none for a PP fault. -/
def ppBand (r : Nat) : Option Nat := [some 0, some 13, some 20, some 32, some 63].getD (ppRow r) none

/-- A socket outlet, where PP is evaluated (R249). -/
def socket (o : Nat) (s : State) : Bool := rd (R.OUT_OCFG_CONN o).eff s == 0
def ppNow (o : Nat) (s : State) : Option Nat := ppBand (rd (R.OUT_PP_R o) s)
def ppFault (o : Nat) (s : State) : Bool := socket o s && (ppNow o s).isNone
def noCable (o : Nat) (s : State) : Bool := socket o s && ppNow o s == some 0
def ppValid (o : Nat) (s : State) : Bool := !(ppFault o s) && !(noCable o s)

/-- R249, R269: PPOK and CAP from the accepted resistance. -/
def showPP (o : Nat) (s : State) : State :=
  wrs [(R.OUT_PP_CAP o, if socket o s then (ppNow o s).getD 0 else 0xFF), (R.OUT_STATE_PPOK o, b2n (ppValid o s))] s

/-- R245: the current offered, in 0.1 A: the smallest of ILIM, the cable and the host's limit. -/
def offered (o : Nat) (s : State) : Nat :=
  let i := min (rd (R.OUT_ILIM_I o).eff s) (getOs o s).hostLim
  if socket o s then min i ((ppNow o s).getD 0 * 10) else i

/-- R245: the duty of an offered current. -/
def dutyOf (i : Nat) : Nat := if i ≤ 510 then i * 10 / 3 else if i ≤ 800 then i * 4 / 5 + 1280 else 1920

/-- R250: mode (0 PWM, 1 steady +12 V, 2 steady −12 V) and duty of the generator in OSTATE `st`. -/
def genFor (o st : Nat) (s : State) : Nat × Nat :=
  let hlc := if (getOs o s).basic && st != 2 then 0 else hlcOf o s
  if st = 0 ∨ st = 9 then (2, 0)
  else if 3 ≤ st ∧ st ≤ 5 then
    (if hlc ≠ 0 then (0, 100) else if offered o s < 60 then (1, 0) else (0, dutyOf (offered o s)))
  else if (st = 2 ∨ st = 6) ∧ hlc ≠ 0 then (0, 100)
  else (1, 0)

/-- R244, R253, R259, R260: mode and duty the generator goes to. -/
def genWant (o : Nat) (s : State) : Nat × Nat :=
  if (getOs o s).check.isSome then (1, 0)
  else match (getOs o s).ramp with
  | some r => if r.imm then genFor o r.target s else (1, 0)
  | none => genFor o (ostate o s) s

/-- The mode and duty from the next period on. -/
def setGen (o : Nat) (s : State) : State :=
  if held o s then s
  else let w := genWant o s
       modOs o (fun x => { x with tMode := w.1, tDuty := w.2 }) s

/-- R267: OUT_EVENT, forwarded to the host on Q(8 + o). -/
def outEvent (o new old reason idx : Nat) (nopow forced : Bool) (s : State) : State :=
  relay (72 + o) o (fun _ => 8 + o) (mkMsg 0x40 (o + new * 2 ^ 4 + old * 2 ^ 8 + pilotOf o s * 2 ^ 12 + b2n nopow * 2 ^ 15
    + reason % 2 ^ 6 * 2 ^ 16 + b2n forced * 2 ^ 22) idx) [] s

/-- Complete a host request of type `t` that the outlet engine answered: on Q(72 + o), and by TE0 to the host (R265). -/
def outDone (t : Nat) (w : Waiting) (w1 st : Nat) (s : State) : State := complete (8 + w.n) t w.w0 w1 st s

/-- R110: the requests that the outlet engine has taken and not completed complete WITHDRAWN. -/
def outWithdraw (o : Nat) (s : State) : State :=
  let x := getOs o s
  let s := modOs o (fun x => { x with check := none, leave := none, auth := none, limit := none, stop := none,
                                      energise := none }) s
  let end_ (t : Nat) (w : Option Waiting) (s : State) : State := match w with
    | some w => outDone t w 0 stWITHDRAWN s
    | none => s
  end_ 0x06 x.energise (end_ 0x04 (x.stop.map Prod.fst) (end_ 0x03 x.limit (end_ 0x02 x.auth (end_ 0x01 x.leave
    (end_ 0x01 x.check s)))))

/-- The requests that a change of state completes (R265). -/
def outCompletions (o new : Nat) (s : State) : State :=
  let s := match (getOs o s).stop with
    | some (w, k) =>
      if (k = 2 ∧ new ≠ 6) ∨ (k = 1 ∧ new ≠ 5 ∧ new ≠ 4) ∨ (k = 0 ∧ new ∉ [4, 5, 6, 7]) then
        outDone 0x04 w (new * 256) stOK (modOs o (fun x => { x with stop := none }) s)
      else s
    | none => s
  let s := match (getOs o s).auth with
    | some w => outDone 0x02 w 0 (if new = 3 then stOK else stDENIED) (modOs o (fun x => { x with auth := none }) s)
    | none => s
  match (getOs o s).energise with
  | some w =>
    if new = 5 then outDone 0x06 w 0 stOK (modOs o (fun x => { x with energise := none }) s)
    else if new = 4 then s
    else outDone 0x06 w 0 stFAULT (modOs o (fun x => { x with energise := none }) s)
  | none => s

/-- R252, R267: a change of OSTATE, reported, with what it ends, clears (R275) and completes; `idx` is the frame index it bears. -/
def change (o new reason idx : Nat) (forced : Bool) (s : State) : State :=
  let old := ostate o s
  if old = new then s
  else
    let nopow := new == 5 && (getOs o s).nopow
    let s := wrs [(R.OUT_STATE_OSTATE o, new), (R.OUT_STATE_PREV o, old), (R.OUT_STATE_REASON o, reason)] s
    let s := if new = 3 then incSat (R.OUT_SESS_COUNT o) (modOs o (fun x => { x with hostLim := 800, susp := false }) s)
             else s
    let s := whenS forced (incSat (R.OUT_SESS_FORCED o)) s
    let s := modOs o (fun x => { x with nOver := 0, nExp := 0, slac := if new = 2 then 0 else x.slac,
                                        basic := if new ≤ 1 then false else x.basic }) s
    let s := outEvent o new old reason idx nopow forced s
    let s := whenS (decide (3 ≤ old ∧ old ≤ 7) && !(decide (3 ≤ new ∧ new ≤ 7))) (endSession o false) s
    let s := whenS (new == 1 || new == 8 || new == 9 || new == 0) (pushQ 106 o (mkMsg 0x12 o 0)) s
    setGen o (outCompletions o new s)

/-- A change of OSTATE, with an OUT_SERVICE that waited for it to leave service (R252, R265). -/
def goToAt (o new reason idx : Nat) (forced : Bool) (s : State) : State :=
  let s := change o new reason idx forced s
  match (getOs o s).leave with
  | some w =>
    if new = 8 ∨ new = 9 ∨ new = 1 then
      outDone 0x01 w 0 stOK
        (change o 0 1 (rd R.FLT_IDX_N s) false (modOs o (fun x => { x with leave := none }) s))
    else s
  | none => s

/-- A change of OSTATE now: INDEX is the last frame (R267). -/
def goTo (o new reason : Nat) (forced : Bool) (s : State) : State := goToAt o new reason (rd R.FLT_IDX_N s) forced s

/-- The least integer `k` with `b + k * d` at least `g`. -/
def ceilSteps (b d g : Int) : Int := -((b - g) / d)

/-- R257: the reference channel has reported nine crossings in the last 200 ms. -/
def crossings (ref : Nat) (s : State) : List Int :=
  let now := s.clock / 2 ^ 24
  ((s.fold.cross.getD ref []).filter fun e => decide (now < e.1 + 200000000 * 2 ^ 16)).map Prod.snd

/-- R257: the fire instant in ns of the local clock; none for an immediate close. -/
def fireAt (o : Nat) (s : State) : Option Nat :=
  let z := crossings (rd (R.OUT_POW_REF o).eff s) s
  match z.head?, (z.drop 8).head? with
  | some a, some b =>
    let t8 : Int := a - b
    if isDC o s || !(flag (R.OUT_POW_EN o).eff s) || decide (t8 ≤ 0) then none
    else
      let base := 28800 * a + rd (R.OUT_POW_ANGLE o).eff s * t8 - 28800 * (rd (R.OUT_POW_CLOSEDLY o).eff s * 10000 * 2 ^ 16)
      let goal : Int := 28800 * ((s.clock / 2 ^ 24 : Nat) + 500000 * 2 ^ 16)
      let f := base + ceilSteps base (3600 * t8) goal * (3600 * t8)
      some (f / (28800 * 2 ^ 16)).toNat
  | _, _ => none

/-- R257, R337: ask the Fold to close. -/
def askClose (o : Nat) (s : State) : State :=
  let f := fireAt o s
  let s := modOs o (fun x => { x with closing := true, nopow := flag (R.OUT_POW_EN o).eff s && f.isNone }) s
  let s := wr (R.OUT_STATE_KSTATE o) 1 s
  match f with
  | some f => pushAll 88 o (mkMsg 0x26 (o + 16) 0)
      [(w24 (f % 1000000000), w24 (f % 1000000000 / 2 ^ 24 + f / 1000000000 % 256 * 2 ^ 6))] s
  | none => pushQ 88 o (mkMsg 0x26 o 0) s

/-- R337: ask the Fold to open. -/
def askOpen (o : Nat) (s : State) : State :=
  pushQ 88 o (mkMsg 0x27 o 0) (wr (R.OUT_STATE_KSTATE o) 3 (modOs o (fun x => { x with closing := false }) s))

/-- R252: enter ENERGISING. -/
def energise (o : Nat) (s : State) : State := askClose o (goTo o 4 0 false s)

/-- R260: an immediate open that ends in state `target`; a ramp-down that has reached its limit stays so marked (R259). -/
def immOpen (o target reason : Nat) (s : State) : State :=
  let asked := ((getOs o s).ramp.map Ramp.opening).getD false
  let forced := ((getOs o s).ramp.map Ramp.forced).getD false
  let s := modOs o (fun x => { x with ramp := some ⟨target, reason, true, true, forced⟩ }) s
  setGen o (if asked then s else askOpen o s)

/-- R260: pilot B during a ramp-down ends the wait for the current; the ramp-down keeps its end and its reason. -/
def hasten (o : Nat) (s : State) : State :=
  match (getOs o s).ramp with
  | some r => if r.opening then s else askOpen o (modOs o (fun x => { x with ramp := some { r with opening := true } }) s)
  | none => s

/-- R259: the normal ramp-down with a reason of R258; `susp` ends it in SUSPENDED. -/
def rampDown (o reason : Nat) (susp : Bool) (s : State) : State :=
  let st := ostate o s
  match (getOs o s).ramp with
  | some r =>
    if susp || r.target != 6 then s
    else setGen o (goTo o 7 reason false (modOs o (fun x => { x with ramp := some { r with target := 8, reason := reason } }) s))
  | none =>
    if st = 3 ∨ st = 6 then (if susp then s else goTo o 8 reason false s)
    else if st = 4 then
      let s := modOs o (fun x => { x with ramp := some ⟨if susp then 6 else 8, reason, false, true, false⟩ }) s
      setGen o (askOpen o (if susp then s else goTo o 7 reason false s))
    else if st = 5 then
      let s := modOs o (fun x => { x with ramp := some ⟨if susp then 6 else 8, reason, false, false, false⟩ }) s
      let s := if susp then s else goTo o 7 reason false s
      let s := whenS (isDC o s) (pushQ 88 o (mkMsg 0x2F o 2)) s
      setGen o s
    else s

/-- R252, R260: the outlet goes to FAULT, through an immediate open where the contactors may be closed. -/
def toFault (o reason : Nat) (s : State) : State :=
  let st := ostate o s
  if st = 4 ∨ st = 5 ∨ st = 7 then immOpen o 9 reason s else if st = 0 then s else goTo o 9 reason false s

/-- What the rows of R252 make of the pilot, PP and the limit in the present state.  `edge` says that one of them, or
a suspend, has just changed; `was` is the handled pilot state before; `idle` that a period has begun in IDLE. -/
def react1 (o : Nat) (edge idle : Bool) (was : Nat) (s : State) : State :=
  let st := ostate o s
  let p := pilotOf o s
  let e := pilotAs o p s
  let x := getOs o s
  let going := (x.ramp.map fun r => r.opening && r.imm).getD false
  if !(outActive o s) || st == 0 || st == 9 then s
  else if decide (4 ≤ p) || flag (R.OUT_DUTY_GENF o) s then toFault o 5 s
  else if ppFault o s then toFault o 4 s
  else if st = 1 then (if (idle || edge) && decide (1 ≤ p) && ppValid o s then goTo o 2 0 false s else s)
  else if st = 2 then (if p = 0 then goTo o 1 3 false s else s)
  else if st = 3 then (if p = 0 then goTo o 1 3 false s
    else if (if isDC o s then e == 2 && x.energise.isSome else decide (2 ≤ e)) then energise o s else s)
  else if st = 6 then
    if edge && !(isDC o s) && p == 2 && !x.susp && decide (60 ≤ offered o s) then energise o s else s
  else if st = 8 then (if p = 0 ∨ noCable o s then goTo o 1 0 false s else s)
  else if going then s
  else if p = 0 then immOpen o 8 3 s
  else if noCable o s then immOpen o 8 4 s
  else if e = 1 ∧ 2 ≤ was then (if x.ramp = none then immOpen o 6 13 s else hasten o s)
  else if st = 5 ∧ x.ramp = none ∧ !(isDC o s) ∧ offered o s < 60 then rampDown o 14 true s
  else s

/-- R252: an authorisation leads to READY; for HLC = 2 and on DC only once SLAC is matched.  A failed SLAC with HLC = 1
makes it a basic session (R255). -/
def authorised (o : Nat) (s : State) : State :=
  if (getOs o s).auth.isNone || ostate o s != 2 || (hlcOf o s == 2 && (getOs o s).slac != 1) then s
  else
    let s := modOs o (fun x => { x with basic := hlcOf o s == 1 && x.slac == 2 }) s
    goTo o 3 0 false s

/-- The reactions that follow one another at once. -/
def react (o : Nat) (edge idle : Bool) (was : Nat) (s : State) : State :=
  react1 o false false 0 (react1 o false false 0 (react1 o edge idle was s))

/-- A K_OPEN has completed (R259 step 5, R260): the outlet enters the state the open leads to. -/
def openEnded (o : Nat) (s : State) : State :=
  match (getOs o s).ramp with
  | some r =>
    if r.opening then
      let s := wr (R.OUT_STATE_KSTATE o) 0 (modOs o (fun x => { x with ramp := none }) s)
      react o true false 0 (setGen o (goTo o r.target r.reason r.forced s))
    else s
  | none => s

/-- A K_CLOSE has completed with a status (R252). -/
def closeEnded (o status : Nat) (s : State) : State :=
  if ostate o s != 4 || !(getOs o s).closing then s
  else
    let s := modOs o (fun x => { x with closing := false }) s
    if (getOs o s).ramp.isSome then s
    else if status = stOK then goTo o 5 0 false (wr (R.OUT_STATE_KSTATE o) 2 s)
    else goTo o 6 0 false (wr (R.OUT_STATE_KSTATE o) 0 s)

/-- The action of DOORACT (R301, R310); its default where no record is committed. -/
def doorAct (s : State) : Nat := if s.fold.record.isEmpty then 1 else (s.fold.record.getD 8 0).toNat

/-- R269: KSTATE of a contactor that the Fold opens: opening, or open already. -/
def showOpening (o : Nat) (s : State) : State :=
  wr (R.OUT_STATE_KSTATE o) (if (vget s.fold.outs (o8 o)).kst = 0 then 0 else 3) s

/-- R259, R260, R308, R310, R325: what an outlet engine does with a FOLD_TRIP: a trip that ends a ramp-down past its 3 s
limit reports FORCEDOPEN.  Of an open on the pilot during a hold (cause 14) the HOLD_REPORT tells it (R262). -/
def tripSeen (o cause idx : Nat) (s : State) : State :=
  let st := ostate o s
  if st < 3 ∨ 7 < st ∨ cause = 15 ∨ cause = 14 then s
  else if cause = 3 ∧ doorAct s < 2 then s
  else if cause = 3 ∧ doorAct s = 2 then rampDown o 10 false s
  else if st = 3 then s
  else if cause = 8 then rampDown o 10 false s
  else
    let forced := ((getOs o s).ramp.map Ramp.forced).getD false
    let s := modOs o (fun x => { x with ramp := none, closing := false }) (showOpening o s)
    let stop := cause = 1 ∨ cause = 2
    goToAt o (if stop then 8 else 9) (if stop then 18 else 10) idx forced s

/-- R260, R262: the state and the reason of an open that the Fold made during a hold, from the pilot state its report
gives and what the engine finds: a trip that reached it by FOLD_TRIP has already ended the session. -/
def heldOpen (o p : Nat) (s : State) : Nat × Nat :=
  if 4 ≤ p then (9, 5)
  else if p = 0 then (8, 3)
  else if pilotAs o p s = 1 then (6, 13)
  else if flag (R.OUT_DUTY_GENF o) s then (9, 5)
  else if ppFault o s then (9, 4)
  else if noCable o s then (8, 4)
  else (9, 10)

/-- R252, R259, R262, R263, R267: what the returning outlet engine makes of a HOLD_REPORT.  A ramp-down under way before the
hold ends in its own state with its own reason, and keeps FORCEDOPEN. -/
def reportSeen (o kind p idx : Nat) (s : State) : State :=
  let st := ostate o s
  if !(decide (3 ≤ st ∧ st ≤ 7)) then s
  else
    let r := (getOs o s).ramp
    let forced := (r.map Ramp.forced).getD false
    if kind = 3 then
      let t := if st = 7 then (8, (r.map Ramp.reason).getD 6) else heldOpen o p s
      goToAt o t.1 t.2 idx forced (showOpening o (modOs o (fun x => { x with ramp := none }) s))
    else if kind = 4 then
      goToAt o 7 6 idx false (modOs o (fun x => { x with ramp := if forced then some ⟨8, 6, true, true, true⟩ else none }) s)
    else if kind = 5 then
      goToAt o 8 6 idx (forced || (vget s.fold.outs (o8 o)).forced)
        (wr (R.OUT_STATE_KSTATE o) 0 (modOs o (fun x => { x with ramp := none }) s))
    else s

/-- R229, R263, R492, R498: the engine starts after a restart that kept the registers of OUT: a session ends, and the
generator follows the state. -/
def afterCut (o : Nat) (s : State) : State :=
  match (getOs o s).cut with
  | some reason =>
    let s := modOs o (fun x => { x with cut := none }) s
    if inSession o s then goTo o 8 reason false s else setGen o s
  | none => s

/-- R34, R258: with the junction above 135 °C a session that its engine resumes ends. -/
def hotEnds (o : Nat) (s : State) : State := if s.pwr.hot && inSession o s then rampDown o 7 false s else s

/-- What the outlet engine makes of a message of Q(80 + o). -/
def foldMsg (o : Nat) (m : Msg) (s : State) : State :=
  if m.typ == 0xA6 then closeEnded o (fld m.w1 7 0) s
  else if m.typ == 0xA7 then openEnded o s
  else if m.typ == 0x46 then react o false false 0 (tripSeen o (fld m.w0 15 8) m.w1.toNat s)
  else if m.typ == 0x47 then reportSeen o (fld m.w0 7 4) (fld m.w0 10 8) m.w1.toNat s
  else s

/-- R39, R258, R268: the outlet's modem has been disabled. -/
def modemLost (o : Nat) (s : State) : State :=
  if !(outActive o s) then s
  else if inSession o s then rampDown o 9 false s
  else if ostate o s = 2 ∧ hlcOf o s = 2 then wr (R.OUT_STATE_REASON o) 9 s
  else s

/-- The MMEs among messages of a modem (R282). -/
def mmesOf : List Msg → List (List Byte)
  | [] => []
  | m :: ms =>
    if m.typ == 0x48 then
      (contsToBytes ((ms.takeWhile isCont).map fun c => (c.w0, c.w1))).take (fld m.w1 10 0) :: mmesOf ms
    else mmesOf ms

/-- R270: the outlet engine takes messages of its modem and discards every MME but those of SLAC and CM_SET_KEY. -/
def keepMme (o : Nat) (ms : List Msg) (s : State) : State :=
  match ((mmesOf ms).filter Config.slacMme).getLast? with
  | some b => modOs o (fun x => { x with mme := b }) s
  | none => s

/-- R84, R292: a returning outlet engine takes what its modem has sent meanwhile; a LINK_EVENT with MSTATE OFF tells it that
the modem was disabled. -/
def takeLink (o : Nat) (s : State) : State :=
  let ms := (getQ (qn (96 + o)) s).ent.map Prod.snd
  let off := ms.any fun m => m.typ == 0x4A && fld m.w0 7 4 == 0 && fld m.w0 10 8 == 0
  if ms.isEmpty then s else whenS off (modemLost o) (takeN (96 + o) ms.length (keepMme o ms s))

/-- Messages of a modem to its outlet engine on Q(96 + o), which takes what waits there first. -/
def toEngine (o : Nat) (m : Msg) (cs : List Cont) (s : State) : State :=
  let ms := m :: cs.map contMsg
  if outUp o s && (getQ (qn (96 + o)) s).en then drainQ (96 + o) ms (keepMme o (waitingMsgs (96 + o) ms s) s)
  else pushAll (96 + o) o m cs s

/-- The outlet engine takes what waits for it in Q(80 + o), in order (R84, R103). -/
def takeFold (o : Nat) (s : State) : State :=
  let ms := (getQ (qn (80 + o)) s).ent.map Prod.snd
  if ms.isEmpty then s else forEach ms (foldMsg o) (takeN (80 + o) ms.length s)

/-- A message of the Fold to the outlet engine: it acts on it at once where it has the pilot; otherwise the message
waits in Q(80 + o) (R84, R263). -/
def toOutlet (o : Nat) (m : Msg) (s : State) : State :=
  if outActive o s && (getQ (qn (80 + o)) s).en then foldMsg o m (passQ (80 + o) [m] (takeFold o s))
  else pushQ (80 + o) o m s

end Sys2Proof.Machine
end

