-- ==== Sys2Proof/Machine/FoldOps.lean ====
section
/-!
DEFINITION. The operations of the Fold that several commands share (R296 to R344): the committed record, the conditions
of a close, the open of R314 on a request and on a trip, trips and latches, the self-test, safety connections and the
pilot hold.
-/
namespace Sys2Proof.Machine

def getFo (o : Nat) (s : State) : FoldOut := vget s.fold.outs (o8 o)
def modFold (f : Fold → Fold) (s : State) : State := { s with fold := f s.fold }
def modFo (o : Nat) (f : FoldOut → FoldOut) (s : State) : State :=
  modFold (fun F => { F with outs := vset F.outs (o8 o) (f (vget F.outs (o8 o))) }) s
def c16 (n : Nat) : Fin 16 := ⟨n % 16, Nat.mod_lt _ (by decide)⟩
def getConn (c : Nat) (s : State) : Conn := vget s.fold.conns (c16 c)
def modConn (c : Nat) (f : Conn → Conn) (s : State) : State :=
  modFold (fun F => { F with conns := vset F.conns (c16 c) (f (vget F.conns (c16 c))) }) s

/-! ### The record (R301) -/

def rec1 (r : List Byte) (i : Nat) : Nat := (r.getD i 0).toNat
def rec2 (r : List Byte) (i : Nat) : Nat := leNat ((r.drop i).take 2)
def rec4 (r : List Byte) (i : Nat) : Nat := leNat ((r.drop i).take 4)
def oRec1 (o i : Nat) (s : State) : Nat := rec1 s.fold.record (16 + 32 * o + i)
def oRec2 (o i : Nat) (s : State) : Nat := rec2 s.fold.record (16 + 32 * o + i)
def oRec4 (o i : Nat) (s : State) : Nat := rec4 s.fold.record (16 + 32 * o + i)
def kindOf (o : Nat) (s : State) : Nat := oRec1 o 0 s
def nomHz (o : Nat) (s : State) : Nat := if oRec1 o 1 s = 1 then 60 else 50
def cRec1 (c i : Nat) (s : State) : Nat := rec1 s.fold.record (272 + 16 * c + i)
def cRec2 (c i : Nat) (s : State) : Nat := rec2 s.fold.record (272 + 16 * c + i)
def ckind (c : Nat) (s : State) : Nat := cRec1 c 0 s
def covers (c o : Nat) (s : State) : Bool := (cRec1 c 2 s).testBit o
def connIds : List Nat := List.range 16

/-- A value lies in a range. -/
def within (lo hi v : Nat) : Bool := decide (lo ≤ v ∧ v ≤ hi)

/-- R301, R302: an outlet block lies within its ranges. -/
def outBlockOk (r : List Byte) (o : Nat) : Bool :=
  let b := 16 + 32 * o
  within 0 3 (rec1 r b) && within 0 1 (rec1 r (b + 1)) && within 30 60 (rec2 r (b + 2)) && within 150 300 (rec2 r (b + 4)) &&
  within 100 300 (rec2 r (b + 6)) && within 1 65535 (rec2 r (b + 8)) && within 1 65535 (rec2 r (b + 10)) &&
  within 10 100 (rec2 r (b + 12)) && within 50 5000 (rec2 r (b + 14)) && within 20 250 (rec2 r (b + 16)) &&
  within 20 250 (rec2 r (b + 18)) && within 100 1000 (rec2 r (b + 20)) && within 100 (rec2 r (b + 20)) (rec2 r (b + 22)) &&
  within 500 5000 (rec2 r (b + 24)) && within 100 10000 (rec2 r (b + 26)) && decide (1 ≤ rec4 r (b + 28))

/-- R301, R302: a connection block is all zero, or lies within its ranges. -/
def connBlockOk (r : List Byte) (c : Nat) : Bool :=
  let b := 272 + 16 * c
  if rec1 r b = 0 then ((r.drop b).take 16).all (· == 0)
  else within 1 4 (rec1 r b) && within 0 8 (rec1 r (b + 1)) && within 5 1000 (rec2 r (b + 8)) && within 2 1000 (rec2 r (b + 10)) &&
    within (2 * rec2 r (b + 8) + rec2 r (b + 10)) 5000 (rec2 r (b + 12)) && rec1 r (b + 3) == 0 && rec2 r (b + 14) == 0

/-- R302: the connections of a kind that cover an outlet. -/
def coverCount (r : List Byte) (k o : Nat) : Nat :=
  connIds.countP fun c => rec1 r (272 + 16 * c) == k && (rec1 r (272 + 16 * c + 2)).testBit o

/-- R302: a record is acceptable. -/
def recordOk (r : List Byte) : Bool :=
  r.length == 532 && rec2 r 0 == 1 && rec2 r 2 == 532 && within 0 3 (rec1 r 8) && rec1 r 9 == 0 &&
  within 50 2000 (rec2 r 10) && rec2 r 14 == 0 && outlets.all (outBlockOk r) && connIds.all (connBlockOk r) &&
  rec4 r 528 == safeCrc (r.take 528) &&
  (connIds.all fun c => !((rec2 r 12).testBit c) || rec1 r (272 + 16 * c) == 4) &&
  (outlets.all fun o => rec1 r (16 + 32 * o) != 3 || (coverCount r 1 o == 1 && coverCount r 2 o == 1))

/-! ### Registers that show the Fold's state -/

/-- R342: KST, with LOCKED for an outlet that is OPEN and bears a weld or a KFB latch. -/
def showK (o : Nat) (s : State) : State :=
  let x := getFo o s
  let lk := flag (R.FOLD_KSTAT_WELD o) s || x.kfbLatch
  wrs [(R.FOLD_KSTAT_KST o, if x.kst = 0 ∧ lk then 5 else x.kst), (R.FOLD_KSTAT_RCTRIP o, b2n (!x.rcLatch.isEmpty)),
    (R.FOLD_KSTAT_HOLD o, b2n (x.hold != 0))] s

def setKst (o k : Nat) (s : State) : State := showK o (modFo o (fun x => { x with kst := k }) s)

/-- A stop or door trip or discrepancy is latched. -/
def moduleLatched (s : State) : Bool := s.fold.estop || s.fold.estopDisc || s.fold.door || s.fold.doorDisc

/-- R343: FSTAT. -/
def showF (s : State) : State :=
  let st := if pairStopped 13 s then 3 else if s.fold.record.isEmpty then 0
            else if s.fold.estop || s.fold.estopDisc || s.fold.door then 2 else 1
  wrs [(R.FOLD_FSTAT_ACTIVE, if engState 14 s = 3 then 1 else 0), (R.FOLD_FSTAT_DUPLEX, b2n (pairDuplex 13 s)),
    (R.FOLD_FSTAT_STATE, st), (R.FOLD_FSTAT_DISC, b2n s.fold.estopDisc), (R.FOLD_FSTAT_DDISC, b2n s.fold.doorDisc),
    (R.FOLD_FSTAT_PWDSET, b2n (!s.fold.salt.isEmpty)), (R.FOLD_CFGLOG_PWDFAIL, min s.fold.fails 255)] s

/-- The paths of an outlet, energised or not (R297). -/
def paths (o : Nat) (a b : Bool) (s : State) : State :=
  wrB (R.FOLD_KSTAT_KB o) b (wrB (R.FOLD_KSTAT_KA o) a s)

def energised (o : Nat) (s : State) : Bool := flag (R.FOLD_KSTAT_KA o) s && flag (R.FOLD_KSTAT_KB o) s
def kfb (o : Nat) (s : State) : Bool := flag (R.FOLD_KSTAT_KFB o) s

/-- R297: both paths energise where the hardware conditions hold. -/
def energisePaths (o : Nat) (s : State) : State :=
  modFo o (fun x => { x with onAt := s.now, dropN := 0, close := x.close.map fun r => { r with fired := true } })
    (paths o (s.fold.pd1 && flag R.FOLD_FSTAT_ESTA s && running 13 s) (s.fold.pd1 && flag R.FOLD_FSTAT_ESTB s && running 14 s) s)

/-! ### Messages -/

/-- A message of the Fold to the host on Q92. -/
def toHostF (m : Msg) (s : State) : State := pushQ 92 0 m s

/-- A message of the Fold to TE0 on Q90; it waits there while TE0 does not run (R341). -/
def toTe0F (m : Msg) (s : State) : State := if te0Up s && (getQ 90 s).en then drainQ 90 [m] s else pushQ 90 0 m s

/-- R338: a completion of the Fold on Q90 or Q92, in the order of the requests (R98); TE0 takes its own. -/
def foldReplyAs (now te0 : Bool) (t w0 w1 st : Nat) (s : State) : State :=
  let s := completeAs now (if te0 then 90 else 92) t w0 w1 st [] s
  whenS (te0 && te0Up s) (drainQ 90 []) s

def foldReply (te0 : Bool) (t w0 w1 st : Nat) (s : State) : State := foldReplyAs false te0 t w0 w1 st s

/-- R340: FOLD_TRIP of an outlet, or of the module (15), with its entry in the general log (R306, R513). -/
def foldTrip (o cause : Nat) (s : State) : State :=
  let i := rd R.FLT_IDX_N s
  let m := mkMsg 0x46 (o + cause * 2 ^ 8) i
  let s := toHostF m (toTe0F m (logFold o 0 cause i s))
  if o < 8 then toOutlet o m (wr (R.FOLD_KSTAT_CAUSE o) cause s) else s

/-- R340: HOLD_REPORT. -/
def holdReport (o kind : Nat) (s : State) : State :=
  toOutlet o (mkMsg 0x47 (o + kind * 2 ^ 4 + pilotOf o s * 2 ^ 8) (rd R.FLT_IDX_N s)) s

/-- R98: what stands answered at the front of the requests taken from Q88 goes to the outlet engines on Q(80 + o). -/
def releaseK (s : State) : State :=
  let d := s.fold.kq.takeWhile fun e => e.2.2.isSome
  forEach d (fun e => toOutlet e.1 (mkMsg (e.2.1 + 0x80) e.1 (e.2.2.getD 0)))
    (modFold (fun F => { F with kq := F.kq.drop d.length }) s)

/-- The Fold takes a request of type `t` of outlet `o` from Q88. -/
def kTake (o t : Nat) (s : State) : State := modFold (fun F => { F with kq := F.kq ++ [(o, t, none)] }) s

/-- R98, R337: the oldest pending request of type `t` of outlet `o` is answered with `w1`; it completes after those taken
before it. -/
def kDone (o t w1 : Nat) (s : State) : State :=
  match s.fold.kq.findIdx? fun e => e.1 == o && e.2.1 == t && e.2.2.isNone with
  | some k => releaseK (modFold (fun F => { F with kq := F.kq.modify k fun e => (e.1, e.2.1, some w1) }) s)
  | none => s

/-- The request taken last is answered. -/
def kDoneNow (w1 : Nat) (s : State) : State :=
  releaseK (modFold (fun F => { F with kq := F.kq.modify (F.kq.length - 1) fun e => (e.1, e.2.1, some w1) }) s)

/-- A K_CLOSE completes with a status and a cause. -/
def closeDone (o status cause : Nat) (s : State) : State :=
  kDone o 0x26 (status + cause * 2 ^ 16) (modFo o (fun x => { x with close := none }) s)

/-! ### Opening (R314) -/

/-- R299: the value of a tapped sample, where its PHASE is NORMAL. -/
def tapNormal (e : Option (Int × Nat)) : Option Int := e.bind fun e => if bits e.2 10 9 = 0 then some e.1 else none

/-- R315: the quantities of the voltage check lie below WELDV: the samples a check may use are those that are NORMAL. -/
def phaseLow (o k n : Nat) (s : State) : Bool :=
  let xs := ((getFo o s).tap.take n).filterMap fun f => tapNormal (f.getD k none)
  let v := oRec2 o 10 s
  let w := oRec2 o 12 s
  decide (0 < xs.length) && decide ((xs.map fun x => x * x).sum * ((v * v : Nat) : Int) < ((w * w * xs.length * 2 ^ 46 : Nat) : Int))

def dcLow (o : Nat) (s : State) : Bool :=
  let xs := (((getFo o s).tap.take 80).filterMap fun f =>
    (tapNormal (f.getD 0 none)).bind fun a => (tapNormal (f.getD 1 none)).map fun b => (a - b).natAbs)
  decide (0 < xs.length) && decide (xs.sum * oRec2 o 10 s < oRec2 o 12 s * xs.length * 2 ^ 23)

def voltsLow (o : Nat) (s : State) : Bool :=
  if kindOf o s = 3 then dcLow o s
  else (if kindOf o s = 2 then [0, 1, 2] else [0]).all fun k => phaseLow o k (8000 / nomHz o s) s

/-- The open of R314 has ended: a K_OPEN completes, and a due self-test stands (R321). -/
def openOver (o : Nat) (weld : Bool) (s : State) : State :=
  let x := getFo o s
  let s := if rd (R.OUT_STATE_KSTATE o) s = 3 then wr (R.OUT_STATE_KSTATE o) 0 s else s
  let s := modFo o (fun x => { x with openReq := false, trip := none, deadline := false, due := true,
                                      hold := if x.hold = 3 then 4 else x.hold }) (setKst o 0 s)
  let s := if x.openReq then kDone o 0x27 (if weld then stFAULT + 6 * 2 ^ 16 else stOK) s else s
  if x.hold = 3 then holdReport o 5 s else showK o s

/-- Steps 1 and 2 of R314: both paths de-energised, ENABLE withdrawn; `trip` is the cause of a trip. -/
def openNow (o : Nat) (trip : Option Nat) (s : State) : State :=
  let x := getFo o s
  let never := x.kst == 1 && !(flag (R.FOLD_KSTAT_KA o) s) && !(flag (R.FOLD_KSTAT_KB o) s)
  let s := paths o false false (modFo o (fun x => { x with enable := false, trip := x.trip.or trip }) s)
  let s := if x.close.isSome then closeDone o stWITHDRAWN 0 s else s
  if never then setKst o 0 (modFo o (fun x => { x with trip := none }) s)
  else if x.kst = 1 ∨ x.kst = 2 then setKst o (if kfb o s then 4 else 3) s else s

/-- The contactor of an outlet is not OPEN. -/
def notOpen (o : Nat) (s : State) : Bool := (getFo o s).kst != 0

/-- R336: the contactor may be closed: it is not OPEN, or its mirror contact or a weld latch says so. -/
def maybeShut (o : Nat) (s : State) : Bool :=
  notOpen o s || flag (R.FOLD_KSTAT_WELD o) s || (kindOf o s != 0 && !(kfb o s))

/-- The contactor is closed or closing. -/
def shut (o : Nat) (s : State) : Bool := (getFo o s).kst == 1 || (getFo o s).kst == 2

/-- R311: the code a close is refused with after a trip of this cause (R341). -/
def causeCode (cause : Nat) : Nat :=
  if cause = 1 ∨ cause = 2 then 3 else if cause = 3 then 4 else if 4 ≤ cause ∧ cause ≤ 7 then 5
  else if cause = 8 then 7 else if cause = 9 then 6 else if cause = 10 then 15 else if cause = 11 ∨ cause = 12 then 8
  else if cause = 13 then 1 else if cause = 14 then 9 else 0

/-- A trip of an outlet (R314, R340, R341): a close in progress completes DENIED with its cause, what is closed opens,
FOLD_TRIP follows, and during a pilot hold a HOLD_REPORT of kind 3. -/
def tripOutlet (o cause : Nat) (s : State) : State :=
  let x := getFo o s
  let wasShut := shut o s
  let s := if x.close.isSome then
      closeDone o stDENIED (causeCode cause) s else s
  let s := if wasShut then openNow o (some cause) s else s
  let s := foldTrip o cause s
  if wasShut && x.hold != 0 then holdReport o 3 s else s

/-- A trip of every outlet that is not open (R308, R310, R334); the close that an open outlet waits for completes DENIED. -/
def tripUnlessOpen (cause o : Nat) (s : State) : State :=
  if notOpen o s then tripOutlet o cause s
  else if (getFo o s).close.isSome then closeDone o stDENIED (causeCode cause) s
  else s

/-- A residual trip (R318, R322): it latches, and opens what is closed. -/
def rcTrip (o cause : Nat) (s : State) : State :=
  let x := getFo o s
  let s := showK o (modFo o (fun x => { x with rcLatch := if cause ∈ x.rcLatch then x.rcLatch else x.rcLatch ++ [cause],
                                               passed := false }) s)
  if cause ∈ x.rcLatch then s else tripOutlet o cause (incSat (R.FOLD_TRIPCNT_RC o) s)

/-- R313 to R315: a weld latches on an outlet. -/
def weldLatch (o : Nat) (s : State) : State :=
  if flag (R.FOLD_KSTAT_WELD o) s then s
  else foldTrip o 9 (showK o (wr (R.FOLD_KSTAT_WELD o) 1 (incSat (R.FOLD_TRIPCNT_WELD o) s)))

/-! ### The conditions of a close (R311) -/

/-- R509: the hottest junction, in °C + 40. -/
def junction (s : State) : Nat := max (rd R.PWR_TEMP_CDIE s) (max (rd R.PWR_TEMP_ADIE s) (rd R.PWR_TEMP_PDIE s))

/-- R129, R318: the output rate of channel `c` of outlet `o` in Hz. -/
def privRate (o c : Nat) (s : State) : Nat :=
  let p := rd (R.FLT_CHCFG_PRESET o c) s
  if p = 1 then 32000 else if p = 2 then 1000 else 8000

/-- R318: the window W of channel 12. -/
def rcWin (o : Nat) (s : State) : Nat := privRate o 12 s / nomHz o s

/-- R298, R322: the residual-current monitor is healthy. -/
def monOk (o : Nat) (s : State) : Bool :=
  let x := getFo o s
  flag (R.FLT_CHCFG_EN o 12) s && !x.excBad && !x.calBad &&
    decide (x.noNorm < rcWin o s + if x.seen then 0 else privRate o 12 s / 20)

/-- The payload of a received connection: zeros unless it is RUN (R330). -/
def connPay (c : Nat) (s : State) : List Byte := if rd (R.FOLD_SCSTAT_STATE c) s = 1 then (getConn c s).pay else []

/-- A bit of byte `i` of the PSTAGE_IN payload that covers an outlet (R331). -/
def pstageBit (o i : Nat) (s : State) : Bool :=
  connIds.any fun c => ckind c s == 2 && covers c o s && (rec1 (connPay c s) i).testBit o

/-- R310: the doors forbid a close. -/
def doorBars (s : State) : Bool :=
  decide (1 ≤ doorAct s) &&
    (s.fold.door || s.fold.doorDisc || !(flag R.FOLD_FSTAT_DOORA s) || !(flag R.FOLD_FSTAT_DOORB s))

/-- R299, R311: the tapped channels an outlet's KIND uses are enabled and NORMAL. -/
def tapsOk (o : Nat) (s : State) : Bool :=
  let f := (getFo o s).tap.headD []
  (if kindOf o s = 1 then [0] else if kindOf o s = 2 then [0, 1, 2] else [0, 1]).all fun k =>
    flag (R.FLT_CHCFG_EN o k) s && (tapNormal (f.getD k none)).isSome

/-- R311: the first condition that fails, by its code; 0 where all hold.  `own` says that the close itself holds the
outlet CLOSING (the recheck of step 2).  A voltage channel that delivers nothing fails VMON, not the voltage check; a
port that cannot be read counts as hot or as a warning (R298). -/
def closeBar (o : Nat) (fire : Option Nat) (own : Bool) (s : State) : Nat :=
  let x := getFo o s
  let F := s.fold
  let dc := kindOf o s == 3
  let p := pilotOf o s
  if !(pairDuplex 13 s) then 1
  else if F.record.isEmpty || kindOf o s == 0 || F.commit.isSome then 2
  else if F.estop || F.estopDisc || !(flag R.FOLD_FSTAT_ESTA s) || !(flag R.FOLD_FSTAT_ESTB s) then 3
  else if doorBars s then 4
  else if !x.rcLatch.isEmpty || !(monOk o s) || !(flag (R.FOLD_KSTAT_RCTOK o) s) then 5
  else if flag (R.FOLD_KSTAT_WELD o) s || ((x.kst == 0 || own) && tapsOk o s && !(voltsLow o s)) then 6
  else if dc && flag (R.FOLD_KSTAT_ISOF o) s then 7
  else if dc && !(pstageBit o 0 s && pstageBit o 2 s) then 8
  else if !(p == 2 || (p == 3 && !dc)) then 9
  else if F.tempBad || 175 < junction s then 10
  else if F.pfBad || warned s then 11
  else if !((x.kst == 0 || (own && x.kst == 1)) && kfb o s) then 12
  else if !F.timeBad && (fire.map fun f => decide (s.clock / 2 ^ 40 + 100000000 < f)).getD false then 13
  else if !(tapsOk o s) then 14
  else if x.kfbLatch then 15
  else 0

/-- A fire instant that has passed (R312); without the time every one counts so (R298). -/
def firePast (fire : Option Nat) (s : State) : Bool := fire.any fun f => s.fold.timeBad || decide (f < s.clock / 2 ^ 40)

/-- The close is refused: DENIED with its cause; what it had begun ends, and a failed voltage check latches WELD
(R315). -/
def refuseClose (o cause : Nat) (s : State) : State :=
  let s := if (getFo o s).kst = 1 then setKst o 0 (paths o false false s) else s
  let s := if cause = 6 && !(flag (R.FOLD_KSTAT_WELD o) s) then weldLatch o s else s
  closeDone o stDENIED cause s

/-- Step 1 of R312, and step 2 of an immediate close. -/
def closeStep1 (o : Nat) (s : State) : State :=
  match (getFo o s).close with
  | none => s
  | some r =>
    let c := closeBar o r.fire false s
    if c ≠ 0 then refuseClose o c s
    else if isScrapped s then closeDone o stSEALED 0 s
    else if firePast r.fire s then closeDone o stSTALE 0 s
    else
      let s := modFo o (fun x => { x with close := some { r with wait := false } }) s
      let s := setKst o 1 s
      if r.fire.isSome then s else energisePaths o s

/-! ### The residual-current self-test (R321) -/

/-- A self-test starts, or the running one takes on the kind that makes a close wait. -/
def startTest (o kind : Nat) (rc : Bool) (s : State) : State :=
  modFo o (fun x => { x with test := max x.test kind, testRc := x.testRc || rc, due := false,
                             mask := if x.test = 0 then 2 ^ 20 else x.mask }) s

/-- R338: an RC_TEST completes once no outlet it named runs any more. -/
def rcTestDone (o : Nat) (pass : Bool) (s : State) : State :=
  let l := s.fold.rcReq.map fun (w, mask, left, ok) =>
    if left.testBit o then (w, mask, left - 2 ^ o, if pass then ok + 2 ^ o else ok) else (w, mask, left, ok)
  forEach (l.filter fun e => e.2.2.1 == 0) (fun e => foldReply e.1.te0 0x2D e.1.w0 (e.2.2.2 * 256) stOK)
    (modFold (fun F => { F with rcReq := l.filter fun e => e.2.2.1 != 0 }) s)

/-- The running test ends without a result (R321: a close during a periodic test). -/
def dropTest (o : Nat) (s : State) : State :=
  modFo o (fun x => { x with test := 0, testRc := false, mask := rcWin o s }) s

/-! ### The module -/

/-- R308: an emergency stop: both demands dropped, ENABLE and ESTOP_OK withdrawn, FOLD_TRIP for every outlet that is
not open and one for the module. -/
def emergencyStop (s : State) : State :=
  if s.fold.estop then s
  else
    let s := showF (modFold (fun F => { F with estop := true, eClear := ⟨0, 0⟩ }) s)
    foldTrip 15 1 (forEach outlets (tripUnlessOpen 1) s)

/-- R310: a door that reads open, or a door discrepancy, takes the action of DOORACT; action 2 ramps down every session. -/
def doorEvent (s : State) : State :=
  let act := doorAct s
  let s := foldTrip 15 3 s
  let s := if 2 ≤ act then showF (modFold (fun F => { F with door := true, dClear := ⟨0, 0⟩ }) s) else s
  if act = 2 then
    forEach outlets (fun o s =>
      if notOpen o s then foldTrip o 3 (modFo o (fun x => { x with deadline := true }) s)
      else if inSession o s then foldTrip o 3 s
      else s) s
  else if act = 3 then forEach outlets (tripUnlessOpen 3) s
  else s

/-- R307 to R310: at a start the Fold finds a channel open that has been read so. -/
def inputsAtStart (s : State) : State :=
  let open_ (i : Nat) (f : Fld) : Bool := s.fold.levels.getD i false && !(flag f s)
  let s := whenS (open_ 0 R.FOLD_FSTAT_ESTA || open_ 1 R.FOLD_FSTAT_ESTB) emergencyStop s
  whenS (open_ 2 R.FOLD_FSTAT_DOORA || open_ 3 R.FOLD_FSTAT_DOORB) doorEvent s

/-- R309: the course of clearing after a channel of the emergency stop or the door has changed. -/
def clearing (c : Clearing) (a b : Bool) (now : Nat) : Clearing :=
  if !a && !b then ⟨1, now⟩
  else if c.step = 1 && a && b then ⟨2, now⟩
  else if c.step = 2 && !(a && b) then ⟨0, now⟩
  else c

/-- R309: both channels have been open, have closed again, and have stayed closed for 100 ms. -/
def Clearing.ready (c : Clearing) (a b : Bool) (now : Nat) : Bool :=
  a && b && c.step == 2 && decide (c.at_ + 100000 ≤ now)

/-- R340: PSTAGE_STATUS of outlet `o`, where what connection `c` says of it has changed from `old` and `run`. -/
def pstageStatus (c o : Nat) (old : List Byte) (run : Bool) (s : State) : State :=
  let b (l : List Byte) (i : Nat) : Bool := (rec1 l i).testBit o
  let p := connPay c s
  let now := rd (R.FOLD_SCSTAT_STATE c) s == 1
  if now == run && b p 0 == b old 0 && b p 1 == b old 1 && b p 2 == b old 2 then s
  else toOutlet o (mkMsg 0x4E (o + b2n (b p 0) * 16 + b2n (b p 1) * 32 + b2n (b p 2) * 64 + b2n now * 128) 0) s

/-- R330: a connection enters SAFE, with what its zeros mean (R308, R331, R340). -/
def enterSafe (c : Nat) (s : State) : State :=
  let old := connPay c s
  let run := rd (R.FOLD_SCSTAT_STATE c) s == 1
  let s := modConn c (fun x => { x with pay := [], crcAt := [] }) (wr (R.FOLD_SCSTAT_STATE c) 2 s)
  if ckind c s = 2 then
    forEach outlets (fun o s =>
      if !(covers c o s) then s
      else
        let s := pstageStatus c o old run s
        if shut o s then tripOutlet o 11 s else s) s
  else if ckind c s = 4 ∧ (rec2 s.fold.record 12).testBit c then emergencyStop s
  else s

/-- R334: a member of the Fold fails: it stops, its path is lost, every contactor opens, the other is active. -/
def foldMember (m cause : Nat) (s : State) : State :=
  let other := 14 - m
  let s := setEngState (13 + m) 5 s
  let s := if engState other s = 6 then setEngState other 3 s else s
  let s := wr R.FOLD_FSTAT_CAUSE cause (incSat R.FOLD_FSTAT_SWCNT s)
  let s := logFold 15 2 cause 0 s
  showF (forEach outlets (tripUnlessOpen 13) s)

/-- R303: the remaining time of a running lock, in whole seconds. -/
def lockLeft (s : State) : Nat :=
  match s.fold.lock with
  | some l => l.1 - (s.now - l.2) / 1000000
  | none => 0

/-- R303: the Fold partition keeps the record, salt, hash, failures and lock (their places are log entry 40). -/
def saveFold (s : State) : State :=
  let F := s.fold
  mramWr 0x040000 (F.record ++ List.replicate (1024 - F.record.length) 0 ++ F.salt ++ List.replicate (16 - F.salt.length) 0
    ++ F.hash ++ List.replicate (32 - F.hash.length) 0 ++ leBytes 4 F.fails ++ leBytes 4 (lockLeft s)
    ++ leBytes 4 (rd R.FOLD_CFGLOG_CHG s)) s

/-- R303: the remaining time of a running lock as it stands in MRAM, written at its last whole second. -/
def saveLock (s : State) : State := if s.fold.lock.isSome then saveFold s else s

/-- R303: the Fold partition is written at every whole second of a running lock. -/
def tickLock (s : State) : State := if s.fold.lock.any (fun l => (s.now - l.2) % 1000000 == 0) then saveFold s else s

/-- R313: KFB is sampled every 1 ms: three samples in a row that read 1, with both paths energised for longer than KTCL, are
a drop-out. -/
def tickKfb (o : Nat) (s : State) : State :=
  let x := getFo o s
  if x.kst = 2 ∧ kfb o s = true ∧ energised o s = true ∧ x.onAt + oRec2 o 16 s * 1000 < s.now then
    if x.dropN < 2 then modFo o (fun x => { x with dropN := x.dropN + 1 }) s
    else tripOutlet o 10
      (showK o (modFo o (fun x => { x with kfbLatch := true, dropN := 0 }) (incSat (R.FOLD_TRIPCNT_KFB o) s)))
  else if x.dropN = 0 then s else modFo o (fun x => { x with dropN := 0 }) s

/-- What a microsecond brings to the Fold. -/
def tickFold (s : State) : State :=
  let s := tickLock s
  if foldUp s && s.now % 1000 == 0 then forEach outlets tickKfb s else s

/-- R335, R339: what the two members had taken and not completed completes FAULT; an open goes on when they are back. -/
def foldCutOff (s : State) : State :=
  let F := s.fold
  let s := modFold (fun F => { F with standby := none, rcReq := [], commit := none, commitRec := [] }) s
  let s := match F.standby with
    | some r => foldReply r.1.te0 0x2C r.1.w0 0 stFAULT s
    | none => s
  let s := forEach F.rcReq (fun r => foldReply r.1.te0 0x2D r.1.w0 0 stFAULT) s
  let s := match F.commit with
    | some w => foldReply w.te0 0x29 w.w0 0 stFAULT s
    | none => s
  forEach outlets (fun o s =>
    let s := if (getFo o s).close.isSome then closeDone o stFAULT 0 s else s
    if (getFo o s).pstWait then kDone o 0x2F stFAULT (modFo o (fun x => { x with pstWait := false }) s) else s) s

/-- R335: a Fold pair fault: both paths are de-energised and both members are reloaded (R85, R113), or stay STOPPED
after the third fault within 60 s. -/
def foldPairDown (cause : Nat) (s : State) : State :=
  let fs := s.now :: s.fold.faults.filter fun t => decide (s.now < t + 60000000)
  let s := saveLock (modFold (fun F => { F with faults := fs }) s)
  let s := wr R.FOLD_FSTAT_CAUSE cause (addSat R.FOLD_FSTAT_SWCNT ([13, 14].countP fun e => running e s) s)
  let s := forEach outlets (fun o s =>
    let s := paths o false false (modFo o (fun x => { x with enable := false }) s)
    if shut o s then setKst o 3 s else s) s
  let s := logFold 15 3 cause 0 (foldCutOff s)
  showF (if 3 ≤ fs.length then
      let s := forEach outlets (fun o s => if (getFo o s).openReq then
        kDone o 0x27 (stFAULT + 6 * 2 ^ 16) (modFo o (fun x => { x with openReq := false }) s) else s) s
      forEach [13, 14] (fun e s => modEng (en e) (fun x => { x with final := true }) (setEngState e 5 (returnQueues e s))) s
    else forEach [13, 14] startReload s)

/-! ### The pilot hold (R261 to R263) -/

/-- R261, R262: the Fold takes the duty of an outlet in a session. -/
def holdBegin (o : Nat) (s : State) : State :=
  if !(inSession o s) || held o s then s
  else
    let s := wr (R.OUT_STATE_HOLD o) 1 (showK o (modFo o (fun x => { x with hold := 1, forced := false }) s))
    let d := rd (R.OUT_HOLD_DUTY o).eff s
    let x := getOs o s
    let s := if isDC o s then modFo o (fun x => { x with pst := 1, plim := rd (R.OUT_HOLD_DCLIM o).eff s }) s
             else if x.tMode = 0 ∧ d < x.tDuty ∧ x.tDuty ≠ 100 then modOs o (fun x => { x with tDuty := d }) s
             else s
    holdReport o 0 s

/-- R262, R340: the Fold opens an outlet during a hold on an event of R260; the pilot goes to the mode of the next state.
What the pilot itself causes is a trip with cause PILOT. -/
def holdOpen (o next : Nat) (pilot : Bool) (s : State) : State :=
  let w := genFor o next s
  let s := modOs o (fun x => { x with tMode := w.1, tDuty := w.2 }) s
  let s := openNow o none (modFo o (fun x => { x with hold := 4 }) s)
  holdReport o 3 (whenS pilot (foldTrip o 14) s)

/-- R262: what the Fold does with a new pilot state during a hold; `was` is the pilot state before. -/
def holdPilot (o was : Nat) (s : State) : State :=
  let p := pilotOf o s
  let e := pilotAs o p s
  let s := holdReport o 1 s
  let x := getFo o s
  if !(shut o s) then s
  else if 4 ≤ p then holdOpen o 9 true s
  else if p = 0 then holdOpen o 8 true s
  else if x.hold = 2 ∧ e < 2 ∧ (kindOf o s ≠ 3 ∨ 2 ≤ was) then
    openNow o none (modFo o (fun x => { x with hold := 3 }) s)
  else if x.hold = 1 ∧ e = 1 ∧ 2 ≤ was then holdOpen o 6 true s
  else s

/-- R262: a new proximity band during a hold. -/
def holdPP (o : Nat) (s : State) : State :=
  let s := holdReport o 2 s
  if shut o s && !(ppValid o s) then holdOpen o (if ppFault o s then 9 else 8) false s else s

/-- R262, R263: the hold of an outlet ends. -/
def holdOver (o : Nat) (s : State) : State :=
  setGen o (wr (R.OUT_STATE_HOLD o) 0 (showK o (modFo o (fun x => { x with hold := 0 }) s)))

end Sys2Proof.Machine
end

