-- ==== Sys2Proof/Machine/Sward.lean ====
section
/-!
DEFINITION. The Sward link (R362 to R370): frames and lanes, numbered links with resending, presence and time on the
ring.
-/
namespace Sys2Proof.Machine

/-- R362: the module's own position. -/
def ownPos (s : State) : Nat := rd R.SWD_SSTAT_POS s

/-- R366: the module takes part in the ring. -/
def ringOn (s : State) : Bool := pdOn 7 s && flag R.SWD_SCFG_EN s && !(flag R.SWD_SSTAT_BYPASS s)

/-- R374: the incoming link of a lane is up. -/
def laneUp (l : Nat) (s : State) : Bool := (rd R.SWD_SSTAT_LANEUP s).testBit l

/-- R363: the 16 bytes of a frame. -/
def mkFrame (kind dest src : Nat) (wrap bcast : Bool) (lseq : Nat) (pay : List Byte) : List Byte :=
  let b := leBytes 1 kind ++ leBytes 1 (dest % 8 + src % 8 * 8 + b2n wrap * 64 + b2n bcast * 128) ++ leBytes 1 lseq ++ [0] ++
    (pay ++ List.replicate 8 0).take 8
  b ++ leBytes 4 (crc32 b)

/-- The fields of a frame. -/
def fKind (f : List Byte) : Nat := (f.getD 0 0).toNat % 16
def fDest (f : List Byte) : Nat := (f.getD 1 0).toNat % 8
def fSrc (f : List Byte) : Nat := (f.getD 1 0).toNat / 8 % 8
def fWrap (f : List Byte) : Bool := (f.getD 1 0).toNat.testBit 6
def fBcast (f : List Byte) : Bool := (f.getD 1 0).toNat.testBit 7
def fLseq (f : List Byte) : Nat := (f.getD 2 0).toNat
def fPay (f : List Byte) : List Byte := (f.drop 4).take 8

/-- R363: a frame of 16 bytes with a good check value. -/
def frameOk (f : List Byte) : Bool := decide (f.length = 16) && leNat (f.drop 12) == crc32 (f.take 12)

/-- R363: put a frame on a lane. -/
def laneSend (l : Nat) (f : List Byte) (s : State) : State :=
  modNet (fun n => { n with lanes := (n.lanes ++ [LaneFrame.mk l f]).drop (n.lanes.length + 1 - 16) }) s

/-- R366, R367: the module turns traffic back: after a break, until it is undone, and while only one of its links has come
up. -/
def turned (s : State) : Bool := s.net.wrapped || laneUp 0 s != laneUp 1 s

/-- R367: the outgoing link of lane `l` is broken: the neighbour on that side is not heard. -/
def outBroken (l : Nat) (s : State) : Bool := turned s && !(laneUp (1 - l) s)

/-- R365, R368: within two periods of TOPO. -/
def lately (t : Option Nat) (s : State) : Bool := match t with
  | some t => decide (s.now < t + 2000)
  | none => false

/-- R365: lane `l` reaches position `p` without a turn: its TOPO comes back the same way, on the other lane, without WRAP. -/
def straightTo (l p : Nat) (s : State) : Bool :=
  let x := s.net.straight.getD p (none, none)
  lately (if l = 0 then x.2 else x.1) s

/-- R367: the ring is broken somewhere else: frames with WRAP are heard. -/
def brokenElsewhere (s : State) : Bool := lately s.net.turnedAt s

/-- R365: the lane toward a position: on a wrapped ring the one that reaches it without a turn, if there is one, and lane 0
otherwise; else the one with fewer hops, and lane 0 on a tie. -/
def laneTo (dest : Nat) (s : State) : Nat :=
  if turned s then (if outBroken 0 s && !(outBroken 1 s) then 1 else 0)
  else if brokenElsewhere s then (if straightTo 1 dest s && !(straightTo 0 dest s) then 1 else 0)
  else
    let n := rd R.SWD_SCFG_NMOD s + 1
    let up := (dest + n - ownPos s % n) % n
    if up ≤ n - up then 0 else 1

/-- A link of the QMSG (false) or the SAFE class (true) with position `p`. -/
def getLink (safe : Bool) (p : Nat) (s : State) : Link :=
  (if safe then s.net.slink else s.net.qlink).getD p Link.reset
def setLink (safe : Bool) (p : Nat) (x : Link) (s : State) : State :=
  modNet (fun n => if safe then { n with slink := n.slink.set p x } else { n with qlink := n.qlink.set p x }) s

/-- R95: the 64 bits of a message. -/
def msgBits (seq : Byte) (m : Msg) : Nat :=
  m.w1.toNat + m.w0.toNat * 2 ^ 24 + seq.toNat * 2 ^ 48 + m.typ.toNat * 2 ^ 56

/-- The message of 64 bits. -/
def msgOfBits (v : Nat) : Msg := mkMsg (v / 2 ^ 56) (v / 2 ^ 24) v

/-- R363: a kept frame as it goes on the lane. -/
def keptFrame (safe : Bool) (p : Nat) (k : Kept) (s : State) : List Byte :=
  mkFrame (if safe then 2 else 1) p (ownPos s) false false k.lseq k.body

/-- R364: number, keep and send one message toward position `p`. -/
def linkSend (safe : Bool) (p : Nat) (body : List Byte) (s : State) : State :=
  let x := getLink safe p s
  let k : Kept := ⟨x.next, body⟩
  let s := setLink safe p { x with kept := x.kept ++ [k], next := (x.next + 1) % 256 } s
  laneSend (laneTo p s) (keptFrame safe p k s) s

/-- R364: the position the message at the head of a ring queue goes to; Q93 names it in its head's W0[6:4]. -/
def ringDest (q : Nat) (m : Msg) (s : State) : Nat :=
  if q < 24 then q - 16 else if isCont m then s.net.safeDest else fld m.w0 6 4

/-- R364, R368: take one message from Q16 to Q23 or Q93 and bring it on its way. -/
def ringTake (q : Nat) (seq : Byte) (m : Msg) (s : State) : State :=
  let p := ringDest q m s
  let s := modNet (fun n => { n with safeDest := if q = 93 then p else n.safeDest }) (takeN q 1 s)
  if p = ownPos s then pushQ (if q = 93 then 94 else 24 + p) 0 m s
  else if q = 93 && s.net.gone.getD p false then incSat R.SWD_SRTX_SAFEDROP s
  else linkSend (q == 93) p (leBytes 8 (msgBits seq m)) s

/-- R364, R368: the fabric takes what waits in an enabled ring queue while the link keeps fewer than 128 frames. -/
def ringDrain (q : Nat) : Nat → State → State
  | 0, s => s
  | n + 1, s =>
    match (getQ (qn q) s).ent with
    | [] => s
    | e :: _ =>
      let p := ringDest q e.2 s
      if !(pdOn 7 s) || !(getQ (qn q) s).en then s
      else if p ≠ ownPos s ∧ (!(ringOn s) ∨ 128 ≤ (getLink (q == 93) p s).kept.length) then s
      else ringDrain q n (ringTake q e.1 e.2 s)

/-- R364: everything that can leave a ring queue leaves it. -/
def ringGo (q : Nat) (s : State) : State := ringDrain q (getQ (qn q) s).ent.length s

/-- R364, R365: every ring queue, SAFE before QMSG. -/
def ringAll (s : State) : State := forEach [93, 16, 17, 18, 19, 20, 21, 22, 23] ringGo s

/-- R365, R367: pass a frame on, turned back where the lane ahead is broken. -/
def sendOn (l : Nat) (f : List Byte) (s : State) : State :=
  if outBroken l s then
    laneSend (1 - l) (mkFrame (fKind f) (fDest f) (fSrc f) true (fBcast f) (fLseq f) (fPay f)) s
  else laneSend l f s

/-- R363: what every frame undergoes on arrival: the check, the snoop of R415, and passing on what is not for this
module.  The answer says whether the frame is for this module. -/
def frameArrives (l kind : Nat) (f : List Byte) (s : State) : State × Bool :=
  if !(ringOn s) || !(laneUp l s) then (s, false)
  else if !(frameOk f) then (incSat R.SWD_SERR_CRCERR s, false)
  else
    let s := ckLane l (fKind f) f s
    if fSrc f = ownPos s ∧ fBcast f then (s, false)
    else if fBcast f then (sendOn l f s, fKind f == kind)
    else if fDest f = ownPos s then (s, fKind f == kind)
    else (sendOn l f s, false)

/-- R364: acknowledge the frames entered from position `p` so far. -/
def ackSend (safe : Bool) (p : Nat) (s : State) : State :=
  let x := getLink safe p s
  let f := mkFrame 3 p (ownPos s) false false (freeNow 8 s).toNat (leBytes 1 (if safe then 2 else 1) ++ leBytes 1 (x.expect + 255))
  nextFree (laneSend (laneTo p s) f s)

/-- R364: a numbered frame: only the next expected one enters; each is acknowledged. -/
def numberedIn (safe : Bool) (f : List Byte) (s : State) : State :=
  let p := fSrc f
  let x := getLink safe p s
  if fLseq f = x.expect then
    let s := setLink safe p { x with expect := (x.expect + 1) % 256 } s
    ackSend safe p (pushQ (if safe then 94 else 24 + p) 0 (msgOfBits (leNat (fPay f))) s)
  else if (x.expect + 256 - fLseq f) % 256 ≤ 128 then ackSend safe p s
  else s

/-- QMSG (R364). -/
def execQmsg (l : Fin 2) (bytes : List Byte) (s : State) : Host.Outcome State Fault Refusal :=
  let r := frameArrives l 1 bytes s
  .next (if r.2 then numberedIn false bytes r.1 else r.1)

/-- SAFE (R364). -/
def execSafe (l : Fin 2) (bytes : List Byte) (s : State) : Host.Outcome State Fault Refusal :=
  let r := frameArrives l 2 bytes s
  .next (if r.2 then numberedIn true bytes r.1 else r.1)

/-- R364: drop the kept frames up to number `n`, oldest first. -/
def ackKept (n : Nat) (l : List Kept) : List Kept :=
  if l.any fun k => k.lseq == n then (l.dropWhile fun k => k.lseq != n).drop 1 else l

/-- ACK (R364). -/
def execAck (l : Fin 2) (bytes : List Byte) (s : State) : Host.Outcome State Fault Refusal :=
  let r := frameArrives l 3 bytes s
  if !r.2 then .next r.1
  else
    let safe := (bytes.getD 4 0).toNat == 2
    let p := fSrc bytes
    let x := getLink safe p r.1
    let s := setLink safe p { x with kept := ackKept (bytes.getD 5 0).toNat x.kept } r.1
    .next (ringGo (if safe then 93 else 16 + p) s)

/-- SWARD_RESEND_TIMEOUT (R364). -/
def execSwardResendTimeout (dest : Fin 8) (safeClass : Bool) (s : State) : Host.Outcome State Fault Refusal :=
  let x := getLink safeClass dest s
  if !(ringOn s) then .next s
  else .next (forEach x.kept (fun k s => incSat R.SWD_SRTX_RESENT
    (laneSend (laneTo dest s) (keptFrame safeClass dest k s) s)) s)

/-- R367: the ring is broken, at the module's own links or somewhere else. -/
def broken (s : State) : Bool := s.net.wrapped || laneUp 0 s != laneUp 1 s || brokenElsewhere s

/-- R367, R374: RING.  With one break every position is still heard; a position that leaves a broken ring shows a second
break (log entry 117). -/
def ringState (s : State) : Nat :=
  if !(ringOn s) then 0
  else if !(laneUp 0 s) && !(laneUp 1 s) then (if s.net.wrapped then 3 else 0)
  else if broken s then (if s.net.split && s.net.gone.any id then 3 else 2)
  else 1

/-- R374: RING, and the module's own bit of PRESENT. -/
def ringUpdate (s : State) : State :=
  let p := rd R.SWD_SSTAT_PRESENT s
  let own := 2 ^ ownPos s
  let p := if p.testBit (ownPos s) = ringOn s then p else if ringOn s then p + own else p - own
  let s := if broken s then s else modNet (fun n => { n with split := false }) s
  wrs [(R.SWD_SSTAT_RING, ringState s), (R.SWD_SSTAT_PRESENT, p)] s

/-- R367 step 4: an event of the ring goes to the general log and to TE0. -/
def ringEvent (s : State) : State := modEng 0 (fun e => { e with evHw := true }) (logEvent 0x10 0x25 15 [] s)

/-- SWARD_LINK_UP (R362). -/
def execSwardLinkUp (l : Fin 2) (s : State) : Host.Outcome State Fault Refusal :=
  if !(ringOn s) then .next s
  else
    let s := wr R.SWD_SSTAT_LANEUP (rd R.SWD_SSTAT_LANEUP s ||| 2 ^ l.val) s
    .next (ringAll (ringUpdate s))

/-- SWARD_LINK_DOWN (R362, R367, R374): the lane goes down on loss of signal or on code errors, which are counted; the module
turns traffic back there, and every frame in flight is kept for its resend. -/
def execSwardLinkDown (loss : LinkLoss) (s : State) : Host.Outcome State Fault Refusal :=
  if !(ringOn s) || !(laneUp loss.lane s) then .next s
  else
    let s := addSat R.SWD_SERR_CODEERR loss.errors s
    let s := wr R.SWD_SSTAT_LANEUP (rd R.SWD_SSTAT_LANEUP s - 2 ^ loss.lane.val) (incSat R.SWD_SERR_BREAKS s)
    .next (ringEvent (ringUpdate (modNet (fun n => { n with wrapped := true }) s)))

/-- UNWRAP (R367): the link has been up again for 1 ms. -/
def execUnwrap (s : State) : Host.Outcome State Fault Refusal :=
  if ringOn s && laneUp 0 s && laneUp 1 s && s.net.wrapped then
    .next (ringUpdate (modNet (fun n => { n with wrapped := false }) s))
  else .next s

/-- R369: rank of a position for time leadership; lower is better. -/
def leadRank (p clock : Nat) : Nat := (2 - min clock 2) * 8 + p

/-- R369: the candidates: positions with TLEADEN, this module among them. -/
def leadCands (s : State) : List (Nat × Nat) :=
  outlets.filterMap fun p =>
    if p = ownPos s then (if flag R.SWD_SCFG_TLEADEN s && ringOn s then some (p, leadRank p (clkStatus s)) else none)
    else match s.net.peers.getD p none with
      | some (c, true) => some (p, leadRank p c)
      | _ => none

/-- R369: choose the time leader. -/
def chooseLeader (s : State) : State :=
  match (leadCands s).foldl (fun b c => match b with
      | none => some c
      | some x => some (if c.2 < x.2 then c else x)) (none : Option (Nat × Nat)) with
  | some l => wrs [(R.SWD_SSTAT_LEADER, l.1), (R.SWD_SSTAT_LEADOK, 1)] s
  | none => wr R.SWD_SSTAT_LEADOK 0 s

/-- This module leads time. -/
def isLeader (s : State) : Bool := flag R.SWD_SSTAT_LEADOK s && rd R.SWD_SSTAT_LEADER s == ownPos s

/-- R110: the requests among the frames kept for position `p` complete WITHDRAWN; the others stay kept. -/
def keptWithdrawn (p : Nat) (s : State) : State :=
  let x := getLink false p s
  let l := x.kept.map fun k => (BitVec.ofNat 8 (leNat (k.body.drop 6) % 256), msgOfBits (leNat k.body))
  let rest := (keepUnsol true l).map fun e => Kept.mk 0 (leBytes 8 (msgBits e.1 e.2))
  setLink false p { x with kept := rest } (withdrawEntered (16 + p) 0 l s)

/-- R110: the ring's function ends with PD7: what waits for it completes WITHDRAWN, and its streams end. -/
def ringOff (s : State) : State :=
  let s := forEach outlets (fun p s => disableQ (16 + p) 0 false (keptWithdrawn p s)) s
  let s := disableQ 93 0 false s
  forEach [24, 25, 26, 27, 28, 29, 30, 31, 94] (fun q => putQ q streamEnd) s

/-- R366, R368: close the bypass. -/
def closeBypass (s : State) : State :=
  ringUpdate (wrs [(R.SWD_SSTAT_BYPASS, 1), (R.SWD_SSTAT_LANEUP, 0)] (modNet (fun n =>
    { n with wrapped := false, straight := List.replicate 8 (none, none), turnedAt := none, ringKnown := false }) s))

/-- R366: the bypass as the link's enable, its supply and DUPID set it. -/
def bypassSet (s : State) : State :=
  if !(flag R.SWD_SCFG_EN s) || flag R.SWD_SSTAT_DUPID s || !(pdOn 7 s) then closeBypass s
  else ringUpdate (wr R.SWD_SSTAT_BYPASS 0 s)

/-- R97, R368: enable queue Q(16 + p) again; the messages its link keeps unacknowledged are held still. -/
def enableRing (p : Nat) (s : State) : State :=
  modQ (qn (16 + p)) (fun x =>
    if (getLink false p s).kept.isEmpty then Queue.enable x.cap x else { x with en := decide (0 < x.cap) }) s

/-- R368: enable the queues of a position again; the links restart from 0, and what is still kept is sent under new link
numbers. -/
def rejoinPos (p : Nat) (s : State) : State :=
  let s := modQ (qn (24 + p)) (fun x => Queue.enable x.cap x) (enableRing p s)
  let l := (getLink false p s).kept.zipIdx.map fun k => { k.1 with lseq := k.2 }
  let s := setLink true p Link.reset (setLink false p ⟨l, l.length, 0⟩ s)
  ringEvent (modNet (fun n => { n with gone := n.gone.set p false }) s)

/-- R369, R370: a TOPO of position `p` has come: the leader is chosen; where there is none, the next one is at its own
first TOPO. -/
def chooseAt (p : Nat) (s : State) : State :=
  let t := chooseLeader s
  if flag R.SWD_SSTAT_LEADOK s || rd R.SWD_SSTAT_LEADER t == p then t else s

/-- R365, R367: a TOPO of position `p` came by lane `l`. -/
def noteWay (l p : Nat) (wrap : Bool) (s : State) : State :=
  modNet (fun n =>
    if wrap then { n with turnedAt := some s.now }
    else { n with straight := n.straight.modify p fun x => if l = 0 then (some s.now, x.2) else (x.1, some s.now) }) s

/-- TOPO (R368, R369): a TOPO of another module, which reads its position as `pos`, passed on; its payload on the lane is not
laid out by the spec. -/
def execTopo (l : Fin 2) (pos : Fin 8) (wrap : Bool) (body : Topo) (s : State) : Host.Outcome State Fault Refusal :=
  if !(ringOn s) || !(laneUp l s) then .next s
  else
    let f := mkFrame 6 0 pos wrap true (freeNow 8 s).toNat (freeBytes (nextFree s) 8)
    let s := { ckLane l 6 f s with freeCtr := s.freeCtr + 9 }
    if pos.val = ownPos s then .next (ringEvent (closeBypass (wr R.SWD_SSTAT_DUPID 1 s)))
    else
      let s := noteWay l pos wrap (sendOn l f s)
      let s := modNet (fun n => { n with peers := n.peers.set pos (some (body.clock.val, body.tleaden)) }) s
      let s := whenS (s.net.gone.getD pos false) (rejoinPos pos) s
      .next (ringUpdate (chooseAt pos (wr R.SWD_SSTAT_PRESENT (rd R.SWD_SSTAT_PRESENT s ||| 2 ^ pos.val) s)))

/-- TOPO_TX (R368, R369): on both lanes; the payload's layout is not stated.  A module that is the best candidate leads from
its own TOPO on. -/
def execTopoTx (s : State) : Host.Outcome State Fault Refusal :=
  if !(ringOn s) then .next s
  else
    let f := mkFrame 6 0 (ownPos s) false true (freeNow 8 s).toNat (freeBytes (nextFree s) 8)
    let s := laneSend 1 f (laneSend 0 f { s with freeCtr := s.freeCtr + 9 })
    .next (ringUpdate (if isLeader (chooseLeader s) then chooseLeader s else s))

/-- POSITION_LOST (R368). -/
def execPositionLost (pos : Fin 8) (s : State) : Host.Outcome State Fault Refusal :=
  if !((rd R.SWD_SSTAT_PRESENT s).testBit pos.val) || pos.val = ownPos s then .next s
  else
    let s := wr R.SWD_SSTAT_PRESENT (rd R.SWD_SSTAT_PRESENT s - 2 ^ pos.val) s
    let s := whenS (flag R.SWD_SSTAT_LEADOK s && rd R.SWD_SSTAT_LEADER s == pos.val) (wr R.SWD_SSTAT_LEADOK 0) s
    let s := modNet (fun n =>
      { n with peers := n.peers.set pos none, gone := n.gone.set pos true, split := n.split || broken s }) s
    let s := disableQ (24 + pos) 0 true (disableQ (16 + pos) 0 true (keptWithdrawn pos s))
    let s := addSat R.SWD_SRTX_SAFEDROP (getLink true pos s).kept.length s
    let s := setLink true pos { getLink true pos s with kept := [] } s
    .next (ringEvent (ringUpdate s))

/-- R369: the 64 payload bits of TIME for a time in 2^−16 ns. -/
def timePay (t : Int) (status : Nat) : Nat :=
  let u := (t % (clockMod / 2 ^ 24 : Nat)).toNat
  u / 2 ^ 16 % 1000000000 + u % 2 ^ 16 * 2 ^ 30 + u / (1000000000 * 2 ^ 16) % 2 ^ 16 * 2 ^ 46 + status % 4 * 2 ^ 62

/-- R369: the time a TIME payload bears, in 2^−16 ns, within 2^16 seconds. -/
def timeOf (v : Nat) : Int :=
  (((bits v 61 46) * 1000000000 + bits v 29 0) * 2 ^ 16 + bits v 45 30 : Nat)

/-- R369: the link delay of the hop of lane `l`, in 2^−16 ns. -/
def hopDelay (l : Nat) (s : State) : Nat := rd (if l = 0 then R.SWD_SHOP_LANE0 else R.SWD_SHOP_LANE1) s * 2 ^ 16 / 10

/-- A difference of times known modulo 2^16 seconds, completed with the seconds of the last TIMEX. -/
def ringTime (t : Int) (s : State) : Int :=
  let m : Int := 65536 * 1000000000 * 2 ^ 16
  let base : Int := s.net.ringSec * 1000000000 * 2 ^ 16
  base + ((t - base + m / 2) % m - m / 2)

/-- TIME (R369): a TIME frame, passed on with the hop's link delay and this module's residence (2^−16 ns) added, and an
offset for every slot on the ring's time, once a TIMEX has given the seconds it bears the low bits of. -/
def execTime (l : Fin 2) (bytes : List Byte) (residence : Nat) (s : State) : Host.Outcome State Fault Refusal :=
  if !(ringOn s) || !(laneUp l s) then .next s
  else if !(frameOk bytes) then .next (incSat R.SWD_SERR_CRCERR s)
  else
    let s := ckLane l (fKind bytes) bytes s
    if fSrc bytes = ownPos s ∨ fKind bytes ≠ 4 then .next s
    else
      let v := leNat (fPay bytes)
      let t := timeOf v + hopDelay l s
      let f := mkFrame 4 (fDest bytes) (fSrc bytes) (fWrap bytes) (fBcast bytes) (fLseq bytes)
        (leBytes 8 (timePay (t + residence) (bits v 63 62)))
      let s := sendOn l f s
      if isLeader s || !(flag R.SWD_SSTAT_LEADOK s) || rd R.SWD_SSTAT_LEADER s != fSrc bytes || !s.net.ringKnown then
        .next s
      else
        let o := ringTime t s - clk16 s
        .next (forEach [0, 1] (fun i s =>
          if slotSrc i s = 3 then offsetIn i o 1000000 (bits v 63 62 == 2) s else s) s)

/-- R369: the payload of TIMEX. -/
def timexPay (s : State) : Nat := clkSec s % 2 ^ 48 + rd R.BIL_UTCOFS_S s * 2 ^ 48

/-- TIME_TX (R369): TIME on both lanes every 1 ms, and TIMEX when a new second has begun. -/
def execTimeTx (s : State) : Host.Outcome State Fault Refusal :=
  if !(ringOn s) || !(isLeader s) then .next s
  else
    let f := mkFrame 4 0 (ownPos s) false true (freeNow 8 s).toNat (leBytes 8 (timePay (clk16 s) (clkStatus s)))
    let s := nextFree (laneSend 1 f (laneSend 0 f s))
    if s.net.ringSec = clkSec s then .next s
    else
      let g := mkFrame 7 0 (ownPos s) false true (freeNow 8 s).toNat (leBytes 8 (timexPay s))
      .next (modNet (fun n => { n with ringSec := clkSec s, ringKnown := true }) (nextFree (laneSend 1 g (laneSend 0 g s))))

/-- TIMEX (R369, R355): full seconds and UTCOFS from the leader. -/
def execTimex (l : Fin 2) (bytes : List Byte) (s : State) : Host.Outcome State Fault Refusal :=
  let r := frameArrives l 7 bytes s
  let s := r.1
  if !r.2 || !(flag R.SWD_SSTAT_LEADOK s) || rd R.SWD_SSTAT_LEADER s != fSrc bytes || isLeader s then .next s
  else
    let v := leNat (fPay bytes)
    let u := sext 16 (v / 2 ^ 48)
    let s := modNet (fun n => { n with ringSec := v % 2 ^ 48, ringUtc := u, ringKnown := true }) s
    .next (forEach [0, 1] (fun i s =>
      if slotSrc i s = 3 then
        whenS (i == selSlot s && rd R.BIL_UTCOFS_S s != toU 16 u) (setUtc u) (wr (R.PTP_SSTAT_UTCOFS i) (toU 16 u) s)
      else s) s)

/-- DELAY (R369): the link delay of the hop by which lane `l` comes in, from the four times of an exchange in 2^−16 ns: the
module sends a DELAY frame to that neighbour on the other lane, and the neighbour answers.  The payloads are not laid
out by the spec. -/
def execDelay (l : Fin 2) (t1 t2 t3 t4 : Int) (s : State) : Host.Outcome State Fault Refusal :=
  if !(ringOn s) || !(laneUp l s) then .next s
  else
    let f := mkFrame 5 0 (ownPos s) false false (freeNow 8 s).toNat (freeBytes (nextFree s) 8)
    let s := laneSend (1 - l) f { s with freeCtr := s.freeCtr + 9 }
    let s := { ckLane l 5 (freeBytes s 12) s with freeCtr := s.freeCtr + 12 }
    let d := ((t4 - t1) - (t3 - t2)) / 2 * 10 / 2 ^ 16
    let f := if l.val = 0 then R.SWD_SHOP_LANE0 else R.SWD_SHOP_LANE1
    if 0 ≤ d ∧ d < 2 ^ 16 then .next (wr f d.toNat s) else .next (nextFree (wr f (freeNow 16 s).toNat s))

/-- R366, R374: the effect of a write of the Sward SCFG. -/
def swardSet (v : Nat) (s : State) : State × Nat :=
  let s := wrs [(R.SWD_SCFG_EN, v), (R.SWD_SCFG_TLEADEN, v / 2), (R.SWD_SCFG_NMOD, v / 2 ^ 2), (R.SWD_SCFG_LOSST, v / 2 ^ 5)] s
  (bypassSet s, stOK)

/-- SWARD_SCFG_WRITE (R366). -/
def execSwardScfgWrite (v : W32) (s : State) : Host.Outcome State Fault Refusal := .next (hostWrite 0x18000000 v.toNat (swardSet v.toNat) s)

end Sys2Proof.Machine
end

