-- ==== Sys2Proof/Machine/Fold.lean ====
section
/-!
DEFINITION. The commands of the Fold (R296 to R344, R518, R519), and FRAME and LIVE, which the Fold and the outlet
engines also act on.
-/
namespace Sys2Proof.Machine

/-- R299: the tapped sample of a channel in this frame. -/
def tapOf (o c : Nat) (s : State) : Option (Int × Nat) :=
  let ch := getCh o c s
  if chOn o c s && ch.got then some (ch.x, ch.stat) else none

/-- R257, R285: a positive crossing of a supply channel in this frame. -/
def noteCross (k : Nat) (s : State) : State :=
  if !(chOn 8 k s && (getCh 8 k s).zc) then s
  else
    let now := s.clock / 2 ^ 24
    let tz : Int := s.fold.lastC + (getCh 8 k s).zf * 32000000 - 607960000000
    let l := (now, tz) :: ((s.fold.cross.getD k []).filter fun e => decide (now < e.1 + 200000000 * 2 ^ 16))
    modFold (fun F => { F with cross := F.cross.modify k fun _ => l })
      { s with plm := { s.plm with refs := s.plm.refs.modify k fun x =>
        ⟨x.n + 1, some tz, match l[8]? with | some b => some ((tz - b.2) / 8) | none => x.t⟩ } }

/-- What the Fold does with a frame for one outlet: the tap (R299), a monitor fault on a closed outlet (R322), and the
post-open check (R314, R315).  `was` says that channel 12 was enabled before the frame. -/
def foldFrame (was : Nat → Bool) (o : Nat) (s : State) : State :=
  let keep := if kindOf o s = 3 then max 160 (2 * oRec2 o 24 s) else 160
  let s := modFo o (fun x => { x with tap := ((List.range 4).map (fun c => tapOf o c s) :: x.tap).take keep }) s
  let s := if flag (R.FLT_CHCFG_EN o 12) s && !(was o) then
      modFo o (fun x => { x with ring := [], noNorm := 0, seen := false }) s else s
  if !(foldUp s) || kindOf o s == 0 then s
  else
    let s := if shut o s && !(monOk o s) then rcTrip o 7 s else s
    if (getFo o s).kst = 4 ∧ voltsLow o s then openOver o false s else s

/-- FRAME (R144): every 8 kHz frame instant; also the tap of the Fold (R299), its post-open checks (R314, R315) and the
crossings that point-on-wave closing uses (R257). -/
def execFrame (codes : List (List (BitVec 3))) (s : State) : Host.Outcome State Fault Refusal :=
  let was (o : Nat) := flag (R.FLT_CHCFG_EN o 12) s
  let s := frameStep codes s
  let s := forEach [0, 1, 2] noteCross s
  let s := modFold (fun F => { F with lastC := s.clock / 2 ^ 24, supTap := (List.range 4).map fun c => tapOf 8 c s }) s
  .next (forEach outlets (foldFrame was) s)

/-- R255, R256, R259 step 2: what the outlet engine makes of a LIVE message. -/
def liveSeen (o irms : Nat) (p : Int) (s : State) : State :=
  let x := getOs o s
  match x.ramp with
  | some r =>
    if !r.imm && !r.opening && decide (irms < 10000) && (!(isDC o s) || pstageBit o 1 s) then
      askOpen o (modOs o (fun x => { x with ramp := some { r with opening := true } }) s)
    else s
  | none =>
    if ostate o s ≠ 5 then modOs o (fun x => { x with nOver := 0, nExp := 0 }) s
    else
      let high := !(isDC o s) && decide (1100 * offered o s + 5000 < irms)
      let exp := !(flag (R.OUT_OCFG_BIDIR o).eff s) && decide (p < -100)
      let a := if high then x.nOver + 1 else 0
      let b := if exp then x.nExp + 1 else 0
      let s := modOs o (fun x => { x with nOver := a, nExp := b }) s
      if 50 ≤ a then rampDown o 11 false s else if 20 ≤ b then rampDown o 12 false s else s

/-- LIVE (R177, R180): every 100 ms the pair reports the last closed interval in NRG and to the outlet engine, which
judges it (R255, R256, R259). -/
def execLive (o : Fin 8) (s : State) : Host.Outcome State Fault Refusal :=
  let r := liveStep o s
  match r.2 with
  | none => .next r.1
  | some (irms, p, m, cs) =>
    if outActive o r.1 then .next (liveSeen o irms p (drainQ (56 + o) (m :: cs.map contMsg) r.1))
    else .next (if (getQ (qn (56 + o)) r.1).en then pushWait (56 + o) (m :: cs.map contMsg) r.1 else pushAll (56 + o) o m cs r.1)

/-- ESTOP_CHANGE (R297, R307 to R309): a channel of the emergency stop reads a new level. -/
def execEstopChange (chB closed : Bool) (s : State) : Host.Outcome State Fault Refusal :=
  let s := wrB (if chB then R.FOLD_FSTAT_ESTB else R.FOLD_FSTAT_ESTA) closed s
  let s := if closed then s
    else forEach outlets (fun o s => wr (if chB then R.FOLD_KSTAT_KB o else R.FOLD_KSTAT_KA o) 0 s) s
  let s := modFold (fun F => { F with levels := F.levels.set (b2n chB) true }) s
  if !(foldUp s) then .next s
  else
    let a := flag R.FOLD_FSTAT_ESTA s
    let b := flag R.FOLD_FSTAT_ESTB s
    let s := if closed then s else emergencyStop s
    .next (modFold (fun F => { F with eClear := clearing F.eClear a b s.now }) s)

/-- ESTOP_DISCREPANCY (R309): the channels have differed for more than 50 ms. -/
def execEstopDiscrepancy (s : State) : Host.Outcome State Fault Refusal :=
  if !(foldUp s) || flag R.FOLD_FSTAT_ESTA s == flag R.FOLD_FSTAT_ESTB s then .next s
  else
    let s := modFold (fun F => { F with eClear := ⟨0, s.now⟩ }) s
    if s.fold.estopDisc then .next s
    else .next (foldTrip 15 2 (showF (modFold (fun F => { F with estopDisc := true }) s)))

/-- DOOR_CHANGE (R307, R309, R310): a door channel reads a new level. -/
def execDoorChange (chB closed : Bool) (s : State) : Host.Outcome State Fault Refusal :=
  let before := flag R.FOLD_FSTAT_DOORA s && flag R.FOLD_FSTAT_DOORB s
  let s := wrB (if chB then R.FOLD_FSTAT_DOORB else R.FOLD_FSTAT_DOORA) closed s
  let s := modFold (fun F => { F with levels := F.levels.set (2 + b2n chB) true }) s
  if !(foldUp s) then .next s
  else
    let a := flag R.FOLD_FSTAT_DOORA s
    let b := flag R.FOLD_FSTAT_DOORB s
    let s := if before && !closed then doorEvent s else s
    let s := modFold (fun F => { F with dClear := clearing F.dClear a b s.now }) s
    if a && b && decide (doorAct s < 2) then .next (showF (modFold (fun F => { F with door := false }) s)) else .next s

/-- DOOR_DISCREPANCY (R309, R310): the door channels have differed for more than DOORDISC. -/
def execDoorDiscrepancy (s : State) : Host.Outcome State Fault Refusal :=
  if !(foldUp s) || flag R.FOLD_FSTAT_DOORA s == flag R.FOLD_FSTAT_DOORB s then .next s
  else
    let s := modFold (fun F => { F with dClear := ⟨0, s.now⟩ }) s
    if s.fold.doorDisc then .next s
    else .next (doorEvent (showF (modFold (fun F => { F with doorDisc := true }) s)))

/-- A member of the Fold is lost (R334), or both are (R335). -/
def foldLoss (m cause : Nat) (s : State) : State :=
  if !(running (13 + m) s) then s
  else if running (14 - m) s then foldMember m cause s
  else foldPairDown cause s

/-- FOLD_WATCHDOG_EXPIRY (R297, R334): a member has not retriggered its watchdog within 10 ms. -/
def execFoldWatchdogExpiry (m : Fin 2) (s : State) : Host.Outcome State Fault Refusal := .next (foldLoss m 7 s)

/-- PD1_WINDOW_LOSS (R297, R483, R492): every contactor enable is de-energised in hardware. -/
def execPd1WindowLoss (s : State) : Host.Outcome State Fault Refusal :=
  let s := modFold (fun F => { F with pd1 := false }) s
  .next (forEach outlets (fun o s =>
    let s := paths o false false (modFo o (fun x => { x with enable := false }) s)
    if (getFo o s).kst = 2 then setKst o 3 s else s) s)

/-- PD1_WINDOW_RETURN (R483): the supplies are back inside the window for 1 ms. -/
def execPd1WindowReturn (s : State) : Host.Outcome State Fault Refusal :=
  .next (modFold (fun F => { F with pd1 := true }) s)

/-- FOLD_MEMBER_FAIL (R334): a member gives up under R77. -/
def execFoldMemberFail (m : Fin 2) (cause : Fin 16) (s : State) : Host.Outcome State Fault Refusal :=
  .next (foldLoss m cause s)

/-- FOLD_PAIR_FAULT (R335): both members have failed. -/
def execFoldPairFault (s : State) : Host.Outcome State Fault Refusal :=
  if foldUp s then .next (foldPairDown (rd R.FOLD_FSTAT_CAUSE s) s) else .next s

/-- FOLD_PATH_COMPARE (R333, R186): each member compares its path demand with the other's.  On a difference both run the
state check: a member that fails it is taken out, and where neither does, the standby is. -/
def execFoldPathCompare (s : State) : Host.Outcome State Fault Refusal :=
  let differ := outlets.any fun o => flag (R.FOLD_KSTAT_KA o) s != flag (R.FOLD_KSTAT_KB o) s
  if pairDuplex 13 s && differ && flag R.FOLD_FSTAT_ESTA s && flag R.FOLD_FSTAT_ESTB s then
    match stateOk 13 s, stateOk 14 s with
    | true, true => .next (foldMember (if engState 13 s = 3 then 1 else 0) 5 s)
    | false, true => .next (foldLoss 0 3 s)
    | true, false => .next (foldLoss 1 3 s)
    | false, false => .next (foldPairDown 3 s)
  else .next s

/-- A request of the outlet engine of outlet `o` on Q88 (R337): it waits while the Fold does not run; on a disabled
queue it completes WITHDRAWN (R111). -/
def kReq (o : Fin 8) (t : Nat) (w0 w1 : W24) (cs : List Cont) (extra : State → Nat) (act : State → State) (s : State) :
    State :=
  let ms := reqMsgs t w0 w1 cs
  if !(getQ 88 s).en then withdraw 88 o t w0.toNat none s
  else if (foldUp s || pairStopped 13 s) && canTake 88 ms s then
    let s := kTake o t (arrive 88 ms s)
    let st := if pairStopped 13 s || s.fold.recBad then stFAULT + (if t = 0x27 then 6 * 2 ^ 16 else 0)
              else if fld w0 3 0 ≠ o.val then stDENIED else extra s
    if st = stOK then act s else kDoneNow st s
  else if atHead 88 ms s then s else pushWait 88 ms s

/-- The fire instant a K_CLOSE carries (R337): the seconds whose low byte it gives, nearest the local clock's. -/
def fireOf (c : Cont) (s : State) : Nat :=
  let ns := c.1.toNat + fld c.2 5 0 * 2 ^ 24
  let now := clkSec s
  let d := (fld c.2 13 6 + 256 - now % 256) % 256
  let sec := if d < 128 then now + d else now + d - 256
  sec * 1000000000 + ns

/-- R16, R339: the refusal of a K_CLOSE before its step 1, with the cause it shows: a reserved bit; and, while another
close of the outlet is pending, the conditions of R311, SEALED and STALE before BUDGET. -/
def closeRefused (o : Nat) (rsv : Bool) (f : Option Nat) (s : State) : Nat :=
  if rsv then stDENIED
  else if (getFo o s).close.isNone then stOK
  else if closeBar o f false s ≠ 0 then stDENIED + closeBar o f false s * 2 ^ 16
  else refusal false false (isScrapped s) false (firePast f s) true

/-- K_CLOSE (R311, R312, R321, R337): an outlet engine asks the Fold to close. -/
def execKClose (o : Fin 8) (w0 w1 : W24) (conts : List Cont) (s : State) : Host.Outcome State Fault Refusal :=
  let pow := fld w0 4 4 == 1
  let fire (s : State) := if pow then (conts.head?.map fun c => fireOf c s) else none
  .next (kReq o 0x26 w0 w1 conts
    (fun s => closeRefused o (fld w0 23 5 != 0 || w1 != 0 || conts.length != b2n pow ||
      (conts.any fun c => fld c.2 23 14 != 0)) (fire s) s)
    (fun s =>
      let f := fire s
      let x := getFo o s
      let wait := decide (x.test ≠ 0) || decide (x.mask ≠ 0)
      let s := modFo o (fun x => { x with close := some ⟨f, wait, false⟩ }) s
      let s := if x.test = 1 then dropTest o s else s
      if wait then s else closeStep1 o s) s)

/-- CLOSE_FIRE (R311, R312, R268): at the fire instant the conditions hold again and both paths energise.  Where the
reference crossings have been lost, the close is not point-on-wave. -/
def execCloseFire (o : Fin 8) (s : State) : Host.Outcome State Fault Refusal :=
  match (getFo o s).close with
  | some r =>
    if (getFo o s).kst ≠ 1 ∨ r.fire.isNone ∨ r.wait ∨ energised o s ∨ !(foldUp s) then .next s
    else
      let c := closeBar o none true s
      if c ≠ 0 then .next (refuseClose o c s)
      else
        let lost := (crossings (rd (R.OUT_POW_REF o).eff s) s).length < 9
        let s := if lost then modOs o (fun x => { x with nopow := true }) s else s
        .next (energisePaths o s)
  | none => .next s

/-- KFB_CHANGE (R312 to R314): the mirror contact reads a new level, which confirms a close or an open.  In CLOSED the
samples that follow decide whether it is a drop-out (R313, `tickKfb`). -/
def execKfbChange (o : Fin 8) (isOpen : Bool) (s : State) : Host.Outcome State Fault Refusal :=
  let was := kfb o s
  let s := wrB (R.FOLD_KSTAT_KFB o) isOpen s
  let x := getFo o s
  if !(foldUp s) || was == isOpen then .next s
  else if x.kst = 1 ∧ !isOpen ∧ energised o s then
    .next (closeDone o stOK 0 (setKst o 2 (modFo o (fun x => { x with enable := kindOf o s == 3 }) s)))
  else if x.kst = 3 ∧ isOpen then .next (setKst o 4 s)
  else .next s

/-- CLOSE_TIMEOUT (R312): KFB has stayed at 1 through KTCL. -/
def execCloseTimeout (o : Fin 8) (s : State) : Host.Outcome State Fault Refusal :=
  let x := getFo o s
  if !(foldUp s) || x.kst != 1 || !(kfb o s) || !(x.close.any CloseReq.fired) then .next s
  else .next (closeDone o stFAULT 15 (setKst o 0 (paths o false false (incSat (R.FOLD_TRIPCNT_KFB o) s))))

/-- WELD_TIMEOUT (R313, R314): KFB still reads 0 after KTOP with both paths de-energised. -/
def execWeldTimeout (o : Fin 8) (s : State) : Host.Outcome State Fault Refusal :=
  let x := getFo o s
  if !(foldUp s) || kfb o s || flag (R.FOLD_KSTAT_KA o) s || flag (R.FOLD_KSTAT_KB o) s then
    .next s
  else
    let s := weldLatch o s
    if x.kst = 3 then .next (openOver o true s) else .next s

/-- POST_OPEN_CHECK_TIMEOUT (R314, R315): the voltage check has not passed within WELDT. -/
def execPostOpenCheckTimeout (o : Fin 8) (s : State) : Host.Outcome State Fault Refusal :=
  if !(foldUp s) || (getFo o s).kst != 4 then .next s else .next (openOver o true (weldLatch o s))

/-- K_OPEN (R314, R518): opens an outlet's contactors; a close in progress completes WITHDRAWN before it. -/
def execKOpen (o : Fin 8) (w0 w1 : W24) (s : State) : Host.Outcome State Fault Refusal :=
  .next (kReq o 0x27 w0 w1 []
    (fun s => refusal false (fld w0 23 4 != 0 || w1 != 0) (isScrapped s) false false (getFo o s).openReq)
    (fun s =>
      let s := openNow o none s
      if (getFo o s).kst = 0 then kDone o 0x27 stOK s else modFo o (fun x => { x with openReq := true }) s) s)

/-- HOLD_END (R263, R337): an outlet engine ends the Fold's pilot hold. -/
def execHoldEnd (o : Fin 8) (w0 w1 : W24) (s : State) : Host.Outcome State Fault Refusal :=
  .next (kReq o 0x2E w0 w1 []
    (fun s => refusal false (fld w0 23 4 != 0 || w1 != 0) (isScrapped s) false false false)
    (fun s => kDone o 0x2E stOK (holdOver o s)) s)

/-- PSTAGE_SET (R337): full, limited or stopped power of a DC power stage; it completes when the next frame has been
sent. -/
def execPstageSet (o : Fin 8) (w0 w1 : W24) (s : State) : Host.Outcome State Fault Refusal :=
  .next (kReq o 0x2F w0 w1 []
    (fun s => refusal false (fld w0 23 4 != 0 || fld w1 23 14 != 0 || fld w1 1 0 == 3) (isScrapped s) false false
      (getFo o s).pstWait)
    (fun s => modFo o (fun x => { x with pst := fld w1 1 0, plim := fld w1 13 2, pstWait := true }) s) s)

/-! ### Requests on Q89 and Q91 (R338, R339) -/

/-- The Fold staging area (R422). -/
def foldStage : Nat := 0x0C0000

/-- R303: bytes 0 to 65 of the staging area are cleared after a request that carries a password. -/
def pwCleared (s : State) : State := mramWr foldStage (List.replicate 66 0) s

/-- A request of TE0 on Q89 or of the host on Q91: `status` judges the state it is taken in, `pre` happens whatever
comes of it, `act` gets the state it is taken in and the state after `pre`. -/
def foldReq (te0 : Bool) (t : Nat) (w0 w1 : W24) (cs : List Cont) (pre : State → State) (status : State → Nat × Nat)
    (act : State → State → State) (s : State) : State :=
  let q := if te0 then 89 else 91
  takeReq q 0 t w0.toNat (reqMsgs t w0 w1 cs) (foldUp s || pairStopped 13 s) (fun s =>
    if pairStopped 13 s then foldReplyAs true te0 t w0.toNat 0 stFAULT s
    else if s.fold.recBad then
      foldReplyAs true te0 t w0.toNat 0 stFAULT (if !te0 && (t == 0x28 || t == 0x2A) then pwCleared s else s)
    else
      let st := status s
      let s1 := pre s
      if st.1 = stOK then act s s1 else foldReplyAs true te0 t w0.toNat st.2 st.1 s1) s

/-- The old (0) or new (1) password of the staging area: its length and its bytes. -/
def stagePw (k : Nat) (s : State) : Nat × List Byte :=
  let n := (mramRd s (foldStage + 33 * k)).toNat
  (n, mramRdN s (foldStage + 33 * k + 1) (min n 32))

/-- R303: a password's hash. -/
def pwHash (salt pw : List Byte) : List Byte := beBytes 32 (Config.sha256 (salt ++ pw)).toNat

/-- R303: 8 to 32 printable ASCII characters. -/
def pwGood (p : Nat × List Byte) : Bool := within 8 32 p.1 && p.2.all fun b => within 0x20 0x7E b.toNat

/-- R303: the old password matches. -/
def pwMatches (s : State) : Bool :=
  let p := stagePw 0 s
  decide (p.1 ≤ 32) && pwHash s.fold.salt p.2 == s.fold.hash

/-- R303: the length of the lock after `n` consecutive failures, in s. -/
def lockLen (n : Nat) : Nat := if n < 3 then 0 else min (60 * 2 ^ (n - 3)) 3600

/-- R303: the password examined: the count of failures and the lock after it. -/
def pwJudged (s : State) : State :=
  if s.fold.lock.isSome || s.fold.salt.isEmpty then s
  else if pwMatches s then saveFold (showF (modFold (fun F => { F with fails := 0, lock := none }) s))
  else
    let n := s.fold.fails + 1
    saveFold (showF (modFold (fun F => { F with fails := n, lock := if 3 ≤ n then some (lockLen n, s.now) else none }) s))

/-- R303: after a request that carries a password it is judged and cleared. -/
def pwUsed (s : State) : State := pwCleared (pwJudged s)

/-- The staged record. -/
def stagedRecord (s : State) : List Byte := mramRdN s (foldStage + 128) 532

/-- SAFE_CFG_LOAD (R302 to R305): checks the password and the record and stages it. -/
def execSafeCfgLoad (te0 : Bool) (w0 w1 : W24) (s : State) : Host.Outcome State Fault Refusal :=
  .next (foldReq te0 0x28 w0 w1 [] (fun s => if te0 then s else pwUsed s)
    (fun s => (refusal false (te0 || w0 != 0 || w1 != 0 || s.fold.salt.isEmpty || s.fold.lock.isSome || !(pwMatches s) ||
      !(recordOk (stagedRecord s))) (isScrapped s) false false (wiping s), 0))
    (fun s0 s =>
      let r := stagedRecord s0
      let c := rec4 r 528
      foldReply te0 0x28 w0.toNat (c % 2 ^ 16 * 256) stOK
        (wr R.FOLD_PENDCRC_CRC c (modFold (fun F => { F with staged := r }) s))) s)

/-- R328, R330: the connections of a newly committed record, and those of a start. -/
def initConns (s : State) : State :=
  forEach connIds (fun c s =>
    modConn c (fun _ => Conn.reset) (wr (R.FOLD_SCSTAT_STATE c) (if ckind c s = 0 then 0 else 3) s)) s

/-- R305, R306, R321: the record `r`, staged and committed, takes effect; a record staged since stays so.  A self-test that
runs takes on the kind that a close waits for. -/
def commitNow (r : List Byte) (s : State) : State :=
  let old := if s.fold.record.isEmpty then 0 else rec4 s.fold.record 528
  let staged := if s.fold.staged = r then [] else s.fold.staged
  let s := modFold (fun F => { F with record := r, staged := staged, commit := none, commitRec := [] }) s
  let s := wrs [(R.FOLD_CFGCRC_CRC, rec4 r 528), (R.FOLD_PENDCRC_CRC, if staged.isEmpty then 0 else rec4 staged 528)]
    (incSat R.FOLD_CFGLOG_CHG s)
  let s := logEvent 13 0x08 15 [old, rec4 r 528, rec4 r 4] s
  let s := forEach outlets (fun o s => modFo o (fun x =>
    { x with due := x.test == 0, test := if x.test = 0 then 0 else 2, insSt := 0, insZero := none }) s) s
  saveFold (showF (initConns s))

/-- SAFE_CFG_COMMIT (R305): commits the staged record, at once or once every contactor is OPEN. -/
def execSafeCfgCommit (te0 : Bool) (w0 w1 : W24) (conts : List Cont) (s : State) : Host.Outcome State Fault Refusal :=
  .next (foldReq te0 0x29 w0 w1 conts (fun s => s)
    (fun s =>
      let crc := w1.toNat + (conts.head?.map fun c => fld c.1 7 0).getD 0 * 2 ^ 24
      (refusal false (te0 || w0 != 0 || conts.length != 1 || (conts.any fun c => fld c.1 23 8 != 0 || c.2 != 0) ||
        s.fold.salt.isEmpty || s.fold.staged.isEmpty || crc != rd R.FOLD_PENDCRC_CRC s || outlets.any (shut · s))
        (isScrapped s) false false s.fold.commit.isSome, 0))
    (fun _ s =>
      if outlets.any (notOpen · s) then
        modFold (fun F => { F with commit := some ⟨te0, w0.toNat⟩, commitRec := F.staged }) s
      else foldReply te0 0x29 w0.toNat 0 stOK (commitNow s.fold.staged s)) s)

/-- CFG_COMMIT_DEFERRED (R305): a waiting commit takes effect once every outlet is OPEN. -/
def execCfgCommitDeferred (s : State) : Host.Outcome State Fault Refusal :=
  match s.fold.commit with
  | some w => if foldUp s && !(outlets.any (notOpen · s)) then .next (foldReply w.te0 0x29 w.w0 0 stOK (commitNow s.fold.commitRec s)) else .next s
  | none => .next s

/-- R303, R304: the new password of the staging area of `s0` takes the place of the old one; the salt is formed with
the first. -/
def setPw (s0 : State) (s : State) : State :=
  let first := s0.fold.salt.isEmpty
  let salt := if first then freeBytes s 16 else s0.fold.salt
  let s := if first then { s with freeCtr := s.freeCtr + 16 } else s
  let s := modFold (fun F => { F with salt := salt, hash := pwHash salt (stagePw 1 s0).2, fails := 0, lock := none }) s
  saveFold (showF (logEvent 13 0x09 15 [b2n first] s))

/-- SAFE_PWD (R303, R304): sets or changes the password. -/
def execSafePwd (te0 : Bool) (w0 w1 : W24) (s : State) : Host.Outcome State Fault Refusal :=
  .next (foldReq te0 0x2A w0 w1 [] (fun s => if te0 then s else pwUsed s)
    (fun s =>
      let bad := te0 || w0 != 0 || w1 != 0 || !(pwGood (stagePw 1 s)) ||
        (if s.fold.salt.isEmpty then (stagePw 0 s).1 != 0 else s.fold.lock.isSome || !(pwMatches s))
      (refusal false bad (isScrapped s) false false (wiping s), 0))
    (fun s0 s => foldReply te0 0x2A w0.toNat 0 stOK (setPw s0 s)) s)

/-- PWD_LOCK_EXPIRY (R303): the lock ends. -/
def execPwdLockExpiry (s : State) : Host.Outcome State Fault Refusal :=
  if s.fold.lock.isSome then .next (saveFold (modFold (fun F => { F with lock := none }) s)) else .next s

/-! ### FOLD_RESET (R519) and RC_TEST -/

/-- R322: idc and iac lie below half their thresholds. -/
def rcCalm (o : Nat) (s : State) : Bool :=
  let r := (getFo o s).ring
  let n : Int := r.length
  let sm := r.sum
  let q := (r.map fun a => a * a).sum
  let fs : Int := oRec2 o 8 s
  decide (0 < n) && decide (sm.natAbs * fs * 20 < oRec2 o 2 s * n * 2 ^ 53) &&
    decide (4 * (n * q - sm * sm) * (fs * 10) ^ 2 < (oRec2 o 4 s : Int) ^ 2 * n ^ 2 * 2 ^ 106)

/-- The code of the first latch of an outlet that does not meet its clearing condition; 0 where none. -/
def outletStuck (o : Nat) (s : State) : Nat :=
  let x := getFo o s
  if flag (R.FOLD_KSTAT_WELD o) s && !(kfb o s && voltsLow o s) then 6
  else if !x.rcLatch.isEmpty && !(rcCalm o s && x.passed) then 5
  else if flag (R.FOLD_KSTAT_ISOF o) s && !x.insGood then 7
  else if x.kfbLatch && !(kfb o s) then 15
  else 0

def anyLatch (o : Nat) (s : State) : Bool :=
  flag (R.FOLD_KSTAT_WELD o) s || flag (R.FOLD_KSTAT_ISOF o) s || !(getFo o s).rcLatch.isEmpty || (getFo o s).kfbLatch

/-- The code of a module latch that does not meet its condition; 0 where none. -/
def moduleStuck (s : State) : Nat :=
  let F := s.fold
  if (F.estop || F.estopDisc) && !(F.eClear.ready (flag R.FOLD_FSTAT_ESTA s) (flag R.FOLD_FSTAT_ESTB s) s.now) then 3
  else if (F.door || F.doorDisc) && !(F.dClear.ready (flag R.FOLD_FSTAT_DOORA s) (flag R.FOLD_FSTAT_DOORB s) s.now) then 4
  else 0

/-- The numbers of the bits set in a mask of eight. -/
def maskList (m : Nat) : List Nat := outlets.filter fun o => m.testBit o

/-- A mask of eight from a test. -/
def maskOf (f : Nat → Bool) : Nat := outlets.foldl (fun m o => if f o then m + 2 ^ o else m) 0

/-- Clear every latch of an outlet. -/
def clearOutlet (o : Nat) (s : State) : State :=
  let s := modFo o (fun x => { x with rcLatch := [], kfbLatch := false, insBad := 0 }) s
  let s := if flag (R.FOLD_KSTAT_ISOF o) s then wr (R.FOLD_ISOVAL_ISTATE o) (getFo o s).insNow s else s
  showK o (wrs [(R.FOLD_KSTAT_WELD o, 0), (R.FOLD_KSTAT_ISOF o, 0)] s)

/-- FOLD_RESET (R519): clears every latch it names, or none. -/
def execFoldReset (te0 : Bool) (w0 w1 : W24) (s : State) : Host.Outcome State Fault Refusal :=
  let named := maskList (fld w1 7 0)
  let modul := fld w1 8 8 == 1
  .next (foldReq te0 0x2B w0 w1 [] (fun s => s)
    (fun s =>
      let stuck := maskOf fun o => decide (o ∈ named) && outletStuck o s != 0
      let cause := match named.find? fun o => outletStuck o s != 0 with
        | some o => outletStuck o s
        | none => if modul then moduleStuck s else 0
      let rsv := w0 != 0 || fld w1 23 10 != 0
      let st := refusal false (rsv || cause != 0) (isScrapped s) false false false
      (st, if rsv then 0 else stuck * 2 ^ 8 + cause * 2 ^ 16))
    (fun _ s =>
      let s := forEach named clearOutlet s
      let s := if modul then modFold (fun F => { F with estop := false, estopDisc := false, door := false, doorDisc := false }) s
               else s
      let s := if fld w1 9 9 = 1 then
          forEach connIds (fun c s =>
            if rd (R.FOLD_SCSTAT_STATE c) s = 2 then wr (R.FOLD_SCSTAT_STATE c) 3 s
            else if ckind c s = 1 ∨ ckind c s = 3 then modConn c (fun x => { x with start := true }) s
            else s) s
        else s
      let s := showF (logFold 15 1 0 w1.toNat s)
      let safe := connIds.any fun c => rd (R.FOLD_SCSTAT_STATE c) s == 2
      foldReply te0 0x2B w0.toNat
        (maskOf (fun o => anyLatch o s) * 2 ^ 8 + b2n (moduleLatched s) * 2 ^ 16 + b2n safe * 2 ^ 17) stOK s) s)

/-- RC_TEST (R321, R338): runs the self-test on open outlets. -/
def execRcTest (te0 : Bool) (w0 w1 : W24) (s : State) : Host.Outcome State Fault Refusal :=
  let named := maskList (fld w1 7 0)
  .next (foldReq te0 0x2D w0 w1 [] (fun s => s)
    (fun s => (refusal false (w0 != 0 || fld w1 23 8 != 0 || named.any fun o => notOpen o s || kindOf o s == 0)
      (isScrapped s) false false (s.fold.rcReq.any fun e => named.any e.2.2.1.testBit), 0))
    (fun _ s =>
      if named = [] then foldReply te0 0x2D w0.toNat 0 stOK s
      else
        let m := fld w1 7 0
        forEach named (fun o s => startTest o 2 true s)
          (modFold (fun F => { F with rcReq := F.rcReq ++ [(⟨te0, w0.toNat⟩, m, m, 0)] }) s)) s)

/-! ### Residual current (R317 to R322) -/

/-- R298, R317: the calibrated value of a sample of channel 12 or 13 by the PD1 copy, in units of 2^−53. -/
def pd1Cal (o c : Nat) (y : Int) (s : State) : Int :=
  let k := (getFo o s).cal.getD (rd (R.MET_TEMP_BAND o) s + if c = 13 then 8 else 0) (0, 0)
  (k.1 : Int) * (y - k.2 * 256)

/-- A sample message's value and status word. -/
def msgSample (m : Msg) : Int × Nat := (sext 24 m.w0.toNat * 256 + fld m.w1 23 16, fld m.w1 15 0)

/-- Channel 13's samples among messages: kept for the insulation monitoring (R323). -/
def noteV13 (o : Nat) (ms : List Msg) (s : State) : State :=
  let n := privRate o 13 s * oRec2 o 24 s / 4000
  let xs := ms.filterMap fun m =>
    if m.typ == 0x61 && fld m.w1 3 0 == 13 && bits (fld m.w1 15 0) 10 9 == 0 then some (pd1Cal o 13 (msgSample m).1 s)
    else none
  modFo o (fun x => { x with v13 := (xs.reverse ++ x.v13).take n }) s

/-- R318: the evaluation of the window: idc and iac in RCVAL, and the causes of a trip. -/
def rcJudge (o : Nat) (s : State) : State × List Nat :=
  let r := (getFo o s).ring
  let n : Int := r.length
  let sm := r.sum
  let q := (r.map fun a => a * a).sum
  let fs : Int := oRec2 o 8 s
  let var := n * q - sm * sm
  let idc := divRound (sm * fs * 100) (r.length * 2 ^ 53)
  let iac := Nat.sqrt ((var * (fs * 100) ^ 2 / (n ^ 2 * 2 ^ 106)).toNat)
  let s := wrs [(R.FOLD_RCVAL_IDC o, toU 16 (satS 16 idc)), (R.FOLD_RCVAL_IAC o, min iac 65535)] s
  let causes :=
    (if oRec2 o 2 s * n * 2 ^ 53 ≤ sm.natAbs * fs * 10 then [4] else []) ++
    (if (oRec2 o 4 s : Int) ^ 2 * n ^ 2 * 2 ^ 106 ≤ var * (fs * 10) ^ 2 then [5] else []) ++
    (if (oRec2 o 6 s : Int) * 2 ^ 53 ≤ (r.headD 0).natAbs * fs then [6] else [])
  (s, causes)

/-- R341: of the causes that one sample shows, the first trips the outlet, and every one latches. -/
def rcTrips (o : Nat) (causes : List Nat) (s : State) : State :=
  match causes with
  | [] => s
  | c :: rest => rcTrip o c (forEach rest (fun c => modFo o (fun x =>
      { x with rcLatch := if c ∈ x.rcLatch then x.rcLatch else x.rcLatch ++ [c], passed := false })) s)

/-- One NORMAL sample of channel 12 (R318, R321). -/
def rcFeed (o : Nat) (y : Int) (sw : Bool) (s : State) : State :=
  let a := pd1Cal o 12 y s
  let w := rcWin o s
  let s := modFo o (fun x => { x with ring := (a :: if sw then [] else x.ring).take w, noNorm := 0, seen := true,
                                      mask := if x.test = 0 then x.mask - 1 else x.mask }) s
  let x := getFo o s
  let r := rcJudge o s
  let s := r.1
  if decide (x.test ≠ 0) || decide (x.mask ≠ 0) then s
  else
    let s := rcTrips o r.2 s
    match (getFo o s).close with
    | some c => if c.wait then closeStep1 o s else s
    | none => s

/-- RC_SAMPLE (R317, R318, R322): the Fold takes the next sample of channel 12 from the outlet's stream. -/
def execRcSample (o : Fin 8) (s : State) : Host.Outcome State Fault Refusal :=
  if !(foldUp s) then .next s
  else
    let q := 40 + o.val
    let ms := (getQ (qn q) s).ent.map Prod.snd
    let is12 (m : Msg) : Bool := m.typ == 0x61 && fld m.w1 3 0 == 12
    let pre := ms.takeWhile fun m => !(is12 m)
    let s := noteV13 o pre s
    match (ms.drop pre.length).head? with
    | none => .next (takeN q pre.length s)
    | some m =>
      let s := takeN q (pre.length + 1) s
      let (y, st) := msgSample m
      if kindOf o s = 0 then .next s
      else if bits st 10 9 = 0 then .next (rcFeed o y (st.testBit 12) s)
      else
        let s := modFo o (fun x => { x with noNorm := x.noNorm + 1 }) s
        if shut o s && !(monOk o s) then .next (rcTrip o 7 s) else .next s

/-- RC_SELFTEST_START (R321): a due self-test applies the 8 mA offset to an open outlet. -/
def execRcSelftestStart (o : Fin 8) (s : State) : Host.Outcome State Fault Refusal :=
  let x := getFo o s
  if !(foldUp s) || kindOf o s == 0 || notOpen o s || !(flag (R.FLT_CHCFG_EN o 12) s) then .next s
  else .next (startTest o (if x.due then 2 else 1) false s)

/-- RC_SELFTEST_END (R321, R322): after 60 ms idc decides. -/
def execRcSelftestEnd (o : Fin 8) (s : State) : Host.Outcome State Fault Refusal :=
  let x := getFo o s
  if !(foldUp s) || x.test == 0 then .next s
  else
    let n : Int := x.ring.length
    let i := x.ring.sum * (oRec2 o 8 s : Int) * 10
    let pass := decide (0 < n) && decide (72 * n * 2 ^ 53 ≤ i ∧ i ≤ 88 * n * 2 ^ 53)
    let s := dropTest o s
    let s := if pass then wr (R.FOLD_KSTAT_RCTOK o) 1 (modFo o (fun x => { x with passed := true, excBad := false }) s)
             else rcTrip o 7 s
    .next (if x.testRc then rcTestDone o pass s else s)

/-- RCTOK_EXPIRY (R311, R342): 60 s have passed since the last pass. -/
def execRctokExpiry (o : Fin 8) (s : State) : Host.Outcome State Fault Refusal := .next (wr (R.FOLD_KSTAT_RCTOK o) 0 s)

/-- EXCITER_FAULT (R322): the exciter current has been out of range for 2 ms. -/
def execExciterFault (o : Fin 8) (s : State) : Host.Outcome State Fault Refusal :=
  if !(foldUp s) then .next s
  else
    let s := modFo o (fun x => { x with excBad := true }) s
    if shut o s then .next (rcTrip o 7 s) else .next s

/-! ### Insulation (R323 to R325) -/

/-- The mean of a list of integers, 0 for none. -/
def meanR (xs : List Int) : Rat := if xs.length = 0 then 0 else (xs.sum : Rat) / xs.length

/-- R323: U1, U2 in V and Ik in A over the last quarter of a bridge state. -/
def insMean (o : Nat) (s : State) : Rat × Rat × Rat :=
  let x := getFo o s
  let fs := (x.tap.take (2 * oRec2 o 24 s)).filterMap fun f =>
    (tapNormal (f.getD 0 none)).bind fun a => (tapNormal (f.getD 1 none)).map fun b => (a, b)
  let v : Rat := (oRec2 o 10 s : Rat) / 2 ^ 23
  (meanR (fs.map Prod.fst) * v, meanR (fs.map Prod.snd) * v,
    meanR x.v13 * oRec4 o 28 s / (2 ^ 53 * 1000 * oRec2 o 26 s))

def absR (x : Rat) : Rat := if x < 0 then -x else x

/-- R325: a result: class 1 OK, 2 WARN, 3 FAULT; two FAULT results in a row latch and trip. -/
def insResult (o cls : Nat) (s : State) : State :=
  let bad := if cls = 3 then (getFo o s).insBad + 1 else 0
  let s := modFo o (fun x => { x with insBad := bad, insGood := cls != 3, insNow := if cls = 3 then x.insNow else cls }) s
  let latched := flag (R.FOLD_KSTAT_ISOF o) s
  if cls = 3 then
    if 2 ≤ bad ∧ !latched then
      let s := wrs [(R.FOLD_KSTAT_ISOF o, 1), (R.FOLD_ISOVAL_ISTATE o, 3)] (incSat (R.FOLD_TRIPCNT_ISO o) s)
      foldTrip o 8 (modFo o (fun x => { x with deadline := x.kst != 0 }) s)
    else s
  else
    let s := if latched then s else wr (R.FOLD_ISOVAL_ISTATE o) cls s
    if cls = 2 then foldTrip o 15 s else s

/-- R324, R325: the end of a switched state: from U1 and U2 of the state 0 before it and the switched values. -/
def insCompute (o : Nat) (u1 u2 u1s u2s iks : Rat) (s : State) : State :=
  let det := u1 * u2s - u2 * u1s
  let u := absR (u1 - u2)
  if absR det * 100 < u * u ∨ det = 0 then s
  else
    let gp := u2 * iks / det
    let gn := -u1 * iks / det
    if gp < 0 ∨ gn < 0 then s
    else
      let g := gp + gn
      let rk := if g = 0 then 2 ^ 24 - 1 else min (((1 / g) / 1000).floor.toNat) (2 ^ 24 - 1)
      let s := wr (R.FOLD_ISOVAL_RF o) rk s
      let below (lim : Rat) : Bool := decide (g ≠ 0 ∧ 1 < lim * u * g)
      insResult o (if below (oRec2 o 22 s) then 3 else if below (oRec2 o 20 s) then 2 else 1) s

/-- INS_STEP (R323 to R325): the insulation bridge ends a state, computes a result and moves on. -/
def execInsStep (o : Fin 8) (s : State) : Host.Outcome State Fault Refusal :=
  if !(foldUp s) || kindOf o s != 3 then .next s
  else
    let x := getFo o s
    let (u1, u2, ik) := insMean o s
    if absR (u1 - u2) < 50 then
      let s := modFo o (fun x => { x with insSt := 0, insZero := none, insBad := 0, insNow := 0 }) s
      .next (if flag (R.FOLD_KSTAT_ISOF o) s then s else wr (R.FOLD_ISOVAL_ISTATE o) 0 s)
    else
      let sw := x.insSt % 2 = 1
      let imdf := x.calBad || if sw then decide (absR ik < 5 / 1000000) else decide (1 / 1000000 < absR ik)
      let s := modFo o (fun x => { x with insSt := (x.insSt + 1) % 4, insZero := if sw then none else some (u1, u2) }) s
      if imdf then .next (insResult o 3 (wr (R.FOLD_ISOVAL_IMDF o) 1 s))
      else if sw then
        match x.insZero with
        | some (a, b) => .next (insCompute o a b u1 u2 ik (wr (R.FOLD_ISOVAL_IMDF o) 0 s))
        | none => .next s
      else .next s

/-- FOLD_OPEN_DEADLINE (R310, R325, R341): contactors still closed 5 s after an ISO or door trip; during a pilot hold the
open is recorded. -/
def execFoldOpenDeadline (o : Fin 8) (s : State) : Host.Outcome State Fault Refusal :=
  let x := getFo o s
  if !(foldUp s) || !x.deadline then .next s
  else
    let s := modFo o (fun x => { x with deadline := false }) s
    if shut o s then
      .next (whenS (x.hold != 0) (holdReport o 3) (openNow o (some (if flag (R.FOLD_KSTAT_ISOF o) s then 8 else 3)) s))
    else .next s

/-! ### Safety frames (R326 to R332) -/

/-- The local clock's millisecond. -/
def clkMs (s : State) : Nat := s.clock / (1000000 * 2 ^ 40)

/-- R331: the payload of an outgoing connection. -/
def connPayload (c : Nat) (s : State) : List Byte :=
  if ckind c s = 1 then
    let os := outlets.filter fun o => covers c o s
    let lim := os.filterMap fun o => if (getFo o s).pst = 0 then none else some (if (getFo o s).pst = 1 then (getFo o s).plim else 0)
    leBytes 1 (maskOf fun o => decide (o ∈ os) && (getFo o s).enable) ++
      leBytes 1 (maskOf fun o => decide (o ∈ os) && (getFo o s).pst == 0) ++
      leBytes 2 (lim.foldl min (if lim.isEmpty then 0 else 65535))
  else
    let e := !s.fold.estop && !s.fold.estopDisc && flag R.FOLD_FSTAT_ESTA s && flag R.FOLD_FSTAT_ESTB s
    let d := !s.fold.door && !s.fold.doorDisc && flag R.FOLD_FSTAT_DOORA s && flag R.FOLD_FSTAT_DOORB s
    leBytes 1 (b2n e + 2 * b2n d) ++ [0]

/-- R327: the check value of a frame's bytes on connection `c`. -/
def frameCheck (c : Nat) (bs : List Byte) (s : State) : Nat :=
  safeCrc ((s.fold.record.drop (272 + 16 * c + 4)).take 4 ++ bs)

/-- SFRAME_TX (R326 to R328, R331, R332): a sender transmits its frame. -/
def execSframeTx (c : Fin 16) (s : State) : Host.Outcome State Fault Refusal :=
  let k := ckind c s
  if !(foldUp s) || s.fold.record.isEmpty || !(k == 1 || k == 3) then .next s
  else
    let x := getConn c s
    let seq := if x.start then (freeNow 32 s).toNat else (x.seq + 1) % 2 ^ 32
    let s := if x.start then nextFree s else s
    let pay := connPayload c s
    let body := leBytes 4 seq ++ leBytes 2 (clkMs s + cRec2 c 10 s) ++ leBytes 1 (if x.start then 2 else 1) ++
      leBytes 1 pay.length ++ pay
    let fr := body ++ leBytes 4 (frameCheck c body s)
    let tr := cRec1 c 1 s
    let s := modConn c (fun x => { x with seq := seq, start := false, pay := pay }) s
    let s := wrs [(R.FOLD_SCSTAT_STATE c, 1), (R.FOLD_SCSEQ_SEQ c, seq)] s
    let m := mkMsg 0x44 (c + (if tr = 8 then 0 else tr * 16)) fr.length
    let s := ringGo 93 (pushAll (if tr = 8 then 92 else 93) 0 m (bytesToConts ((fr.length + 5) / 6) fr) s)
    .next (if k = 1 then
      forEach outlets (fun o s =>
        if covers c o s && (getFo o s).pstWait then kDone o 0x2F stOK (modFo o (fun x => { x with pstWait := false }) s)
        else s) s
      else s)

/-- R331, R340: an accepted payload: PSTAGE_STATUS on a change, a lost HEALTHY, a hold's end of current, an emergency
stop of a peer. -/
def payloadTaken (c : Nat) (old : List Byte) (run : Bool) (s : State) : State :=
  if ckind c s = 2 then
    forEach outlets (fun o s =>
      if !(covers c o s) then s
      else
        let p := connPay c s
        let b (l : List Byte) (i : Nat) : Bool := (rec1 l i).testBit o
        let s := pstageStatus c o old run s
        let s := if b old 2 && !(b p 2) && shut o s then tripOutlet o 12 s else s
        if (getFo o s).hold = 2 ∧ b p 1 ∧ shut o s then openNow o none (modFo o (fun x => { x with hold := 3 }) s) else s) s
  else if ckind c s = 4 ∧ (rec2 s.fold.record 12).testBit c ∧ !((rec1 (connPay c s) 0).testBit 0) ∧
      rd (R.FOLD_SCSTAT_STATE c) s = 1 then emergencyStop s
  else s

/-- R329, R330: a frame of connection `c` at the receiver. -/
def frameIn (c : Nat) (fr : List Byte) (s : State) : State :=
  let n := rec1 fr 7
  let st := rd (R.FOLD_SCSTAT_STATE c) s
  let good := decide (n ≤ 16) && fr.length == 12 + n && rec4 fr (8 + n) == frameCheck c (fr.take (8 + n)) s
  if !good then
    let at_ := s.now :: (getConn c s).crcAt.filter fun t => decide (s.now < t + 10000000)
    let s := modConn c (fun x => { x with crcAt := at_ }) (incSat (R.FOLD_SCSTAT_CRCERR c) s)
    if 3 ≤ at_.length ∧ st ≠ 2 then enterSafe c s else s
  else
    let seq := rec4 fr 0
    let d := (seq + 2 ^ 32 - (getConn c s).seq) % 2 ^ 32
    let start := rec1 fr 6 = 2
    let timeOk := decide ((rec2 fr 4 + 2 ^ 16 - clkMs s % 2 ^ 16) % 2 ^ 16 ≤ cRec2 c 10 s + 2) && clkStatus s != 0 && !s.fold.timeBad
    let ahead := decide (1 ≤ d ∧ d ≤ 16) && st != 3
    if !(timeOk && (ahead || (start && st == 3))) then incSat (R.FOLD_SCSTAT_STALE c) s
    else
      let old := connPay c s
      let s := if ahead then addSat (R.FOLD_SCSTAT_LOST c) (d - 1) s else s
      let s := modConn c (fun x => { x with seq := seq, pay := (fr.drop 8).take n }) (wr (R.FOLD_SCSEQ_SEQ c) seq s)
      let s := if st = 3 ∧ start then wr (R.FOLD_SCSTAT_STATE c) 1 s else s
      payloadTaken c old (st == 1) s

/-- SFRAME_IN (R329 to R332): a safety frame reaches the Fold on Q91 (`host`) or Q94; `bytes` is the frame its
continuations carry. -/
def execSframeIn (host : Bool) (w0 w1 : W24) (bytes : List Byte) (s : State) : Host.Outcome State Fault Refusal :=
  let q := if host then 91 else 94
  let cs := bytesToConts ((bytes.length + 5) / 6) bytes
  let ms := reqMsgs 0x45 w0 w1 cs
  let c := fld w0 3 0
  if !(getQ (qn q) s).en then .next (pushDisabled q 0 ⟨0x45, w0, w1⟩ s)
  else if !(foldUp s && canTake q ms s) then .next (if atHead q ms s then s else pushWait q ms s)
  else
    let s := arrive q ms s
    if s.fold.record.isEmpty || !(ckind c s == 2 || ckind c s == 4) then .next s
    else .next (frameIn c (bytes.take (fld w1 4 0)) s)

/-- CONNECTION_WATCHDOG (R330): no frame has been accepted for WD. -/
def execConnectionWatchdog (c : Fin 16) (s : State) : Host.Outcome State Fault Refusal :=
  let st := rd (R.FOLD_SCSTAT_STATE c) s
  if foldUp s && (ckind c s == 2 || ckind c s == 4) && (st == 1 || st == 3) then .next (enterSafe c s) else .next s

end Sys2Proof.Machine
end

