-- ==== Sys2Proof/Machine/LoadSw.lean ====
section
/-!
DEFINITION. The protected load switches (R469 to R480).
-/
namespace Sys2Proof.Machine

def chans16 : List Nat := List.range 16

def getLs (c : Nat) (s : State) : LsChan := vget s.lsw.ch (en c)
def modLs (c : Nat) (f : LsChan → LsChan) (s : State) : State :=
  { s with lsw := { s.lsw with ch := vset s.lsw.ch (en c) (f (getLs c s)) } }

def lsState (c : Nat) (s : State) : Nat := rd (R.LSW_LSSTAT_STATE c) s

/-- The channel conducts: BLANKING or ON. -/
def lsIsOn (c : Nat) (s : State) : Bool := lsState c s == 1 || lsState c s == 2

/-- R478: LS_EVENT.  TE0 takes the event and forwards it; while it does not run (R479), or billing events wait in it (R34),
both wait. -/
def lsEvent (c kind cause i : Nat) (s : State) : State :=
  let w := c + kind * 2 ^ 4 + cause * 2 ^ 8
  if te0Up s && !(billingWaits s) then pushQ 8 0 (mkMsg 0x5A w i) s
  else modEng 0 (fun e => { e with evHw := true }) { s with lsw := { s.lsw with wait := s.lsw.wait ++ [(w, i)] } }

/-- R479: TE0 is back and forwards what has waited. -/
def lsFlush (s : State) : State :=
  let l := s.lsw.wait
  forEach l (fun e => pushQ 8 0 (mkMsg 0x5A e.1 e.2)) { modEng 0 (fun e => { e with evHw := false }) s with lsw := { s.lsw with wait := [] } }

/-- R476, R478, R479: a test that is cut short ends without a pass. -/
def lsTestCut (c i : Nat) (s : State) : State :=
  if !(getLs c s).testing then s
  else lsEvent c 5 0 i (wr (R.LSW_LSTEST_DONE c) 1 (modLs c (fun x => { x with testing := false }) s))

/-- R471: the channel latches off; a channel that is latched keeps its cause (R479), and one under test ends the test.  A
retry is to come after SC and OC while the allowance of R475 lasts. -/
def lsLatch (c cause i : Nat) (s : State) : State :=
  if lsState c s = 3 then s
  else
    let s := lsTestCut c i s
    let s := wrs [(R.LSW_LSSTAT_STATE c, 3), (R.LSW_LSSTAT_CAUSE c, cause)] s
    let s := if cause = 1 then incSat (R.LSW_LSCNT_SC c) s else if cause = 2 then incSat (R.LSW_LSCNT_OC c) s
      else if cause = 3 then incSat (R.LSW_LSCNT_THERM c) s else s
    let again := (cause == 1 || cause == 2) && decide ((lsRetries c s).length < rd (R.LSW_LSCFG_RETRY c) s)
    lsEvent c 0 cause i (modLs c (fun x => { x with due := again, ready := false }) s)

/-- R472: the channel is switched on with a fresh blanking window. -/
def lsSwitchOn (c : Nat) (s : State) : State :=
  wrs [(R.LSW_LSSTAT_STATE c, 1), (R.LSW_LSSTAT_EXT c, 0)] s

/-- R34, R470: comfort class. -/
def lsComfort (c : Nat) (s : State) : Bool := !(flag (R.LSW_LSCFG_CLASS c) s)

def lsShed (s : State) : Bool := flag R.LSW_GSTAT_SHED s

/-- R476: the conditions of BUDGET that hold for every access to LSCTL. -/
def lsBudget (c : Nat) (s : State) : Bool :=
  lsShed s || warned s || !(pdOn 10 s) ||
  (lsComfort c s && rd (R.LSW_LSSTAT_CAUSE c) s == 6 && decide (160 < junction s)) ||
  (lsState c s == 3 && rd (R.LSW_LSSTAT_CAUSE c) s == 3 && decide (185 < rd (R.LSW_LSSTAT_TEMP c) s))

/-- R39, R476: one channel at a time; an essential channel only while its outlet is out of service. -/
def lsTestBarred (c : Nat) (s : State) : Bool :=
  (chans16.any fun d => (getLs d s).testing) ||
  (!(lsComfort c s) && !(outOfService (rd (R.LSW_LSCFG_OUTLET c) s) s))

/-- R476, R477, R480: a write of LSCTL. -/
def lsctlSet (c v : Nat) (s : State) : State × Nat :=
  let on := v.testBit 0
  let clr := v.testBit 1
  let test := v.testBit 2
  if clr then
    let st := refusal false false false false false (lsBudget c s)
    if st ≠ stOK then (s, st)
    else
      let s := wrs [(R.LSW_LSCTL_ON c, 0), (R.LSW_LSSTAT_STATE c, 0)] (lsTestCut c 0 s)
      (modLs c (fun x => { x with due := false, ready := false }) s, stOK)
  else if test then
    let st := refusal (lsState c s == 3) (flag (R.LSW_LSCTL_ON c) s || on) false false false
      (lsBudget c s || lsTestBarred c s)
    if st ≠ stOK then (s, st)
    else
      let s := wrs [(R.LSW_LSTEST_DONE c, 0), (R.LSW_LSTEST_PASS c, 0), (R.LSW_LSTEST_OPEN c, 0),
        (R.LSW_LSTEST_SGND c, 0), (R.LSW_LSTEST_SVLS c, 0)] s
      (modLs c (fun x => { x with testing := true }) s, stOK)
  else if on then
    let st := refusal (lsState c s == 3) false false false false (lsBudget c s)
    if st ≠ stOK then (s, st)
    else
      let s := wr (R.LSW_LSCTL_ON c) 1 s
      ((if lsState c s = 0 ∧ !(getLs c s).testing then lsSwitchOn c s else s), stOK)
  else
    let s := wr (R.LSW_LSCTL_ON c) 0 s
    (whenS (lsIsOn c s) (wr (R.LSW_LSSTAT_STATE c) 0) s, stOK)

/-- R476: a write of LSCFG. -/
def lscfgSet (c v : Nat) (s : State) : State × Nat :=
  if flag (R.LSW_LSCTL_ON c) s then (s, stDENIED)
  else (wrs [(R.LSW_LSCFG_OCTHR c, v), (R.LSW_LSCFG_BLANK c, v / 2 ^ 5), (R.LSW_LSCFG_OLTHR c, v / 2 ^ 12),
    (R.LSW_LSCFG_CLASS c, v / 2 ^ 17), (R.LSW_LSCFG_OUTLET c, v / 2 ^ 18), (R.LSW_LSCFG_OLEN c, v / 2 ^ 21),
    (R.LSW_LSCFG_RETRY c, v / 2 ^ 22)] s, stOK)

def lsctlAddr (c : Nat) : Nat := 0x1F000004 + c * 0x100

/-- LS_ON (R476): a write of LSCTL. -/
def execLsOn (c : Fin 16) (v : W32) (s : State) : Host.Outcome State Fault Refusal :=
  .next (hostWrite (lsctlAddr c) v.toNat (lsctlSet c v.toNat) s)

/-- LS_CLEAR (R476): a write of LSCTL. -/
def execLsClear (c : Fin 16) (v : W32) (s : State) : Host.Outcome State Fault Refusal :=
  .next (hostWrite (lsctlAddr c) v.toNat (lsctlSet c v.toNat) s)

/-- LS_TEST (R477): a write of LSCTL. -/
def execLsTest (c : Fin 16) (v : W32) (s : State) : Host.Outcome State Fault Refusal :=
  .next (hostWrite (lsctlAddr c) v.toNat (lsctlSet c v.toNat) s)

/-- LS_TEST_END (R477, R478). -/
def execLsTestEnd (c : Fin 16) (isOpen shortGnd shortVls responds : Bool) (s : State) : Host.Outcome State Fault Refusal :=
  if !(getLs c s).testing then .next s
  else
    let s := wrs [(R.LSW_LSTEST_DONE c, 1), (R.LSW_LSTEST_PASS c, b2n (!isOpen && !shortGnd && !shortVls && responds)),
      (R.LSW_LSTEST_OPEN c, b2n isOpen), (R.LSW_LSTEST_SGND c, b2n shortGnd), (R.LSW_LSTEST_SVLS c, b2n shortVls)] s
    let s := lsEvent c 5 0 (rd (R.LSW_LSMEAS_I c) s) (modLs c (fun x => { x with testing := false }) s)
    .next (whenS (flag (R.LSW_LSCTL_ON c) s && lsState c s == 0) (lsSwitchOn c) s)

/-- LS_SHORT_CIRCUIT (R471): at any time while the channel conducts, in a test too. -/
def execLsShortCircuit (c : Fin 16) (i : BitVec 14) (s : State) : Host.Outcome State Fault Refusal :=
  let s := wr (R.LSW_LSMEAS_I c) i.toNat s
  .next (whenS (lsIsOn c s || (getLs c s).testing) (lsLatch c 1 i.toNat) s)

/-- LS_OVERCURRENT (R471, R472, R477): outside the blanking window; in a test the threshold is 0.5 A. -/
def execLsOvercurrent (c : Fin 16) (i : BitVec 14) (s : State) : Host.Outcome State Fault Refusal :=
  let s := wr (R.LSW_LSMEAS_I c) i.toNat s
  let thr := if (getLs c s).testing then 500 else 250 * (rd (R.LSW_LSCFG_OCTHR c) s + 1)
  .next (whenS ((lsState c s == 2 || (getLs c s).testing) && decide (thr < i.toNat)) (lsLatch c 2 i.toNat) s)

/-- LS_THERMAL (R471): 165 °C. -/
def execLsThermal (c : Fin 16) (temp : Byte) (s : State) : Host.Outcome State Fault Refusal :=
  let s := wr (R.LSW_LSSTAT_TEMP c) temp.toNat s
  .next (whenS (decide (205 ≤ temp.toNat) && pdOn 10 s) (fun s => lsLatch c 3 (rd (R.LSW_LSMEAS_I c) s) s) s)

/-- LS_UNDERVOLTAGE (R471): every channel that is on. -/
def execLsUndervoltage (vls : BitVec 16) (s : State) : Host.Outcome State Fault Refusal :=
  let s := wr R.LSW_GVLS_V vls.toNat s
  .next (forEach chans16 (fun c s => whenS (lsIsOn c s && decide (vls.toNat < 8500))
    (fun s => lsLatch c 7 (rd (R.LSW_LSMEAS_I c) s) s) s) s)

/-- VLS_DROOP (R473): channels in their window restart it, once per switch-on. -/
def execVlsDroop (vls : BitVec 16) (s : State) : Host.Outcome State Fault Refusal :=
  let s := incSat R.LSW_GVLS_DROOPS (wr R.LSW_GVLS_V vls.toNat s)
  .next (forEach chans16 (fun c s => whenS (lsState c s == 1 && !(flag (R.LSW_LSSTAT_EXT c) s))
    (fun s => lsEvent c 4 0 (rd (R.LSW_LSMEAS_I c) s) (wr (R.LSW_LSSTAT_EXT c) 1 s)) s) s)

/-- BLANK_END (R472). -/
def execBlankEnd (c : Fin 16) (s : State) : Host.Outcome State Fault Refusal :=
  .next (whenS (lsState c s == 1) (wr (R.LSW_LSSTAT_STATE c) 2) s)

/-- OPEN_LOAD (R474). -/
def execOpenLoad (c : Fin 16) (i : BitVec 14) (s : State) : Host.Outcome State Fault Refusal :=
  let s := wr (R.LSW_LSMEAS_I c) i.toNat s
  let thr := 5 * (rd (R.LSW_LSCFG_OLTHR c) s + 1)
  if lsState c s ≠ 2 ∨ !(flag (R.LSW_LSCFG_OLEN c) s) then .next s
  else if i.toNat < thr ∧ !(flag (R.LSW_LSSTAT_OL c) s) then
    .next (lsEvent c 2 0 i.toNat (incSat (R.LSW_LSCNT_OL c) (wr (R.LSW_LSSTAT_OL c) 1 s)))
  else if thr < i.toNat ∧ flag (R.LSW_LSSTAT_OL c) s then
    .next (lsEvent c 3 0 i.toNat (wr (R.LSW_LSSTAT_OL c) 0 s))
  else .next s

/-- R475: the channel switches itself on again. -/
def lsRetryNow (c : Nat) (s : State) : State :=
  let s := modLs c (fun x => { x with due := false, ready := false, retries := s.now :: lsRetries c s }) s
  lsEvent c 1 0 (rd (R.LSW_LSMEAS_I c) s) (lsSwitchOn c s)

/-- R34, R475: the channel is latched, a retry is to come, and the channel is still demanded on; a comfort channel above
125 °C is switched on by software alone. -/
def lsRetryDue (c : Nat) (s : State) : Bool :=
  lsState c s == 3 && (getLs c s).due && flag (R.LSW_LSCTL_ON c) s && !(lsComfort c s && decide (165 < junction s))

/-- LS_RETRY (R475): deferred while shedding runs (R479). -/
def execLsRetry (c : Fin 16) (s : State) : Host.Outcome State Fault Refusal :=
  if !(lsRetryDue c s) then .next s
  else if lsShed s then .next (modLs c (fun x => { x with ready := true }) s)
  else .next (lsRetryNow c s)

/-- R470: the next channel to shed: comfort first, highest number first. -/
def shedNext (s : State) : Option Nat :=
  let on := chans16.reverse.filter fun c => lsIsOn c s
  match on.find? fun c => lsComfort c s with
  | some c => some c
  | none => on.head?

/-- GROUP_SHED (R470, R478): a change of SHED reports a channel the spec does not state (log entry 3). -/
def execGroupShed (isum : BitVec 16) (pdiss : BitVec 12) (s : State) : Host.Outcome State Fault Refusal :=
  let s := wrs [(R.LSW_GSTAT_ISUM, isum.toNat), (R.LSW_GSTAT_PDISS, pdiss.toNat)] s
  let note (kind : Nat) (s : State) := lsEvent (freeNow 4 s).toNat kind 0 (freeNow 14 (nextFree s)).toNat (nextFree (nextFree s))
  if 2400 < isum.toNat ∨ 4000 < pdiss.toNat then
    let s := if lsShed s then s else note 6 (wr R.LSW_GSTAT_SHED 1 s)
    match shedNext s with
    | some c => .next (lsLatch c 4 (rd (R.LSW_LSMEAS_I c) s) s)
    | none => .next s
  else if lsShed s then
    let s := note 7 (wr R.LSW_GSTAT_SHED 0 s)
    .next (forEach chans16 (fun c s => whenS ((getLs c s).ready && lsRetryDue c s) (lsRetryNow c) s) s)
  else .next s

/-- R34, R471, R479: a power-fail warning latches every channel; a test ends at once. -/
def lsPowerFail (s : State) : State :=
  forEach chans16 (fun c s => whenS (pdOn 10 s) (fun s => lsLatch c 5 (rd (R.LSW_LSMEAS_I c) s) s) s) s

/-- R34, R471: junction above 125 °C latches the comfort channels; none of them retries (R475). -/
def lsOverTemp (s : State) : State :=
  forEach chans16 (fun c s => whenS (pdOn 10 s && lsComfort c s) (fun s =>
    modLs c (fun x => { x with due := false, ready := false }) (lsLatch c 6 (rd (R.LSW_LSMEAS_I c) s) s)) s) s

/-- R479: PD10 goes off: every channel off, its configuration at reset. -/
def lsPdOff (s : State) : State :=
  forEach chans16 (fun c s =>
    let s := wrs ([R.LSW_LSCFG_OCTHR c, R.LSW_LSCFG_BLANK c, R.LSW_LSCFG_OLTHR c, R.LSW_LSCFG_CLASS c,
      R.LSW_LSCFG_OUTLET c, R.LSW_LSCFG_OLEN c, R.LSW_LSCFG_RETRY c, R.LSW_LSCTL_ON c, R.LSW_LSSTAT_STATE c].map
        fun f => (f, f.rst)) s
    modLs c (fun _ => LsChan.reset) (lsTestCut c 0 s)) (wr R.LSW_GSTAT_SHED 0 s)

end Sys2Proof.Machine
end

