-- ==== Sys2Proof/Machine/Recorder.lean ====
section
/-!
DEFINITION. The Barrow event recorder (R444 to R458, R520): triggers, writing, reading, FREEZE, clearing and the
recovery of a header.
-/
namespace Sys2Proof.Machine

/-- R444: an entry as it stands in MRAM. -/
def entryBytes (seq : Nat) (e : LogEntry) : List Byte :=
  let b := leBytes 4 seq ++ leBytes 6 e.tsec ++ leBytes 4 (e.tns % 2 ^ 30 + e.clk * 2 ^ 30) ++ leBytes 1 e.cls ++
    leBytes 1 e.source ++ leBytes 2 (b2n e.held + 2 * b2n e.setback + 4 * b2n e.legalFull) ++
    leBytes 1 (e.data.length % 16 + e.snap.length * 16) ++ leBytes 1 e.outlet ++
    ((e.data ++ e.snap ++ List.replicate 12 0).take 12).flatMap (leBytes 4)
  b ++ leBytes 4 (crc32 b)

/-- R447: the event words of a trigger's continuations; none where a reserved bit is set. -/
def eventWord (c : Cont) : Option Nat := if c.2.toNat < 256 then some (c.1.toNat + c.2.toNat * 2 ^ 24) else none

/-- R447: a trigger that is discarded: a reserved bit or class, or more words than an entry holds. -/
def triggerBad (w0 w1 : W24) (conts : List Cont) : Bool :=
  fld w0 7 7 != 0 || fld w0 23 16 != 0 || w1 != 0 || reservedCls (fld w0 6 0) || fld w0 15 12 != conts.length ||
    decide (12 < conts.length) || conts.any fun c => (eventWord c).isNone

/-- R444: the source of an entry: a pair is reported by its lower engine. -/
def logSource (src : Nat) : Nat := if src < 16 then pairLow src else src

/-- LOG_TRIGGER (R446, R447). -/
def execLogTrigger (src : Byte) (w0 w1 : W24) (conts : List Cont) (s : State) : Host.Outcome State Fault Refusal :=
  let ms := reqMsgs 0x58 w0 w1 conts
  if !(getQ 116 s).en then .next (pushDisabled 116 0 (mkMsg 0x58 w0.toNat w1.toNat) s)
  else if !(canTake 116 ms s) then .next (pushWait 116 ms s)
  else
    let s := arrive 116 ms s
    if triggerBad w0 w1 conts then .next (incSat R.BAR_HOLD_DISC s)
    else .next (acceptTrigger (logSource src.toNat) (fld w0 6 0) (fld w0 11 8) (conts.filterMap eventWord) s)

/-- R458: the registers of the two logs. -/
def showLogs (s : State) : State :=
  let l := s.bar.legal
  let g := s.bar.general
  wrs [(R.BAR_LSTAT_COUNT, l.length), (R.BAR_LSEQ_SEQ, s.bar.pd0Legal), (R.BAR_LFIRST_SEQ, (l.head?.map Prod.fst).getD 0),
    (R.BAR_GSTAT_COUNT, g.length), (R.BAR_GSEQ_SEQ, s.bar.pd0General), (R.BAR_GFIRST_SEQ, (g.head?.map Prod.fst).getD 0)] s

/-- R445, R450: append an entry to the general log. -/
def writeGeneral (e : LogEntry) (s : State) : State :=
  let n := s.bar.pd0General + 1
  let full := decide (8192 ≤ s.bar.general.length)
  let s := whenS full (incSat R.BAR_GSTAT_WRAPS) s
  showLogs (modBar (fun b => { b with general := b.general.drop (b2n full) ++ [(n, e)], pd0General := n }) s)

/-- R445: append an entry to the legal log. -/
def appendLegal (e : LogEntry) (s : State) : State :=
  let n := s.bar.pd0Legal + 1
  showLogs (modBar (fun b => { b with legal := b.legal ++ [(n, e)], pd0Legal := n }) s)

/-- R451 step 3: a legal entry in the general log. -/
def legalToGeneral (e : LogEntry) (s : State) : State :=
  incSat R.BAR_LSTAT_LDROP (writeGeneral { e with legalFull := true } s)

/-- R451: a legal-class entry. -/
def writeLegal (e : LogEntry) (s : State) : State :=
  if legalShut s then legalToGeneral e s
  else if s.bar.legal.length = 2047 then
    let s := appendLegal (newEntry 0x11 0x11 15 [e.cls] [] s) s
    let s := logStatus 1 s.bar.legal.length (wr R.BAR_LSTAT_FULL 1 s)
    legalToGeneral e s
  else
    let s := appendLegal e s
    if s.bar.legal.length = 1920 then
      ownEntry 0x2B [0, 1920] (logStatus 0 1920 (wr R.BAR_LSTAT_NEAR 1 s))
    else s

/-- R446: the entry whose MRAM turn it is: the oldest legal one, otherwise the oldest. -/
def nextEntry (l : List LogEntry) : Option LogEntry := (l.find? fun e => legalCls e.cls).orElse fun _ => l.head?

/-- R444 to R451: write one accepted entry. -/
def writeOne (e : LogEntry) (s : State) : State :=
  let s := modBar (fun b => { b with queued := b.queued.erase e, pd0Unwritten := b.pd0Unwritten - 1 }) s
  if legalCls e.cls then writeLegal e s else writeGeneral e s

/-- R34, R227, R454: after a power-fail warning TE0 has the power-fail save still to write; no log entry goes before
it. -/
def saveAhead (s : State) : Bool :=
  warned s && te0Up s && !(recovery s) && !(s.upd.bad.getD 2 false) && !s.bill.closed

/-- LOG_ENTRY_WRITE (R446). -/
def execLogEntryWrite (s : State) : Host.Outcome State Fault Refusal :=
  match nextEntry (writable s.bar.queued s) with
  | none => .next s
  | some e => if flag R.BAR_FREEZE_FRZ s || saveAhead s then .next s else .next (writeOne e s)

/-- R496 step 4: everything accepted is written. -/
def writeAllQueued : Nat → State → State
  | 0, s => s
  | n + 1, s =>
    match nextEntry (writable s.bar.queued s) with
    | none => s
    | some e => writeAllQueued n (writeOne e s)

/-- R454, R496: at a warning the recorder writes every entry accepted, legal entries first, but not before the
power-fail save. -/
def flushLogs (s : State) : State :=
  if saveAhead s || flag R.BAR_FREEZE_FRZ s then s else writeAllQueued (2 * s.bar.queued.length + 2) s

/-- R452: LOG_ENTRY and its continuations. -/
def logEntryMsgs (e : Nat × LogEntry) : List Msg :=
  mkMsg 0x5E 0 0 :: (bytesToConts 12 (entryBytes e.1 e.2)).map contMsg

/-- LOG_READ (R452). -/
def execLogRead (w0 w1 : W24) (conts : List Cont) (s : State) : Host.Outcome State Fault Refusal :=
  .next (takeReq 118 0 0x16 w0.toNat (reqMsgs 0x16 w0 w1 conts) true (fun s =>
    let general := fld w0 0 0 == 1
    let c := conts.headD (0, 0)
    let bad := fld w0 23 6 != 0 || fld w0 5 1 == 0 || decide (16 < fld w0 5 1) || conts.length != 1 || fld c.1 23 8 != 0 || c.2 != 0
    let st := refusal (if general then s.bar.generalBad else s.bar.legalBad) bad (isScrapped s) false false false
    let log := if general then s.bar.general else s.bar.legal
    let want := w1.toNat + fld c.1 7 0 * 2 ^ 24
    let es := if st = stOK then (log.filter fun e => decide (want ≤ e.1)).take (fld w0 5 1) else []
    let s := forEach es (fun e s => forEach (logEntryMsgs e) (putQ 119) s) s
    complete 119 0x16 w0.toNat (es.length * 256) st s) s)

/-- R455: one log cleared: emptied, with CLEARED as its first entry; the number removed. -/
def clearLog (general : Bool) (counter h : Nat) (s : State) : State × Nat :=
  let log := if general then s.bar.general else s.bar.legal
  let prev := if general then s.bar.pd0General else s.bar.pd0Legal
  let e := newEntry 0x11 0x01 15 [prev, log.length, counter, h] [] s
  let s := modBar (fun b => if general then { b with general := [] } else { b with legal := [] }) s
  let s := if general then writeGeneral e s else wrs [(R.BAR_LSTAT_FULL, 0), (R.BAR_LSTAT_NEAR, 0)] (appendLegal e s)
  (s, log.length)

/-- LOG_CLEAR (R455). -/
def execLogClear (n : Fin 8) (w0 w1 : W24) (s : State) : Host.Outcome State Fault Refusal :=
  .next (hostReq n 0x17 w0 w1 [] (te15Up s) (fun s =>
    let a := vaultAuth s
    let s := transit 112 0 0x25 0 0 s
    let m := (a.params.getD 0 0).toNat
    let p4 (i : Nat) : Nat := leNat ((a.params.drop i).take 4)
    let bad := w0 != 0 || w1 != 0 || m == 0 || decide (3 < m) || (a.params.drop 1).take 3 != [0, 0, 0] ||
      authDenied a 0x20 (a.plen == 12) (a.anchor == 5) s
    let seqBad := (m.testBit 0 && p4 4 != s.bar.pd0Legal) || (m.testBit 1 && p4 8 != s.bar.pd0General)
    let st := refusal ((m.testBit 0 && s.bar.legalBad) || (m.testBit 1 && s.bar.generalBad)) bad (isScrapped s) false (authStale a s || seqBad)
      (flag R.BAR_FREEZE_FRZ s || wiping s)
    if st = stOK then
      let h := leNat ((beBytes 32 (Config.sha256 a.params).toNat).take 4)
      let s := spend a s
      let r := if m.testBit 0 then clearLog false a.counter h s else (s, 0)
      let q := if m.testBit 1 then clearLog true a.counter h r.1 else (r.1, 0)
      logStatus 3 (r.2 + q.2) (reply n 0x17 w0.toNat 0 stOK q.1)
    else reply n 0x17 w0.toNat 0 st s) s)

/-- R453, R458: the effect of a write of FREEZE. -/
def freezeSet (v : Nat) (s : State) : State × Nat :=
  let s := wr R.BAR_FREEZE_FRZMAX (v / 2 ^ 4) s
  (if v % 2 = 1 then freezeBegin s else freezeEnd 1 s, stOK)

/-- FREEZE_ON (R453). -/
def execFreezeOn (v : W32) (s : State) : Host.Outcome State Fault Refusal :=
  .next (hostWrite 0x1D000018 v.toNat (freezeSet (v.toNat / 2 * 2 + 1)) s)

/-- FREEZE_OFF (R453). -/
def execFreezeOff (v : W32) (s : State) : Host.Outcome State Fault Refusal :=
  .next (hostWrite 0x1D000018 v.toNat (freezeSet (v.toNat / 2 * 2)) s)

/-- FREEZE_TIMEOUT (R453). -/
def execFreezeTimeout (s : State) : Host.Outcome State Fault Refusal := .next (freezeEnd 3 s)

/-- HEADER_REBUILD (R520): the header of a log, both copies of which failed their check, is rebuilt and committed. -/
def execHeaderRebuild (general : Bool) (s : State) : Host.Outcome State Fault Refusal :=
  let newest (l : List (Nat × LogEntry)) (d : Nat) : Nat := (l.getLast?.map Prod.fst).getD d
  let s := modBar (fun b =>
    if general then { b with generalBad := false, pd0General := newest b.general b.pd0General }
    else { b with legalBad := false, pd0Legal := newest b.legal b.pd0Legal }) s
  let s := whenS (!general) (wr R.BAR_LSTAT_LDROP 0xFFFF) s
  .next (logFault false 0 0xFF 0x7F (b2n general) (whenS (!(flag R.BAR_FREEZE_FRZ s)) releaseHeld (showLogs s)))

end Sys2Proof.Machine
end

