-- ==== Sys2Proof/Machine/Update.lean ====
section
/-!
DEFINITION. Firmware update and fallback (R421 to R443).  Update control in MRAM holds what the region registers show:
it stands in the shadows (`Fld.eff`) of those registers, which a reset keeps.  Regions are numbered 1 to 5; the
registers and lists of a region have index r − 1.
-/
namespace Sys2Proof.Machine

/-- R421, R422: base and largest image of a region, and its journal lane. -/
def regBase (r : Nat) : Nat := [0x100000, 0x200000, 0x300000, 0x380000, 0x400000].getD (r - 1) 0
def regMax (r : Nat) : Nat := [248, 248, 120, 60, 56].getD (r - 1) 0
def laneBase (r : Nat) : Nat := 0x500000 + [0, 0xF8000, 0x1F0000, 0x268000, 0x2A4000].getD (r - 1) 0

/-- R421, R435: where block `b` of a region stands; the image of region 4 is the settings area in use. -/
def areaBase (a : Nat) : Nat := 0x388000 + a * 0x3C000
def blockAt (r b : Nat) (s : State) : Nat :=
  (if r = 4 then areaBase (rd R.UPD_SETSTAT_AREA s) else regBase r + 0x8000) + b * 4096

/-- R421: the anchor of a region. -/
def regAnchor (r : Nat) : Nat := if r = 3 then 2 else 4

/-- A register that update control keeps. -/
def uw (f : Fld) (v : Nat) (s : State) : State := wr f v (wr f.eff v s)

/-- R425: the states of a region. -/
def usIDLE : Nat := 0
def usWRITING : Nat := 1
def usWRITTEN : Nat := 2
def usTRIAL : Nat := 3
def usFALLBACK : Nat := 4
def ustate (r : Nat) (s : State) : Nat := rd (R.UPD_RSTAT_STATE (r - 1)) s
def setUs (r v : Nat) (s : State) : State := uw (R.UPD_RSTAT_STATE (r - 1)) v s
def modUpd (f : Upd → Upd) (s : State) : State := { s with upd := f s.upd }

/-- The manifest slot of a region: the one in force, and the free one. -/
def slotOf (r : Nat) (s : State) : Nat := s.upd.slot.getD (r - 1) 0
def mfAt (r k : Nat) : Nat := regBase r + k * 0x4000

/-- R423: a manifest as it stands in MRAM at `a`, with its fields. -/
def mfByte (a i : Nat) (s : State) : Nat := (mramRd s (a + i)).toNat
def mfNum (a i n : Nat) (s : State) : Nat := leNat (mramRdN s (a + i) n)
def mfVer (a : Nat) (s : State) : Nat := mfNum a 4 4 s
def mfNblk (a : Nat) (s : State) : Nat := mfNum a 24 2 s
def mfSetfmt (a : Nat) (s : State) : Nat := mfNum a 26 2 s
def mfMinfmt (a : Nat) (s : State) : Nat := mfNum a 28 2 s
def mfWindow (a : Nat) (s : State) : Nat := let w := mfNum a 30 2 s; if w = 0 then 10 else w
def mfDigest (a b : Nat) (s : State) : List Byte := mramRdN s (a + 256 + 32 * b) 32

/-- R423: a SECT entry: engine mask, first block, length in words, CRC-32. -/
def mfSect (a i : Nat) (s : State) : Nat × Nat × Nat × Nat :=
  let e := a + 64 + 12 * i
  (mfNum e 0 2 s, mfNum e 2 2 s, mfNum e 4 4 s, mfNum e 8 4 s)

/-- R423: the length of a manifest with its signature. -/
def mfLen (r a : Nat) (s : State) : Nat :=
  256 + 32 * mfNblk a s + (if anchorCurve (regAnchor r) s = 6 then 96 else 64)

/-- R424: the checks of a manifest at `a` for region `r` but those of its anchor. -/
def manifestForm (r a : Nat) (s : State) : Bool :=
  let n := mfNblk a s
  let dev := mramRdN s (a + 8) 16
  mfByte a 0 s == 1 && mfByte a 1 s == r && mfByte a 2 s == regAnchor r &&
    (dev.all (· == 0) || dev == devIdBytes) && decide (1 ≤ n ∧ n ≤ regMax r) &&
    (List.range 8).all (fun i => decide ((mfSect a i s).2.1 * 4096 + (mfSect a i s).2.2.1 * 4 ≤ n * 4096))

/-- R423, R439: the reserved bytes of a manifest are 0. -/
def manifestZeros (a : Nat) (s : State) : Bool :=
  mfByte a 3 s == 0 && (mramRdN s (a + 32) 32 ++ mramRdN s (a + 160) 96).all (· == 0)

/-- R424: every check of a manifest. -/
def manifestOk (r a : Nat) (s : State) : Bool :=
  let n := mfNblk a s
  manifestForm r a s && anchorLoaded (regAnchor r) s &&
    anchorVerifies (regAnchor r) (mramRdN s a (256 + 32 * n)) (mramRdN s (a + 256 + 32 * n) 96) s

/-- R424: a block agrees with its DIGEST. -/
def digestOk (bs : List Byte) (a b : Nat) (s : State) : Bool := beBytes 32 (Config.sha256 bs).toNat == mfDigest a b s

/-- R424, R427: a block of the image in force; while a region is WRITING or WRITTEN the old block stands in the journal
below J. -/
def oldBlock (r b : Nat) (s : State) : List Byte :=
  if (ustate r s = usWRITING ∨ ustate r s = usWRITTEN) ∧ b < rd (R.UPD_RJNL_J (r - 1)) s then
    mramRdN s (laneBase r + b * 4096) 4096
  else mramRdN s (blockAt r b s) 4096

/-- R424: the image in force.  In SCRAPPED its anchor is wiped and the images kept still run (R409): the check goes by the
digests. -/
def imageOk (r : Nat) (p : Nat → Bool) (s : State) : Bool :=
  let a := mfAt r (slotOf r s)
  (if isScrapped s then manifestForm r a s else manifestOk r a s) && (List.range (mfNblk a s)).all fun b => !(p b) || digestOk (oldBlock r b s) a b s

/-- R440: UPD_EVENT to the host, and to the general log. -/
def updEventNow (r kind cause : Nat) (s : State) : State :=
  let w0 := r + kind * 16 + cause * 256
  let w1 := rd (R.UPD_RVER_V (r - 1)) s
  logEvent 0 0x26 15 [w0, w1 % 2 ^ 24] (pushQ 8 0 (mkMsg 0x56 w0 w1) s)

/-- R34: it waits behind the billing events that wait in TE0. -/
def updEvent (r kind cause : Nat) (s : State) : State :=
  if billingWaits s then modUpd (fun u => { u with due := u.due ++ [(r, kind, cause)] }) s else updEventNow r kind cause s

/-- VERIFY_IMAGE (R424, R411): TE15 checks a manifest, pending in the staging area or in force; the result for regions 4
and 5 decides whether they may be used. -/
def execVerifyImage (w0 w1 : W24) (s : State) : Host.Outcome State Fault Refusal :=
  .next (te15Req 0x37 w0 w1 [] (fun s =>
    let r := fld w0 2 0
    let pend := fld w0 3 3 == 1
    let listed := decide (1 ≤ r ∧ r ≤ 5) && fld w0 23 4 == 0 && w1 == 0
    let ok := listed && (if pend then manifestOk r 0x080000 s
      else manifestOk r (mfAt r (slotOf r s)) s && imageOk r (fun _ => 4 ≤ r) s)
    let st := refusal (!s.vault.dirOk) (!ok) (isScrapped s) false false false
    let s := whenS (listed && !pend && decide (4 ≤ r)) (modUpd fun u => { u with bad := u.bad.set (r - 1) (!ok) }) s
    te15Reply 0x37 w0.toNat 0 st [] s) s)

/-- R437, R439: FAULT of an update request. -/
def updFault (r : Nat) (s : State) : Bool := recovery s && decide (r ≠ 1 ∧ r ≠ 2)

/-- UPD_BEGIN (R426, R438).  TE0 has TE15 check the manifest; with TE15 stopped for good that check completes WITHDRAWN,
and so does the request. -/
def execUpdBegin (n : Fin 8) (w0 w1 : W24) (s : State) : Host.Outcome State Fault Refusal :=
  .next (hostReq n 0x0A w0 w1 [] (te15Up s || recovery s || !(getQ 112 s).en) (fun s =>
    let r := fld w0 2 0
    let a := 0x080000
    if !(recovery s) && !(getQ 112 s).en then reply n 0x0A w0.toNat 0 stWITHDRAWN s else
    let s := whenS (!(recovery s)) (transit 112 0 0x37 (w24 (r + 8)) 0) s
    let st := refusal (updFault r s)
      (r == 0 || decide (5 < r) || fld w0 23 3 != 0 || w1 != 0 || !(manifestOk r a s) || !(manifestZeros a s) ||
        (mfMinfmt a s != 0 && decide (rd R.UPD_SETSTAT_FMT s < mfMinfmt a s)))
      (isScrapped s) (ustate r s != usIDLE) (decide (mfVer a s ≤ rd (R.UPD_RVER_V (r - 1)) s)) (wiping s)
    if st ≠ stOK then reply n 0x0A w0.toNat 0 st s
    else
      let nb := mfNblk a s
      let s := te0Wr (mfAt r (1 - slotOf r s)) (mramRdN s a (mfLen r a s)) s
      let s := uw (R.UPD_RPVER_V (r - 1)) (mfVer a s) (uw (R.UPD_RSTAT_NBLK (r - 1)) nb (uw (R.UPD_RSTAT_NEXT (r - 1)) 0
        (uw (R.UPD_RJNL_J (r - 1)) 0 (uw (R.UPD_RWIN_WIN (r - 1)) (mfWindow a s) (setUs r usWRITING s)))))
      reply n 0x0A w0.toNat (nb * 256) stOK s) s)

/-- R426: the steps for block b = NEXT. -/
def writeBlock (r b : Nat) (bs : List Byte) (s : State) : State :=
  let s := if rd (R.UPD_RJNL_J (r - 1)) s ≤ b then
      uw (R.UPD_RJNL_J (r - 1)) (b + 1) (te0Wr (laneBase r + b * 4096) (mramRdN s (blockAt r b s) 4096) s)
    else s
  let s := uw (R.UPD_RSTAT_NEXT (r - 1)) (b + 1) (te0Wr (blockAt r b s) bs s)
  if b + 1 = rd (R.UPD_RSTAT_NBLK (r - 1)) s then updEvent r 0 0 (setUs r usWRITTEN s) else s

/-- UPD_BLOCK (R426, R428, R438). -/
def execUpdBlock (n : Fin 8) (w0 w1 : W24) (s : State) : Host.Outcome State Fault Refusal :=
  .next (hostReq n 0x0B w0 w1 [] true (fun s =>
    let r := fld w0 2 0
    let b := fld w1 7 0
    let s := te0Rd (0x088000 + fld w0 7 4 * 4096) 4096 (transit 114 0 0x0B w0 w1 s)
    let a := mfAt r (1 - slotOf r s)
    let bs := mramRdN s (0x088000 + fld w0 7 4 * 4096) 4096
    let next := rd (R.UPD_RSTAT_NEXT (r - 1)) s
    let st := refusal (updFault r s)
      (r == 0 || decide (5 < r) || fld w0 3 3 != 0 || fld w0 23 8 != 0 || fld w1 23 8 != 0 ||
        !(ustate r s == usWRITING || (ustate r s == usWRITTEN && decide (b < next))) || decide (next < b) ||
        !(digestOk bs a b s))
      (isScrapped s) false false (wiping s)
    if st ≠ stOK then reply n 0x0B w0.toNat 0 st s
    else
      let s := if b = next then writeBlock r b bs s else s
      reply n 0x0B w0.toNat (rd (R.UPD_RSTAT_NEXT (r - 1)) s * 256) stOK s) s)

/-- The regions of a mask over bits 1 to 5. -/
def maskRegions (m : Nat) : List Nat := [1, 2, 3, 4, 5].filter fun r => m.testBit r

/-- UPD_ACTIVATE (R429, R438): accepted, TE0 takes no further host request; ACTIVATION_RESTART does the rest. -/
def execUpdActivate (n : Fin 8) (w0 w1 : W24) (s : State) : Host.Outcome State Fault Refusal :=
  .next (hostReq n 0x0D w0 w1 [] true (fun s =>
    let rs := maskRegions w0.toNat
    let st := refusal (recovery s && rs.any fun r => updFault r s)
      (fld w0 0 0 != 0 || fld w0 23 6 != 0 || w1 != 0 || rs.isEmpty || rs.any fun r => ustate r s != usWRITTEN)
      (isScrapped s) false false (outlets.any (fun o => inSession o s) || wiping s)
    if st ≠ stOK then reply n 0x0D w0.toNat 0 st s
    else reply n 0x0D w0.toNat 0 stOK (modUpd (fun u => { u with act := some (w0.toNat % 64), actQ := n, actAt := s.now }) s)) s)

/-- R429 step 2: the host has acknowledged the completion of the UPD_ACTIVATE, or 100 ms have passed. -/
def activationAcked (s : State) : Bool :=
  let q := getQ (qn (8 + s.upd.actQ)) s
  decide (s.upd.actAt + 100000 ≤ s.now) ||
    (!((q.ent.map Prod.snd ++ q.dlv.map Prod.snd ++ q.late).any fun m => m.typ == 0x8D) &&
      !(s.owed.any fun x => x.c == 8 + s.upd.actQ && x.t == 0x0D))

/-- R436: the area not in use is wiped, and MIGR is 0. -/
def wipeOtherArea (s : State) : State :=
  { s with mram := SMap.clearRange s.mram (areaBase (1 - rd R.UPD_SETSTAT_AREA s)) 0x3C000 }

/-- R433: the blocks of the journal lane are put back. -/
def restoreBlocks (r : Nat) : Nat → State → State
  | 0, s => s
  | b + 1, s => restoreBlocks r b (incSat (R.UPD_RJNL_RESTORED (r - 1))
      (te0Wr (blockAt r b s) (mramRdN s (laneBase r + b * 4096) 4096) s))

/-- R433: the restore of a region from its journal lane, and what its end changes. -/
def restoreRegion (r : Nat) (s : State) : State :=
  let s := restoreBlocks r (rd (R.UPD_RJNL_J (r - 1)) s) (wr (R.UPD_RJNL_RESTORED (r - 1)) 0 s)
  let s := setUs r usIDLE (uw (R.UPD_RPVER_V (r - 1)) 0 (uw (R.UPD_RVER_V (r - 1)) (mfVer (mfAt r (slotOf r s)) s)
    (uw (R.UPD_RJNL_J (r - 1)) 0 (uw (R.UPD_RSTAT_NEXT (r - 1)) 0 (uw (R.UPD_RSTAT_NBLK (r - 1)) 0
      (uw (R.UPD_RSTAT_BOOTS (r - 1)) 0 (uw (R.UPD_RSTAT_REQFB (r - 1)) 0 (uw (R.UPD_RWIN_ELAPSED (r - 1)) 0 s))))))))
  let s := uw R.UPD_UPDCNT_FB (satInc 16 (rd R.UPD_UPDCNT_FB s)) s
  uw R.UPD_SETSTAT_MIGR 0 (wipeOtherArea s)

/-- R433, R427: the other manifest slot is cleared. -/
def clearManifest (r k : Nat) (s : State) : State := { s with mram := SMap.clearRange s.mram (mfAt r k) 0x4000 }

/-- R433: TE0 begins the fallback of a region in TRIAL: the sessions end, and ACTIVATION_RESTART follows.  RSTAT.REQFB
shows the request until the restore (log entry 88). -/
def fallbackStart (r cause : Nat) (s : State) : State :=
  let s := uw (R.UPD_RSTAT_REQFB (r - 1)) 1 (uw (R.UPD_RSTAT_CAUSE (r - 1)) cause s)
  let s := updEvent r 3 cause (modUpd (fun u => { u with fbWait := u.fbWait ||| 2 ^ r }) s)
  forEach outlets (fun o s => if inSession o s && ostate o s != 7 then rampDown o 1 false s else s) s

/-- UPD_FALLBACK (R433, R438). -/
def execUpdFallback (n : Fin 8) (w0 w1 : W24) (s : State) : Host.Outcome State Fault Refusal :=
  .next (hostReq n 0x0E w0 w1 [] true (fun s =>
    let r := fld w0 2 0
    let u := ustate r s
    let st := refusal (recovery s) (r == 0 || decide (5 < r) || fld w0 23 3 != 0 || w1 != 0 || u == usIDLE || u == usFALLBACK)
      (isScrapped s) false false (wiping s)
    if st ≠ stOK then reply n 0x0E w0.toNat 0 st s
    else if u = usTRIAL then
      if s.upd.fbWait.testBit r then reply n 0x0E w0.toNat 0 stOK s
      else fallbackStart r 1 (reply n 0x0E w0.toNat 0 stOK s)
    else
      let s := updEvent r 3 1 (uw (R.UPD_RSTAT_CAUSE (r - 1)) 1 s)
      let s := clearManifest r (1 - slotOf r s) (restoreRegion r (setUs r usFALLBACK s))
      let s := whenS (r == 3) (fun s => logEvent 0 0x0E 15 [] s) s
      reply n 0x0E w0.toNat 0 stOK (updEvent r 4 1 s)) s)

/-- R432: the engines loaded from a region. -/
def regEngines (r : Nat) : List Nat :=
  if r = 1 then [0] else if r = 2 then [1, 2, 3, 4, 5, 6, 7, 8, 13, 14, 15] else if r = 3 then [9, 10, 11, 12] else []

/-- R432: the update block accepts a confirmation of region `r`. -/
def confirmOk (r : Nat) (s : State) : Bool :=
  ustate r s == usTRIAL && !(s.upd.fbWait.testBit r) && (regEngines r).all (fun e => running e s) &&
    (r != 3 || (pairDuplex 9 s && pairDuplex 11 s && s.bill.live.all id)) &&
    (decide (3 < r) || rd R.UPD_SETSTAT_MIGR s == 0 || rd R.UPD_SETSTAT_MIGR s == 2)

/-- R432, R435: a region is confirmed. -/
def confirm (r : Nat) (s : State) : State :=
  if !(confirmOk r s) then s
  else
    let a := mfAt r (slotOf r s)
    let s := setUs r usIDLE (uw (R.UPD_RJNL_J (r - 1)) 0 (uw (R.UPD_RSTAT_NEXT (r - 1)) 0 (uw (R.UPD_RSTAT_NBLK (r - 1)) 0
      (uw (R.UPD_RSTAT_BOOTS (r - 1)) 0 (uw (R.UPD_RWIN_ELAPSED (r - 1)) 0 s)))))
    let s := clearManifest r (1 - slotOf r s) s
    let s := uw R.UPD_UPDCNT_UPD (satInc 16 (rd R.UPD_UPDCNT_UPD s)) s
    let s := if r ≤ 3 ∧ rd R.UPD_SETSTAT_MIGR s = 2 then
        uw R.UPD_SETSTAT_AREA (1 - rd R.UPD_SETSTAT_AREA s) (uw R.UPD_SETSTAT_FMT (mfSetfmt a s) (uw R.UPD_SETSTAT_MIGR 0 s))
      else s
    let s := whenS (r == 3) (fun s => logEvent 0 0x0D 15 [] s) s
    updEvent r 2 0 s

/-- UPD_CONFIRM (R432): TE0 writes UPDCTL.CONF. -/
def confirmSet (v : Nat) (s : State) : State := forEach (maskRegions v) confirm s
def execUpdConfirm (v : W32) (s : State) : Host.Outcome State Fault Refusal :=
  .next (if te0Up s then confirmSet v.toNat s else s)

/-- R433: the image asks for the fallback of a region in TRIAL. -/
def reqfb (cause r : Nat) (s : State) : State :=
  if ustate r s = usTRIAL && !(s.upd.fbWait.testBit r) then fallbackStart r cause s else s

/-- UPD_REQFB (R433): a write of UPDCTL.REQFB. -/
def reqfbSet (v : Nat) (s : State) : State := forEach (maskRegions (v / 2 ^ 8)) (reqfb 2) s
def execUpdReqfb (v : W32) (s : State) : Host.Outcome State Fault Refusal :=
  .next (if te0Up s then reqfbSet v.toNat s else s)

/-- TRIAL_WINDOW_EXPIRY (R431): ELAPSED has reached WINDOW minutes. -/
def execTrialWindowExpiry (r : Fin 5) (s : State) : Host.Outcome State Fault Refusal :=
  let k := r.val + 1
  if te0Up s && ustate k s == usTRIAL && !(s.upd.fbWait.testBit k) then
    .next (fallbackStart k 3 (wr (R.UPD_RWIN_ELAPSED r) (max (rd (R.UPD_RWIN_ELAPSED r) s) (rd (R.UPD_RWIN_WIN r) s * 60)) s))
  else .next s

/-- R435: the records converted into the other area; the spec does not give their layout, so that their bytes are free
values of the old area and the format (log entry 74). -/
def convertArea (fmt : Nat) (s : State) : State :=
  let cur := rd R.UPD_SETSTAT_AREA s
  te0Wr (areaBase (1 - cur)) ((Config.migrated fmt (mramRdN s (areaBase cur) 0x3C000)).take 0x3C000) s

/-- SETTINGS_MIGRATION (R435, R436): a trial image of region 1, 2 or 3 with a newer settings format starts; a migration
that a reset cut off begins again. -/
def execSettingsMigration (r : Fin 3) (converted : Bool) (s : State) : Host.Outcome State Fault Refusal :=
  let k := r.val + 1
  let a := mfAt k (slotOf k s)
  if !(te0Up s) || ustate k s != usTRIAL || decide (mfSetfmt a s ≤ rd R.UPD_SETSTAT_FMT s ∨ 2 ≤ rd R.UPD_SETSTAT_MIGR s) then .next s
  else
    let s := wipeOtherArea (uw R.UPD_SETSTAT_MIGR 1 s)
    if converted then .next (uw R.UPD_SETSTAT_MIGR 2 (convertArea (mfSetfmt a s) s))
    else .next (reqfb 5 k (updEvent k 5 5 (uw R.UPD_SETSTAT_MIGR 3 s)))

/-- R423: the section for engine `e` of the image in force of region `r`: first block, length in words, CRC-32. -/
def sectFor (r e : Nat) (s : State) : Option (Nat × Nat × Nat) :=
  let a := mfAt r (slotOf r s)
  ((List.range 8).find? fun i => (mfSect a i s).1.testBit e).map fun i => (mfSect a i s).2

/-- The blocks a section of `n` words takes. -/
def sectBlocks (n : Nat) : Nat := (n * 4 + 4095) / 4096

/-- R423, R83: the words of a section for engine `e` of the image in force of region `r`. -/
def sectWords (r e : Nat) (s : State) : List W32 :=
  match sectFor r e s with
  | none => []
  | some q =>
    let bs := (List.range (sectBlocks q.2.1)).flatMap fun k => oldBlock r (q.1 + k) s
    (List.range q.2.1).map fun k => BitVec.ofNat 32 (leNat ((bs.drop (4 * k)).take 4))

/-- R421: the region that holds the image of engine `e`. -/
def engRegion (e : Nat) : Nat := if e = 0 then 1 else if 9 ≤ e ∧ e ≤ 12 then 3 else 2

/-- R424: the image in force holds a section for engine `e`, and every block of it agrees with its DIGEST. -/
def sectOk (e : Nat) (s : State) : Bool :=
  let r := engRegion e
  match sectFor r e s with
  | none => false
  | some q => (List.range (sectBlocks q.2.1)).all fun k => digestOk (oldBlock r (q.1 + k) s) (mfAt r (slotOf r s)) (q.1 + k) s

/-- The blocks of region 2 a start needs: TE15's section, and those no section names, which hold the queue plan. -/
def planBlock (s : State) (b : Nat) : Bool :=
  let a := mfAt 2 (slotOf 2 s)
  let inside (i : Nat) : Bool :=
    let q := mfSect a i s
    decide (q.2.1 ≤ b ∧ b * 4096 < q.2.1 * 4096 + q.2.2.1 * 4)
  !((List.range 8).any fun i => inside i && !((mfSect a i s).1.testBit 15))

/-- R434: LEGALVER and LEGALSUM. -/
def showLegal (s : State) : State :=
  let a := mfAt 3 (slotOf 3 s)
  let n := mfNblk a s
  wrs [(R.UPD_LEGALVER_V, rd (R.UPD_RVER_V 2) s),
    (R.UPD_LEGALSUM_CRC, crc32 ((List.range n).flatMap fun b => oldBlock 3 b s))] s

/-- R430, R433: a start counts as a boot attempt of a region in TRIAL; the fourth falls back.  A fallback whose restart
another full reset came before is due now. -/
def bootTrial (full counted : Bool) (r : Nat) (s : State) : State :=
  if ustate r s ≠ usTRIAL then s
  else if full && flag (R.UPD_RSTAT_REQFB (r - 1)) s then setUs r usFALLBACK s
  else if counted = false then s
  else if rd (R.UPD_RSTAT_BOOTS (r - 1)) s = 3 then setUs r usFALLBACK (uw (R.UPD_RSTAT_CAUSE (r - 1)) 4 s)
  else uw (R.UPD_RSTAT_BOOTS (r - 1)) (rd (R.UPD_RSTAT_BOOTS (r - 1)) s + 1) s

/-- R433: a trial image that fails its check falls back. -/
def verifyTrial (r : Nat) (s : State) : State :=
  if ustate r s = usTRIAL ∧ imageOk r (fun _ => true) s = false then
    setUs r usFALLBACK (uw (R.UPD_RSTAT_CAUSE (r - 1)) 6 s)
  else s

/-- R433: the loader's restore of a region in FALLBACK; the old manifest is put back in force. -/
def loaderRestore (r : Nat) (s : State) : State :=
  if ustate r s ≠ usFALLBACK then s
  else
    let k := slotOf r s
    let cause := rd (R.UPD_RSTAT_CAUSE (r - 1)) s
    let s := modUpd (fun u => { u with slot := u.slot.set (r - 1) (1 - k) }) s
    let s := clearManifest r k (restoreRegion r s)
    let s := whenS (r == 3) (fun s => logEvent 0 0x0E 15 [] s) s
    modUpd (fun u => { u with due := u.due ++ [(r, 4, cause)] }) s

/-- R437: the registers that update control keeps are shown again. -/
def showUpd (s : State) : State :=
  let per (i : Nat) : List Fld := [R.UPD_RSTAT_STATE i, R.UPD_RSTAT_BOOTS i, R.UPD_RSTAT_REQFB i, R.UPD_RSTAT_NEXT i,
    R.UPD_RSTAT_NBLK i, R.UPD_RSTAT_CAUSE i, R.UPD_RVER_V i, R.UPD_RPVER_V i, R.UPD_RWIN_WIN i, R.UPD_RWIN_ELAPSED i,
    R.UPD_RJNL_J i]
  forEach ((List.range 5).flatMap per ++ [R.UPD_SETSTAT_AREA, R.UPD_SETSTAT_MIGR, R.UPD_SETSTAT_FMT, R.UPD_UPDCNT_UPD,
    R.UPD_UPDCNT_FB]) (fun f s => wr f (rd f.eff s) s) s

/-- A queue plan (R91, R93): of a queue its capacity and, of a spare one, producer and consumer, 16 being the host. -/
abbrev QPlan := Nat → Nat × Option (Nat × Nat)

/-- R92: the shipped plan, which names no spare queue. -/
def shippedPlan : QPlan := fun q => (shippedCap q, none)

/-- R82, R93: the queue plan of region 2, which the loader hands to TE0: what the words of its blocks say, which the spec
does not lay out (log entry 75). -/
def imagePlan (s : State) : QPlan :=
  Config.queuePlan (((List.range (mfNblk (mfAt 2 (slotOf 2 s)) s)).filter (planBlock s)).flatMap fun b => oldBlock 2 b s)

/-- R93: the plan's producer and consumer of a spare queue. -/
def planEnds (p : QPlan) (q : Nat) : Option (Nat × Nat) :=
  match (p q).2 with
  | some d => if 120 ≤ q ∧ d.1 ≤ 16 ∧ d.2 ≤ 16 then some d else none
  | none => none

/-- R91, R93: the capacity a plan gives queue `q`: a multiple of 16 up to 4096; Q95 and a spare queue that the plan does
not name have none. -/
def planCap (p : QPlan) (q : Nat) : Nat :=
  let c := (p q).1
  if c % 16 = 0 ∧ c ≤ 4096 ∧ q ≠ 95 ∧ (q < 120 ∨ (planEnds p q).isSome) then c else 0

/-- R82 step 3, R91: TE0 configures the queues; a plan of more than 32,768 entries gives none a capacity (log entry 75). -/
def planQueues (p : QPlan) (s : State) : State :=
  if 32768 < (qs128.map (planCap p)).sum then s
  else
    let s := { s with spare := (List.range 8).map fun i => planEnds p (120 + i) }
    forEach qs128 (fun q s =>
      if (getQ (qn q) s).en || planCap p q == 0 then s else modQ (qn q) (Queue.enable (planCap p q)) s) s

/-- R429 step 5: the pending manifest of a region is put in force. -/
def putInForce (r : Nat) (s : State) : State :=
  let old := rd (R.UPD_RVER_V (r - 1)) s
  let k := 1 - slotOf r s
  let a := mfAt r k
  let s := modUpd (fun u => { u with slot := u.slot.set (r - 1) k, due := u.due ++ [(r, 1, 0)] }) s
  let s := setUs r usTRIAL (uw (R.UPD_RSTAT_BOOTS (r - 1)) 0 (uw (R.UPD_RWIN_ELAPSED (r - 1)) 0
    (uw (R.UPD_RVER_V (r - 1)) (mfVer a s) (uw (R.UPD_RPVER_V (r - 1)) 0 s))))
  if r ≠ 3 then s
  else
    let h := beBytes 32 (Config.sha256 (mramRdN s a (mfLen 3 a s))).toNat
    logEvent 0 0x0C 15 [old, mfVer a s, leNat (h.take 4), leNat ((h.drop 4).take 4)] s

end Sys2Proof.Machine
end

