-- ==== Sys2Proof/Machine/Billing.lean ====
section
/-!
DEFINITION. Billing (R202 to R230, R239, R240, R243, R517): applying the summaries of a second, closing intervals in
bundles, setback and forward steps, the restart, and the billing requests.
-/
namespace Sys2Proof.Machine

/-- A SUMMARY or power-fail summary as TE0 takes it (R178). -/
structure SumIn where
  o : Nat
  sec : Nat
  flags : Nat
  regs : List Nat
  first : Nat
  last : Nat
  deriving DecidableEq, Repr

/-- Two continuations as a 96-bit register, low words first. -/
def reg96 : List Cont → List Nat
  | a :: b :: cs => (a.1.toNat + a.2.toNat * 2 ^ 24 + b.1.toNat * 2 ^ 48 + b.2.toNat * 2 ^ 72) :: reg96 cs
  | _ => []

/-- The summary at the head of a queue: type `typ` and its 19 continuations. -/
def headSummary (typ : Nat) (ms : List Msg) : Option SumIn :=
  match ms with
  | m :: rest =>
    let cs := ((rest.take 19).filter isCont).map fun c => (c.w0, c.w1)
    if m.typ.toNat = typ ∧ cs.length = 19 then
      match cs.head?, cs.drop 17 with
      | some h, f :: _ =>
        some ⟨m.w0.toNat % 16, m.w1.toNat + h.1.toNat * 2 ^ 24, h.2.toNat, reg96 ((cs.drop 1).take 16), f.1.toNat,
          f.2.toNat⟩
      | _, _ => none
    else none
  | [] => none

/-- Take the summaries of local second `sec` from the head of a queue, at most four. -/
def takeSummaries (typ q sec : Nat) : Nat → State → State × List SumIn
  | 0, s => (s, [])
  | k + 1, s =>
    match headSummary typ ((getQ (qn q) s).ent.map Prod.snd) with
    | some u =>
      if u.sec = sec then
        let r := takeSummaries typ q sec k (takeN q 20 s)
        (r.1, u :: r.2)
      else (s, [])
    | none => (s, [])

/-- The local second to apply next: that of the older summary at the heads of Q50 and Q51 (R26, R208). -/
def nextSecond (typ : Nat) (s : State) : Option Nat :=
  let h (q : Nat) := (headSummary typ ((getQ (qn q) s).ent.map Prod.snd)).map SumIn.sec
  match h 50, h 51 with
  | some a, some b => some (min a b)
  | some a, none => some a
  | none, b => b

/-- R202: the legal second of a local second. -/
def legalOf (sec : Nat) (s : State) : Nat :=
  toU 48 ((sec : Int) - sext 16 (rd R.BIL_UTCOFS_S s) + calZone s.calAct + sext 32 (rd R.BIL_LEGALADJ_S s))

/-- A calendar is active (R212). -/
def calOn (s : State) : Bool := !s.calAct.isEmpty

/-- R207: serial arithmetic modulo 2^24: `a` is later than `b`. -/
def later24 (a b : Nat) : Bool := decide (0 < (a + 2 ^ 24 - b) % 2 ^ 24 ∧ (a + 2 ^ 24 - b) % 2 ^ 24 < 2 ^ 23)

/-- R207: the summary has been applied already: its last frame is not later than the one the last save records for its
pair, nor than the one last applied to its outlet. -/
def applied (u : SumIn) (s : State) : Bool :=
  let past (x : Option Nat) := x.any fun l => !(later24 u.last l)
  u.flags &&& sfSTART == 0 && (past (s.bill.lastFrame.getD (if u.o < 4 then 0 else 1) none) || past (getBo u.o s).seen)

/-- R208: a summary of local second `sec` is still to come: it waits in its queue, or an outlet's pair has the second
under way, closed and not sent, or not closed yet. -/
def coming (sec : Nat) (s : State) : Bool :=
  ([50, 51].any fun q => (headSummary 0x50 ((getQ (qn q) s).ent.map Prod.snd)).any fun u => u.sec == sec) ||
    outlets.any fun o =>
      let m := getMt o s
      pairUp (pairOf o) s && metType o s != 0 &&
        (m.sec == some sec || (m.due.any fun u => u.sec == sec) ||
          (m.restored && m.sec.isNone && m.lastSec.any fun l => decide (l < sec)))

/-- R213: the rate, DEFAULT and friendly hours of legal second `t` for outlet `o`. -/
def selectRate (o t clk : Nat) (s : State) : Nat × Bool × Bool :=
  if !(calOn s) then (0, decide (clk ≠ 2), false)
  else if clk ≠ 2 || s.bill.invalid then (calDefRate s.calAct o % 8, true, false)
  else if s.bill.setback then ((getBo o s).hwRate, false, (getBo o s).hwFriendly)
  else let r := calRate s.calAct t; (r.1, false, r.2)

/-- R219: the interval flags that a summary's flags bring. -/
def ivFlags (f : Nat) : Nat :=
  let b (m k : Nat) := if f &&& m ≠ 0 then 2 ^ k else 0
  b sfINTERP 0 + b sfTEST 1 + b sfOVL 2 + b sfPERIOD 3 + (if f &&& (sfSWITCH + sfSIMPLEX) ≠ 0 then 16 else 0) +
    b sfGAP 5 + b sfCALCHG 6 + b sfREVERSE 7

/-- Difference of two 96-bit registers. -/
def diff96 (a b : Nat) : Nat := toU 96 ((a : Int) - b)

/-- R216: the demand of an interval; `da` is the integer part of the difference of the registers (log entry 106). -/
def demand (now start n : Nat) : Nat := 36 * (diff96 now start / 2 ^ 32) / (10 * n)

/-- R216: a demand replaces the maximum it exceeds. -/
def newMax (i d m : Nat) (md : List Nat) : List Nat :=
  if md.getD i 0 < d then (md.set i d).set (i + 1) m else md

/-- R218: the difference of floor(register / 1000) in mWh. -/
def milliDiff (now start : Nat) : Nat := toU 64 ((now / 2 ^ 32 / 1000 : Nat) - (start / 2 ^ 32 / 1000 : Nat))

/-- R218: a profile record. -/
def profRecord (b : BOut) (flags clk : Nat) : List Byte :=
  let di := milliDiff (b.regs.getD 0 0) b.startI
  let de := milliDiff (b.regs.getD 1 0) b.startE
  let flags := flags ||| (if 2 ^ 32 ≤ di ∨ 2 ^ 32 ≤ de then 4 else 0)
  let r := leBytes 4 b.ivM ++ leBytes 4 (min di (2 ^ 32 - 1)) ++ leBytes 4 (min de (2 ^ 32 - 1)) ++ leBytes 2 flags ++
    leBytes 1 (b.rate + clk * 8 + b2n b.friendly * 32)
  r ++ leBytes 1 (crc8 r)

/-- R215 to R220: close the open interval of an outlet with further flags, and open interval `m`. -/
def closeInterval (o m extra next : Nat) (s : State) : State :=
  let b := getBo o s
  let s := if !b.ivOpen ∨ b.ivN = 0 then s
    else
      let flags := b.ivF ||| extra ||| (if b.ivN ≠ 900 then 2 ^ 13 else 0)
      let md := if 300 ≤ b.ivN then
          newMax 2 (min (demand (b.regs.getD 1 0) b.startE b.ivN) (2 ^ 32 - 1)) b.ivM
            (newMax 0 (min (demand (b.regs.getD 0 0) b.startI b.ivN) (2 ^ 32 - 1)) b.ivM b.md)
        else b.md
      let s := te0Wr (profBase + o * 614400 + b.prof % 38400 * 16) (profRecord b flags s.bill.clk) s
      modBo o (fun b => { b with md := md, prof := b.prof + 1 }) s
  modBo o (fun b => { b with ivOpen := true, ivM := m, ivN := 0, ivF := next, ivRate := none,
                             startI := b.regs.getD 0 0, startE := b.regs.getD 1 0 }) s

/-- R217: the maximum-demand registers are handed on. -/
def handOn (s : State) : State :=
  forEach outlets (fun o => modBo o (fun b => { b with md := [0, 0, 0, 0] ++ b.md.take 4 })) s

/-- R217: the readings of a billing date, once TE15 can sign them. -/
def dateReadings (s : State) : State :=
  let l := outlets.filter fun o => !(outOfService o s)
  if te15Away s then modBill (fun b => { b with dateDue := b.dateDue ++ l }) s
  else forEach l (fun o s => (makeReading o 3 0 s).1) s

/-- The readings that waited for TE15 are made (R217, R229 step 5, R234). -/
def lateReadings (s : State) : State :=
  let l := s.bill.dateDue
  let rs := s.bill.rdWait
  let s := forEach l (fun o s => (makeReading o 3 0 s).1) (modBill (fun b => { b with dateDue := [], rdWait := [] }) s)
  let s := forEach rs (fun e s => completeReading e.1 0x30 e.2 (makeReading (e.2 % 16) 0 (e.2 / 16 % 4) s)) s
  forEach outlets (fun o s => if (getBo o s).sess.ending then showOutlet o (endSession o false s) else s) s

/-- R217: an accepted MD_RESET is carried out in a bundle. -/
def doMdReset (s : State) : State :=
  if s.bill.mdWait.isEmpty then s
  else
    let l := s.bill.mdWait
    let s := modBill (fun b => { b with mdWait := [] }) (handOn s)
    forEach l (fun e s => if e.1 < 8 then complete (e.1 + 8) 0x35 e.2 0 stOK s else s) s

/-- R212: the pending calendar becomes active. -/
def activate (s : State) : State := { s with calAct := s.calPend, calPend := [] }

/-- R212: a pending calendar is due at the whole minute `t`. -/
def calDueAt (t clk : Nat) (s : State) : Bool :=
  !s.calPend.isEmpty && decide (t % 60 = 0 ∧ calActivate s.calPend ≤ t) && clk == 2 && !s.bill.setback && !s.bill.invalid

/-- The outlets TE0 bills: TYPE is not NONE (R205). -/
def billed (s : State) : List Nat := outlets.filter fun o => metType o s != 0

/-- R221: is a bundle due at legal instant `t`?  One instant has one bundle. -/
def bundleDue (t : Nat) (s : State) : Bool :=
  decide (t % 60 = 0 ∧ s.bill.lastBundle ≠ t) && !s.bill.setback && (
    (calOn s && t % 900 == 0) || !s.bill.mdWait.isEmpty || calDueAt t s.bill.clk s || (calOn s && (
      s.bill.dateWait || !(billingDates s.calAct (t - 1) t).isEmpty ||
      (s.bill.clk == 2 && (calRate s.calAct t != calRate s.calAct (t - 1))))))

/-- R217, R243: a billing date is carried out, or left to wait, once. -/
def noteDate (t : Nat) (s : State) : State := modBill (fun b => { b with lastDate := max b.lastDate t }) s

/-- R221: the closures at legal instant `t`; `extra` are further flags of the closing interval.  Where a billing date and
an MD_RESET fall at one instant, the maxima are handed on for each (log entry 107). -/
def closures (t extra : Nat) (s : State) : State :=
  let date := calOn s && (s.bill.dateWait || !(billingDates s.calAct (t - 1) t).isEmpty)
  let act := calDueAt t s.bill.clk s
  let s := if calOn s && t % 900 == 0 then
      forEach (billed s) (fun o => closeInterval o (t / 900) extra (if act then 2 ^ 14 else 0)) s else s
  let s := if date then dateReadings (handOn (noteDate t s)) else s
  let s := doMdReset s
  let s := if act then activate s else s
  let s := if act && !(s.bill.hwOn) then
      forEach (billed s) (fun o => modBo o (fun b => { b with ivOpen := false, ivF := if t % 900 = 0 then 2 ^ 14 else 0 })) s
    else s
  modBill (fun b => { b with dateWait := false, lastBundle := t }) s

/-- R225: the open intervals that end at or before the quarter hour of `t`. -/
def endedBefore (t : Nat) (s : State) : List Nat :=
  (billed s).filter fun o => (getBo o s).ivOpen && decide ((getBo o s).ivM < t / 900)

/-- R212: the whole minute after `hw + 1` from which the pending calendar applies. -/
def activationAt (hw : Nat) (s : State) : Nat := (max (calActivate s.calPend) (hw + 2) + 59) / 60 * 60

/-- R220, R225: a forward step to `t`: every interval that has ended is closed in one bundle, in the time order of the
instants, with the billing dates and the calendar activation passed over; the bundle is written when it holds
anything.  A billing date that a bundle has already carried out, as at a start (R230), is not carried out again. -/
def forwardStep (t clk : Nat) (s : State) : State :=
  let hw := s.bill.hw
  let m := t / 60 * 60
  let passed := decide (hw + 1 < m)
  let dates := billingDates s.calAct (max (hw + 1) s.bill.lastBundle) t
  let act := passed && calDueAt m clk s
  let starts := act && activationAt hw s == t / 900 * 900
  let s := forEach (billed s) (fun o => modBo o (fun b => { b with ivF := b.ivF ||| 2 ^ 9 })) s
  let ended := endedBefore t s
  let endAt := 900 * ((ended.map fun o => (getBo o s).ivM).foldl max 0 + 1)
  let waits := passed && (s.bill.dateWait || !s.bill.mdWait.isEmpty)
  let date (d : Nat) (s : State) : State := dateReadings (handOn (noteDate d s))
  let s := forEach (dates.filter fun d => decide (d < endAt)) date s
  let s := forEach ended (fun o => closeInterval o (t / 900) 0 (2 ^ 9 + b2n starts * 2 ^ 14)) s
  let s := forEach (dates.filter fun d => !(decide (d < endAt))) date s
  let s := if passed && s.bill.dateWait then modBill (fun b => { b with dateWait := false }) (date m s) else s
  let s := if passed then doMdReset s else s
  let s := if act then activate s else s
  if !ended.isEmpty || !dates.isEmpty || waits || act then
    writeSlot 1 (modBill (fun b => { b with lastBundle := max b.lastBundle m }) s)
  else s

/-- R224: the effects of a setback of more than 90 s. -/
def longSetback (t : Nat) (s : State) : State :=
  let hw := s.bill.hw
  let s := modBill (fun b => { b with reported := true, invalid := true }) (setInv true s)
  logEvent 0 0x06 15 [hw % 2 ^ 32, hw / 2 ^ 32, t % 2 ^ 32, t / 2 ^ 32] s

/-- R223: a setback opens or ends; from here on the records made carry it. -/
def setSetback (on byAuth : Bool) (s : State) : State :=
  forEach outlets (fun o => wr (R.BIL_BSTAT_SETBACK o) (b2n on))
    (modBill (fun x => { x with setback := on, byAuth := byAuth, reported := x.reported && on && x.setback }) s)

/-- R223 to R225: compare legal second `t` with HW before it is applied. -/
def compareHW (t clk : Nat) (s : State) : State :=
  let b := s.bill
  if !b.hwOn then s
  else if t ≤ b.hw then
    let s := setSetback true (b.authNow || (b.setback && b.byAuth)) s
    if 90 < b.hw + 1 - t && !s.bill.byAuth && !s.bill.reported then longSetback t s else s
  else
    let s := if b.setback then setSetback false false s else s
    if b.hw + 1 < t then
      let s := if 90 < t - b.hw - 1 && !b.first then
          logEvent 0 0x07 15 [b.hw % 2 ^ 32, b.hw / 2 ^ 32, t % 2 ^ 32, t / 2 ^ 32] s else s
      if calOn s then forwardStep t clk s else s
    else s

/-- R206, R215, R219, R232: apply one outlet's summary at legal second `t`. -/
def applyOutlet (t : Nat) (u : SumIn) (s : State) : State :=
  let o := u.o
  let b := getBo o s
  let clk := bits u.flags 13 12
  let (k, dflt, friendly) := selectRate o t clk s
  let old := if u.flags &&& sfSTART ≠ 0 then b.sent else b.regs
  let dA := diff96 (u.regs.getD 0 0) (old.getD 0 0)
  let dE := diff96 (u.regs.getD 1 0) (old.getD 1 0)
  let opened := b.ivOpen && !(b.ivN == 0 && !s.bill.setback && decide (b.ivM < t / 900))
  let fl := b.ivF ||| ivFlags u.flags ||| (if s.bill.setback then 2 ^ 8 else 0) ||| (if dflt then 2 ^ 12 else 0) |||
    (match b.ivRate with | some r => if r ≠ k then 2 ^ 15 else 0 | none => 0)
  let b := { b with regs := u.regs, timp := b.timp.modify k (fun x => (x + dA) % 2 ^ 96),
                    texp := b.texp.modify k (fun x => (x + dE) % 2 ^ 96), rate := k, dflt := dflt,
                    friendly := friendly, last := u.flags, seen := some u.last }
  let b := if calOn s then
      { b with ivOpen := true, ivM := if opened then b.ivM else t / 900, ivN := min (b.ivN + 1) 65535, ivF := fl,
               startI := if opened then b.startI else old.getD 0 0, startE := if opened then b.startE else old.getD 1 0,
               ivRate := some (b.ivRate.getD k) }
    else b
  sessSecond o dA dE (setBo o b s)

/-- R224, R239: the accepted CLOCK_AUTHs take effect at the next applied second; a mode-1 setting may itself move legal
time back. -/
def applyClockAuths (s : State) : State :=
  let l := s.bill.clkWait
  if l.isEmpty then s
  else
    let s := modBill (fun b => { b with clkWait := [], invalid := false }) (setInv false s)
    forEach l (fun e s =>
      let s := match e.adj with
        | some a =>
        let back := decide (a < sext 32 (rd R.BIL_LEGALADJ_S s))
        modBill (fun b => { b with authNow := b.authNow || back }) (wr R.BIL_LEGALADJ_S (toU 32 a) s)
        | none => s
      complete (e.n + 8) 0x34 e.w0 0 stOK s) s

/-- R207: the last frame of each pair among applied summaries; the next save records it. -/
def noteFrames (us : List SumIn) (s : State) : State :=
  forEach us (fun u => modBill (fun b =>
    let p := if u.o < 4 then 0 else 1
    { b with newFrame := b.newFrame.set p (some u.last), live := b.live.set p true })) s

/-- R213, R223: outside a setback the second applied last is the high-water mark, and its rate the one in effect there,
for an outlet without a summary too. -/
def noteRates (t clk : Nat) (s : State) : State :=
  if s.bill.setback then s
  else forEach outlets (fun o s =>
    let k := selectRate o t clk s
    modBo o (fun b => { b with hwRate := k.1, hwFriendly := k.2.2 }) s) s

/-- R206 to R230: apply the summaries `us` of local second `sec`. -/
def applySecond (sec : Nat) (us : List SumIn) (s : State) : State :=
  let s := applyClockAuths s
  let t := legalOf sec s
  let clk := match us with | u :: _ => bits u.flags 13 12 | [] => s.bill.clk
  let same := s.bill.lsec == sec && s.bill.t == t && !s.bill.first
  let s := if same then s else compareHW t clk s
  let s := modBill (fun b => { b with t := t, lsec := sec, clk := clk, first := false, authNow := false,
                                      hw := if calOn s && (!b.hwOn || decide (b.hw < t)) then t else b.hw,
                                      hwOn := b.hwOn || calOn s }) s
  noteFrames us (forEach us (applyOutlet t) (noteRates t clk s))

/-- R221, R226, R243: the closures at the end of the second applied last, and the KIND of its slot.  A billing date under
a setback, whatever HW is, waits, unless it has been carried out before. -/
def endSecond (s : State) : State × Nat :=
  let t := s.bill.t + 1
  let due := bundleDue t s
  let s := modBill (fun b => { b with unsaved := false }) s
  if due then (closures t 0 s, 1)
  else if s.bill.setback && calOn s && decide (s.bill.lastDate < t) && !(billingDates s.calAct (t - 1) t).isEmpty then
    (modBill (fun b => { b with dateWait := true }) (noteDate t s), 0)
  else (s, 0)

/-- R221, R226: the second applied last is saved, as a plain save or as a bundle. -/
def finishSecond (s : State) : State := let r := endSecond s; showBilling (writeSlot r.2 r.1)

/-- R221 step 4, R517, R243: a warning that finds the whole last second applied, and the write of its bundle not begun,
leaves the bundle's closures to the slot of KIND 3; where a summary of that second is still to come, the interval closes
after the restart. -/
def heldBundle (s : State) : State :=
  if !(s.bill.unsaved) || coming s.bill.lsec s then s
  else let r := endSecond s; modBill (fun b => { b with kind3 := b.kind3 || r.2 == 1 }) r.1

/-- R206, R208, R221: TE0 applies the summaries of the next second; while a summary of the second under way is to come, a
later second waits.  Once none is to come the second is saved: a plain save at once, a bundle at the next microsecond or
SUMMARY_APPLY, so that a warning can fall between (R517, log entry 108).  After a power-fail warning the power-fail slot
alone follows (R243). -/
def summaryApply (s : State) : State :=
  let s := if warned s then heldBundle s else s
  let wait := s.bill.unsaved && coming s.bill.lsec s
  match nextSecond 0x50 s with
  | none => if s.bill.unsaved && !wait && !(warned s) then finishSecond s else s
  | some sec =>
    if wait && !(warned s) && s.bill.lsec != sec then s else
    let s := if s.bill.unsaved && !(warned s) && s.bill.lsec != sec then finishSecond s else s
    let a := takeSummaries 0x50 50 sec 4 s
    let b := takeSummaries 0x50 51 sec 4 a.1
    let us := (a.2 ++ b.2).filter fun u => decide (u.o < 8) && !(applied u b.1)
    let s := if us.isEmpty then b.1 else applySecond sec us b.1
    if us.isEmpty && !s.bill.unsaved then s
    else if warned s then showBilling (modBill (fun b => { b with unsaved := b.unsaved && us.isEmpty }) s)
    else if coming sec s || bundleDue (s.bill.t + 1) s then showBilling (modBill (fun b => { b with unsaved := true }) s)
    else finishSecond s

/-- R34: once no billing event waits in TE0, what waits behind them goes on: update events, then the recorder's, the host's
and those of the load switches. -/
def te0GoesOn (s : State) : State :=
  if !(te0Up s) || billingWaits s then s
  else
    let s := forEach s.upd.due (fun d => updEventNow d.1 d.2.1 d.2.2) (modUpd (fun u => { u with due := [] }) s)
    lsFlush (te0Resumes s)

/-- SUMMARY_APPLY (R206).  Once no summary waits any more, the events of other kinds go on (R34). -/
def execSummaryApply (s : State) : Host.Outcome State Fault Refusal :=
  .next (if billingUp s then te0GoesOn (summaryApply s) else s)

/-- R517: TE0 begins the write of a bundle in the microsecond after its second is applied, where no command came between. -/
def tickBilling (s : State) : State :=
  if billingUp s && s.bill.unsaved && !(warned s) && !(coming s.bill.lsec s) then finishSecond s else s

/-- R227, R228: open intervals and sessions are marked POWERFAIL, and the power-fail slot is written. -/
def closeBilling (s : State) : State :=
  let s := forEach outlets (fun o => modBo o (fun b =>
    { b with ivF := if b.ivOpen then b.ivF ||| 2 ^ 10 else b.ivF,
             sess := { b.sess with pf := b.sess.pf || b.sess.op } })) s
  showBilling (modBill (fun b => { b with closed := true, kind3 := false }) (writeSlot (if s.bill.kind3 then 3 else 2) s))

/-- R227: the power-fail summaries of the second `sec` are applied as a partial second. -/
def applyPartial (sec : Nat) (s : State) : State :=
  let a := takeSummaries 0x52 50 sec 4 s
  let b := takeSummaries 0x52 51 sec 4 a.1
  let us := (a.2 ++ b.2).filter fun u => decide (u.o < 8) && !(applied u b.1)
  if us.isEmpty then b.1 else applySecond sec us b.1

/-- R227: the power-fail summaries of both pairs, the older second first, `n` seconds at most. -/
def applyPartials : Nat → State → State
  | 0, s => s
  | n + 1, s => match nextSecond 0x52 s with
    | some sec => applyPartials n (applyPartial sec s)
    | none => s

/-- Apply the summaries that wait, `n` seconds at most. -/
def applyBacklog : Nat → State → State
  | 0, s => s
  | n + 1, s => if (nextSecond 0x50 s).isNone then s else applyBacklog n (summaryApply s)

/-- R221 step 4, R227, R517: every summary that waits is applied, then the power-fail summaries as partial seconds in the
interval then open, and the power-fail slot is written. -/
def powerfailSave (s : State) : State :=
  let s := applyBacklog 64 (if warned s then heldBundle s else s)
  closeBilling (applyPartials 4 (if s.bill.unsaved && !(warned s) then finishSecond s else s))

/-- POWERFAIL_SUMMARY_APPLY (R34, R227, R228): after a warning TE0 applies the power-fail summaries and writes the slot;
the log entries follow (R454). -/
def execPowerfailSummaryApply (s : State) : Host.Outcome State Fault Refusal :=
  if !(billingUp s) || !(warned s) then .next s else .next (te0GoesOn (flushLogs (powerfailSave s)))

/-- R34, R227, R429: the whole save, by TE0, or by the members in its place while it reloads. -/
def saveBilling (s : State) : State :=
  if recovery s || s.upd.bad.getD 2 false || s.bill.closed || !s.bill.loaded then s else powerfailSave s

/-- R226: a slot as it stands in MRAM; none where its CRC fails. -/
def readSlot (i : Nat) (s : State) : Option (List Byte) :=
  let b := mramRdN s (slotBase + i * 4096) 3652
  if leNat (b.drop 3648) = crc32 (b.take 3648) ∧ (b.any fun x => x != 0) then some (b.take 3648) else none

/-- A little-endian field of a slot. -/
def sl (b : List Byte) (i n : Nat) : Nat := leNat ((b.drop i).take n)

/-- R226: the state of outlet `o` from a slot. -/
def outletFrom (slot : List Byte) (o : Nat) (cal : Bool) (old : BOut) : BOut :=
  let b := slot.drop (64 + 448 * o)
  let rs (i n : Nat) := (List.range n).map fun k => sl b (i + 12 * k) 12
  let fl := sl b 406 1
  { old with
    regs := rs 0 8, sent := rs 0 8, timp := rs 96 8, texp := rs 192 8, startI := sl b 288 12, startE := sl b 300 12
    ivOpen := cal, ivM := sl b 312 4, ivN := sl b 316 2, ivF := sl b 318 2
    md := (List.range 8).map fun k => sl b (320 + 4 * k) 4
    prof := sl b 352 4, gap := fl.testBit 1, baseI := sl b 416 12, baseE := sl b 428 12
    sess := { op := fl.testBit 0, id := (b.drop 356).take 16, kind := sl b 372 1, st := sl b 373 1,
              remaining := sext 64 (sl b 374 8), emerg := sext 64 (sl b 408 8), grant := sext 64 (sl b 408 8),
              residue := sl b 390 8, startCnt := sl b 398 8, wait := none, closeWait := none, pf := false, ending := false } }

/-- R229 step 1: the valid slots, highest SEQ first. -/
def validSlots (s : State) : List (List Byte) :=
  let l := (List.range 8).filterMap fun i => readSlot i s
  l.foldr insertSlot []
where
  /-- Insertion by SEQ, highest first. -/
  insertSlot (x : List Byte) : List (List Byte) → List (List Byte)
    | [] => [x]
    | y :: ys => if sl y 0 4 ≤ sl x 0 4 then x :: y :: ys else y :: insertSlot x ys

/-- R213, R223: the rate in effect at HW and that of the last applied second, which the slot does not hold, follow from
the calendar and the clock status; the rate of the open interval is that of its last second. -/
def rateFrom (o : Nat) (s : State) : State :=
  let r := calRate s.calAct s.bill.hw
  let s := if calOn s then modBo o (fun b => { b with hwRate := r.1, hwFriendly := r.2 }) s else s
  let k := selectRate o s.bill.t s.bill.clk s
  modBo o (fun b => { b with rate := k.1, dflt := k.2.1, friendly := k.2.2,
                             hwRate := if s.bill.setback || s.bill.clk == 2 then b.hwRate else k.1,
                             ivRate := if b.ivN = 0 then none else some k.1 }) s

/-- R229 step 3: the billing state of a slot.  A setback of more than 90 s had been reported (R224). -/
def loadSlot (slot : List Byte) (s : State) : State :=
  let f := sl slot 32 2
  let g := sl slot 50 1
  let s := forEach outlets (fun o s =>
    let s := setBo o (outletFrom slot o (calOn s) (getBo o s)) s
    if metType o s = 0 then noInterval o s else s) s
  let s := wrs [(R.BIL_SAVESEQ_SEQ, sl slot 0 4), (R.BIL_LEGALADJ_S, sl slot 38 4), (R.BIL_SAVEGAP_N, sl slot 48 2)] s
  let hw := sl slot 20 6
  let t := sl slot 14 6
  let s := modBill (fun b => { b with
    lsec := sl slot 8 6, t := t, hw := hw, hwOn := calOn s && decide (0 < hw)
    lastFrame := [if g.testBit 2 then some (sl slot 26 3) else none, if g.testBit 3 then some (sl slot 29 3) else none]
    newFrame := [if g.testBit 2 then some (sl slot 26 3) else none, if g.testBit 3 then some (sl slot 29 3) else none]
    lastDate := sl slot 42 6
    clk := f % 4, setback := f.testBit 2, invalid := f.testBit 3, byAuth := g.testBit 0
    reported := f.testBit 2 && decide (90 < hw + 1 - t)
    mdWait := if g.testBit 1 then [(8, 0)] else [], lastBundle := sl slot 42 6, closed := false, first := true }) s
  showBilling (forEach outlets rateFrom s)

/-- R237: the reading counter at a start. -/
def loadCounter (s : State) : State :=
  let copy (i : Nat) : Option (Nat × Nat) :=
    let b := mramRdN s (cntBase + 16 * i) 16
    if leNat (b.drop 12) = crc32 (b.take 12) then some (leNat ((b.drop 8).take 4), leNat (b.take 8)) else none
  let best := match copy 0, copy 1 with
    | some a, some b => if a.1 < b.1 then b else a
    | some a, none => a
    | none, some b => b
    | none, none => (0, 0)
  let buf := (List.range 64).map fun i =>
    let b := mramRdN s (rdBase + 256 * i) 36
    if b.headD 0 = 1 then leNat (b.drop 28) else 0
  modBill (fun b => { b with cntSeq := best.1, counter := max best.2 (buf.foldl max 0) }) s

/-- R230: a save gap: the gap's length in ms where PD0 knows the warning, and the estimates per outlet. -/
def saveGap (slots : List (List Byte)) (s : State) : State :=
  match slots with
  | [] => s
  | a :: rest =>
    let t := s.bill.t + 2
    let s := if bundleDue t s then writeSlot 1 (closures t (2 ^ 11) s) else s
    let s := forEach outlets (fun o => modBo o (fun b =>
      { b with gap := true, ivF := if b.ivOpen then b.ivF ||| 2 ^ 11 else b.ivF })) s
    let s := incSat R.BIL_SAVEGAP_N s
    let w := rd R.PWR_PFWSEC_S s * 1000 + rd R.PWR_PFWNS_NS s / 1000000
    let from_ := (sl a 8 6 + 1) * 1000
    let known := from_ < w
    forEach (billed s) (fun o s =>
      let est (i : Nat) : Nat := match rest with
        | b :: _ =>
          let ds := (sl a 8 6 - sl b 8 6) * 1000
          if ds = 0 then 0
          else min (diff96 (sl a (64 + 448 * o + i) 12) (sl b (64 + 448 * o + i) 12) / 2 ^ 32 * (w - from_) / ds) 0xFFFFFFFE
        | [] => 0
      if known then logEvent 0 0x05 o [w - from_, est 0, est 12, w - from_] s
      else logEvent 0 0x05 o [0xFFFFFFFF, 0xFFFFFFFF, 0xFFFFFFFF, 1100] s) s

/-- BILLING_RESTART (R229, R230, R237): at a start TE0 resumes billing from the newest valid slot.  After a supervisor
reset the state it resumes is that of the last save, and nothing is closed (R230).  An interval open at the cut carries
POWERFAIL at every start after a full reset (R229 step 4), and a session open at the cut is closed with its end reading
(step 5). -/
def execBillingRestart (s : State) : Host.Outcome State Fault Refusal :=
  if !(te0Up s) || recovery s || s.upd.bad.getD 2 false || s.bill.resumed then .next s
  else
    let full := !s.bill.loaded
    let s := modBill (fun b => { b with loaded := true, resumed := true }) (loadCounter s)
    match validSlots s with
    | [] => .next (showBilling s)
    | a :: rest =>
      if !full then .next (showBilling s)
      else
        let s := loadSlot a s
        let s := setInv s.bill.invalid s
        let s := forEach outlets (fun o => modBo o (fun b => { b with ivF := if b.ivOpen then b.ivF ||| 2 ^ 10 else b.ivF })) s
        let s := if 2 ≤ sl a 4 1 then s else saveGap (a :: rest) s
        let s := forEach outlets (fun o => endSession o true) s
        .next (showBilling s)

/-- R240: FAULT of a billing request for outlet `o` (8 for none). -/
def billFault (o : Nat) (s : State) : Bool :=
  s.upd.bad.getD 2 false || (decide (o < 8) && pairStopped (pairOf o) s)

/-- R240: readings asked for that wait for TE15 and their MRAM write. -/
def readingsWaiting (s : State) : Nat := s.bill.rdWait.length

/-- A billing request of the host; it waits until TE0 has resumed billing, and, READ_SIGNED apart, until TE15 runs. -/
def billReq (n : Fin 8) (t : Nat) (w0 w1 : W24) (cs : List Cont) (status : State → Nat) (act : State → State)
    (s : State) : State :=
  hostReq n t w0 w1 cs
    ((te15Up s || t == 0x30) && (s.bill.resumed || s.upd.bad.getD 2 false)) (fun s =>
    let st := status s
    if st = stOK then act s else reply n t w0.toNat 0 st s) s

/-- READ_SIGNED (R239, R240): the reading is made once TE15 runs. -/
def execReadSigned (n : Fin 8) (w0 w1 : W24) (s : State) : Host.Outcome State Fault Refusal :=
  let o := fld w0 3 0
  .next (billReq n 0x30 w0 w1 []
    (fun s => refusal (billFault o s || flag R.GV_VSTAT_DRBGF s)
      (decide (8 ≤ o) || fld w0 23 6 != 0 || w1 != 0 || fld w0 5 4 == 3 || (metType o s == 0 && !(isScrapped s)))
      false false false ((isScrapped s && wiping s) || decide (64 ≤ readingsWaiting s)))
    (fun s =>
      if te15Away s then modBill (fun b => { b with rdWait := b.rdWait ++ [(n.val, w0.toNat)] }) s
      else completeReading n 0x30 w0.toNat (makeReading o 0 (fld w0 5 4) s)) s)

/-- SESSION_OPEN (R231, R239, R240). -/
def execSessionOpen (n : Fin 8) (w0 w1 : W24) (conts : List Cont) (s : State) : Host.Outcome State Fault Refusal :=
  let o := fld w0 3 0
  let kind := fld w0 5 4
  let bytes := contsToBytes conts
  .next (billReq n 0x31 w0 w1 conts
    (fun s => refusal (billFault o s || flag R.GV_VSTAT_DRBGF s)
      (decide (8 ≤ o) || fld w0 23 6 != 0 || w1 != 0 || kind == 3 || decide (conts.length ≠ 4) ||
        leNat ((bytes.drop 16).take 2) != 0 || metType o s == 0 || (getBo o s).sess.op)
      (isScrapped s) false false false)
    (fun s =>
      let amount : Int := (leNat (bytes.drop 18) : Nat)
      showOutlet o (modBo o (fun b => { b with sess :=
        { Sess.none with op := true, id := bytes.take 16, kind := kind,
                         remaining := if kind = 1 then amount * 1000000 else if kind = 2 then amount else 0,
                         wait := some (n.val, w0.toNat) } }) s)) s)

/-- SESSION_CLOSE (R239, R240). -/
def execSessionClose (n : Fin 8) (w0 w1 : W24) (s : State) : Host.Outcome State Fault Refusal :=
  let o := fld w0 3 0
  .next (billReq n 0x32 w0 w1 []
    (fun s => refusal (billFault o s || flag R.GV_VSTAT_DRBGF s)
      (decide (8 ≤ o) || fld w0 23 4 != 0 || w1 != 0 || metType o s == 0 || !((getBo o s).sess.op) ||
        (getBo o s).sess.closeWait.isSome)
      (isScrapped s) false false false)
    (fun s =>
      let s := modBo o (fun b => { b with sess := { b.sess with closeWait := some (n.val, w0.toNat) } }) s
      if (getBo o s).sess.wait.isSome then s else showOutlet o (endSession o false s)) s)

/-- CALENDAR_LOAD (R211, R212, R239). -/
def execCalendarLoad (n : Fin 8) (w0 w1 : W24) (s : State) : Host.Outcome State Fault Refusal :=
  .next (billReq n 0x33 w0 w1 []
    (fun s =>
      let c := mramRdN s 0x0B0000 1296
      refusal (billFault 8 s) (fld w0 23 4 != 0 || w1 != 0 || calBad c s) (isScrapped s) false
        (decide (calSeq c ≤ calSeq s.calAct) && calOn s || decide (calSeq c ≤ calSeq s.calPend) && !s.calPend.isEmpty)
        (wiping s))
    (fun s => reply n 0x33 w0.toNat 0 stOK (showGlobal { te0Rd 0x0B0000 1296 s with calPend := mramRdN s 0x0B0000 1296 })) s)

/-- CLOCK_AUTH (R224, R239). -/
def execClockAuth (n : Fin 8) (w0 w1 : W24) (s : State) : Host.Outcome State Fault Refusal :=
  let mode := fld w1 0 0
  .next (billReq n 0x34 w0 w1 []
    (fun s =>
      let a := tariffAuth s
      refusal (billFault 8 s || vaultFault false s)
        (fld w0 23 4 != 0 || fld w1 23 1 != 0 || authDenied a 0x10 (a.plen == 4 * mode) (a.anchor == 3) s)
        (isScrapped s) false (authStale a s) (wiping s))
    (fun s =>
      let a := tariffAuth s
      let adj := if mode = 1 then some (sext 32 (leNat (a.params.take 4))) else none
      modBill (fun b => { b with clkWait := b.clkWait ++ [⟨n, w0.toNat, adj⟩] }) (spend a (transit 112 0 0x25 0 0 s))) s)

/-- MD_RESET (R217, R239). -/
def execMdReset (n : Fin 8) (w0 w1 : W24) (s : State) : Host.Outcome State Fault Refusal :=
  .next (billReq n 0x35 w0 w1 []
    (fun s =>
      let a := tariffAuth s
      refusal (billFault 8 s || vaultFault false s)
        (fld w0 23 4 != 0 || w1 != 0 || authDenied a 0x11 (a.plen == 0) (a.anchor == 3) s)
        (isScrapped s) false (authStale a s) (wiping s))
    (fun s =>
      modBill (fun b => { b with mdWait := b.mdWait ++ [(n.val, w0.toNat)] })
        (spend (tariffAuth s) (transit 112 0 0x25 0 0 s))) s)

/-- RESTORE (R188, R195, R207, R229, R516): once it has resumed billing, applied the summaries that wait and saved, TE0
sends the registers of an outlet, those of its last save, to its pair (log entry 35). -/
def execRestore (o : Fin 8) (s : State) : Host.Outcome State Fault Refusal :=
  let lo := pairOf o
  let s := tickBilling s
  if !(te0Up s) || !s.bill.resumed || billingWaits s || s.bill.unsaved || !(pairUp lo s) || metType o s == 0 ||
      (getMt o s).restored then .next s
  else
    let rs := (getBo o s).regs
    let cs := rs.flatMap fun r => [(w24 r, w24 (r / 2 ^ 24)), (w24 (r / 2 ^ 48), w24 (r / 2 ^ 72))]
    let q := ownerQ lo
    let s := passQ q (⟨0x23, w24 (o * 16), 0⟩ :: cs.map contMsg) s
    let s := passQ (if lo = 9 then 54 else 55) [mkMsg 0xA3 (o * 16) stOK] s
    let s := modBo o (fun b => { b with sent := rs }) s
    .next (modMt o (fun m => { m with restored := true, billing := false, regs := rs, startF := true,
                                      lastReg := (rs.getD 0 0, rs.getD 1 0), lastSec := some (clkSec s - 1) }) s)

end Sys2Proof.Machine
end

