-- ==== Sys2Proof/Machine/Lcd.lean ====
section
/-!
DEFINITION. The legal display (R459 to R468): pictures, the check by the metering pair, and the frame.
-/
namespace Sys2Proof.Machine

def modLcd (f : Lcd → Lcd) (s : State) : State := { s with lcd := f s.lcd }

/-- R462: the segments a to g of a hex digit, as bits 0 to 6. -/
def glyph (d : Nat) : Nat :=
  [0x3F, 0x06, 0x5B, 0x4F, 0x66, 0x6D, 0x7D, 0x07, 0x7F, 0x6F, 0x77, 0x7C, 0x39, 0x5E, 0x79, 0x71].getD d 0

/-- R462: the two bits of a digit with segments `g` and decimal point `dp` on common `c`. -/
def digitBits (c g : Nat) (dp : Bool) : Nat :=
  if c = 0 then b2n (g.testBit 0) + 2 * b2n (g.testBit 1)
  else if c = 1 then b2n (g.testBit 5) + 2 * b2n (g.testBit 6)
  else if c = 2 then b2n (g.testBit 4) + 2 * b2n (g.testBit 2)
  else b2n (g.testBit 3) + 2 * b2n dp

/-- R462: the legal row of common `c`: ten digits (none is blank), the decimal point's digit, and the annunciators of
SEG20 to SEG22 on each common. -/
def legalRow (ds : List (Option Nat)) (dp : Nat) (ann : List (List Bool)) (c : Nat) : Nat :=
  let d := ds.zipIdx.foldl (fun v e => match e.1 with
    | some x => v + digitBits c (glyph x) (e.2 == dp) * 4 ^ e.2
    | none => v) 0
  ((ann.getD c []).zipIdx.foldl (fun v e => v + b2n e.1 * 2 ^ (20 + e.2)) d)

/-- The decimal digits of a number, most significant first, `n` of them. -/
def decDigits (n v : Nat) : List Nat := ((List.range n).map fun i => v / 10 ^ i % 10).reverse

/-- The hex digits of a number, most significant first. -/
def hexDigits (n v : Nat) : List Nat := ((List.range n).map fun i => v / 16 ^ i % 16).reverse

/-- Leading zeros of all but the last `k` digits are blank. -/
def blankLead (k : Nat) : List Nat → List (Option Nat)
  | [] => []
  | d :: ds => if d = 0 ∧ k ≤ ds.length then none :: blankLead k ds else some d :: ds.map some

/-- R463: the picture of page 0 or 1 from what a summary gave. -/
def energyRows (page : Nat) (x : Shown) : List Nat :=
  let v := (if page = 0 then x.imp else x.exp) / 2 ^ 32 / 1000
  let clk := decide (bits x.flags 13 12 ≠ 2)
  let int := x.flags.testBit 0 || x.flags.testBit 1
  [0, 1, 2, 3].map (legalRow (some x.outlet :: blankLead 4 (decDigits 9 v)) 6
    [[true, true, clk], [page == 0], [page == 1], [false, false, int]])

/-- R463: the picture of pages 2 to 4. -/
def softRows (page : Nat) (s : State) : List Nat :=
  let hex (v : Nat) := none :: none :: (hexDigits 8 v).map some
  if page = 2 then [0, 1, 2, 3].map (legalRow (hex (rd R.UPD_LEGALSUM_CRC s)) 10 [[], [], [false, true], []])
  else if page = 3 then [0, 1, 2, 3].map (legalRow (hex (rd R.UPD_LEGALVER_V s)) 10 [[], [false, true], [], []])
  else [0, 1, 2, 3].map (legalRow (List.replicate 5 none ++ blankLead 1 (decDigits 5 (rd R.LIFE_SEAL_CNT s))) 10
    [[], [], [], [false, true]])

/-- The twelve legal bytes of four rows in ascending order. -/
def legalBytes (rows : List Nat) : List Byte := rows.flatMap (leBytes 3)

/-- R464: the check value of a legal field. -/
def legalCrc (rows : List Nat) : Nat := crc16 (legalBytes rows)

/-- The legal rows of FRONT (R461). -/
def frontRows (s : State) : List Nat := [0, 1, 2, 3].map fun c => rd (R.LCD_FRONT_W (2 * c)) s % 2 ^ 24

/-- FRONT takes legal rows and the host's free field (R461). -/
def setFront (rows : List Nat) (s : State) : State :=
  forEach [0, 1, 2, 3] (fun c s =>
    let lo := rd (R.LCD_FREELO_W c) s
    wrs [(R.LCD_FRONT_W (2 * c), rows.getD c 0 + lo % 256 * 2 ^ 24),
         (R.LCD_FRONT_W (2 * c + 1), lo / 256 + rd (R.LCD_FREEHI_W c) s * 2 ^ 24)] s) s

/-- R463: the pages shown in turn, each with its outlet. -/
def pageList (s : State) : List (Nat × Nat) :=
  (outlets.filter fun o => (rd R.LCD_LSEL_MASK s).testBit o && metType o s != 0).flatMap (fun o =>
    (0, o) :: if (rd R.LCD_LSEL_EXPEN s).testBit o then [(1, o)] else []) ++ [(2, 0), (3, 0), (4, 0)]

/-- The place of a page in the turn. -/
def pageKey (p : Nat × Nat) : Nat := if p.1 < 2 then p.2 * 2 + p.1 else 14 + p.1

/-- The page after the one built last. -/
def nextPage (s : State) : Nat × Nat :=
  let l := pageList s
  let after := if s.lcd.built then l.filter fun p => decide (pageKey (s.lcd.page, s.lcd.outlet) < pageKey p) else l
  match after.head? with
  | some p => p
  | none => l.head?.getD (2, 0)

/-- What TE0 holds of the last applied second of an outlet. -/
def billedShown (o : Nat) (s : State) : Shown :=
  let b := getBo o s
  ⟨o, s.bill.lsec, b.regs.getD 0 0, b.regs.getD 1 0, b.last⟩

/-- PAGE_DWELL (R463, R465): TE0 builds the next page in BACK; without its billing module it builds none (R434), but
a page is due. -/
def execPageDwell (s : State) : Host.Outcome State Fault Refusal :=
  if !(te0Up s) || !(flag R.LCD_LCFG_EN s) || !(pdOn 9 s) then .next s
  else
    let s := modLcd (fun l => { l with dueAt := some (l.dueAt.getD s.now) }) s
    if s.upd.bad.getD 2 false then .next s
    else
      let p := nextPage s
      let rows := if p.1 < 2 then energyRows p.1 (billedShown p.2 s) else softRows p.1 s
      .next (modLcd (fun l => { l with back := rows, page := p.1, outlet := p.2, sec := s.bill.lsec, built := true }) s)

/-- The event of a pair is answered. -/
def clearPairEv (lo : Nat) (s : State) : State :=
  forEach [lo, lo + 1] (fun e s => modEng (en e) (fun x => { x with evHw := false }) s) s

/-- R465: the lower engine of the pair that checks a page. -/
def checkPair (page o : Nat) : Nat := if page < 2 then pairOf o else 9

/-- LCD_TAG_WRITE (R465): TE0 writes TAG, which raises the event of the checking pair. -/
def execLcdTagWrite (page : Fin 5) (outlet : Fin 8) (s : State) : Host.Outcome State Fault Refusal :=
  if !(te0Up s) then .next s
  else
    let s := wrs [(R.LCD_TAG_SEC, s.lcd.sec), (R.LCD_TAG_PAGE, page), (R.LCD_TAG_OUTLET, outlet)] s
    let s := modLcd (fun l => { l with tagged := true, exp := none }) s
    let p := checkPair page outlet
    .next (forEach [p, p + 1] (fun e s => modEng (en e) (fun x => { x with evHw := true }) s) s)

/-- R465: the CRC that the checking member forms for the tag; none where the tagged second is no longer held. -/
def expCrc (s : State) : Option Nat :=
  let page := rd R.LCD_TAG_PAGE s
  if page < 2 then
    (s.lcd.sums.find? fun x => x.outlet == rd R.LCD_TAG_OUTLET s && x.sec % 2 ^ 16 == rd R.LCD_TAG_SEC s).map
      fun x => legalCrc (energyRows page x)
  else some (legalCrc (softRows page s))

/-- LCD_EXP_WRITE (R465): the active member answers the tag; a tag whose second it no longer holds is dropped. -/
def execLcdExpWrite (s : State) : Host.Outcome State Fault Refusal :=
  let clear (s : State) := clearPairEv (checkPair (rd R.LCD_TAG_PAGE s) (rd R.LCD_TAG_OUTLET s)) s
  if !s.lcd.tagged || s.lcd.exp.isSome || !(pairUp (checkPair (rd R.LCD_TAG_PAGE s) (rd R.LCD_TAG_OUTLET s)) s) then .next s
  else match expCrc s with
  | some c => .next (clear (modLcd (fun l => { l with exp := some c }) s))
  | none => .next (clear (modLcd (fun l => { l with tagged := false }) s))

/-- LCD_TAG_TIMEOUT (R465). -/
def execLcdTagTimeout (s : State) : Host.Outcome State Fault Refusal :=
  if s.lcd.tagged && s.lcd.exp.isNone then .next (modLcd (fun l => { l with tagged := false }) s) else .next s

/-- R466, R513: the legal field is blanked; an onset is counted and logged. -/
def blankLegal (cause expd comp : Nat) (s : State) : State :=
  let onset := !(flag R.LCD_LSTAT_BLANK s)
  let tag := rd R.LCD_TAG_SEC s + rd R.LCD_TAG_PAGE s * 2 ^ 16 + rd R.LCD_TAG_OUTLET s * 2 ^ 19
  let s := wrs [(R.LCD_LSTAT_BLANK, 1), (R.LCD_LSTAT_CAUSE, cause)] s
  if onset then logEvent 0x10 0x10 15 [cause, expd + comp * 2 ^ 16, tag] (incSat R.LCD_LSTAT_BLKCNT s) else s

/-- R465 step 4: the buffers swap. -/
def swapBuffers (crc : Nat) (s : State) : State :=
  let old := frontRows s
  let s := setFront s.lcd.back s
  let s := wrs [(R.LCD_VERCRC_VER, crc), (R.LCD_LSTAT_BLANK, 0), (R.LCD_LSTAT_PAGE, rd R.LCD_TAG_PAGE s),
    (R.LCD_LSTAT_OUTLET, rd R.LCD_TAG_OUTLET s)] s
  modLcd (fun l => { l with back := old, tagged := false, exp := none, dueAt := none, swapAt := s.now }) s

/-- R466: the check of FRONT before each frame. -/
def lcdCheck (s : State) : State :=
  let cur := legalCrc (frontRows s)
  let s := wr R.LCD_VERCRC_CUR cur s
  let ver := rd R.LCD_VERCRC_VER s
  let s := if cur ≠ ver then blankLegal 1 ver cur s else s
  match s.lcd.dueAt with
  | some t => if max t s.lcd.swapAt + 5000000 ≤ s.now then blankLegal 3 ver cur s else s
  | none => s

/-- LCD_FRAME_START (R461, R465, R466, R467). -/
def execLcdFrameStart (s : State) : Host.Outcome State Fault Refusal :=
  if !(flag R.LCD_LCFG_EN s) || !(pdOn 9 s) then .next s
  else
    let free (s : State) := if s.lcd.dueAt.isNone then setFront (frontRows s) s else s
    match s.lcd.exp with
    | some c =>
      if !s.lcd.tagged || !(te0Up s) || warned s then .next (lcdCheck (free s))
      else
        let b := legalCrc s.lcd.back
        if b = c then .next (lcdCheck (swapBuffers c s))
        else .next (lcdCheck (blankLegal 2 c b (modLcd (fun l => { l with tagged := false, exp := none }) s)))
    | none => .next (lcdCheck (free s))

/-- R88, R465: the members of a pair that is wiped hold no summary of outlet `o`. -/
def dropShown (o : Nat) (s : State) : State :=
  modLcd (fun l => { l with sums := l.sums.filter fun x => x.outlet != o }) s

/-- R465: the member keeps the registers of its last eight summaries. -/
def keepShown (x : Shown) (s : State) : State :=
  modLcd (fun l =>
    { l with sums := x :: (l.sums.filter fun y => y.outlet == x.outlet).take 7 ++
               l.sums.filter fun y => y.outlet != x.outlet }) s

end Sys2Proof.Machine
end

