-- ==== Sys2Proof/Machine/Engines.lean ====
section
/-!
DEFINITION. Engines, pairs and the queue fabric (R82 to R90, R112, R113, R178, R185 to R190): how engines stop, are
wiped, loaded and rejoin, and how the members of a pair give up and take over.
-/
namespace Sys2Proof.Machine

def modPair (p : Nat) (f : PairSt → PairSt) (s : State) : State :=
  { s with pairs := vset s.pairs ⟨p % 3, Nat.mod_lt _ (by decide)⟩ (f (vget s.pairs ⟨p % 3, Nat.mod_lt _ (by decide)⟩)) }
def getPair (p : Nat) (s : State) : PairSt := vget s.pairs ⟨p % 3, Nat.mod_lt _ (by decide)⟩

/-- The pair 0 to 2 of an engine TE9 to TE14, and its lower engine. -/
def pairIdx (e : Nat) : Nat := (e - 9) / 2
def pairLo (p : Nat) : Nat := 9 + 2 * p

/-- The outlets of a metering pair. -/
def pairOutlets (p : Nat) : List Nat := if p = 0 then [0, 1, 2, 3] else [4, 5, 6, 7]

/-- R85, R110: an engine is stopped for good: its input queues are disabled.  An outlet engine's live values (Q56) and
management frames (Q96) are streams, which end with STREAM_END (log entry 70). -/
def engineDead (e : Nat) (s : State) : State :=
  if e = 15 then disableQ 112 0 false (disableQ 110 0 false s)
  else if e < 1 ∨ 8 < e then s
  else
    let o := e - 1
    disableQ (96 + o) o true (disableQ (80 + o) o false (disableQ (64 + o) o false (disableQ (56 + o) o true (outWithdraw o s))))

/-- R85: double faults of the engine in the last 60 s. -/
def recentFaults (e : Nat) (s : State) : List Nat :=
  (getEng (en e) s).faults.filter fun t => decide (s.now < t + 60000000)

/-- R83, R85, R89: the engine stays STOPPED; TE0 does not reload it. -/
def stopForGood (e : Nat) (s : State) : State := modEng (en e) (fun x => { x with final := true }) (setEngState e 5 s)

/-- R85, R89, R188: engine `e` may be loaded again. -/
def pardon (e : Nat) (s : State) : State := modEng (en e) (fun x => { x with final := false }) s

/-- The engines of a supervisor reset (R85, R88). -/
def supEngines : List Nat := [0, 15] ++ (List.range 8).map (· + 1)

/-- R490, R494: a supervisor reset; TE0 resumes billing once it is back (R229). -/
def supReset (watchdog : Bool) (s : State) : State :=
  let s := incSat R.PWR_RSTCAUSE_SUPCNT (wr R.PWR_RSTCAUSE_CAUSE (if watchdog then 6 else 5) s)
  let s := forEach supEngines (fun e s => startReload e (pardon e s)) s
  let s := forEach [0, 1] (fun p s =>
    let s := pardon (pairLo p) (pardon (pairLo p + 1) s)
    if pairStopped (pairLo p) s then
      startReload (pairLo p) (startReload (pairLo p + 1) s)
    else s) s
  let s := modBill (fun b => { b with resumed := false, live := [false, false] }) s
  let s := modV (fun v => { v with life := v.life.map fun l => (16 + l.1 % 16, l.2) })
    (clearTemps (modPwr (fun p => { p with wipe := some .supervisor, wdtAt := none }) s))
  forEach outlets (fun o s => whenS (foldUp s && inSession o s) (holdBegin o) s) s

/-- SUPERVISOR_RESET (R490). -/
def execSupervisorReset (watchdog : Bool) (s : State) : Host.Outcome State Fault Refusal :=
  if s.pwr.down || s.pwr.stuck || fullWipe s then .next s else .next (supReset watchdog s)

/-- TE0_WATCHDOG_EXPIRY (R494): TOUT ms after the last retrigger. -/
def execTe0WatchdogExpiry (s : State) : Host.Outcome State Fault Refusal :=
  let early := match s.pwr.wdtAt with
    | some t => decide (s.now < t + rd R.PWR_WDT_TOUT s * 1000)
    | none => false
  if early || s.pwr.down || s.pwr.stuck || fullWipe s then .next s else .next (supReset true s)

/-- WDT_RETRIGGER (R494): TE0 retriggers its watchdog. -/
def execWdtRetrigger (s : State) : Host.Outcome State Fault Refusal :=
  .next (whenS (te0Up s) (modPwr (fun p => { p with wdtAt := some s.now })) s)

/-! ### Metering pairs (R185 to R190) -/

/-- A cause that PAIRSTAT.CAUSE of metering pair member or Fold member `e` can name (R201, R343). -/
def listedCause (e cause : Nat) : Bool := decide (1 ≤ cause ∧ cause ≤ 6) || cause == 8 || (cause == 7 && decide (13 ≤ e))

/-- R187, R201: PAIRSTAT of a metering pair; a read forms PFCNT from the faults (`viewWord`). -/
def showPair (p : Nat) (s : State) : State :=
  if 2 ≤ p then showF s
  else
    let lo := pairLo p
    wrs [(R.NRG_PAIRSTAT_ACTIVE p, b2n (engState (lo + 1) s == 3)), (R.NRG_PAIRSTAT_DUPLEX p, b2n (pairDuplex lo s))] s

/-- R188: the requests of an outlet that the pair had acknowledged but not completed are completed FAULT by TE0. -/
def cutOff (o : Nat) (s : State) : State :=
  let s := match if o < 8 then (getMt o s).cal else s.supply.cal with
    | some c => complete (8 + c.1) 0x20 c.2 0 stFAULT s
    | none => s
  let s := if o < 8 then modMt o (fun m => { m with cal := none }) s else { s with supply := { s.supply with cal := none } }
  forEach ((chansOf o).filter (· < 12)) (fun c s =>
    let ch := getCh o c s
    let s := if ch.testOn then
        complete (8 + ch.testN) 0x21 ch.testW 0 stFAULT (testOver o c s)
      else s
    changeEnds stFAULT o c s) s

/-- R188: the outlet's energy computation is lost; the first summary carries START and GAP. -/
def lostMeter (o : Nat) (s : State) : State :=
  dropShown o (modMt o (fun m =>
    { Meter.reset with gapF := metType o s != 0,
                       gapAt := if metType o s = 0 then none else m.gapAt.orElse fun _ => some s.now,
                       lastInc := m.lastInc, lastReg := m.lastReg }) s)

/-- R188: a pair fault of metering pair `p`. -/
def metPairFault (p : Nat) (s : State) : State :=
  let lo := pairLo p
  let fs := s.now :: pairFaults p s
  let left := decide (3 ≤ fs.length)
  let s := forEach (pairOutlets p) (fun o s => rampDown o 8 false s) s
  let s := forEach (pairOutlets p ++ if p = 0 then [8] else []) cutOff s
  let s := match (getPair p s).req with
    | some r => complete (8 + r.1) 0x22 r.2.1 0 stFAULT s
    | none => s
  let s := modPair p (fun _ => { PairSt.reset with faults := fs }) s
  let s := forEach (pairOutlets p) lostMeter s
  if left then
    let s := stopForGood lo (stopForGood (lo + 1) (returnQueues lo s))
    let s := logEngine (lo + 1) 3 0 (logEngine lo 3 0 s)
    let s := disableQ (ownerQ lo) 0 false s
    showPair p s
  else showPair p (startReload (lo + 1) (startReload lo s))

/-- PAIR_FAULT (R188): both members fail at once; which of the causes 1 to 6 was the last, the command does not say (log
entry 86). -/
def execPairFault (p : Fin 2) (s : State) : Host.Outcome State Fault Refusal :=
  let lo := pairLo p
  if running lo s || running (lo + 1) s then
    .next (metPairFault p (nextFree (wr (R.NRG_PAIRSTAT_CAUSE p) (1 + (freeNow 3 s).toNat % 6) s)))
  else .next s

/-- R186, R187: the active member of a pair fails: its staged pushes are dropped, and the standby's own stand in their
place. -/
def adoptStandby (lo : Nat) (s : State) : State :=
  let p := pairIdx lo
  let alt := (getPair p s).alt
  let s := forEach qs128 (fun q s =>
    let x := getQ (qn q) s
    let keep := x.stg.filter fun m => m.1 != lo
    let mine := (alt.filter fun m => m.1 == q).map fun m => (lo, m.2)
    if keep.length = x.stg.length ∧ mine = [] then s else setQ (qn q) { x with stg := keep ++ mine } s) s
  modPair p PairSt.agreed s

/-- R187 step 4: SWITCH in the legal log. -/
def logSwitch (lo : Nat) (s : State) : State := logEvent lo 0x03 15 [] s

/-- R77, R187: a member fails.  With no healthy member left it is a pair fault (R188). -/
def giveUp (e cause : Nat) (s : State) : State :=
  let lo := pairLow e
  let other := if e = lo then lo + 1 else lo
  if !(running e s) then s
  else if 13 ≤ e then
    foldLoss (e - 13) cause (if engState e s = 3 && running other s then adoptStandby lo s else s)
  else
    let p := pairIdx e
    let was := engState e s
    let s := setEngState e 5 (wr (R.NRG_PAIRSTAT_CAUSE p) cause s)
    if !(running other s) then metPairFault p s
    else
      let s := modPair p (fun x => { x with swept := false }) s
      if was = 6 then logSwitch lo (showPair p (modPair p PairSt.agreed s)) else showPair p (adoptStandby lo s)

/-- MEMBER_GIVE_UP (R187, R201): for a cause that the member can have. -/
def execMemberGiveUp (e : Eid) (cause : Fin 16) (s : State) : Host.Outcome State Fault Refusal :=
  if isPaired e && listedCause e cause then .next (giveUp e cause s) else .next s

/-- STANDBY_TAKEOVER (R187): at the next FRAME the healthy standby is active. -/
def execStandbyTakeover (p : Fin 2) (s : State) : Host.Outcome State Fault Refusal :=
  let lo := pairLo p
  if pairUp lo s || !(engState lo s == 6 || engState (lo + 1) s == 6) then .next s
  else
    let e := if engState lo s = 6 then lo else lo + 1
    let s := incSat (R.NRG_PAIRSTAT_SWCNT p) (setEngState e 3 s)
    let s := forEach (pairOutlets p) (fun o s => modMt o (fun m => { m with flags := m.flags ||| sfSWITCH }) s) s
    .next (logSwitch lo (showPair p s))

/-- STATE_CHECK_SWEEP (R185): a difference is a fault; an uncorrectable word found by it is one too. -/
def execStateCheckSweep (e : Eid) (s : State) : Host.Outcome State Fault Refusal :=
  if !(isPaired e) || !(running e s) || stateOk e s then .next s
  else .next (giveUp e (if (getEng e s).dErr2.isEmpty then 3 else 1) s)

/-- The messages that a pair has staged in queue `q`: the active member's, and the standby's own (R94). -/
def stagedAct (lo q : Nat) (s : State) : List Msg := ((getQ (qn q) s).stg.filter fun m => m.1 == lo).map Prod.snd
def stagedSby (lo q : Nat) (s : State) : List Msg := ((getPair (pairIdx lo) s).alt.filter fun m => m.1 == q).map Prod.snd

/-- R186: two members' messages of one queue agree; a message that the pool has lost (R113) agrees with any. -/
def agree : List Msg → List Msg → Bool
  | [], [] => true
  | a :: as, b :: bs => (a == b || a.typ == 0xF1) && agree as bs
  | _, _ => false

/-- R50, R186: the members' pushes or their stores differ since the last acknowledgement point. -/
def diverged (lo : Nat) (s : State) : Bool :=
  (qs128.any fun q => !(agree (stagedAct lo q s) (stagedSby lo q s))) ||
    (getPair (pairIdx lo) s).stA != (getPair (pairIdx lo) s).stB

/-- R186: the staged pushes differ: both members run the state check; the one that fails gives up, and where neither
does, the standby is taken out.  The pushes of the member that remains are then entered. -/
def settleDivergence (lo : Nat) (s : State) : State :=
  if !(pairDuplex lo s) || !(diverged lo s) then s
  else
    let bad := [lo, lo + 1].filter fun e => !(stateOk e s)
    if bad.isEmpty then giveUp (if engState lo s = 6 then lo else lo + 1) 5 s
    else forEach bad (fun e s => giveUp e 3 s) s

/-- R91, R97: a queue of a function that starts is enabled with its capacity, where it is not. -/
def upQ (q : Nat) (s : State) : State := if (getQ (qn q) s).en then s else enableQ q (getQ (qn q) s).cap s

/-- R513: an engine's load is complete; the first load after a full reset is no reload. -/
def logLoaded (e : Nat) (s : State) : State := if (getEng (en e) s).ran then logEngine e 2 0 s else s

/-- R158: at its start a pair compares ROMCRC with the value the legal image holds; a mismatch makes every channel it owns
faulty. -/
def romCheck (p : Nat) (s : State) : State :=
  let s := { s with samp := { s.samp with romRead := true } }
  if romCrc = (Config.legalRomCrc (mramRdN s (mfAt 3 (slotOf 3 s)) 256)).toNat then s
  else logFault true 5 (pairLo p) 0x7F romCrc (forEach (pairOutlets p ++ if p = 0 then [8] else []) (fun o s =>
    forEach ((chansOf o).filter (· < 12)) (fun c s => wr (R.FLT_CHSTAT_FLT o c) 1 s) s) s)

/-- R516: the metering pair starts: it enables the channels of its outlets' configurations. -/
def meterStart (p : Nat) (s : State) : State :=
  let s := forEach (pairOutlets p) (fun o s =>
    let t := metType o s
    forEach ((List.range 8).filter fun c => typeUses t c) (fun c s => if flag (R.FLT_CHCFG_EN o c) s then s else enableChan o c s) s) s
  let s := whenS (p == 0) (fun s => { s with supply := { Supply.reset with band := s.supply.band, cal := s.supply.cal } }) s
  upQ (ownerQ (pairLo p)) (romCheck p s)

/-- R303, R306: the Fold partition's record, password and lock, as the Fold reads them at its start. -/
def loadFold (s : State) : State :=
  let r := mramRdN s 0x040000 532
  let salt := mramRdN s 0x040400 16
  let none_ := r.all (· == 0)
  let n := leNat (mramRdN s 0x040430 4)
  let len := leNat (mramRdN s 0x040434 4)
  let nosalt := salt.all (· == 0)
  let s := modFold (fun F =>
    { F with record := if none_ || !(recordOk r) then [] else r, staged := [], commit := none,
             commitRec := [], recBad := !none_ && !(recordOk r), salt := if nosalt then [] else salt,
             hash := if nosalt then [] else mramRdN s 0x040410 32, fails := n,
             lock := if len = 0 then none else some (len, s.now) }) s
  wrs [(R.FOLD_CFGCRC_CRC, if s.fold.record.isEmpty then 0 else rec4 r 528), (R.FOLD_PENDCRC_CRC, 0),
    (R.FOLD_CFGLOG_CHG, leNat (mramRdN s 0x040438 4))] s

/-- R82, R306, R321, R328: the Fold starts. -/
def foldStart (s : State) : State :=
  let s := initConns (loadFold s)
  let s := forEach outlets (fun o s => showK o (modFo o (fun x =>
    { x with ring := [], noNorm := 0, seen := false, test := 0, testRc := false, mask := 0, due := !s.fold.record.isEmpty,
             v13 := [], insSt := 0, insZero := none, close := none }) s)) s
  showF (forEach outlets (fun o s =>
    let s := if (getFo o s).kst = 3 ∧ kfb o s = true then setKst o 4 s else s
    if (getFo o s).openReq && !(notOpen o s) then kDone o 0x27 stOK (modFo o (fun x => { x with openReq := false }) s) else s)
    (inputsAtStart s))

/-- R82, R83: a pair starts once the load of both members is done: with one image in both they start at the same
instruction, the lower one active; one alone, where the other is STOPPED, runs simplex. -/
def pairStart (p : Nat) (s : State) : State :=
  let lo := pairLo p
  let ok (e : Nat) := engState e s == 2 && (getEng (en e) s).loadOk
  let go (s : State) : State :=
    showPair p (if p = 2 then foldStart s else meterStart p s)
  let log (s : State) : State := forEach ([lo, lo + 1].filter ok) logLoaded s
  if pairUp lo s then s
  else if ok lo && ok (lo + 1) then
    if (getEng (en lo) s).pmem = (getEng (en (lo + 1)) s).pmem then go (beginEng (lo + 1) 6 (beginEng lo 3 (log s))) else s
  else if ok lo && engState (lo + 1) s == 5 then go (beginEng lo 3 (log s))
  else if ok (lo + 1) && engState lo s == 5 then go (beginEng (lo + 1) 3 (log s))
  else showPair p s

/-! ### Loading (R83, R88, R89) -/

/-- ENGINE_RELOAD (R85): TE0 reloads an unpaired engine that stopped in a double fault or halted, or on a request an
outlet engine whose outlet is out of service (R39); not one that is STOPPED for good.  The spec gives the request of
R39 no message type, so that its refusal has no completion to enter (log entry 71). -/
def execEngineReload (e : Eid) (s : State) : Host.Outcome State Fault Refusal :=
  let st := engState e s
  let single := decide (1 ≤ e.val ∧ e.val ≤ 8) || e.val == 15
  if !(te0Up s) || !single || (getEng e s).final then .next s
  else if st = 5 ∨ st = 4 ∨ (st = 3 ∧ e.val ≤ 8 ∧ outOfService (e - 1) s) then .next (startReload e s)
  else .next s

/-- R83: the check value of an image: the words, least significant byte first. -/
def imageCrc (ws : List W32) : Nat := crc32 (ws.flatMap fun w => leBytes 4 w.toNat)

/-- R82: the place of an engine in the order of a start. -/
def loadRank (e : Nat) : Nat := if e = 0 ∨ e = 15 then 0 else if 13 ≤ e then 1 else if e ≤ 8 then 4 else if e ≤ 10 then 2 else 3

/-- The engine awaits its first load since the full reset. -/
def firstLoad (e : Nat) (s : State) : Bool := (engState e s == 1 || engState e s == 2) && !(getEng (en e) s).ran

/-- R82 steps 4 to 7: in a start an engine is loaded once every engine of an earlier step has been. -/
def loadTurn (e : Nat) (s : State) : Bool :=
  !(firstLoad e s) || engs16.all fun d => decide (loadRank e ≤ loadRank d) || !(firstLoad d s)

/-- R83: write an engine's program words, and compare the CRC-32 that the load port forms with the value of the image
header. -/
def loadWords (e : Nat) (words : List W32) (header : Option Nat) (s : State) : State :=
  let c := imageCrc words
  modEng (en e) (fun x => { x with pmem := SMap.cells 0 0 (words.take (memWords e)), loadCrc := c, loadOk := some c == header }) s

/-- ENGINE_LOAD (R82, R83, R423, R424): the words as the load port reads them back, and the header's CRC-32, which is
the one of the engine's section; a section with a block that fails its DIGEST leaves the engine STOPPED (R437). -/
def execEngineLoad (e : Eid) (words : List W32) (crc : W32) (s : State) : Host.Outcome State Fault Refusal :=
  let header := (sectFor (engRegion e) e s).map fun q => q.2.2
  if !(te0Up s) || engState e s != 2 || !(loadTurn e s) then .next s
  else if !(sectOk e s) then .next (logFault true 0 0xFF 0x7F 0 (stopForGood e s))
  else .next (loadWords e words (if header = some crc.toNat then header else none) s)

/-- R82, R84: an unpaired engine starts.  TE15 prepares the vault (R394); an outlet engine finds its input queues
enabled; TE0 gives back a held pilot through its outlet engine only (R263). -/
def engineStart (e : Nat) (s : State) : State :=
  let s := beginEng e 3 (logLoaded e s)
  let s := whenS (decide (1 ≤ e ∧ e ≤ 8)) (fun s =>
    let s := afterCut (e - 1) (forEach [55 + e, 63 + e, 79 + e, 95 + e] upQ s)
    if held (e - 1) s then s else takeLink (e - 1) (takeFold (e - 1) s)) s
  whenS (e == 15) (fun s => lateReadings (vaultStart (forEach [110, 112] upQ s))) s

/-- R408: a wipe not done at a start of TE0 (its change is numbered from 8) holds every engine but TE0 and TE15 until it
is done. -/
def startHeld (e : Nat) (s : State) : Bool :=
  e != 0 && e != 15 && wiping s && match s.vault.life with
    | some l => decide (8 ≤ l.1)
    | none => false

/-- R83, R513: the load of engine `e` has failed twice: it stays STOPPED, with FAULT in the legal log, which shows the
CRC-32 `crc` that the load port formed. -/
def loadFails (e crc : Nat) (s : State) : State := logFault true 3 e 0x7F crc (logEngine e 3 0 (stopForGood e s))

/-- ENGINE_LOAD_COMPLETE (R83): one repeat, then STOPPED with FAULT in the legal log. -/
def execEngineLoadComplete (e : Eid) (s : State) : Host.Outcome State Fault Refusal :=
  if engState e s != 2 || !(te0Up s) || startHeld e s then .next s
  else
    let x := getEng e s
    if x.loadOk then
      if isPaired e then .next (pairStart (pairIdx e) s) else .next (engineStart e s)
    else if x.loadTries = 0 then .next (modEng e (fun x => { x with loadTries := 1 }) s)
    else
      let s := loadFails e x.loadCrc s
      if isPaired e then .next (pairStart (pairIdx e) s) else .next s

/-- R88: the engines of a wipe's scope. -/
def scopeEngines : WipeScope → List Nat
  | .full => engs16
  | .supervisor => supEngines
  | .engine e => [e.val]

/-- R88: a wipe of a wider scope, with engine `e` in it, is under way: the engine starts only once that is complete. -/
def wipeRuns (e : Nat) (s : State) : Bool :=
  match s.pwr.wipe with
  | some w => (scopeEngines w).contains e
  | none => false

/-! ### Rejoin (R189) and standby requests -/

/-- A PAIR_STANDBY or FOLD_STANDBY ends. -/
def standbyDone (p st : Nat) (s : State) : State :=
  if p = 2 then
    match s.fold.standby with
    | some r => foldReply r.1.te0 0x2C r.1.w0 0 st (modFold (fun F => { F with standby := none }) s)
    | none => s
  else match (getPair p s).req with
    | some r => complete (8 + r.1) 0x22 r.2.1 0 st (modPair p (fun x => { x with req := none }) s)
    | none => s

/-- Is the running request one with a reload? -/
def standbyReload (p : Nat) (s : State) : Option Bool :=
  if p = 2 then s.fold.standby.map Prod.snd else (getPair p s).req.map fun r => r.2.2

/-- R189 failed, and member `e` is STOPPED: the rejoin and the request that asked for it end. -/
def rejoinEnds (e : Nat) (s : State) : State :=
  let p := pairIdx e
  standbyDone p stFAULT (showPair p (modPair p (fun x => { x with swept := false, mismatches := 0 }) s))

/-- R189 failed: the member stays STOPPED. -/
def rejoinFails (e : Nat) (cause : Option Nat) (s : State) : State :=
  let s := match cause with
    | some c => wr (if pairIdx e = 2 then R.FOLD_FSTAT_CAUSE else R.NRG_PAIRSTAT_CAUSE (pairIdx e)) c s
    | none => s
  rejoinEnds e (logEngine e 3 0 (stopForGood e s))

/-- R83, R88, R189 step 1: the member is wiped, which QM.WIPE shows, with a length that is left free (log entry 94), and
loaded with the image of the active member, once more after a mismatch. -/
def rejoinLoad (e : Nat) (s : State) : State :=
  let a := getEng (en (activeOf (pairLow e) s)) s
  if (getEng (en e) s).loadTries = 1 then modEng (en e) (fun x => { x with pmem := a.pmem }) s
  else
    let s := logEngine e 1 0 (incSat (R.QM_ENGSTAT_RELOADS e) (wipeEng e s))
    let s := wrs [(R.QM_WIPE_DONE, 1), (R.QM_WIPE_FAILED, 0), (R.QM_WIPE_DURATION, (freeNow 16 s).toNat)] s
    nextFree (setEngState e 2 (modEng (en e) (fun x => { x with pmem := a.pmem }) s))

/-- R189 step 3: the sweep copies the active member's data memory. -/
def sweepCopy (e : Nat) (s : State) : State :=
  let a := getEng (en (activeOf (pairLow e) s)) s
  let s := modEng (en e) (fun x => { x with dmem := a.dmem, dErr1 := a.dErr1, dErr2 := a.dErr2 }) s
  modPair (pairIdx e) (fun x => { x with swept := true }) s

/-- R189: member `e` may go through steps 1 and 2: it is stopped and the Fold's contactors are open (R39), a request asks
for it, or its first load did not match. -/
def mayRejoin (e : Nat) (s : State) : Bool :=
  let p := pairIdx e
  let asked := standbyReload p s
  let free := engState e s == 5 && !(getEng (en e) s).final && asked.isNone && (p != 2 || !(outlets.any fun o => maybeShut o s))
  free || (engState e s == 2 && !(getPair p s).swept && (asked.isSome || (getEng (en e) s).loadTries == 1))

/-- MEMBER_REJOIN (R189 steps 1 to 3): `imageOk` says that the load matched the header, `testOk` that the self-test passed. -/
def execMemberRejoin (e : Eid) (imageOk testOk : Bool) (s : State) : Host.Outcome State Fault Refusal :=
  let p := pairIdx e
  let other := if e.val = pairLow e then e + 1 else e - 1
  let asked := standbyReload p s
  if !(isPaired e) || !(te0Up s) || engState other s != 3 || !(mayRejoin e s) then .next s
  else
    let load := asked != some false
    let again := (getEng e s).loadTries == 1
    let s := whenS load (rejoinLoad e) s
    if load && !imageOk then
      .next (if again then rejoinEnds e (loadFails e (freeNow 32 s).toNat (nextFree s))
             else modEng e (fun x => { x with loadTries := 1 }) s)
    else if !testOk then .next (rejoinFails e (some 8) s)
    else
      let s := whenS load (logEngine e 2 0) s
      let s := if asked = some false then standbyDone p stOK s else s
      .next (sweepCopy e (modEng e (fun x => { x with loadTries := 0 }) s))

/-- The messages the active member has staged, each with its queue: the standby takes its queue state (R189 step 4). -/
def stagedAll (lo : Nat) (s : State) : List (Nat × Msg) := qs128.flatMap fun q => (stagedAct lo q s).map fun m => (q, m)

/-- REJOIN_SYNC (R189 steps 4, 5, R190). -/
def execRejoinSync (e : Eid) (s : State) : Host.Outcome State Fault Refusal :=
  let p := pairIdx e
  if !(isPaired e) || !(getPair p s).swept || engState e s != 2 || !(pairUp (pairLow e) s) then .next s
  else
    let a := getEng (en (activeOf (pairLow e) s)) s
    let x := getEng e s
    let copy := { a with pmem := x.pmem, pErr1 := x.pErr1, pErr2 := x.pErr2, chk := chkOf a.dmem, faults := x.faults,
                         final := false, ran := true, loadTries := 0, loadOk := x.loadOk, loadCrc := x.loadCrc }
    if copy.chk = a.chk then
      let s := setEngState e 6 (setEng e copy s)
      let s := modPair p (fun x => { x with swept := false, mismatches := 0, alt := stagedAll (pairLow e) s, stB := x.stA }) s
      let s := if p = 2 then logFold 15 4 0 0 s else s
      .next (standbyDone p stOK (showPair p s))
    else if (getPair p s).mismatches = 0 then .next (sweepCopy e (modPair p (fun x => { x with mismatches := 1 }) s))
    else .next (rejoinFails e none s)

/-- PAIR_STANDBY (R188, R195, R196, R39). -/
def execPairStandby (n : Fin 8) (w0 w1 : W24) (s : State) : Host.Outcome State Fault Refusal :=
  let p := fld w0 0 0
  let lo := pairLo p
  if pairStopped lo s then .next (hostReq n 0x22 w0 w1 [] true (reply n 0x22 w0.toNat 0 stFAULT) s)
  else .next (viaReq (ownerQ lo) 0 n 0x22 w0 w1 [] (pairServes lo s) (fun s =>
      let tested := (pairOutlets p ++ if p = 0 then [8] else []).any fun o => (chansOf o).any fun c => decide (c < 12) && (getCh o c s).testOn
      let st := refusal false (fld w0 23 1 != 0 || fld w1 23 1 != 0) (isScrapped s) false false
        (!(pairDuplex lo s) || (getPair p s).req.isSome || tested)
      if st ≠ stOK then reply n 0x22 w0.toNat 0 st s
      else
        let sb := if engState lo s = 6 then lo else lo + 1
        let s := modPair p (fun x => { x with req := some (n.val, w0.toNat, w1.toNat % 2 == 1), swept := false, mismatches := 0 }) s
        showPair p (setEngState sb 2 s)) s)

/-- FOLD_STANDBY (R336, R338, R339). -/
def execFoldStandby (te0 : Bool) (w0 w1 : W24) (s : State) : Host.Outcome State Fault Refusal :=
  .next (foldReq te0 0x2C w0 w1 [] (fun s => s)
    (fun s => (refusal false (w0 != 0 || fld w1 23 1 != 0) (isScrapped s) false false
      (s.fold.standby.isSome || !(pairDuplex 13 s) || outlets.any fun o => maybeShut o s), 0))
    (fun _ s =>
      let sb := if engState 13 s = 6 then 13 else 14
      let s := modFold (fun F => { F with standby := some (⟨te0, w0.toNat⟩, w1.toNat % 2 == 1) }) s
      showF (modPair 2 (fun x => { x with swept := false, mismatches := 0 }) (setEngState sb 2 s))) s)

/-- SUMMARY (R178, R185): the test vector, then the summary of the oldest closed second. -/
def execSummary (o : Fin 8) (vectorOk : Bool) (s : State) : Host.Outcome State Fault Refusal :=
  let lo := pairOf o
  if !(pairUp lo s) || metType o s == 0 || !(getMt o s).restored then .next s
  else
    let s := closeIfPast o s
    match (getMt o s).due with
    | [] => .next s
    | u :: _ =>
      if !vectorOk then .next (giveUp (activeOf lo s) 4 s)
      else .next (pushSummary o u (keepShown ⟨o, u.sec, u.regs.getD 0 0, u.regs.getD 1 0, u.flags⟩ s))

/-! ### The fabric (R112, R113) -/

/-- WITHDRAWN_COMPLETION_ENTRY (R112): waiting completions enter as room comes, in order. -/
def execWithdrawnCompletionEntry (q : Qid) (s : State) : Host.Outcome State Fault Refusal :=
  .next (settleOwed (settle q s))

/-- Replace the `i`-th message by CORRUPT, with its number (R113). -/
def corruptAt (i : Nat) (l : List (Byte × Msg)) : List (Byte × Msg) := l.modify i fun e => (e.1, mkMsg 0xF1 0 0)

/-- POOL_UNCORRECTABLE_ERROR (R113): the pool entry of message `i` of the delivered, then the entered, then the staged
messages of `q`.  A staged message has no number yet; the log shows the one it will receive if it enters next. -/
def execPoolUncorrectableError (q : Qid) (i : Nat) (s : State) : Host.Outcome State Fault Refusal :=
  let x := getQ q s
  let k := x.dlv.length
  let n := k + x.ent.length
  if x.used ≤ i then .next s
  else
    let y := if i < k then { x with dlv := corruptAt i x.dlv }
             else if i < n then { x with ent := corruptAt (i - k) x.ent }
             else { x with stg := x.stg.modify (i - n) fun e => (e.1, mkMsg 0xF1 0 0) }
    let seq := match (x.dlv ++ x.ent)[i]? with
      | some e => e.1
      | none => x.tail
    .next (logFault true 1 0xFF q seq.toNat (incSat R.QM_ERR_UNCORR (setQ q y s)))

/-! ### Double faults (R76, R85, R87, R188, R335) -/

/-- Hardware stops an engine in a double fault; `exc` caused it. -/
def doubleFault (e exc : Nat) (s : State) : State :=
  let s := wr (R.QM_ENGSTAT_LASTEXC e) exc s
  let s := logEngine e 0 exc s
  if e = 0 then supReset false s
  else if isPaired e then
    let lo := pairLow e
    let s := wr (R.QM_ENGSTAT_LASTEXC (if e = lo then lo + 1 else lo)) exc s
    if 13 ≤ e then foldPairDown 6 s
    else metPairFault (pairIdx e) (wr (R.NRG_PAIRSTAT_CAUSE (pairIdx e)) 6 s)
  else
    let s := setEngState e 5 (returnQueues e s)
    let s := modEng (en e) (fun x => { x with faults := s.now :: recentFaults e s, blocked := .no }) s
    let s := if 3 ≤ (recentFaults e s).length then engineDead e (logEngine e 3 0 (stopForGood e s)) else s
    whenS (decide (1 ≤ e ∧ e ≤ 8) && foldUp s) (holdBegin (e - 1)) s

end Sys2Proof.Machine
end

