-- ==== Sys2Proof/Machine/Eth.lean ====
section
/-!
DEFINITION. The Ethernet ports (R356 to R361): the switch, the host's frame rings, transparent-clock corrections, and
the writes of the port and ring registers.
-/
namespace Sys2Proof.Machine

/-- R360: a stamp in 12 bytes: seconds, nanoseconds, sub-nanoseconds. -/
def stampBytes (t : Int) : List Byte :=
  let u := (t % (clockMod / 2 ^ 24 : Nat)).toNat
  leBytes 6 (u / (1000000000 * 2 ^ 16)) ++ leBytes 4 (u / 2 ^ 16 % 1000000000) ++ leBytes 2 u

/-- Byte `i` of a frame, as a number. -/
def fb (bs : List Byte) (i : Nat) : Nat := (bs.getD i 0).toNat

/-- R349: versionPTP 2 with minorVersionPTP 0 or 1, in a PTP header. -/
def ptpVersion (bs : List Byte) (h : Nat) : Bool := fb bs (h + 1) == 0x02 || fb bs (h + 1) == 0x12

/-- R349: where the PTP header of a frame starts: Layer 2, or UDP over IPv4 with the event or general port, to the addresses
the part supports. -/
def ptpAt (bs : List Byte) : Option (Nat × Nat) :=
  let et := fb bs 12 * 256 + fb bs 13
  if et = 0x88F7 then
    if ptpVersion bs 14 && (beNat (bs.take 6) == 0x011B19000000 || beNat (bs.take 6) == 0x0180C200000E) then some (14, 0)
    else none
  else
    let h := 14 + (fb bs 14 % 16) * 4
    let port := fb bs (h + 2) * 256 + fb bs (h + 3)
    let ip := beNat ((bs.drop 30).take 4)
    if et = 0x0800 ∧ fb bs 14 / 16 = 4 ∧ fb bs 23 = 17 ∧ (port = 319 ∨ port = 320) ∧
        (ip = 0xE0000181 ∨ ip = 0xE000006B) ∧ ptpVersion bs (h + 8) then some (h + 8, 1) else none

/-- R358: a PTP message of a domain that a slot tracks on port `p`. -/
def trackedPtp (p : Nat) (bs : List Byte) (s : State) : Bool :=
  match ptpAt bs with
  | some (h, tr) => [0, 1].any fun i =>
      rd (R.PTP_SCFG_SRC i) s == p + 1 && rd (R.PTP_SCFG_DOMAIN i) s == fb bs (h + 4) &&
        rd (R.PTP_SCFG_SDOID i) s == fb bs h / 16 && rd (R.PTP_SCFG_TRANS i) s == tr
  | none => false

/-- R359: under P2P the frame is not forwarded: Delay_Req and Delay_Resp. -/
def p2pStops (p : Nat) (bs : List Byte) (s : State) : Bool :=
  rd (R.PTP_PCFG_TC p) s == 2 &&
    match ptpAt bs with
    | some (h, _) => fb bs h % 16 == 1 || fb bs h % 16 == 9
    | none => false

/-- R358: broadcast or multicast. -/
def isGroup (bs : List Byte) : Bool := fb bs 0 % 2 == 1

/-- R358: the host's address. -/
def isHostMac (bs : List Byte) (s : State) : Bool :=
  leNat (bs.take 6) == rd R.PTP_HMACLO_MAC s + 2 ^ 32 * rd R.PTP_HMACHI_MAC s

/-- R360: place a frame in the receive ring, or drop it where the ring is full. -/
def toHostRing (p : Nat) (bs : List Byte) (s : State) : State :=
  let h := rd R.PTP_HRXPTR_HEAD s
  if (h + 1) % 64 = rd R.PTP_HRXPTR_TAIL s then incSat (R.PTP_PCNT_DROP p) s
  else
    let bs := bs.take 2032
    let slot := leBytes 2 bs.length ++ leBytes 1 p ++ [0] ++ stampBytes (ingressStamp p s) ++ bs
    wr R.PTP_HRXPTR_HEAD (h + 1) (modNet (fun n => { n with rx := SMap.putN 0 n.rx (h * 2048) slot }) s)

/-- R358: hold a frame for the other port. -/
def toOtherPort (p : Nat) (bs : List Byte) (s : State) : State :=
  if flag (R.PTP_PCFG_FWD p) s && flag (R.PTP_PCFG_EN (1 - p)) s && !(p2pStops p bs s) then
    modNet (fun n => { n with held := n.held ++ [(1 - p, bs, (ingressStamp p s % (clockMod / 2 ^ 24 : Nat)).toNat)] }) s
  else s

/-- ETH_FRAME_RX (R357 to R360): `bytes` is the frame from its destination address, without FCS. -/
def execEthFrameRx (p : Fin 2) (bytes : List Byte) (fcsOk : Bool) (s : State) : Host.Outcome State Fault Refusal :=
  .next (
    if !(pdOn 7 s && flag (R.PTP_PCFG_EN p) s) then s
    else if !fcsOk then incSat (R.PTP_PCNT_FCS p) s
    else if trackedPtp p bytes s then toOtherPort p bytes s
    else if isHostMac bytes s && !(isGroup bytes) then toHostRing p bytes s
    else if isGroup bytes then toOtherPort p bytes (toHostRing p bytes s)
    else toOtherPort p bytes s)

/-- A list of bytes with a run replaced. -/
def patch (bs : List Byte) (i : Nat) (xs : List Byte) : List Byte := bs.take i ++ xs ++ bs.drop (i + xs.length)

/-- R359: a frame with `c` (2^−16 ns) added to its correctionField; under UDP its checksum is 0. -/
def addCorrection (bs : List Byte) (h tr : Nat) (c : Int) : List Byte :=
  let old := sext 64 (beNat ((bs.drop (h + 8)).take 8))
  let bs := patch bs (h + 8) (beBytes 8 (toU 64 (old + c)))
  if tr = 1 then patch bs (h - 2) [0, 0] else bs

/-- The identity of a Sync and of its Follow_Up: sourcePortIdentity and sequenceId. -/
def ptpKey (bs : List Byte) (h : Nat) : Nat := leNat ((bs.drop (h + 20)).take 12)

/-- R359: a frame as it leaves toward the other port, with what a two-step Sync leaves for its Follow_Up. -/
def transparent (egr : Nat) (bs : List Byte) (inStamp : Nat) (s : State) : List Byte × State :=
  let ing := 1 - egr
  let tc := rd (R.PTP_PCFG_TC ing) s
  match ptpAt bs with
  | none => (bs, s)
  | some (h, tr) =>
    let t := fb bs h % 16
    let res := egressStamp egr s - (inStamp : Int)
    if tc = 0 ∨ 2 < tc then (bs, s)
    else if t = 0 ∨ (t = 1 ∧ tc = 1) then
      let c := if tc = 2 ∧ t = 0 then res + (rd (R.PTP_PPDLY_D ing) s * 2 ^ 16 : Nat) else res
      if t = 0 ∧ (fb bs (h + 6) / 2) % 2 = 1 then
        (bs, modNet (fun n => { n with resid := n.resid ++ [(ing, ptpKey bs h, c)] }) s)
      else (addCorrection bs h tr c, s)
    else if t = 8 then
      match s.net.resid.find? fun r => r.1 == ing && r.2.1 == ptpKey bs h with
      | some r => (addCorrection bs h tr r.2.2,
                   modNet (fun n => { n with resid := n.resid.filter fun x => !(x.1 == ing && x.2.1 == ptpKey bs h) }) s)
      | none => (bs, s)
    else (bs, s)

/-- A frame leaves a port. -/
def sendFrame (p : Nat) (bs : List Byte) (s : State) : State :=
  modNet (fun n => { n with lastTx := ((p, bs) :: n.lastTx).take 4 }) s

/-- FORWARDED_FRAME_EGRESS (R359): the oldest frame held for port `p` leaves. -/
def execForwardedFrameEgress (p : Fin 2) (s : State) : Host.Outcome State Fault Refusal :=
  match s.net.held.find? fun f => f.1 == p.val with
  | none => .next s
  | some f =>
    if !(pdOn 7 s && flag (R.PTP_PCFG_EN p) s) then .next s
    else
      let r := transparent p f.2.1 f.2.2 s
      let s := modNet (fun n => { n with held := n.held.eraseP fun f => f.1 == p.val }) r.2
      .next (incSat (R.PTP_PCNT_FWD (1 - p.val)) (sendFrame p r.1 s))

/-- PORT_LINK_LOST (R370): what is held for the port is dropped and counted. -/
def execPortLinkLost (p : Fin 2) (s : State) : Host.Outcome State Fault Refusal := .next (dropHeld p s)

/-- ETH_FRAME_TX_DONE (R360): the frame at HTXPTR.HEAD leaves; a requested stamp is written back. -/
def execEthFrameTxDone (s : State) : Host.Outcome State Fault Refusal :=
  let h := rd R.PTP_HTXPTR_HEAD s
  if !(pdOn 7 s) || h == rd R.PTP_HTXPTR_TAIL s then .next s
  else
    let slot := SMap.getN 0 s.net.tx (h * 2048) 2048
    let ctl := fb slot 2
    let bs := (slot.drop 16).take (leNat (slot.take 2))
    let ps := if ctl % 4 = 0 then [0] else if ctl % 4 = 1 then [1] else if ctl % 4 = 2 then [0, 1] else []
    let ps := ps.filter fun p => flag (R.PTP_PCFG_EN p) s
    let stamp : Option (List Byte) := if (ctl / 4) % 2 = 0 then none else match ps with
      | [] => none
      | [p] => some (stampBytes (egressStamp p s))
      | _ => some (freeBytes s 12)
    let s := forEach ps (fun p => sendFrame p bs) s
    let s := match stamp with
      | some b => { modNet (fun n => { n with tx := SMap.putN 0 n.tx (h * 2048 + 4) b }) s with freeCtr := s.freeCtr + 12 }
      | none => s
    .next (wr R.PTP_HTXPTR_HEAD (h + 1) s)

/-- HTXPTR_WRITE (R360): transmit slots handed over. -/
def htxptrSet (v : Nat) (s : State) : State × Nat := (wr R.PTP_HTXPTR_TAIL (v / 2 ^ 16) s, stOK)
def execHtxptrWrite (v : W32) (s : State) : Host.Outcome State Fault Refusal := .next (hostWrite 0x17000034 v.toNat (htxptrSet v.toNat) s)

/-- HRXPTR_WRITE (R360): receive slots returned to the hardware. -/
def hrxptrSet (v : Nat) (s : State) : State × Nat := (wr R.PTP_HRXPTR_TAIL (v / 2 ^ 16) s, stOK)
def execHrxptrWrite (v : W32) (s : State) : Host.Outcome State Fault Refusal := .next (hostWrite 0x17000030 v.toNat (hrxptrSet v.toNat) s)

/-- R356, R361, R507: the effect of a write of PCFG of port `p`; setting EN takes PDLY into effect. -/
def pcfgSet (p v : Nat) (s : State) : State × Nat :=
  let sp := v / 2 % 4
  if sp = 2 ∧ rd (R.PTP_PCFG_SPEED (1 - p)) s = 2 ∧ limGig (limitMode s) < 2 then (s, stBUDGET)
  else
    let s := whenS (v % 2 == 1 && !(flag (R.PTP_PCFG_EN p) s)) (fun s =>
      wrs [((R.PTP_PDLY_TXID p).eff, rd (R.PTP_PDLY_TXID p) s), ((R.PTP_PDLY_RXID p).eff, rd (R.PTP_PDLY_RXID p) s)] s) s
    (ebypUpdate (wrs [(R.PTP_PCFG_EN p, v), (R.PTP_PCFG_SPEED p, sp), (R.PTP_PCFG_TC p, v / 2 ^ 3),
    (R.PTP_PCFG_FWD p, v / 2 ^ 5)] s), stOK)

/-- PCFG_WRITE (R356). -/
def execPcfgWrite (p : Fin 2) (v : W32) (s : State) : Host.Outcome State Fault Refusal := .next (hostWrite (0x17001000 + p.val * 0x1000) v.toNat (pcfgSet p v.toNat) s)

end Sys2Proof.Machine
end

