-- ==== Sys2Proof/Machine/QueueHost.lean ====
section
/-!
DEFINITION. The host's access to the queue manager (R104 to R106, R108).
-/
namespace Sys2Proof.Machine

def qreg (q r : Nat) : Nat := 0x10001000 + q * 0x40 + r

/-- R95, R106: the message a host assembles. -/
def hostMsg (low high : Nat) : Msg := mkMsg (high / 2 ^ 24) (high % 2 ^ 16 * 2 ^ 8 + low / 2 ^ 24) low

/-- R95: the two halves of a message as the host sees it. -/
def msgLow (m : Msg) : Nat := m.w0.toNat % 2 ^ 8 * 2 ^ 24 + m.w1.toNat
def msgHigh (e : Byte × Msg) : Nat := e.2.typ.toNat * 2 ^ 24 + e.1.toNat * 2 ^ 16 + e.2.w0.toNat / 2 ^ 8

/-- The outlet a host's request names, for its completion queue; only Q104 and Q0 to Q7 take part, whose completion
queue does not depend on it. -/
def qpushhSet (q v : Nat) (s : State) : State × Nat :=
  if !(hostProduces q s) then (s, stDENIED)
  else
    let m := hostMsg (rd (R.QM_QPUSHL_LOW q) s) v
    if (getQ (qn q) s).en && (getQ (qn q) s).full then (s, stBUDGET)
    else
      let s := pushBy 16 q 0 m (putQ q m) s
      (if q < 8 then lookAtHead q s else s, stOK)

/-- R106: a write of QPUSHL. -/
def qpushlSet (q v : Nat) (s : State) : State × Nat :=
  if !(hostProduces q s) then (s, stDENIED) else (wr (R.QM_QPUSHL_LOW q) v s, stOK)

/-- QPUSHH (R104, R106). -/
def execQpushh (q : Qid) (v : W32) (s : State) : Host.Outcome State Fault Refusal :=
  .next (hostWrite (qreg q 0x14) v.toNat (qpushhSet q v.toNat) s)

/-- R104, R106: a read of QPOPH pops a message and latches it. -/
def qpophGet (q : Nat) (s : State) : State × Nat :=
  if !(hostConsumes q s) then (s, stDENIED)
  else
    let x := getQ (qn q) s
    let show_ (hi lo : Nat) (s : State) := wrs [(R.QM_QPOPH_HIGH q, hi), (R.QM_QPOPL_LOW q, lo)] s
    if 128 ≤ x.dlv.length then (show_ 0 0 (setQ (qn q) { x with ackReq := true } s), stOK)
    else match x.ent with
      | [] => (show_ 0 0 s, stOK)
      | e :: _ =>
        (show_ (msgHigh e) (msgLow e.2)
          (modQ (qn q) (fun x => { x with ent := x.ent.drop 1, dlv := x.dlv ++ [e] }) (corrected q [e] s)), stOK)

/-- R106: a read of QPOPL. -/
def qpoplGet (q : Nat) (s : State) : State × Nat := (s, if hostConsumes q s then stOK else stDENIED)

/-- QPOPH (R104, R106). -/
def execQpoph (q : Qid) (s : State) : Host.Outcome State Fault Refusal := .next (accRead (hostGet (qreg q 0x1C) (qpophGet q) s))

/-- R105: a write of QACK. -/
def qackSet (q v : Nat) (s : State) : State × Nat :=
  if !(hostConsumes q s) then (s, stDENIED)
  else
    let n : Byte := BitVec.ofNat 8 v
    let x := { getQ (qn q) s with ackReq := false }
    let s := setQ (qn q) x s
    match x.dlv.findIdx? fun e => e.1 == n with
    | some k => (settle q (setQ (qn q) (Queue.ackN (k + 1) x) s), stOK)
    | none =>
      let behind := (x.ack - n).toNat
      (s, if behind < 128 then stOK else if behind = 128 then stSTALE else stDENIED)

/-- QACK (R105). -/
def execQack (q : Qid) (v : W32) (s : State) : Host.Outcome State Fault Refusal :=
  .next (hostWrite (qreg q 0x20) v.toNat (qackSet q v.toNat) s)

/-- R104, R106: a write of QREPLAY. -/
def qreplaySet (v : Nat) (s : State) : State × Nat :=
  let q := v % 128
  if !(hostConsumes q s) then (s, stDENIED) else (modQ (qn q) Queue.replay s, stOK)

/-- QREPLAY (R104). -/
def execQreplay (v : W32) (s : State) : Host.Outcome State Fault Refusal :=
  .next (hostWrite 0x10000010 v.toNat (qreplaySet v.toNat) s)

/-- R106: a write of DOORBELL. -/
def doorbellSet (v : Nat) (s : State) : State × Nat :=
  (if v % 2 = 1 then modEng 0 (fun e => { e with evBell := true }) s else s, stOK)

/-- DOORBELL (R106). -/
def execDoorbell (v : W32) (s : State) : Host.Outcome State Fault Refusal :=
  .next (hostWrite 0x10000004 v.toNat (doorbellSet v.toNat) s)

/-- R108: a write of SLKCLR. -/
def slkclrSet (i v : Nat) (s : State) : State × Nat :=
  (if v % 2 = 1 then wrs [(R.QM_SLKMIN_MIN i, 0xFF), (R.QM_SLKLOW_COUNT i, 0)] s else s, stOK)

/-- SLKCLR (R108). -/
def execSlkclr (i : Fin 11) (v : W32) (s : State) : Host.Outcome State Fault Refusal :=
  .next (hostWrite (0x1000400C + i.val * 0x10) v.toNat (slkclrSet i v.toNat) s)

/-- R104: every unacknowledged message the host has popped is delivered again. -/
def replayHost (s : State) : State :=
  forEach (List.range 128) (fun q s => if hostConsumes q s then modQ (qn q) Queue.replay s else s) s

end Sys2Proof.Machine
end

