-- ==== Sys2Proof/Machine/Time.lean ====
section
/-!
DEFINITION. The commands of network time (R345 to R355, R371): PTP messages, the servo slots, the backup clock, and the
writes and reads of the clock registers.
-/
namespace Sys2Proof.Machine

/-- R350: the Syncs of slot `i` whose follow-up, correction and path delay are in hand form their offsets, in order. -/
def formOffsets (i : Nat) (s : State) : State :=
  if !(delayKnown i s) then s
  else
    forEach (getSv i s).syncs (fun e => offsetIn i (e.1 - e.2.1 - (pathDelay i s * 2 ^ 16 : Nat)) e.2.2 true)
      (modSv i (fun x => { x with syncs := [] }) s)

/-- A Sync is complete: origin time `t1` and ingress stamp `t2`, corrected, at sync interval `ts`. -/
def syncIn (i : Nat) (t1 t2 : Int) (ts : Nat) (s : State) : State :=
  formOffsets i (modSv i (fun x => { x with syncs := x.syncs ++ [(t1, t2, ts)], last := some (t1, t2) }) s)

/-- PTP_SYNC (R350, R357): a Sync of port identity `src` arrives, with its origin time `t1` and correctionField, at sync
interval `ts`; its ingress stamp is the local clock's, corrected. -/
def execPtpSync (i : Fin 2) (src : BitVec 64) (seq : BitVec 16) (twoStep : Bool) (t1 corr : Int) (ts : Nat) (s : State) :
    Host.Outcome State Fault Refusal :=
  let t2 := ingressStamp (slotSrc i s - 1) s
  if !(tracks1588 i s) || (getSv i s).master != some src then .next s
  else if twoStep then .next (modSv i (fun x => { x with wait := some (src, seq, t2 - corr, ts) }) s)
  else .next (syncIn i (t1 + corr) t2 ts s)

/-- PTP_FOLLOW_UP (R349): the precise origin time of a two-step Sync, with the correction of the Follow_Up. -/
def execPtpFollowUp (i : Fin 2) (src : BitVec 64) (seq : BitVec 16) (t1 : Int) (s : State) :
    Host.Outcome State Fault Refusal :=
  match (getSv i s).wait with
  | some (ws, wq, t2, ts) =>
    if tracks1588 i s && ws == src && wq == seq && (getSv i s).master == some src then
      .next (syncIn i t1 t2 ts (modSv i (fun x => { x with wait := none }) s))
    else .next s
  | none => .next s

/-- R355: the UTCOFS of an Announce of the selected master. -/
def announceUtc (i : Nat) (utc : Int) (leap59 leap61 : Bool) (s : State) : State :=
  let s := wr (R.PTP_SSTAT_UTCOFS i) (toU 16 utc) s
  let next := if leap61 then some (utc + 1) else if leap59 then some (utc - 1) else none
  let s := modSv i (fun x => { x with leap := next }) s
  whenS (i == selSlot s && rd R.BIL_UTCOFS_S s != toU 16 utc) (setUtc utc) s

/-- PTP_ANNOUNCE (R349, R355): `rank` orders the master as the best master clock algorithm does, lower is better. -/
def execPtpAnnounce (i : Fin 2) (src gm : BitVec 64) (rank : Nat) (utc : BitVec 16)
    (utcValid leap59 leap61 ptpScale : Bool) (s : State) : Host.Outcome State Fault Refusal :=
  if !(tracks1588 i s) || (!ptpScale && !(flag (R.PTP_SCFG_ARBOK i) s)) then .next s
  else
    let old := (getSv i s).master
    let s := modSv i (fun x => reselect s.now { x with heard := ⟨src, gm, rank, s.now⟩ :: x.heard.filter fun m => m.src != src }) s
    let s := whenS (old.isSome && old != (getSv i s).master) (incSat (R.PTP_SCNT_BMC i)) s
    let best := ((bestMaster (getSv i s).heard).map Master.gm).getD gm
    let s := wrs [(R.PTP_SGMLO_ID i, best.toNat), (R.PTP_SGMHI_ID i, best.toNat / 2 ^ 32)] s
    .next (whenS ((getSv i s).master == some src && utcValid && ptpScale) (announceUtc i utc.toInt leap59 leap61) s)

/-- DELAY_REQ_TX (R349, R357). -/
def execDelayReqTx (i : Fin 2) (s : State) : Host.Outcome State Fault Refusal :=
  let p := slotSrc i s - 1
  let x := getSv i s
  if tracks1588 i s && !(flag (R.PTP_SCFG_PDELAY i) s) && x.master.isSome then
    let t3 := egressStamp p s
    .next (ptpSend p 1 x.dseq t3 (modSv i (fun x => { x with dreq := some (x.dseq, t3), dseq := x.dseq + 1 }) s))
  else .next s

/-- PTP_DELAY_RESP (R349): the mean path delay of the last Sync and the request: `t4` is the time of the master's receipt,
`corr` the correctionField, `interval` the interval of Delay_Req announced.  Syncs that waited for it form their offsets. -/
def execPtpDelayResp (i : Fin 2) (src : BitVec 64) (seq : BitVec 16) (t4 corr : Int) (interval : Nat) (s : State) :
    Host.Outcome State Fault Refusal :=
  match (getSv i s).dreq, (getSv i s).last with
  | some (q, t3), some (t1, t2) =>
    if tracks1588 i s && q == seq && (getSv i s).master == some src then
      .next (formOffsets i (delayField (R.PTP_SMPD_D i) (((t2 - t1) + (t4 - corr - t3)) / 2)
        (modSv i (fun x => { x with dreq := none, delayed := true, dint := interval }) s)))
    else .next s
  | _, _ => .next s

/-- R349: a port that uses peer delay. -/
def usesPdelay (p : Nat) (s : State) : Bool :=
  rd (R.PTP_PCFG_TC p) s == 2 ||
    [0, 1].any fun i => slotSrc i s == p + 1 && flag (R.PTP_SCFG_PDELAY i) s

/-- PDELAY_REQ_TX (R349, R357). -/
def execPdelayReqTx (p : Fin 2) (s : State) : Host.Outcome State Fault Refusal :=
  if pdOn 7 s && flag (R.PTP_PCFG_EN p) s && usesPdelay p s then
    let t1 := egressStamp p s
    .next (ptpSend p 2 s.net.pdseq t1
      (modNet (fun n => { n with pdreq := n.pdreq.set p (some (n.pdseq, t1)), pdseq := n.pdseq + 1 }) s))
  else .next s

/-- PTP_PDELAY_REQ (R349, R357): answered by Pdelay_Resp, which bears the ingress stamp of the request, and
Pdelay_Resp_Follow_Up, which bears the egress stamp of the response. -/
def execPtpPdelayReq (p : Fin 2) (s : State) : Host.Outcome State Fault Refusal :=
  if pdOn 7 s && flag (R.PTP_PCFG_EN p) s then
    let q := freeNow 16 s
    .next (nextFree (ptpSend p 0xA q (egressStamp p s) (ptpSend p 3 q (ingressStamp p s) s)))
  else .next s

/-- PTP_PDELAY_RESP (R349, R357): the peer delay of a port, from the neighbour's times `t2` and `t3`, the corrections, and
the port's own stamps.  Syncs that waited for it form their offsets. -/
def execPtpPdelayResp (p : Fin 2) (seq : BitVec 16) (t2 t3 corr : Int) (s : State) : Host.Outcome State Fault Refusal :=
  match s.net.pdreq.getD p none with
  | some (q, t1) =>
    if pdOn 7 s && flag (R.PTP_PCFG_EN p) s && q == seq then
      let s := delayField (R.PTP_PPDLY_D p) (((ingressStamp p s - t1) - (t3 - t2) - corr) / 2)
        (modNet (fun n => { n with pdreq := n.pdreq.set p none, pdone := n.pdone.set p true }) s)
      .next (forEach [0, 1] (fun i s => whenS (tracks1588 i s && slotSrc i s == p.val + 1) (formOffsets i) s) s)
    else .next s
  | none => .next s

/-- SLOT_LOST (R351). -/
def execSlotLost (i : Fin 2) (s : State) : Host.Outcome State Fault Refusal := .next (slotLostNow i s)

/-- HOLDTIME_EXPIRY (R353). -/
def execHoldtimeExpiry (s : State) : Host.Outcome State Fault Refusal :=
  if lockOf (selSlot s) s ≠ lkLOCKED && s.net.holdOk then
    .next (reStatus (modNet (fun n => { n with holdOk := false, holdFrom := none }) s))
  else .next s

/-- BACKUP_CLOCK_UPDATE (R347). -/
def execBackupClockUpdate (s : State) : Host.Outcome State Fault Refusal :=
  if clkStatus s = 2 then .next (modNet (fun n => { n with bkNs := s.clock / 2 ^ 40, bkAt := s.now }) s) else .next s

/-- LEAP_SECOND (R355): the announced UTCOFS takes effect. -/
def execLeapSecond (s : State) : Host.Outcome State Fault Refusal :=
  let i := selSlot s
  match (getSv i s).leap with
  | some v => .next (setUtc v (wr (R.PTP_SSTAT_UTCOFS i) (toU 16 v) (modSv i (fun x => { x with leap := none }) s)))
  | none => .next s

/-- R351, R372: the effect of a write of SCFG of slot `i`. -/
def servoSet (i v : Nat) (s : State) : State × Nat :=
    let s := wrs [(R.PTP_SCFG_SRC i, v), (R.PTP_SCFG_DOMAIN i, v / 2 ^ 2), (R.PTP_SCFG_TRANS i, v / 2 ^ 10),
      (R.PTP_SCFG_PDELAY i, v / 2 ^ 12), (R.PTP_SCFG_SDOID i, v / 2 ^ 13), (R.PTP_SCFG_KP i, v / 2 ^ 17),
      (R.PTP_SCFG_KI i, v / 2 ^ 21), (R.PTP_SCFG_ARBOK i, v / 2 ^ 25)] s
    let s := wr (R.PTP_SSTAT_LOCK i) (if v % 4 = 0 then lkNONE else lkACQUIRING) s
    let s := modSv i (fun x => { Servo.reset with ri := x.ri }) s
    (autoSelect (holdCheck s), stOK)

/-- SERVO_SCFG_WRITE (R351). -/
def execServoScfgWrite (i : Fin 2) (v : W32) (s : State) : Host.Outcome State Fault Refusal :=
  .next (hostWrite (0x17000100 + i.val * 0x40) v.toNat (servoSet i v.toNat) s)

/-- R352, R371: the effect of a write of CLKCFG. -/
def clkcfgSet (v : Nat) (s : State) : State × Nat :=
  let m := v % 4
  if (m = 0 ∨ m = 1) ∧ m ≠ selSlot s ∧ !(moveOk m s) then (s, stBUDGET)
  else
    let s := wrs [(R.PTP_CLKCFG_SELMODE, m), (R.PTP_CLKCFG_RATEMAX, v / 2 ^ 2), (R.PTP_CLKCFG_HOLDTIME, v / 2 ^ 11)] s
    let s := modNet (fun n => { n with move := if (m = 0 ∨ m = 1) ∧ m ≠ selSlot s then some m else none }) s
    (autoSelect (showClamp s), stOK)

/-- CLKCFG_WRITE (R352). -/
def execClkcfgWrite (v : W32) (s : State) : Host.Outcome State Fault Refusal := .next (hostWrite 0x17000018 v.toNat (clkcfgSet v.toNat) s)

/-- R371: a read of CLKSECLO latches the rest of the instant. -/
def clkLatch (s : State) : State :=
  wrs [(R.PTP_CLKSECHI_S, clkSec s / 2 ^ 32), (R.PTP_CLKNS_NS, clkNs s), (R.PTP_CLKSUB_SUB, clkSub s)] s

/-- CLKSECLO_READ (R371). -/
def execClksecloRead (s : State) : Host.Outcome State Fault Refusal :=
  .next (hostRead 0x17000000 clkLatch s)

end Sys2Proof.Machine
end

