-- ==== Sys2Proof/Machine/RegWrite.lean ====
section
/-!
DEFINITION. A write or a read of any register by its host address (R12, R13, R29 to R31, R50, R515): by the host, or by
the engine that owns the block, through its block window.
-/
namespace Sys2Proof.Machine

/-- The value a write of `v` gives field `f`. -/
def cut (f : Fld) (v : Nat) : Nat := v / 2 ^ f.lsb % 2 ^ f.wid

/-- R19, R40, R296: fields of FOLD that show a contactor path, its feedback, an emergency-stop or a door input: hardware
drives them, and no store does (log entry 73). -/
def hwField (f : Fld) : Bool :=
  (decide (0x16000000 ≤ f.addr ∧ f.addr < 0x16008000) && f.addr % 0x1000 == 0 && [3, 4, 5].contains f.lsb) ||
    (f.addr == 0x1600F000 && [4, 5, 7, 8].contains f.lsb)

/-- R12: one field takes a write; a read-only field does so only from the engine that writes it. -/
def writeField (owner : Bool) (v : Nat) (f : Fld) (s : State) : State :=
  match f.acc with
  | .rw => wr f (cut f v) s
  | .rwl => if locked s then s else wr f (cut f v) s
  | .w1c => wr f (rd f s - Nat.land (rd f s) (cut f v)) s
  | .wo => s
  | .ro => if owner && !(hwField f) then wr f (cut f v) s else s

/-- R12, R515: a register without behaviour of its own takes a write. -/
def plainWrite (owner : Bool) (a v : Nat) (s : State) : State × Nat :=
  let fs := regFields a
  if locked s && fs.any fun f => f.acc == .rwl && cut f v != rd f s then (s, stSEALED)
  else (forEach fs (writeField owner v) s, stOK)

/-- R92, R93: the queue has a producer and a consumer. -/
def planned (q : Nat) (s : State) : Bool :=
  q != 95 && (decide (q < 120) || match s.spare[q - 120]? with
    | some (some _) => true
    | _ => false)

/-- R91: TE0 writes QCFG: a change of capacity only of a disabled, empty queue, within the pool.  R91 gives no status to
a capacity that no queue can have: BUDGET as for the others; Q95 and a spare queue that the plan does not name stay
disabled (R93), and the write is DENIED (log entry 72). -/
def qcfgSet (q v : Nat) (s : State) : State × Nat :=
  let x := getQ (qn q) s
  let cap := v % 2 ^ 13
  let on := v.testBit 16
  let bad := cap % 16 != 0 || decide (4096 < cap)
  if !(planned q s) then (s, stDENIED)
  else if bad || (cap != x.cap && (x.en || x.used != 0 || decide (32768 < poolConf s + cap - x.cap))) then (s, stBUDGET)
  else if on then (if x.en then s else enableQ q cap s, stOK)
  else (setQ (qn q) { x with en := false, cap := cap } s, stOK)

/-- R106, R108: a write in QM. -/
def qmWrite (eng : Bool) (a v : Nat) (s : State) : State × Nat :=
  match qregAddr a with
  | some (q, r) =>
    if eng then (if r = 0 then qcfgSet q v s else (s, stOK))
    else if r = 0x10 then qpushlSet q v s
    else if r = 0x14 then qpushhSet q v s
    else if r = 0x20 then qackSet q v s
    else if r = 0x18 ∨ r = 0x1C then (s, if hostConsumes q s then stOK else stDENIED)
    else (s, stOK)
  | none =>
    if a = 0x10000004 then doorbellSet v s
    else if a = 0x10000010 then (if eng then (s, stOK) else qreplaySet v s)
    else if 0x10004000 ≤ a ∧ a < 0x100040B0 ∧ a % 16 = 12 then slkclrSet ((a - 0x10004000) / 16) v s
    else (s, stOK)

/-- R162: θ lies from 0xF9_999A to 0x06_6666. -/
def thetaOk (v : Nat) : Bool := decide (-0x066666 ≤ sext 24 (v % 2 ^ 24) ∧ sext 24 (v % 2 ^ 24) ≤ 0x066666)

/-- R162, R199: a write of CALGAIN or CALOFS marks the channel DIRTY, also for a CAL_APPLY accepted before it; a θ outside
its range is refused. -/
def calWrite (eng : Bool) (o c k v : Nat) (s : State) : State × Nat :=
  let band := if eng then rd (R.FLT_CALEIDX_BAND o c) s else rd (R.FLT_CALHIDX_BAND o c) s
  let qty := if eng then rd (R.FLT_CALEIDX_QTY o c) s else rd (R.FLT_CALHIDX_QTY o c) s
  match calField o c k band qty with
  | none => (s, stDENIED)
  | some f =>
    if k = 0 ∧ qty = 5 ∧ thetaOk v = false then (s, stDENIED)
    else if locked s then (s, if v % 2 ^ 24 = rd f s then stOK else stSEALED)
    else if k = 4 ∧ qty = 5 then (s, stOK)
    else (wrs [(R.FLT_CALSTAT_DIRTY o c, 1), ((R.FLT_CALSTAT_DIRTY o c).copy, 1)] (wr f v s), stOK)

/-- R449: TE0 writes a word of a class record. -/
def classWrite (c w v : Nat) (s : State) : State × Nat :=
  let r := classRec c s
  let bad := decide (1 ≤ w ∧ w ≤ 12) && (decide (v < 0x10000000 ∨ 0x2000FFFF < v) || a_effect v)
  let st := refusal false bad (locked s && legalCls c) false false false
  if st ≠ stOK then (s, st)
  else if w = 0 then
    (modBar (fun b => { b with classes := SMap.put ClassRec.reset b.classes c { r with en := v.testBit 0, nreg := min (v / 2 ^ 8 % 2 ^ 8) 12 } }) s, stOK)
  else if 12 < w then (s, stOK)
  else (modBar (fun b => { b with classes := SMap.put ClassRec.reset b.classes c { r with addrs := r.addrs.set (w - 1) v } }) s, stOK)
where
  /-- The registers whose read has an effect. -/
  a_effect (v : Nat) : Bool :=
    (match qregAddr v with | some (_, r) => r == 0x18 || r == 0x1C | none => false) || v == 0x17000000 ||
    (decide (0x1B000000 ≤ v ∧ v < 0x1B000400) && (v % 0x100 == 0x18 || v % 0x100 == 0x20))

/-- R465: TE0 writes TAG through its window. -/
def tagSet (v : Nat) (s : State) : State × Nat :=
  match execLcdTagWrite ⟨v / 2 ^ 16 % 5, Nat.mod_lt _ (by decide)⟩ (o8 (v / 2 ^ 19)) s with
  | .next s => (wr R.LCD_TAG_SEC v s, stOK)
  | _ => (s, stOK)

/-- R354: TE0 writes SETINV. -/
def clkstatSet (v : Nat) (s : State) : State × Nat := (setInv (v.testBit 4) s, stOK)

/-- R494, R512: TE0 writes PWR; a write of WDT retriggers the watchdog. -/
def pwrEngSet (a v : Nat) (s : State) : State × Nat :=
  let r := plainWrite true a v s
  if a = 0x20000020 then (modPwr (fun p => { p with wdtAt := some s.now }) r.1, r.2) else r

/-- R432, R433: TE0 writes UPDCTL. -/
def updctlSet (v : Nat) (s : State) : State × Nat := (reqfbSet v (confirmSet v s), stOK)

/-- R31: a host write of a register of FOLD, BAR or LCD that holds read-only fields alone is refused. -/
def roDenied (a : Nat) : Bool :=
  (inBlock 0x16000000 a || inBlock 0x1D000000 a || inBlock 0x1E000000 a) &&
    !(regFields a).isEmpty && (regFields a).all fun f => f.acc == .ro

/-- Blocks whose read-only registers the owning engine writes (R50, R158, R241, R512); in the others hardware does. -/
def engOwned (a : Nat) : Bool :=
  [0x11, 0x12, 0x13, 0x14, 0x16, 0x1A, 0x20].contains (a / 2 ^ 24)

/-- R158: CHCFG.EN of a low range mirrors that of its channel, whatever its owner stores. -/
def mirrorEn (a : Nat) (s : State) : State :=
  let o := a % 2 ^ 24 / 0x1000
  let c := a % 0x1000 / 0x100
  let g := if c < 8 then c else c - 4
  if a / 2 ^ 24 = 0x11 ∧ o < 8 ∧ a % 0x100 = 0 ∧ 4 ≤ c ∧ c < 12 then wr (R.FLT_CHCFG_EN o (g + 4)) (rd (R.FLT_CHCFG_EN o g) s) s
  else s

/-- R199: a write of CALHIDX or CALEIDX goes into the calibration record. -/
def recordIdx (a : Nat) (s : State) : State :=
  let o := a % 2 ^ 24 / 0x1000
  let c := a % 0x1000 / 0x100
  if a / 2 ^ 24 = 0x11 ∧ o < 9 ∧ c < 14 ∧ (a % 0x100 = 0x80 ∨ a % 0x100 = 0x84) then
    forEach (idxFields o c) (fun f s => wr f.eff (rd f s) s) s
  else s

/-- A write of the register at `a` by the host, or by the engine that owns it. -/
def regWrite (eng : Bool) (a v : Nat) (s : State) : State × Nat :=
  if a % 4 ≠ 0 then (s, stOK)
  else match calAddr a with
  | some (o, c, k) => calWrite eng o c k v s
  | none =>
    if inBlock 0x10000000 a then qmWrite eng a v s
    else if a = 0x17000010 ∧ eng then clkstatSet v s
    else if a = 0x17000018 then clkcfgSet v s
    else if a = 0x17000030 then hrxptrSet v s
    else if a = 0x17000034 then htxptrSet v s
    else if a = 0x17000100 then servoSet 0 v s
    else if a = 0x17000140 then servoSet 1 v s
    else if a = 0x17001000 then pcfgSet 0 v s
    else if a = 0x17002000 then pcfgSet 1 v s
    else if 0x17180000 ≤ a ∧ a < 0x17190000 then
      (modNet (fun n => { n with tx := SMap.putN 0 n.tx (a - 0x17180000) (leBytes 4 v) }) s, stOK)
    else if a = 0x18000000 then swardSet v s
    else if 0x1B000000 ≤ a ∧ a < 0x1B000400 then ckregSet ((a - 0x1B000000) / 0x100) (a % 0x100) v s
    else if a = 0x1C00F00C then (if eng then updctlSet v s else (s, stDENIED))
    else if a = 0x1D000018 then freezeSet v s
    else if 0x1D010000 ≤ a ∧ a < 0x1D012000 ∧ eng then classWrite ((a - 0x1D010000) / 64) (a % 64 / 4) v s
    else if a = 0x1E00000C ∧ eng then tagSet v s
    else if 0x1F000000 ≤ a ∧ a < 0x1F001000 ∧ a % 0x100 = 0 then lscfgSet ((a - 0x1F000000) / 0x100) v s
    else if 0x1F000000 ≤ a ∧ a < 0x1F001000 ∧ a % 0x100 = 4 then lsctlSet ((a - 0x1F000000) / 0x100) v s
    else if eng ∧ isPwrReg a then pwrEngSet a v s
    else if !eng ∧ roDenied a then (s, stDENIED)
    else
      let r := plainWrite (eng && engOwned a) a v s
      (recordIdx a (mirrorEn a r.1), r.2)

/-- R371, R420: the effect of reading the register at `a`, for an engine or the host. -/
def readEffect (a : Nat) (s : State) : State :=
  if a = 0x17000000 then clkLatch s
  else if 0x1B000000 ≤ a ∧ a < 0x1B000400 ∧ a % 0x100 = 0x18 then ckvalLatch ((a - 0x1B000000) / 0x100) s
  else if 0x1B000000 ≤ a ∧ a < 0x1B000400 ∧ a % 0x100 = 0x20 then ckresLatch ((a - 0x1B000000) / 0x100) s
  else s

/-- A read of the register at `a` by the host: its effect and its status. -/
def hostReadOf (a : Nat) (s : State) : State × Nat :=
  match qregAddr a with
  | some (q, r) =>
    if r = 0x1C then qpophGet q s
    else if r = 0x18 then qpoplGet q s
    else if r = 0x10 ∨ r = 0x14 then (s, if hostProduces q s then stOK else stDENIED)
    else if r = 0x20 then (s, if hostConsumes q s then stOK else stDENIED)
    else (s, stOK)
  | none =>
    match calAddr a with
    | some (o, c, k) =>
      (s, if (calField o c k (rd (R.FLT_CALHIDX_BAND o c) s) (rd (R.FLT_CALHIDX_QTY o c) s)).isSome then stOK else stDENIED)
    | none => (readEffect a s, stOK)

end Sys2Proof.Machine
end

