-- ==== Sys2Proof/Machine/Operands.lean ====
section
/-!
DEFINITION. The operands of Treltor instructions: data, address and predicate registers, special registers, events
(R41 to R46, R56, R57, R70).
-/
namespace Sys2Proof.Machine

/-- R73: a register that is written holds no parity error. -/
def Eng.clean (r : PReg) (x : Eng) : List PReg := x.parity.filter (· != r)

def Eng.gr (x : Eng) (i : Fin 16) : W24 := vget x.g i
def Eng.setG (i : Fin 16) (v : W24) (x : Eng) : Eng := { x with g := vset x.g i v, parity := x.clean (.g i) }
def Eng.xr (x : Eng) (i : Fin 8) : W20 := vget x.x i
def Eng.setX (i : Fin 8) (v : W20) (x : Eng) : Eng := { x with x := vset x.x i v, parity := x.clean (.x i) }
def Eng.ar (x : Eng) (i : Fin 2) : W56 := vget x.acc i
def Eng.setA (i : Fin 2) (v : W56) (x : Eng) : Eng := { x with acc := vset x.acc i v, parity := x.clean (.a i) }

/-- R41: P0 reads 1, and writes to it are discarded. -/
def Eng.pr (x : Eng) (i : Fin 4) : Bool := i == 0 || vget x.p i
def Eng.setP (i : Fin 4) (v : Bool) (x : Eng) : Eng := if i = 0 then x else { x with p := vset x.p i v, parity := x.clean (.p i) }

/-- R57: the guard holds. -/
def guardHolds (g : Guard) (x : Eng) : Bool := x.pr g.p != g.neg

/-- The instruction retires: CYCL/CYCH count it and PC moves on (R44, R78). -/
def Eng.retireTo (pc : W20) (x : Eng) : Eng := { x with pc := pc, cyc := x.cyc + 1 }
def Eng.retire (x : Eng) : Eng := x.retireTo (x.pc + 1)

/-- R45: ENGID. -/
def engId (e : Nat) (s : State) : Nat := pairLow e + b2n (isPaired e) * 2 ^ 4 + rd R.SWD_SSTAT_POS s % 8 * 2 ^ 5

/-- Events: queue-watch slots, timers, hardware, doorbell (R70). -/
def evPend (e : Nat) (x : Eng) (s : State) : Nat :=
  (x.evq.toList.zipIdx.foldl (fun v q =>
      v + b2n (q.1.getLsbD 7 && !(getQ (qn (q.1.toNat % 128)) s).ent.isEmpty) * 2 ^ q.2) 0)
    + x.evTmr.toNat * 2 ^ 16 + b2n x.evHw * 2 ^ 20 + b2n (e == 0 && x.evBell) * 2 ^ 21

/-- R41: entries of the return stack. -/
def stackDepth (e : Nat) : Nat := if e = 0 then 64 else 16

/-- A special register of the timers or the queue-watch slots. -/
def f4 (n : Nat) : Fin 4 := ⟨n % 4, Nat.mod_lt _ (by decide)⟩

/-- R44: MRS; none for an unlisted number. -/
def srRead (e : Nat) (n : Nat) (x : Eng) (s : State) : Option (W24 × Eng) :=
  if n = 0 then some (x.mode, x)
  else if n = 1 then some (x.status, x)
  else if n = 2 then some (x.emode, x)
  else if n = 3 then some (x.estatus, x)
  else if n = 4 then some (x.epc, x)
  else if n = 5 then some (x.ecode, x)
  else if n = 6 then some (x.vbase, x)
  else if n = 7 then some (w24 (evPend e x s), x)
  else if n = 8 then some (x.qwlim, x)
  else if n = 9 then some (w24 (engId e s), x)
  else if n = 0x0A then some (x.cyc.extractLsb' 0 24, { x with cych := x.cyc.extractLsb' 24 24 })
  else if n = 0x0B then some (x.cych, x)
  else if n = 0x0C then some (x.eccCnt, x)
  else if n = 0x0D then some (w24 x.rstack.length, x)
  else if n = 0x0E then some (x.bwsel, x)
  else if 0x10 ≤ n ∧ n < 0x14 then some (vget x.tmr (f4 n), x)
  else if 0x20 ≤ n ∧ n < 0x30 then some (vget x.evq (en n), x)
  else none

/-- R44: the special registers an MSR may not write. -/
def srRO (n : Nat) : Bool := [5, 7, 9, 0x0A, 0x0B, 0x0C, 0x0D].contains n

/-- R44: a listed special-register number. -/
def srListed (n : Nat) : Bool := decide (n ≤ 0x0E) || decide (0x10 ≤ n ∧ n < 0x14) || decide (0x20 ≤ n ∧ n < 0x30)

/-- R44, R46, R50, R71: MSR; none where it raises ILLSR. -/
def srWrite (n : Nat) (v : W24) (x : Eng) : Option Eng :=
  if srRO n then none
  else if n = 0 then (if v.toNat % 4 = 3 then none else some { x with mode := v &&& 7 })
  else if n = 1 then some { x with status := (v &&& 0x1F) ||| (x.status &&& 0x20) }
  else if n = 2 then (if v.toNat % 4 = 3 then none else some { x with emode := v &&& 7 })
  else if n = 3 then some { x with estatus := v &&& 0x3F }
  else if n = 4 then some { x with epc := v &&& 0xFFFFF }
  else if n = 6 then some { x with vbase := v &&& 0xFFFC0 }
  else if n = 8 then some { x with qwlim := v }
  else if n = 0x0E then
    let k := v.toNat % 256
    if k = 0 ∨ (0x10 ≤ k ∧ k ≤ 0x20) then some { x with bwsel := v &&& 0xFF } else none
  else if 0x10 ≤ n ∧ n < 0x14 then
    some { x with tmr := vset x.tmr (f4 n) v, tmrLeft := vset x.tmrLeft (f4 n) v.toNat }
  else if 0x20 ≤ n ∧ n < 0x30 then some { x with evq := vset x.evq (en n) (v &&& 0xFF) }
  else some x

end Sys2Proof.Machine
end

