-- ==== Sys2Proof/Machine/Issue.lean ====
section
/-!
DEFINITION. Issuing a Treltor instruction (R56, R57, R72 to R78, R81, R99 to R102): fetch, guard, exceptions, the two
members of a pair, staging, delivery and acknowledgement points.
-/
namespace Sys2Proof.Machine

/-- Exception numbers (R73). -/
def exOPCODE : Nat := 1
def exMEMORY : Nat := 2
def exECC : Nat := 3
def exPARITY : Nat := 4
def exQACCESS : Nat := 5
def exQTIMEOUT : Nat := 6
def exSTACK : Nat := 7
def exILLSR : Nat := 8
def exTRAP : Nat := 9

/-- What an instruction does beyond its engine. -/
inductive Eff where
  | none
  | store (a v : Nat)
  | readEff (a : Nat)
  | push (q : Nat) (m : Msg)
  | pop (q : Nat)
  | ack
  | halt
  deriving DecidableEq, Repr

/-- One engine after its instruction, and what the instruction does beyond it. -/
abbrev Act := Eng × Eff

/-- An instruction that raises: the number, the trap number, and the engine as the fetch left it (a corrected error
stays counted, R51). -/
structure Raise where
  n : Nat
  trap : Nat
  x : Eng
  deriving DecidableEq, Repr

/-- The body of an instruction: on which engine, in which state; an error is an exception number. -/
abbrev Body := Nat → State → Eng → Except Nat Act

/-- R51: a single-bit error is corrected in place and counted. -/
def Eng.corrected (x : Eng) : Eng := { x with eccCnt := BitVec.ofNat 24 (satInc 24 x.eccCnt.toNat) }

/-- The registers an instruction reads, which may depend on the address it forms. -/
abbrev Reads := Eng → List PReg

/-- An instruction that reads no register. -/
def noRegs : Reads := fun _ => []

/-- The predicate a guard reads; P0 is no register that can fail. -/
def guardReads (g : Guard) : List PReg := if g.p = 0 then [] else [.p g.p]

/-- R73: a parity error stands in a register the instruction reads: its guard's, or where it executes its own. -/
def parityHit (g : Guard) (rs : Reads) (x : Eng) : Bool :=
  (guardReads g).any x.parity.contains || (guardHolds g x && (rs x).any x.parity.contains)

/-- R49, R51, R57, R73, R74: fetch, guard, decode checks (`bad`) and the body; of several causes the first of R74's
order. -/
def runOne (bad : Bool) (g : Guard) (rs : Reads) (body : Body) (e : Nat) (s : State) : Except Raise Act :=
  let x := getEng (en e) s
  let pc := x.pc.toNat
  if memWords e ≤ pc then .error ⟨exMEMORY, 0, x⟩
  else if x.pErr2.contains pc then .error ⟨exECC, 0, x⟩
  else
    let x := if x.pErr1.contains pc then Eng.corrected { x with pErr1 := x.pErr1.filter (· != pc) } else x
    if parityHit g rs x then
      let n := match body e s x with
        | .error n => if n % 16 = exECC && !bad && guardHolds g x then exECC else exPARITY
        | .ok _ => exPARITY
      .error ⟨n, 0, x⟩
    else if bad then .error ⟨exOPCODE, 0, x⟩
    else if !(guardHolds g x) then .ok (x.retire, .none)
    else match body e s x with
    | .ok r => .ok r
    | .error n => .error ⟨n % 16, n / 16, x⟩

/-- R75: exception entry.  EPC is the faulting instruction, or the following one for TRAP (R73). -/
def Eng.enterExc (n trap : Nat) (x : Eng) : Eng :=
  { x with epc := (if n = exTRAP then x.pc + 1 else x.pc).zeroExtend 24, ecode := w24 (n + trap * 2 ^ 8), estatus := x.status,
           emode := x.mode, status := x.status ||| 0x20, pc := x.vbase.extractLsb' 0 20 + BitVec.ofNat 20 (4 * n) }

/-- The members that issue the instruction: both members of a pair (R72, R81), or the one engine. -/
def issuers (e : Nat) (s : State) : List Nat :=
  if isPaired e then [pairLow e, pairLow e + 1].filter fun m => running m s else if engState e s = 3 then [e] else []

/-- R100, R111, R112: an acknowledgement point of an engine at queue `q`: popped messages are acknowledged; staged ones
are entered, behind the fabric's completions that wait for room.  A message staged while the queue was enabled that finds
it disabled now is treated as a push into a disabled queue (DESIGN CHOICE, log entry 93). -/
def ackQueue (e q : Nat) (s : State) : State :=
  let x := getQ (qn q) s
  let mine := (x.stg.filter fun m => m.1 == stageId e).map Prod.snd
  let s := if engConsumes e q s && !x.dlv.isEmpty then modQ (qn q) (fun x => Queue.ackN x.dlv.length x) s else s
  let s := if mine.isEmpty then s
    else forEach mine (fun m => pushBy (stageId e) q (e - 1) m (putQ q m))
      (modQ (qn q) (fun x => { x with stg := x.stg.filter fun m => m.1 != stageId e }) s)
  if x.late.isEmpty then s else settle q s

/-- R100, R186: the members' pushes are compared, and every queue reaches its acknowledgement point. -/
def ackPoint (e : Nat) (s : State) : State :=
  let s := if isPaired e then settleDivergence (pairLow e) s else s
  let s := forEach qs128 (ackQueue e) s
  ringAll (if isPaired e then modPair (pairIdx e) PairSt.agreed s else s)

/-- R99, R101, R111: an engine's push is staged; into a disabled queue it enters nothing. -/
def pushStage (e q : Nat) (m : Msg) (s : State) : State :=
  pushBy (stageId e) q (e - 1) m (fun s =>
    let n := (getQ (qn q) s).stg.countP fun m => m.1 == stageId e
    let s := if 128 ≤ n then ackPoint e s else s
    modQ (qn q) (fun x => { x with stg := x.stg ++ [(stageId e, m)] }) s) s

/-- R99, R101: an engine's pop delivers the oldest message. -/
def popStage (e q : Nat) (s : State) : State :=
  let s := if 128 ≤ (getQ (qn q) s).dlv.length then ackPoint e s else s
  modQ (qn q) (fun x => { x with ent := x.ent.drop 1, dlv := x.dlv ++ x.ent.take 1 })
    (corrected q ((getQ (qn q) s).ent.take 1) s)

/-- The effect of an instruction on the part. -/
def applyEff (e : Nat) (f : Eff) (s : State) : State :=
  match f with
  | .none => s
  | .store a v => (regWrite true a v s).1
  | .readEff a => readEffect a s
  | .push q m => pushStage e q m s
  | .pop q => popStage e q s
  | .ack => ackPoint e s
  | .halt => setEngState e 4 (ackPoint e s)

/-- The members whose instruction raised an exception. -/
def raised (rs : List (Nat × Except Raise Act)) : List (Nat × Raise) :=
  rs.filterMap fun r => match r.2 with
    | .error x => some (r.1, x)
    | .ok _ => none

/-- The members whose instruction went through. -/
def passed (rs : List (Nat × Except Raise Act)) : List (Nat × Act) :=
  rs.filterMap fun r => match r.2 with
    | .ok a => some (r.1, a)
    | .error _ => none

/-- R77: on a pair, ECC and PARITY make the member give up. -/
def givesUp (e : Nat) (r : Nat × Raise) : Bool := isPaired e && (r.2.n == exECC || r.2.n == exPARITY)

/-- R76: raised within a handler. -/
def isDouble (r : Nat × Raise) : Bool := r.2.x.exc

/-- R73 to R77: what the exceptions of the members lead to: handlers, double faults, or members that give up. -/
def takeExceptions (e : Nat) (alone : Bool) (ex : List (Nat × Raise)) (s : State) : State :=
  let s := forEach ex (fun r s => setEng (en r.1) r.2.x s) s
  let prog := ex.filter fun r => !(givesUp e r)
  let dbl := prog.filter isDouble
  let s := forEach (prog.filter fun r => !(isDouble r)) (fun r s => modEng (en r.1) (Eng.enterExc r.2.n r.2.trap) s) s
  let s := match dbl with
    | [] => s
    | r :: rest =>
      if alone || !rest.isEmpty then doubleFault e r.2.n s
      else giveUp r.1 6 (wr (R.QM_ENGSTAT_LASTEXC r.1) r.2.n s)
  forEach (ex.filter (givesUp e)) (fun r s => giveUp r.1 (if r.2.n = exECC then 1 else 2) s) s

/-- R94, R186: what the members of a duplex pair have done beyond their engines is kept for the next acknowledgement
point: the standby's pushes, where the queue takes them, and the stores of both. -/
def trackEff (e : Nat) (standby : Bool) (f : Eff) (s : State) : State :=
  match f with
  | .push q m =>
    let x := getQ (qn q) s
    if standby && x.en && !(isCont m && x.cut.contains (stageId e)) then
      modPair (pairIdx e) (fun p => { p with alt := p.alt ++ [(q, m)] }) s
    else s
  | .store a v =>
    modPair (pairIdx e) (fun p => if standby then { p with stB := p.stB ++ [(a, v)] } else { p with stA := p.stA ++ [(a, v)] }) s
  | _ => s

/-- The member `act` is the active one; what each has done is kept while the pair is duplex. -/
def trackAll (e act : Nat) (ok : List (Nat × Act)) (s : State) : State :=
  if isPaired e && pairDuplex (pairLow e) s then forEach ok (fun r => trackEff e (r.1 != act) r.2.2) s else s

/-- The member whose effect beyond the engines the part takes (R94): the active one, or the one that executes alone. -/
def effOwner (e : Nat) (rs : List (Nat × Except Raise Act)) (s : State) : Nat :=
  match rs with
  | [r] => r.1
  | _ => if isPaired e then activeOf (pairLow e) s else e

/-- R186, R187: the effect the part takes of an instruction: that of member `act` where it passed, the other's where `act`
gives up on it and the other passed, and none where `act` enters a handler. -/
def ownEff (e act : Nat) (ok : List (Nat × Act)) (ex : List (Nat × Raise)) : Option Eff :=
  match ok.find? fun r => r.1 == act with
  | some r => some r.2.2
  | none => if ex.any fun r => r.1 == act && (givesUp e r || isDouble r) then ok.head?.map fun r => r.2.2 else none

/-- The results of the members take effect. -/
def commitAll (e : Nat) (rs : List (Nat × Except Raise Act)) (s : State) : State :=
  let ok := passed rs
  let act := effOwner e rs s
  let s := takeExceptions e (rs.length == 1) (raised rs) (forEach ok (fun r s => setEng (en r.1) r.2.1 s) s)
  let s := match ownEff e act ok (raised rs) with
    | some f => applyEff e f s
    | none => s
  trackAll e act ok s

/-- Issue one instruction.  An engine that does not run, or that waits in a blocking instruction, issues none. -/
def issue (e : Eid) (bad : Bool) (g : Guard) (rs : Reads) (body : Body) (s : State) : State :=
  let ms := issuers e s
  if ms.isEmpty || ms.any (fun m => (getEng (en m) s).blocked != .no) then s
  else commitAll e (ms.map fun m => (m, runOne bad g rs body m s)) s

/-- The guard of the formats without one (R57). -/
def always : Guard := ⟨false, 0⟩

/-- An instruction of one engine alone: new state of the engine, which retires. -/
def alu (f : Eng → Eng) : Body := fun _ _ x => .ok ((f x).retire, .none)

end Sys2Proof.Machine
end

