-- ==== Sys2Proof/Machine/Alu.lean ====
section
/-!
DEFINITION. The ALU and immediate instructions (R55, R58, R63 to R65).
-/
namespace Sys2Proof.Machine

/-- R63, R64: a mode-governed sum or difference with its exact value and its carry or borrow. -/
def Eng.governed (d : Fin 16) (exact : Int) (c : Bool) (x : Eng) : Eng :=
  let r : W24 := fitW 24 x.wraps exact
  (x.setG d r).setZNCV r c (overflows 24 exact)

/-- R63, R64: a mode-governed result that leaves C. -/
def Eng.governedKeepC (d : Fin 16) (exact : Int) (x : Eng) : Eng := x.governed d exact x.c

/-- R64: a result that sets Z and N only. -/
def Eng.plain (d : Fin 16) (r : W24) (x : Eng) : Eng := (x.setG d r).setZN r

/-- R65: a result that wraps and sets all flags. -/
def Eng.wide (d : Fin 16) (exact : Int) (c : Bool) (x : Eng) : Eng :=
  let r : W24 := BitVec.ofInt 24 exact
  (x.setG d r).setZNCV r c (overflows 24 exact)

/-- R65: a result of a chain. -/
def Eng.chained (d : Fin 16) (exact : Int) (c : Bool) (x : Eng) : Eng :=
  let r : W24 := BitVec.ofInt 24 exact
  (x.setG d r).setChained r c (overflows 24 exact)

/-- R58: shifts by 0 to 31. -/
def shlW (v : W24) (n : Nat) : W24 := v <<< n
def shrW (v : W24) (n : Nat) : W24 := v >>> n
def sarW (v : W24) (n : Nat) : W24 := v.sshiftRight n

/-- R58: a shift amount from a register. -/
def amt5 (v : W24) : Nat := v.toNat % 32

/-- R63: the exact value of a left shift. -/
def shlExact (v : W24) (n : Nat) : Int := v.toInt * 2 ^ n

/-- NOP (R55). -/
def execNop (e : Eid) (g : Guard) (s : State) : Host.Outcome State Fault Refusal :=
  .next (issue e false g noRegs (alu id) s)

/-- ADD (R63). -/
def execAdd (e : Eid) (g : Guard) (d a b : Fin 16) (s : State) : Host.Outcome State Fault Refusal :=
  .next (issue e false g (fun _ => [.g a, .g b, .sr 0]) (alu fun x => x.governed d ((x.gr a).toInt + (x.gr b).toInt) (carryOut (x.gr a) (x.gr b) false)) s)

/-- SUB (R63). -/
def execSub (e : Eid) (g : Guard) (d a b : Fin 16) (s : State) : Host.Outcome State Fault Refusal :=
  .next (issue e false g (fun _ => [.g a, .g b, .sr 0]) (alu fun x => x.governed d ((x.gr a).toInt - (x.gr b).toInt) (borrowOut (x.gr a) (x.gr b) false)) s)

/-- ADDW (R65). -/
def execAddw (e : Eid) (g : Guard) (d a b : Fin 16) (s : State) : Host.Outcome State Fault Refusal :=
  .next (issue e false g (fun _ => [.g a, .g b]) (alu fun x => x.wide d ((x.gr a).toInt + (x.gr b).toInt) (carryOut (x.gr a) (x.gr b) false)) s)

/-- SUBW (R65). -/
def execSubw (e : Eid) (g : Guard) (d a b : Fin 16) (s : State) : Host.Outcome State Fault Refusal :=
  .next (issue e false g (fun _ => [.g a, .g b]) (alu fun x => x.wide d ((x.gr a).toInt - (x.gr b).toInt) (borrowOut (x.gr a) (x.gr b) false)) s)

/-- ADDC (R65). -/
def execAddc (e : Eid) (g : Guard) (d a b : Fin 16) (s : State) : Host.Outcome State Fault Refusal :=
  .next (issue e false g (fun _ => [.g a, .g b, .sr 1]) (alu fun x => x.chained d ((x.gr a).toInt + (x.gr b).toInt + b2n x.c) (carryOut (x.gr a) (x.gr b) x.c)) s)

/-- SUBB (R65). -/
def execSubb (e : Eid) (g : Guard) (d a b : Fin 16) (s : State) : Host.Outcome State Fault Refusal :=
  .next (issue e false g (fun _ => [.g a, .g b, .sr 1]) (alu fun x => x.chained d ((x.gr a).toInt - (x.gr b).toInt - b2n x.c) (borrowOut (x.gr a) (x.gr b) x.c)) s)

/-- NEG (R63, R64). -/
def execNeg (e : Eid) (g : Guard) (d a : Fin 16) (s : State) : Host.Outcome State Fault Refusal :=
  .next (issue e false g (fun _ => [.g a, .sr 0]) (alu fun x => x.governed d (-(x.gr a).toInt) (x.gr a != 0)) s)

/-- ABS (R63, R64). -/
def execAbs (e : Eid) (g : Guard) (d a : Fin 16) (s : State) : Host.Outcome State Fault Refusal :=
  .next (issue e false g (fun _ => [.g a, .sr 0]) (alu fun x => x.governedKeepC d (x.gr a).toInt.natAbs) s)

/-- MIN (R64). -/
def execMin (e : Eid) (g : Guard) (d a b : Fin 16) (s : State) : Host.Outcome State Fault Refusal :=
  .next (issue e false g (fun _ => [.g a, .g b]) (alu fun x => x.plain d (if (x.gr a).toInt ≤ (x.gr b).toInt then x.gr a else x.gr b)) s)

/-- MAX (R64). -/
def execMax (e : Eid) (g : Guard) (d a b : Fin 16) (s : State) : Host.Outcome State Fault Refusal :=
  .next (issue e false g (fun _ => [.g a, .g b]) (alu fun x => x.plain d (if (x.gr a).toInt ≤ (x.gr b).toInt then x.gr b else x.gr a)) s)

/-- MOV (R64). -/
def execMov (e : Eid) (g : Guard) (d a : Fin 16) (s : State) : Host.Outcome State Fault Refusal :=
  .next (issue e false g (fun _ => [.g a]) (alu fun x => x.plain d (x.gr a)) s)

/-- AND (R64). -/
def execAnd (e : Eid) (g : Guard) (d a b : Fin 16) (s : State) : Host.Outcome State Fault Refusal :=
  .next (issue e false g (fun _ => [.g a, .g b]) (alu fun x => x.plain d (x.gr a &&& x.gr b)) s)

/-- OR (R64). -/
def execOr (e : Eid) (g : Guard) (d a b : Fin 16) (s : State) : Host.Outcome State Fault Refusal :=
  .next (issue e false g (fun _ => [.g a, .g b]) (alu fun x => x.plain d (x.gr a ||| x.gr b)) s)

/-- XOR (R64). -/
def execXor (e : Eid) (g : Guard) (d a b : Fin 16) (s : State) : Host.Outcome State Fault Refusal :=
  .next (issue e false g (fun _ => [.g a, .g b]) (alu fun x => x.plain d (x.gr a ^^^ x.gr b)) s)

/-- NOT (R64). -/
def execNot (e : Eid) (g : Guard) (d a : Fin 16) (s : State) : Host.Outcome State Fault Refusal :=
  .next (issue e false g (fun _ => [.g a]) (alu fun x => x.plain d (~~~(x.gr a))) s)

/-- SHL (R58). -/
def execShl (e : Eid) (g : Guard) (d a b : Fin 16) (s : State) : Host.Outcome State Fault Refusal :=
  .next (issue e false g (fun _ => [.g a, .g b]) (alu fun x => x.plain d (shlW (x.gr a) (amt5 (x.gr b)))) s)

/-- SHR (R58). -/
def execShr (e : Eid) (g : Guard) (d a b : Fin 16) (s : State) : Host.Outcome State Fault Refusal :=
  .next (issue e false g (fun _ => [.g a, .g b]) (alu fun x => x.plain d (shrW (x.gr a) (amt5 (x.gr b)))) s)

/-- SAR (R58). -/
def execSar (e : Eid) (g : Guard) (d a b : Fin 16) (s : State) : Host.Outcome State Fault Refusal :=
  .next (issue e false g (fun _ => [.g a, .g b]) (alu fun x => x.plain d (sarW (x.gr a) (amt5 (x.gr b)))) s)

/-- SHLS (R58, R63). -/
def execShls (e : Eid) (g : Guard) (d a b : Fin 16) (s : State) : Host.Outcome State Fault Refusal :=
  .next (issue e false g (fun _ => [.g a, .g b, .sr 0]) (alu fun x => x.governedKeepC d (shlExact (x.gr a) (amt5 (x.gr b)))) s)

/-- NORM (R58). -/
def execNorm (e : Eid) (g : Guard) (d a : Fin 16) (s : State) : Host.Outcome State Fault Refusal :=
  .next (issue e false g (fun _ => [.g a]) (alu fun x => x.plain d (w24 (normCount (x.gr a) 23))) s)

/-- CMPEQ (R64). -/
def execCmpeq (e : Eid) (g : Guard) (d : Fin 4) (a b : Fin 16) (s : State) : Host.Outcome State Fault Refusal :=
  .next (issue e false g (fun _ => [.g a, .g b]) (alu fun x => x.setP d (x.gr a == x.gr b)) s)

/-- CMPLT (R64). -/
def execCmplt (e : Eid) (g : Guard) (d : Fin 4) (a b : Fin 16) (s : State) : Host.Outcome State Fault Refusal :=
  .next (issue e false g (fun _ => [.g a, .g b]) (alu fun x => x.setP d ((x.gr a).slt (x.gr b))) s)

/-- CMPLTU (R64). -/
def execCmpltu (e : Eid) (g : Guard) (d : Fin 4) (a b : Fin 16) (s : State) : Host.Outcome State Fault Refusal :=
  .next (issue e false g (fun _ => [.g a, .g b]) (alu fun x => x.setP d ((x.gr a).ult (x.gr b))) s)

/-- CMPLE (R64). -/
def execCmple (e : Eid) (g : Guard) (d : Fin 4) (a b : Fin 16) (s : State) : Host.Outcome State Fault Refusal :=
  .next (issue e false g (fun _ => [.g a, .g b]) (alu fun x => x.setP d ((x.gr a).sle (x.gr b))) s)

/-- PAND (R64). -/
def execPand (e : Eid) (g : Guard) (d a b : Fin 4) (s : State) : Host.Outcome State Fault Refusal :=
  .next (issue e false g (fun _ => [.p a, .p b]) (alu fun x => x.setP d (x.pr a && x.pr b)) s)

/-- POR (R64). -/
def execPor (e : Eid) (g : Guard) (d a b : Fin 4) (s : State) : Host.Outcome State Fault Refusal :=
  .next (issue e false g (fun _ => [.p a, .p b]) (alu fun x => x.setP d (x.pr a || x.pr b)) s)

/-- PXOR (R58). -/
def execPxor (e : Eid) (g : Guard) (d a b : Fin 4) (s : State) : Host.Outcome State Fault Refusal :=
  .next (issue e false g (fun _ => [.p a, .p b]) (alu fun x => x.setP d (x.pr a != x.pr b)) s)

/-- MOVGX (R64). -/
def execMovgx (e : Eid) (g : Guard) (d : Fin 8) (a : Fin 16) (s : State) : Host.Outcome State Fault Refusal :=
  .next (issue e false g (fun _ => [.g a]) (alu fun x => x.setX d ((x.gr a).extractLsb' 0 20)) s)

/-- MOVXG (R64). -/
def execMovxg (e : Eid) (g : Guard) (d : Fin 16) (a : Fin 8) (s : State) : Host.Outcome State Fault Refusal :=
  .next (issue e false g (fun _ => [.x a]) (alu fun x => x.plain d ((x.xr a).zeroExtend 24)) s)

/-- ADDXR (R53). -/
def execAddxr (e : Eid) (g : Guard) (d a : Fin 8) (b : Fin 16) (s : State) : Host.Outcome State Fault Refusal :=
  .next (issue e false g (fun _ => [.g b, .x a]) (alu fun x => x.setX d (x.xr a + (x.gr b).extractLsb' 0 20)) s)

/-! ### Immediates -/

/-- A signed and a zero-extended immediate. -/
def simm (i : BitVec 14) : W24 := i.signExtend 24
def zimm (i : BitVec 14) : W24 := i.zeroExtend 24

/-- ADDI (R63). -/
def execAddi (e : Eid) (d a : Fin 16) (imm : BitVec 14) (s : State) : Host.Outcome State Fault Refusal :=
  .next (issue e false always (fun _ => [.g a, .sr 0]) (alu fun x => x.governed d ((x.gr a).toInt + (simm imm).toInt) (carryOut (x.gr a) (simm imm) false)) s)

/-- ANDI (R64). -/
def execAndi (e : Eid) (d a : Fin 16) (imm : BitVec 14) (s : State) : Host.Outcome State Fault Refusal :=
  .next (issue e false always (fun _ => [.g a]) (alu fun x => x.plain d (x.gr a &&& zimm imm)) s)

/-- ORI (R64). -/
def execOri (e : Eid) (d a : Fin 16) (imm : BitVec 14) (s : State) : Host.Outcome State Fault Refusal :=
  .next (issue e false always (fun _ => [.g a]) (alu fun x => x.plain d (x.gr a ||| zimm imm)) s)

/-- XORI (R64). -/
def execXori (e : Eid) (d a : Fin 16) (imm : BitVec 14) (s : State) : Host.Outcome State Fault Refusal :=
  .next (issue e false always (fun _ => [.g a]) (alu fun x => x.plain d (x.gr a ^^^ zimm imm)) s)

/-- SHLI (R58). -/
def execShli (e : Eid) (d a : Fin 16) (amt : BitVec 5) (s : State) : Host.Outcome State Fault Refusal :=
  .next (issue e false always (fun _ => [.g a]) (alu fun x => x.plain d (shlW (x.gr a) amt.toNat)) s)

/-- SHRI (R58). -/
def execShri (e : Eid) (d a : Fin 16) (amt : BitVec 5) (s : State) : Host.Outcome State Fault Refusal :=
  .next (issue e false always (fun _ => [.g a]) (alu fun x => x.plain d (shrW (x.gr a) amt.toNat)) s)

/-- SARI (R58). -/
def execSari (e : Eid) (d a : Fin 16) (amt : BitVec 5) (s : State) : Host.Outcome State Fault Refusal :=
  .next (issue e false always (fun _ => [.g a]) (alu fun x => x.plain d (sarW (x.gr a) amt.toNat)) s)

/-- SHLSI (R58, R63). -/
def execShlsi (e : Eid) (d a : Fin 16) (amt : BitVec 5) (s : State) : Host.Outcome State Fault Refusal :=
  .next (issue e false always (fun _ => [.g a, .sr 0]) (alu fun x => x.governedKeepC d (shlExact (x.gr a) amt.toNat)) s)

/-- LDI (R64). -/
def execLdi (e : Eid) (d : Fin 16) (imm : BitVec 14) (s : State) : Host.Outcome State Fault Refusal :=
  .next (issue e false always noRegs (alu fun x => x.plain d (simm imm)) s)

/-- INSH (R64). -/
def execInsh (e : Eid) (d a : Fin 16) (imm : BitVec 10) (s : State) : Host.Outcome State Fault Refusal :=
  .next (issue e false always (fun _ => [.g a]) (alu fun x => x.plain d (imm ++ (x.gr a).extractLsb' 0 14)) s)

/-- CMPEQI (R64). -/
def execCmpeqi (e : Eid) (d : Fin 4) (a : Fin 16) (imm : BitVec 14) (s : State) : Host.Outcome State Fault Refusal :=
  .next (issue e false always (fun _ => [.g a]) (alu fun x => x.setP d (x.gr a == simm imm)) s)

/-- CMPLTI (R64). -/
def execCmplti (e : Eid) (d : Fin 4) (a : Fin 16) (imm : BitVec 14) (s : State) : Host.Outcome State Fault Refusal :=
  .next (issue e false always (fun _ => [.g a]) (alu fun x => x.setP d ((x.gr a).slt (simm imm))) s)

/-- CMPLTUI (R64). -/
def execCmpltui (e : Eid) (d : Fin 4) (a : Fin 16) (imm : BitVec 14) (s : State) : Host.Outcome State Fault Refusal :=
  .next (issue e false always (fun _ => [.g a]) (alu fun x => x.setP d ((x.gr a).ult (zimm imm))) s)

/-- ADDXI (R53). -/
def execAddxi (e : Eid) (d a : Fin 8) (imm : BitVec 14) (s : State) : Host.Outcome State Fault Refusal :=
  .next (issue e false always (fun _ => [.x a]) (alu fun x => x.setX d (x.xr a + imm.signExtend 20)) s)

/-- LDXI (R53). -/
def execLdxi (e : Eid) (d : Fin 8) (imm : BitVec 14) (s : State) : Host.Outcome State Fault Refusal :=
  .next (issue e false always noRegs (alu fun x => x.setX d (imm.zeroExtend 20)) s)

end Sys2Proof.Machine
end

