-- ==== Sys2Proof/Machine/HostPort.lean ====
section
/-!
DEFINITION. The host port (R422, R490, R503, R504): its commands, the bursts, and the MRAM window.
-/
namespace Sys2Proof.Machine

/-- R422: partitions the host does not read: vault, Barrow logs, return journal, reserved. -/
def mramHidden (off : Nat) : Bool :=
  decide (0x020000 ≤ off ∧ off < 0x040000) || decide (0x440000 ≤ off ∧ off < 0x900000) ||
    decide (0xDB0000 ≤ off ∧ off < 0x1000000)

/-- Partitions whose contents the spec names and does not lay out: update control, calibration record, general data. -/
def mramOpen (off : Nat) : Bool :=
  decide (0x010000 ≤ off ∧ off < 0x020000) || decide (0x050000 ≤ off ∧ off < 0x060000) ||
    decide (0x0D0000 ≤ off ∧ off < 0x100000)

/-- R422: partitions the host writes: update, vault, tariff and Fold staging, host data. -/
def mramWritable (off : Nat) : Bool :=
  decide (0x080000 ≤ off ∧ off < 0x0D0000) || decide (0x1000000 ≤ off ∧ off < 0x2000000)

/-- R422: a read of a word of the window, past the gate; what an unlaid partition holds is open. -/
def windowGet (off : Nat) (s : State) : State × Nat × Nat :=
  if mramHidden off then (s, 0, stDENIED)
  else if mramOpen off then (nextFree s, (freeNow 32 s).toNat, stOK)
  else (s, leNat (mramRdN s off 4), stOK)

/-- R31, R422: a write of a word through the window. -/
def windowSet (off v : Nat) (s : State) : State × Nat :=
  if mramWritable off && mramWritable (off + 3) then (mramWr off (leBytes 4 v) s, stOK) else (s, stDENIED)

/-- A host read of one word at any address. -/
def portRead (a : Nat) (s : State) : State × Nat × Nat :=
  if !(inMram a) then hostGet a (hostReadOf a) s
  else match hostGate false a s with
  | some st => (s, 0, st)
  | none =>
    let r := windowGet (a - 0x40000000) s
    (ckBus false a r.2.1 r.1, r.2)

/-- A host write of one word at any address. -/
def portWrite (a v : Nat) (s : State) : State × Nat :=
  hostPut a v (fun s => if inMram a then windowSet (a - 0x40000000) v s else regWrite false a v s) s

/-- R504: the first status other than OK. -/
def firstBad (st st' : Nat) : Nat := if st = stOK then st' else st

/-- R504: the address of access `i` of a burst: 4 more each time, or the two halves of a queue's message in turn. -/
def readAddr (a i : Nat) : Nat :=
  match qregAddr a with
  | some (_, r) => if r = 0x1C then a - 4 * (i % 2) else a + 4 * i
  | none => a + 4 * i
def writeAddr (a i : Nat) : Nat :=
  match qregAddr a with
  | some (_, r) => if r = 0x10 then a + 4 * (i % 2) else a + 4 * i
  | none => a + 4 * i

/-- `n` reads from access `i` on: the words and the status so far. -/
def readBurst (a : Nat) : Nat → Nat → Nat → State → State × List W32 × Nat
  | 0, _, st, s => (s, [], st)
  | n + 1, i, st, s =>
    let r := portRead (readAddr a i) s
    let q := readBurst a n (i + 1) (firstBad st r.2.2) r.1
    (q.1, BitVec.ofNat 32 r.2.1 :: q.2.1, q.2.2)

/-- The writes of a burst from access `i` on. -/
def writeBurst (a : Nat) : List W32 → Nat → Nat → State → State × Nat
  | [], _, st, s => (s, st)
  | v :: vs, i, st, s =>
    let r := portWrite (writeAddr a i) v.toNat s
    writeBurst a vs (i + 1) (firstBad st r.2) r.1

def setOut (l : List W32) (s : State) : State := modPwr (fun p => { p with out := l }) s

/-- READ (R504): `n` words; `ready` says that the dummy clocks cover the time of the read. -/
def execRead (addr : W32) (n : Nat) (ready : Bool) (s : State) : Host.Outcome State Fault Refusal :=
  if !ready then .next (acc (setOut (List.replicate n 0) s, stBUDGET))
  else
    let r := readBurst addr.toNat n 0 stOK s
    .next (acc (setOut r.2.1 r.1, r.2.2))

/-- WRITE (R504). -/
def execWrite (addr : W32) (words : List W32) (s : State) : Host.Outcome State Fault Refusal :=
  .next (acc (writeBurst addr.toNat words 0 stOK s))

/-- STATUS (R504): HSTAT, as the transaction before left it; it makes no access. -/
def execStatus (s : State) : Host.Outcome State Fault Refusal :=
  .next (acc (setOut [BitVec.ofNat 32 (readWord false s 0x20000028)] s, stOK))

/-- PORT_RESET (R104, R490): port logic and HCFG return to their reset values; what the host has popped and not
acknowledged is delivered again. -/
def execPortReset (s : State) : Host.Outcome State Fault Refusal :=
  .next (replayHost (setOut [] (wrs [(R.PWR_HCFG_WIDTH, R.PWR_HCFG_WIDTH.rst), (R.PWR_HCFG_DUMMY, R.PWR_HCFG_DUMMY.rst),
    (R.PWR_HCFG_IRQEN, R.PWR_HCFG_IRQEN.rst), (R.PWR_HSTAT_LAST, stOK)] s)))

/-- REGISTER_WRITE (R12, R13, R515): one word as a transaction of its own. -/
def execRegisterWrite (addr v : W32) (s : State) : Host.Outcome State Fault Refusal :=
  .next (acc (portWrite addr.toNat v.toNat s))

/-- MRAM_WINDOW_WRITE (R31, R422). -/
def execMramWindowWrite (off : BitVec 25) (v : W32) (s : State) : Host.Outcome State Fault Refusal :=
  .next (acc (portWrite (0x40000000 + off.toNat) v.toNat s))

/-- HOST_PORT_OTHER_COMMAND (R504). -/
def execHostPortOtherCommand (cmd : Byte) (s : State) : Host.Outcome State Fault Refusal :=
  if cmd = 0x0B ∨ cmd = 0x02 ∨ cmd = 0x05 ∨ cmd = 0x99 then .next s else .next (acc (s, stDENIED))

end Sys2Proof.Machine
end

