-- ==== Sys2Proof/Machine/Illegal.lean ====
section
/-!
DEFINITION. The word that encodes no instruction (R55).
-/
namespace Sys2Proof.Machine

/-- INVALID_ENCODING (R55, R73): an unlisted major opcode, function or field value raises OPCODE.  A word that encodes an
instruction is no case of this row. -/
def execInvalidEncoding (e : Eid) (w : W32) (s : State) : Host.Outcome State Fault Refusal :=
  if (decodeTreltor e w.toNat).isSome then .next s else .next (issue e true always noRegs (alu id) s)

end Sys2Proof.Machine
end

