-- ==== Sys2Proof/Machine/Lifecycle.lean ====
section
/-!
DEFINITION. The lifecycle (R407 to R410): the change of state under authorisation, and the end of its wipe.
-/
namespace Sys2Proof.Machine

/-- R407: the anchor a listed transition needs. -/
def lifeAnchor (a b : Nat) : Option Nat :=
  if a = 0 ∧ b = 1 then some 1
  else if (a = 1 ∧ b = 2) ∨ (a = 2 ∧ b = 3) ∨ (a = 3 ∧ b = 2) ∨ (a = 2 ∧ b = 4) then some 2
  else if (a = 0 ∨ a = 1 ∨ a = 3) ∧ b = 4 then some 1
  else none

/-- R407: the channels' calibration is applied on every outlet that is metered. -/
def calClean (s : State) : Bool :=
  outlets.all fun o => metType o s == 0 || (List.range 14).all fun c => rd (R.FLT_CALSTAT_DIRTY o c) s == 0

/-- R407: the further conditions of a transition. -/
def lifeFurther (b : Nat) (s : State) : Bool :=
  if b = 1 then anchorLoaded 1 s
  else if b = 2 then anchorLoaded 2 s && anchorLoaded 3 s && calClean s
  else if b = 3 then decide (rd R.LIFE_SEAL_CNT s < 65535)
  else true

/-- R407: what holds a change back. -/
def lifeBusy (s : State) : Bool :=
  outlets.any (fun o => inSession o s) || rd R.TAG_TSTAT_JPEND s != 0 ||
    (List.range 5).any (fun r => rd (R.UPD_RSTAT_STATE r) s != 0) ||
    (!s.calPend.isEmpty && decide (calActivate s.calPend ≤ s.bill.t + 60)) || wiping s || s.vault.life.isSome

def lifeFrom (a : Auth) : Nat := (a.params.getD 0 0).toNat
def lifeTo (a : Auth) : Nat := (a.params.getD 1 0).toNat

/-- R407, R412: the status of a LIFE_CHANGE. -/
def lifeStatus (w0 w1 : W24) (s : State) : Nat :=
  let a := vaultAuth s
  refusal (vaultFault true s)
    (w0 != 0 || w1 != 0 || a.params.getD 2 0 != 0 || a.params.getD 3 0 != 0 ||
      authDenied a 3 (a.plen == 4) (lifeAnchor (lifeFrom a) (lifeTo a) == some a.anchor) s ||
      !(lifeFurther (lifeTo a) s))
    (isScrapped s) false (authStale a s || lifeFrom a != lifeState s) (lifeBusy s)

/-- R408 steps 2 and 3: the new state applies, and the loaded keys are gone. -/
def lifeCommit (s : State) : State :=
  let a := vaultAuth s
  let tgt := lifeTo a
  let s := takeCount a s
  let s := wrs [(R.LIFE_LSTATE_STATE, tgt), (R.LIFE_LSTATE_PEND, 1), (R.LIFE_EPOCH_E, epoch s + 1)] s
  let s := if tgt = 3 then wr R.LIFE_SEAL_CNT (rd R.LIFE_SEAL_CNT s + 1) s else s
  let s := clearTemps (clearSlots loadableSlots (commitDir s))
  let s := modV (fun v => { v with stored := [] }) s
  let s := if tgt = 4 then clearSlots [1, 2] s else setSlot 1 (keyWRK s) 3 2 4 0 s
  if tgt = 4 then forEach outlets (fun o s => if ostate o s = 0 then s else goTo o 0 0 false s) s else s

/-- LIFE_CHANGE (R407, R408). -/
def execLifeChange (n : Fin 8) (w0 w1 : W24) (s : State) : Host.Outcome State Fault Refusal :=
  .next (viaReq 112 0 n 0x3C w0 w1 [] (te15Up s) (fun s =>
    let st := lifeStatus w0 w1 s
    if st ≠ stOK then reply n 0x3C w0.toNat 0 st s
    else modV (fun v => { v with life := some (n.val, w0.toNat, lifeFrom (vaultAuth s)) }) (lifeCommit s)) s)

/-- A run of MRAM read as zero. -/
def zeroMram (a n : Nat) (s : State) : State := { s with mram := SMap.clearRange s.mram a n }

/-- R409, R304: the Fold record, password, failures and lock are gone, in the running Fold too. -/
def scrapFold (s : State) : State :=
  let s := modFold (fun F => { F with record := [], staged := [], salt := [], hash := [], fails := 0, lock := none, commit := none }) s
  showF (initConns (wrs [(R.FOLD_CFGCRC_CRC, 0), (R.FOLD_PENDCRC_CRC, 0)] (zeroMram 0x040000 0x10000 s)))

/-- R409: an anchor wiped. -/
def wipeAnchor (i : Nat) (s : State) : State :=
  wrs [(R.GV_ANCINFO_LOADED i, 0), (R.GV_ANCINFO_CURVE i, 0), (R.GV_ANCCNT_CNT i, 0), (R.GV_ANCHASH_H i, 0)]
    (modV (fun v => { v with anchors := v.anchors.set i [] }) s)

/-- R409: the billing slots but the newest valid one, the reading buffer and the load profiles. -/
def scrapLegal (s : State) : State :=
  let keep := (validSlots s).head?
  let s := forEach (List.range 8) (fun i s => if (readSlot i s).isSome && readSlot i s == keep then s
    else zeroMram (slotBase + i * 4096) 4096 s) s
  zeroMram profBase 4915200 (zeroMram rdBase (64 * 256) s)

/-- R409: the wipes of step 4. -/
def lifeWipe (s : State) : State :=
  let s := [(0x0D0000, 0x30000), (0x080000, 0x20000), (0x0A0000, 0x10000), (0x0B0000, 0x10000), (0x0C0000, 0x10000),
    (0x1000000, 0x1000000)].foldl (fun s r => zeroMram r.1 r.2 s) s
  let s := { s with tag := { s.tag with journal := [] } }
  if isScrapped s then scrapLegal (scrapFold (zeroMram 0x050000 0x10000 (forEach [1, 2, 3, 4, 5] wipeAnchor s))) else s

/-- LIFE_WIPE_DONE (R408 steps 4 and 5). -/
def execLifeWipeDone (s : State) : Host.Outcome State Fault Refusal :=
  if !(wiping s) then .next s
  else
    let s := commitDir (wr R.LIFE_LSTATE_PEND 0 (lifeWipe s))
    match s.vault.life with
    | none => .next s
    | some (n, w0, fr) =>
      let s := logEvent 15 0x0B 15 [fr, lifeState s, rd R.LIFE_SEAL_CNT s] (modV (fun v => { v with life := none }) s)
      .next (if n % 16 < 8 then complete (n % 16 + 8) 0x3C w0 (lifeState s * 256) stOK s else s)

end Sys2Proof.Machine
end

