-- ==== Sys2Proof/Machine/Mac.lean ====
section
/-!
DEFINITION. The multiply-accumulate instructions (R42, R59, R62).
-/
namespace Sys2Proof.Machine

/-- R59, R64: a mode-governed write of an accumulator. -/
def Eng.accum (d : Fin 2) (exact : Int) (x : Eng) : Eng := (x.setA d (fitW 56 x.wraps exact)).setV (overflows 56 exact)

/-- R62, R64: a rounded and fitted result. -/
def Eng.fitted (d : Fin 16) (exact : Int) (k : Nat) (x : Eng) : Eng :=
  let q := roundTo x.rnd exact k
  let r : W24 := fitW 24 x.wraps q
  (x.setG d r).setZNV r (overflows 24 q)

/-- Products (R59). -/
def prodSS (a b : W24) : Int := a.toInt * b.toInt
def prodUU (a b : W24) : Int := (a.toNat * b.toNat : Nat)
def prodSU (a b : W24) : Int := a.toInt * (b.toNat : Int)

/-- The other accumulator. -/
def otherA (d : Fin 2) : Fin 2 := if d = 0 then 1 else 0

/-- MPY (R59). -/
def execMpy (e : Eid) (g : Guard) (d : Fin 2) (a b : Fin 16) (s : State) : Host.Outcome State Fault Refusal :=
  .next (issue e false g (fun _ => [.g a, .g b, .sr 0]) (alu fun x => x.accum d (2 * prodSS (x.gr a) (x.gr b))) s)

/-- MAC (R59). -/
def execMac (e : Eid) (g : Guard) (d : Fin 2) (a b : Fin 16) (s : State) : Host.Outcome State Fault Refusal :=
  .next (issue e false g (fun _ => [.g a, .g b, .a d, .sr 0]) (alu fun x => x.accum d ((x.ar d).toInt + 2 * prodSS (x.gr a) (x.gr b))) s)

/-- MSU (R59). -/
def execMsu (e : Eid) (g : Guard) (d : Fin 2) (a b : Fin 16) (s : State) : Host.Outcome State Fault Refusal :=
  .next (issue e false g (fun _ => [.g a, .g b, .a d, .sr 0]) (alu fun x => x.accum d ((x.ar d).toInt - 2 * prodSS (x.gr a) (x.gr b))) s)

/-- MPYI (R59). -/
def execMpyi (e : Eid) (g : Guard) (d : Fin 2) (a b : Fin 16) (s : State) : Host.Outcome State Fault Refusal :=
  .next (issue e false g (fun _ => [.g a, .g b, .sr 0]) (alu fun x => x.accum d (prodSS (x.gr a) (x.gr b))) s)

/-- MACI (R59). -/
def execMaci (e : Eid) (g : Guard) (d : Fin 2) (a b : Fin 16) (s : State) : Host.Outcome State Fault Refusal :=
  .next (issue e false g (fun _ => [.g a, .g b, .a d, .sr 0]) (alu fun x => x.accum d ((x.ar d).toInt + prodSS (x.gr a) (x.gr b))) s)

/-- MPYUU (R59). -/
def execMpyuu (e : Eid) (g : Guard) (d : Fin 2) (a b : Fin 16) (s : State) : Host.Outcome State Fault Refusal :=
  .next (issue e false g (fun _ => [.g a, .g b, .sr 0]) (alu fun x => x.accum d (prodUU (x.gr a) (x.gr b))) s)

/-- MACUU (R59). -/
def execMacuu (e : Eid) (g : Guard) (d : Fin 2) (a b : Fin 16) (s : State) : Host.Outcome State Fault Refusal :=
  .next (issue e false g (fun _ => [.g a, .g b, .a d, .sr 0]) (alu fun x => x.accum d ((x.ar d).toInt + prodUU (x.gr a) (x.gr b))) s)

/-- MPYSU (R59). -/
def execMpysu (e : Eid) (g : Guard) (d : Fin 2) (a b : Fin 16) (s : State) : Host.Outcome State Fault Refusal :=
  .next (issue e false g (fun _ => [.g a, .g b, .sr 0]) (alu fun x => x.accum d (prodSU (x.gr a) (x.gr b))) s)

/-- MACSU (R59). -/
def execMacsu (e : Eid) (g : Guard) (d : Fin 2) (a b : Fin 16) (s : State) : Host.Outcome State Fault Refusal :=
  .next (issue e false g (fun _ => [.g a, .g b, .a d, .sr 0]) (alu fun x => x.accum d ((x.ar d).toInt + prodSU (x.gr a) (x.gr b))) s)

/-- CLRA (R59). -/
def execClra (e : Eid) (g : Guard) (d : Fin 2) (s : State) : Host.Outcome State Fault Refusal :=
  .next (issue e false g (fun _ => [.sr 0]) (alu fun x => x.accum d 0) s)

/-- ADDA (R59). -/
def execAdda (e : Eid) (g : Guard) (d : Fin 2) (s : State) : Host.Outcome State Fault Refusal :=
  .next (issue e false g (fun _ => [.a d, .a (otherA d), .sr 0]) (alu fun x => x.accum d ((x.ar d).toInt + (x.ar (otherA d)).toInt)) s)

/-- SUBA (R59). -/
def execSuba (e : Eid) (g : Guard) (d : Fin 2) (s : State) : Host.Outcome State Fault Refusal :=
  .next (issue e false g (fun _ => [.a d, .a (otherA d), .sr 0]) (alu fun x => x.accum d ((x.ar d).toInt - (x.ar (otherA d)).toInt)) s)

/-- LDAH (R59). -/
def execLdah (e : Eid) (g : Guard) (d : Fin 2) (a : Fin 16) (s : State) : Host.Outcome State Fault Refusal :=
  .next (issue e false g (fun _ => [.g a, .sr 0]) (alu fun x => x.accum d ((x.gr a).toInt * 2 ^ 24)) s)

/-- SHLA (R59). -/
def execShla (e : Eid) (g : Guard) (d : Fin 2) (b : Fin 16) (s : State) : Host.Outcome State Fault Refusal :=
  .next (issue e false g (fun _ => [.g b, .a d, .sr 0]) (alu fun x => x.accum d ((x.ar d).toInt * 2 ^ ((x.gr b).toNat % 64))) s)

/-- SARA (R59). -/
def execSara (e : Eid) (g : Guard) (d : Fin 2) (b : Fin 16) (s : State) : Host.Outcome State Fault Refusal :=
  .next (issue e false g (fun _ => [.g b, .a d, .sr 0]) (alu fun x => x.accum d ((x.ar d).toInt / 2 ^ ((x.gr b).toNat % 64))) s)

/-- MOVAH (R62). -/
def execMovah (e : Eid) (g : Guard) (d : Fin 16) (a : Fin 2) (s : State) : Host.Outcome State Fault Refusal :=
  .next (issue e false g (fun _ => [.a a, .sr 0]) (alu fun x => x.fitted d (x.ar a).toInt 24) s)

/-- MOVAM (R59). -/
def execMovam (e : Eid) (g : Guard) (d : Fin 16) (a : Fin 2) (s : State) : Host.Outcome State Fault Refusal :=
  .next (issue e false g (fun _ => [.a a]) (alu fun x => x.plain d ((x.ar a).extractLsb' 24 24)) s)

/-- MOVAL (R59). -/
def execMoval (e : Eid) (g : Guard) (d : Fin 16) (a : Fin 2) (s : State) : Host.Outcome State Fault Refusal :=
  .next (issue e false g (fun _ => [.a a]) (alu fun x => x.plain d ((x.ar a).extractLsb' 0 24)) s)

/-- MOVAG (R59). -/
def execMovag (e : Eid) (g : Guard) (d : Fin 16) (a : Fin 2) (s : State) : Host.Outcome State Fault Refusal :=
  .next (issue e false g (fun _ => [.a a]) (alu fun x => x.plain d (((x.ar a).extractLsb' 48 8).signExtend 24)) s)

/-- The accumulator put together from its guard byte, middle and low word (R41). -/
def joinA (gd : Byte) (m l : W24) : W56 := gd ++ m ++ l
def guardA (v : W56) : Byte := v.extractLsb' 48 8
def midA (v : W56) : W24 := v.extractLsb' 24 24
def lowA (v : W56) : W24 := v.extractLsb' 0 24

/-- R59: a part of an accumulator is moved in; R64 lists these among the accumulator writes, and nothing overflows. -/
def Eng.putA (d : Fin 2) (v : W56) (x : Eng) : Eng := (x.setA d v).setV false

/-- PUTAM (R59). -/
def execPutam (e : Eid) (g : Guard) (d : Fin 2) (a : Fin 16) (s : State) : Host.Outcome State Fault Refusal :=
  .next (issue e false g (fun _ => [.g a, .a d]) (alu fun x => x.putA d (joinA (guardA (x.ar d)) (x.gr a) (lowA (x.ar d)))) s)

/-- PUTAL (R59). -/
def execPutal (e : Eid) (g : Guard) (d : Fin 2) (a : Fin 16) (s : State) : Host.Outcome State Fault Refusal :=
  .next (issue e false g (fun _ => [.g a, .a d]) (alu fun x => x.putA d (joinA (guardA (x.ar d)) (midA (x.ar d)) (x.gr a))) s)

/-- PUTAG (R59). -/
def execPutag (e : Eid) (g : Guard) (d : Fin 2) (a : Fin 16) (s : State) : Host.Outcome State Fault Refusal :=
  .next (issue e false g (fun _ => [.g a, .a d]) (alu fun x => x.putA d (joinA ((x.gr a).extractLsb' 0 8) (midA (x.ar d)) (lowA (x.ar d)))) s)

/-- MPYR (R62). -/
def execMpyr (e : Eid) (g : Guard) (d a b : Fin 16) (s : State) : Host.Outcome State Fault Refusal :=
  .next (issue e false g (fun _ => [.g a, .g b, .sr 0]) (alu fun x => x.fitted d (prodSS (x.gr a) (x.gr b)) 23) s)

end Sys2Proof.Machine
end

