-- ==== Sys2Proof/Machine/Mem.lean ====
section
/-!
DEFINITION. Loads and stores: data memory and the block window (R48, R50, R51, R60).
-/
namespace Sys2Proof.Machine

/-- R50: the host address a window word belongs to, and whether it is the upper word. -/
def winAddr (x : Eng) (a : Nat) : Nat × Bool := (x.bwsel.toNat * 2 ^ 24 + (a - 0xF0000) / 2 * 4, (a - 0xF0000) % 2 == 1)

/-- R50: the address holds a register. -/
def regExists (a : Nat) : Bool :=
  !(regFields a).isEmpty || (qregAddr a).any (fun r => r.2 ≤ 0x20) || a == 0x10000000 || (calAddr a).isSome ||
  (coefWord a).isSome || a == 0x1100F00C || decide (0x13008000 ≤ a ∧ a < 0x13008510) || decide (0x13009000 ≤ a ∧ a < 0x13009510) ||
  a == 0x17000000 || decide (0x17100000 ≤ a ∧ a < 0x17120000) || decide (0x17180000 ≤ a ∧ a < 0x17190000) ||
  decide (0x1D010000 ≤ a ∧ a < 0x1D012000) || decide (0x20002000 ≤ a ∧ a < 0x20002018) || a == 0x20002060 ||
  a == 0x2000002C || (decide (0x1B000000 ≤ a ∧ a < 0x1B000400) && (a % 0x100 == 0x20 || a % 0x100 == 0x24))

/-- R50: engine `e` reaches the register at `a`, for a store or a load. -/
def reaches (e : Nat) (store : Bool) (a : Nat) : Bool :=
  let blk := a / 2 ^ 24
  let off := a % 2 ^ 24
  let o := off / 0x1000
  let lo := pairLow e
  let metering := lo == 9 || lo == 11
  if blk = 0x11 then
    let c := off % 0x1000 / 0x100
    if o < 8 then (if c = 12 ∨ c = 13 then lo == 13 else metering && lo == pairOf o)
    else if o = 8 then lo == 9
    else !store && isPaired e
  else if blk = 0x12 then
    if o < 8 then metering && lo == pairOf o
    else if o = 9 then metering && lo == 9 + 2 * (off % 0x1000 / 0x100)
    else lo == 9
  else if blk = 0x14 then
    e == o + 1 || (lo == 13 && decide (o < 8) && (off % 0x1000 == 0x10 || off % 0x1000 == 0x0C))
  else if blk = 0x15 then (if o < 8 then e == o + 1 else e == 0 && !store)
  else if blk = 0x16 then lo == 13
  else if blk = 0x1A then e == 15
  else if blk = 0x20 then
    if isPwrReg a then e == 0 else if isLife a then !store || e == 15 else isIdent a && !store
  else decide (0x10 ≤ blk ∧ blk < 0x20) && e == 0

/-- R50: some of bits [31:24] of a register are not reserved. -/
def hasUpper (a : Nat) : Bool :=
  match qregAddr a with
  | some (_, r) => decide (0x10 ≤ r ∧ r < 0x20)
  | none =>
    if (calAddr a).isSome || (coefWord a).isSome then false
    else if 0x1D010000 ≤ a ∧ a < 0x1D012000 then decide (4 ≤ a % 64 ∧ a % 64 < 52)
    else (regFields a).isEmpty || (regFields a).any fun f => decide (24 < f.lsb + f.wid)

/-- R48, R50, R51: the word an engine loads from `a`; an error is MEMORY or ECC. -/
def loadWord (e : Nat) (s : State) (x : Eng) (a : Nat) : Except Nat (W24 × Eng × Eff) :=
  if a < memWords e then
    if x.dErr2.contains a then .error exECC
    else
      let x := if x.dErr1.contains a then Eng.corrected { x with dErr1 := x.dErr1.filter (· != a) } else x
      .ok (SMap.get 0 x.dmem a, x, .none)
  else if 0xF0000 ≤ a then
    let h := winAddr x a
    if x.bwsel = 0 || !(regExists h.1) || !(reaches e false h.1) then .error exMEMORY
    else
      let x := { x with evHw := false }
      let v := readWord true (readEffect h.1 s) h.1
      if h.2 then
        let up := match x.winLatch with
          | some l => if l.1 = h.1 then l.2.toNat else v / 2 ^ 24
          | none => v / 2 ^ 24
        .ok (w24 (up % 256), x, .none)
      else .ok (w24 v, { x with winLatch := some (h.1, BitVec.ofNat 8 (v / 2 ^ 24)) }, .readEff h.1)
  else .error exMEMORY

/-- R48, R50, R51: store a word at `a`.  The state check value follows every store (R185). -/
def storeWord (e : Nat) (x : Eng) (a : Nat) (v : W24) : Except Nat Act :=
  if a < memWords e then
    if x.dErr2.contains a then .error exECC
    else
      let x := if x.dErr1.contains a then Eng.corrected { x with dErr1 := x.dErr1.filter (· != a) } else x
      let old := SMap.get 0 x.dmem a
      .ok ({ x with dmem := SMap.put 0 x.dmem a v,
                    chk := Nat.xor x.chk (Nat.xor (chkWord a old.toNat) (chkWord a v.toNat)) }, .none)
  else if 0xF0000 ≤ a then
    let h := winAddr x a
    if x.bwsel = 0 || !(regExists h.1) || !(reaches e true h.1) then .error exMEMORY
    else
      let x := { x with evHw := false }
      if h.2 then
        match x.winHeld with
        | some l =>
          if l.1 = h.1 then .ok ({ x with winHeld := none }, .store h.1 (l.2.toNat + v.toNat % 256 * 2 ^ 24))
          else .ok (x, .none)
        | none => .ok (x, .none)
      else if hasUpper h.1 then .ok ({ x with winHeld := some (h.1, v) }, .none)
      else .ok (x, .store h.1 v.toNat)
  else .error exMEMORY

/-- R53, R60: the effective address, and the address register after the access. -/
def effAddr (post : Bool) (i : Fin 8) (off : BitVec 14) (x : Eng) : W20 × Eng :=
  let b := x.xr i
  let c := b + off.signExtend 20
  if post then (b, x.setX i c) else (c, x)

/-- A load: the access, then the address register, then the destination. -/
def loadBody (post : Bool) (i : Fin 8) (off : BitVec 14) (put : W24 → Eng → Eng) : Body := fun e s x =>
  match loadWord e s x (effAddr post i off x).1.toNat with
  | .error n => .error n
  | .ok r => .ok ((put r.1 (effAddr post i off r.2.1).2).retire, r.2.2)

/-- A store: the access, then the address register. -/
def storeBody (post : Bool) (i : Fin 8) (off : BitVec 14) (get : Eng → W24) : Body := fun e _ x =>
  match storeWord e x (effAddr post i off x).1.toNat (get x) with
  | .error n => .error n
  | .ok r => .ok ((effAddr post i off r.1).2.retire, r.2)

/-- R73: the registers a load or a store reads: its base, BWSEL where it reaches the block window, and `more`. -/
def accReads (post : Bool) (i : Fin 8) (off : BitVec 14) (more : List PReg) (x : Eng) : List PReg :=
  .x i :: (if 0xF0000 ≤ (effAddr post i off x).1.toNat then .sr 0x0E :: more else more)

/-- LD (R60). -/
def execLd (e : Eid) (d : Fin 16) (post : Bool) (x : Fin 8) (off : BitVec 14) (s : State) : Host.Outcome State Fault Refusal :=
  .next (issue e false always (accReads post x off []) (loadBody post x off fun v y => y.setG d v) s)

/-- ST (R60). -/
def execSt (e : Eid) (d : Fin 16) (post : Bool) (x : Fin 8) (off : BitVec 14) (s : State) : Host.Outcome State Fault Refusal :=
  .next (issue e false always (accReads post x off [.g d]) (storeBody post x off fun y => y.gr d) s)

/-- LDX (R60): with post-modify of its own destination it raises OPCODE. -/
def execLdx (e : Eid) (d : Fin 8) (post : Bool) (x : Fin 8) (off : BitVec 14) (s : State) : Host.Outcome State Fault Refusal :=
  .next (issue e (post && d == x) always (accReads post x off []) (loadBody post x off fun v y => y.setX d (v.extractLsb' 0 20)) s)

/-- STX (R60). -/
def execStx (e : Eid) (d : Fin 8) (post : Bool) (x : Fin 8) (off : BitVec 14) (s : State) : Host.Outcome State Fault Refusal :=
  .next (issue e false always (accReads post x off [.x d]) (storeBody post x off fun y => (y.xr d).zeroExtend 24) s)

end Sys2Proof.Machine
end

