-- ==== Sys2Proof/Machine/Outlet.lean ====
section
/-!
DEFINITION. The commands of the outlet engines (R244 to R269).
-/
namespace Sys2Proof.Machine

/-- R281: the outlet engine counts the pilot's changes from B to C for CM_VALIDATE, from when it has left A
(log entry 113). -/
def noteToggle (o was new : Nat) (s : State) : State :=
  if new = 0 then modOs o (fun x => { x with toggles := 0 }) s
  else if was = 1 ∧ new = 2 then modOs o (fun x => { x with toggles := x.toggles + 1 }) s
  else s

/-- PILOT_STATE_CHANGE (R246, R247, R252, R260, R262): three consecutive periods have been measured; a state that all
of them show, and that is not yet in effect, is accepted. -/
def execPilotStateChange (o : Fin 8) (m1 m2 m3 : Plateaus) (s : State) : Host.Outcome State Fault Refusal :=
  let was := pilotOf o s
  let new := (pilotAccepts o m1 m2 m3 s).getD was
  let s := showPilot o m1 m2 m3 s
  if new = was then .next s
  else
    let s := noteToggle o was new (wr (R.OUT_STATE_PILOT o) new s)
    if held o s then .next (if foldUp s then holdPilot o (pilotAs o was s) s else s)
    else .next (react o true false (pilotAs o was s) s)

/-- PP_CHANGE (R248, R249, R252, R260, R262): five consecutive measurements of the resistance to PE; a reading is
accepted where all five lie in one band. -/
def execPpChange (o : Fin 8) (r : PpReadings) (s : State) : Host.Outcome State Fault Refusal :=
  if !([r.r1, r.r2, r.r3, r.r4].all fun x => ppRow x.toNat == ppRow r.r5.toNat) then .next s
  else
    let s := showPP o (wr (R.OUT_PP_R o) r.r5.toNat s)
    if held o s then .next (if foldUp s then holdPP o s else s)
    else .next (setGen o (react o true false 0 s))

/-- GENERATOR_FAULT (R252, R260, R269): a plateau has been outside its target with no load for three periods. -/
def execGeneratorFault (o : Fin 8) (s : State) : Host.Outcome State Fault Refusal :=
  let s := wr (R.OUT_DUTY_GENF o) 1 s
  if held o s then .next (if foldUp s && shut o s then holdOpen o 9 true s else s)
  else .next (react o true false 0 s)

/-- A request of the host that an outlet engine carries out (R265, R293): TE0 forwards it on Q(64 + o), where it waits
while the engine does not run or the Fold holds the pilot (R38, R268); on the disabled queue of an engine that is stopped
for good it completes WITHDRAWN (R85, R111).  TE0 judges it itself in SCRAPPED, where no outlet engine is loaded, and with
PD5 off. -/
def outletReq (n : Fin 8) (t : Nat) (w0 w1 : W24) (status : Nat → State → Nat) (act : Nat → State → State) (s : State) :
    State :=
  let o := fld w0 3 0
  if 8 ≤ o then hostReq n t w0 w1 [] true (reply n t w0.toNat 0 stDENIED) s
  else if isScrapped s || !(pdOn 5 s) then
    hostReq n t w0 w1 [] true (fun s => reply n t w0.toNat 0 (if status o s = stOK then stWITHDRAWN else status o s) s) s
  else viaReq (64 + o) o n t w0 w1 [] (outActive o s) (fun s =>
    if status o s = stOK then act o s else reply n t w0.toNat 0 (status o s) s) s

/-- R266: the refusals of the outlet's own requests. -/
def outReq (n : Fin 8) (t : Nat) (w0 w1 : W24) (denied busy : Nat → State → Bool) (act : Nat → State → State) (s : State) :
    State :=
  outletReq n t w0 w1 (fun o s =>
    refusal (flag (R.OUT_DUTY_GENF o) s || (pairStopped (pairOf o) s && (t == 2 || t == 6 || (t == 1 && fld w1 0 0 == 1))))
      (fld w0 23 4 != 0 || metType o s == 0 || denied o s) (isScrapped s) false false (busy o s)) act s

/-- R22, R266: the domains an outlet needs in service. -/
def outPowered (o : Nat) (s : State) : Bool := pdOn 5 s && pdOn 2 s && (decide (o < 4) || pdOn 3 s)

/-- OUT_SERVICE (R252, R253, R265): puts an outlet in or out of service. -/
def execOutService (n : Fin 8) (w0 w1 : W24) (s : State) : Host.Outcome State Fault Refusal :=
  let on := fld w1 0 0 == 1
  let force := fld w1 1 1 == 1
  let w : Waiting := ⟨n, w0.toNat⟩
  .next (outReq n 0x01 w0 w1
    (fun o s => fld w1 23 2 != 0 || (!on && !force && inSession o s))
    (fun o s => (getOs o s).check.isSome || (getOs o s).leave.isSome || (on && !(outPowered o s)))
    (fun o s =>
      let st := ostate o s
      if on then
        if st = 9 then setGen o (modOs o (fun x => { x with check := some w }) s)
        else
          let s := if st = 0 then goTo o 1 0 false s else s
          outDone 0x01 w (ostate o s * 256) stOK s
      else if st = 0 then outDone 0x01 w 0 stOK s
      else if st = 1 ∨ st = 8 ∨ st = 9 then outDone 0x01 w 0 stOK (goTo o 0 1 false s)
      else rampDown o 1 false (modOs o (fun x => { x with leave := some w }) s)) s)

/-- PILOT_CHECK_END (R253): the 50 ms of the pilot check are over. -/
def execPilotCheckEnd (o : Fin 8) (s : State) : Host.Outcome State Fault Refusal :=
  match (getOs o s).check with
  | some w =>
    if !(outActive o s) then .next s
    else
      let s := modOs o (fun x => { x with check := none }) s
      if pilotOf o s ≤ 3 ∧ !(ppFault o s) ∧ !(flag (R.OUT_DUTY_GENF o) s) then
        .next (outDone 0x01 w 256 stOK (goTo o 1 0 false s))
      else .next (outDone 0x01 w (9 * 256) stFAULT (setGen o s))
  | none => .next s

/-- OUT_AUTHORISE (R252, R255, R265): accepts or rejects the authorisation of a connected outlet. -/
def execOutAuthorise (n : Fin 8) (w0 w1 : W24) (s : State) : Host.Outcome State Fault Refusal :=
  .next (outReq n 0x02 w0 w1 (fun o s => fld w1 23 1 != 0 || ostate o s != 2) (fun o s => (getOs o s).auth.isSome)
    (fun o s =>
      if fld w1 0 0 = 0 then outDone 0x02 ⟨n, w0.toNat⟩ 0 stOK s
      else react o false false 0 (authorised o (modOs o (fun x => { x with auth := some ⟨n, w0.toNat⟩ }) s))) s)

/-- OUT_LIMIT (R245, R265, R268): sets the host's limit; it completes at the first period with the new duty. -/
def execOutLimit (n : Fin 8) (w0 w1 : W24) (s : State) : Host.Outcome State Fault Refusal :=
  .next (outReq n 0x03 w0 w1 (fun _ _ => fld w1 23 10 != 0 || decide (800 < fld w1 9 0)) (fun o s => (getOs o s).limit.isSome)
    (fun o s => setGen o (react o true false 0
      (modOs o (fun x => { x with hostLim := fld w1 9 0, limit := some ⟨n, w0.toNat⟩ }) s))) s)

/-- OUT_STOP (R252, R258, R259, R265): ends, suspends or resumes an outlet's session. -/
def execOutStop (n : Fin 8) (w0 w1 : W24) (s : State) : Host.Outcome State Fault Refusal :=
  let k := fld w1 1 0
  let w : Waiting := ⟨n, w0.toNat⟩
  .next (outReq n 0x04 w0 w1 (fun _ _ => fld w1 23 2 != 0 || k == 3) (fun o s => (getOs o s).stop.isSome)
    (fun o s =>
      let st := ostate o s
      let wait := modOs o (fun x => { x with stop := some (w, k), susp := k == 1 || (k != 2 && x.susp) }) s
      let now (s : State) := outDone 0x04 w (st * 256) stOK s
      if k = 0 then (if inSession o s then rampDown o 1 false wait else now s)
      else if k = 1 then
        (if st = 4 ∨ st = 5 then rampDown o 1 true wait
         else now (modOs o (fun x => { x with susp := x.susp || st == 6 }) s))
      else if st = 6 then react o true false 0 wait
      else now (modOs o (fun x => { x with susp := false }) s)) s)

/-- The configuration fields of an outlet (R269). -/
def outFields (o : Nat) : List Fld :=
  [R.OUT_OCFG_CONN o, R.OUT_OCFG_HLC o, R.OUT_OCFG_BIDIR o, R.OUT_OCFG_VENT o, R.OUT_ILIM_I o, R.OUT_POW_ANGLE o,
    R.OUT_POW_CLOSEDLY o, R.OUT_POW_REF o, R.OUT_POW_EN o, R.OUT_HOLD_DUTY o, R.OUT_HOLD_WIN o, R.OUT_HOLD_DCLIM o]

/-- R266, R269: a value of the OUT configuration is not listed, or BIDIR meets a condition that forbids it. -/
def outCfgBad (o : Nat) (s : State) : Bool :=
  rd (R.OUT_OCFG_CONN o) s == 3 || rd (R.OUT_OCFG_HLC o) s == 3 || !(within 60 800 (rd (R.OUT_ILIM_I o) s)) ||
  decide (3599 < rd (R.OUT_POW_ANGLE o) s) || rd (R.OUT_POW_REF o) s == 3 || !(within 160 1066 (rd (R.OUT_HOLD_DUTY o) s)) ||
  !(within 10 200 (rd (R.OUT_HOLD_WIN o) s)) ||
  (flag (R.OUT_OCFG_BIDIR o) s && (flag (R.MET_OCFG_ACCMODE o).eff s ||
    (metType o s != 3 && rd (R.OUT_OCFG_HLC o) s == 0)))

/-- OUT_APPLY (R265, R266, R269): puts the OUT configuration of an outlet out of service in effect. -/
def execOutApply (n : Fin 8) (w0 w1 : W24) (s : State) : Host.Outcome State Fault Refusal :=
  .next (outReq n 0x05 w0 w1 (fun o s => w1 != 0 || !(outOfService o s) || outCfgBad o s) (fun _ _ => false)
    (fun o s =>
      let s := forEach (outFields o) (fun f s => wr f.eff (rd f s) s) s
      outDone 0x05 ⟨n, w0.toNat⟩ 0 stOK (setGen o (showPP o s))) s)

/-- OUT_ENERGISE (R252, R255, R265): asks a DC outlet to close its contactors. -/
def execOutEnergise (n : Fin 8) (w0 w1 : W24) (s : State) : Host.Outcome State Fault Refusal :=
  .next (outReq n 0x06 w0 w1 (fun o s => w1 != 0 || !(isDC o s) || !(ostate o s == 3 || ostate o s == 6))
    (fun o s => (getOs o s).energise.isSome)
    (fun o s =>
      let s := modOs o (fun x => { x with energise := some ⟨n, w0.toNat⟩ }) s
      if ostate o s = 6 then energise o (modOs o (fun x => { x with susp := false }) s) else react o false false 0 s) s)

/-- RAMPDOWN (R258, R259): a ramp-down cause. -/
def execRampdown (o : Fin 8) (reason : Fin 19) (s : State) : Host.Outcome State Fault Refusal :=
  if outActive o s && decide (reason.val ∈ [1, 2, 6, 7, 8, 9, 11, 12]) then .next (rampDown o reason false s) else .next s

/-- RAMPDOWN_TIMEOUT (R259, R262): 3 s without the current ending. -/
def execRampdownTimeout (o : Fin 8) (s : State) : Host.Outcome State Fault Refusal :=
  if held o s then
    if foldUp s && (getFo o s).hold == 2 then
      .next (openNow o none (modFo o (fun x => { x with hold := 3, forced := true }) s))
    else .next s
  else match (getOs o s).ramp with
  | some r =>
    if outActive o s && !r.imm && !r.opening then
      .next (askOpen o (modOs o (fun x => { x with ramp := some { r with opening := true, forced := true } }) s))
    else .next s
  | none => .next s

/-- SLAC_TIMEOUT (R255, R281): a SLAC not matched 20 s after CONNECTED has failed. -/
def execSlacTimeout (o : Fin 8) (s : State) : Host.Outcome State Fault Refusal :=
  if outActive o s && ostate o s == 2 && (getOs o s).slac == 0 && hlcOf o s != 0 then
    .next (modOs o (fun x => { x with slac := 2 }) s)
  else .next s

/-- HOLD_WINDOW_EXPIRY (R252, R262 step 3b): the Fold ends the session with reason HOLD_TIMEOUT: at once where the
contactors are open, by a ramp-down where they are not; where they are opening already, once they are open. -/
def execHoldWindowExpiry (o : Fin 8) (s : State) : Host.Outcome State Fault Refusal :=
  if !(foldUp s) || !(held o s) || (getFo o s).hold != 1 then .next s
  else
    let s := modOs o (fun x => { x with tMode := 1, tDuty := 0 }) s
    if !(notOpen o s) then .next (holdReport o 5 (modFo o (fun x => { x with hold := 4, pst := 2 }) s))
    else
    let s := holdReport o 4 (modFo o (fun x => { x with hold := if shut o s then 2 else 3, pst := 2 }) s)
    if !(shut o s) then .next s
    else if (if kindOf o s = 3 then pstageBit o 1 s else decide (pilotAs o (pilotOf o s) s < 2)) then
      .next (openNow o none (modFo o (fun x => { x with hold := 3 }) s))
    else .next s

/-- HOLD_RESUME (R263): a returning outlet engine reads its reports, ends the hold and goes on. -/
def execHoldResume (o : Fin 8) (s : State) : Host.Outcome State Fault Refusal :=
  if !(outUp o s) || !(held o s) || (getFo o s).hold == 2 || (getFo o s).hold == 3 then .next s
  else
    let s := takeFold o s
    let s := kDone o 0x2E stOK (holdOver o (kTake o 0x2E (passQ 88 [mkMsg 0x2E o 0] s)))
    let s := wr (R.OUT_STATE_REASON o) 16 s
    let s := outEvent o (ostate o s) (ostate o s) 16 (rd R.FLT_IDX_N s) false false s
    .next (react o true false 0 (takeLink o (hotEnds o s)))

/-- CREDIT_STOP (R234, R258, R268): TE0 tells the outlet engine that the session's credit is spent. -/
def execCreditStop (o : Fin 8) (s : State) : Host.Outcome State Fault Refusal :=
  let q := 64 + o.val
  let ms := [mkMsg 0x38 0 0]
  if !(getQ (qn q) s).en then .next (pushDisabled q o (mkMsg 0x38 0 0) s)
  else if outActive o s && canTake q ms s then .next (rampDown o 2 false (arrive q ms s))
  else if atHead q ms s then .next s
  else .next (pushWait q ms s)

/-- PILOT_PERIOD_START (R244, R253, R262, R265): a new period of the pilot: a new mode or duty takes effect. -/
def execPilotPeriodStart (o : Fin 8) (s : State) : Host.Outcome State Fault Refusal :=
  if !(pdOn 5 s) then .next s
  else
    let x := getOs o s
    let st := ostate o s
    let off := if x.tMode = 0 ∧ 3 ≤ st ∧ st ≤ 5 ∧ !(isDC o s) then offered o s else 0
    let s := wrs [(R.OUT_DUTY_MODE o, x.tMode), (R.OUT_DUTY_D o, if x.tMode = 0 then x.tDuty else 0), (R.OUT_DUTY_OFFER o, off)] s
    let s := match (if outActive o s then x.limit else none) with
      | some w => outDone 0x03 w (rd (R.OUT_DUTY_D o) s * 256) stOK (modOs o (fun x => { x with limit := none }) s)
      | none => s
    .next (react o false true 0 s)

end Sys2Proof.Machine
end

