-- ==== Sys2Proof/Machine/Modem.lean ====
section
/-!
DEFINITION. The powerline modems on the pilot lines (R270 to R295).
-/
namespace Sys2Proof.Machine

def getPlm (o : Nat) (s : State) : Plm := vget s.plm.m (o8 o)
def modPlm (o : Nat) (f : Plm → Plm) (s : State) : State :=
  { s with plm := { s.plm with m := vset s.plm.m (o8 o) (f (getPlm o s)) } }
def setFrames (l : List TxFrame) (s : State) : State := { s with plm := { s.plm with frames := l } }
def mstate (o : Nat) (s : State) : Nat := rd (R.PLM_STAT_MSTATE o) s
def txOff (o : Nat) (s : State) : Bool := flag (R.PLM_STAT_TXOFF o) s

/-- R292: MODEM_EVENT to TE0 and by it to the host, and LINK_EVENT to the outlet engine. -/
def modemEvent (o ev data : Nat) (s : State) : State :=
  let w0 := o + ev * 2 ^ 4 + mstate o s * 2 ^ 8
  let m := mkMsg 0x4B w0 data
  let l := mkMsg 0x4A w0 data
  toEngine o l [] (relay 107 o (fun m => 8 + fld m.w0 2 0) m [] s)

/-- R274, R276: a new state, with GSTAT. -/
def setMstate (o st : Nat) (s : State) : State :=
  let s := wr (R.PLM_STAT_MSTATE o) st s
  wrs [(R.PLM_GSTAT_ACTIVE, maskOf' fun k => mstate k s != 0), (R.PLM_GSTAT_COUNT, outlets.countP fun k => mstate k s != 0)] s
where
  maskOf' (f : Nat → Bool) : Nat := outlets.foldl (fun m o => if f o then m + 2 ^ o else m) 0

/-- R275: a change of state, reported. -/
def toMstate (o st ev : Nat) (s : State) : State :=
  if mstate o s = st then s else modemEvent o ev 0 (setMstate o st s)

/-- A new random key: an NMK (R275) or a NEK (R270). -/
def newKey (s : State) : List Byte × State := (freeBytes s 16, { s with freeCtr := s.freeCtr + 16 })

/-- R270, R275: a new private NMK, with a NEK of its own. -/
def privateNmk (o : Nat) (s : State) : State :=
  let r := newKey s
  let k := newKey r.2
  modPlm o (fun x => { x with nmk := r.1, staged := [], nek := k.1, join := none }) k.2

/-- R272, R290: the driver output has a high impedance: in OFF, TEST and FAULT, and while the transmitter is held off. -/
def driverHighZ (o : Nat) (s : State) : Bool := [0, 4, 5].contains (mstate o s) || txOff o s

/-- R282: a completion on Q(96 + o). -/
def mmeDone (o t w0 result st : Nat) (s : State) : State :=
  let s := complete (96 + o) t w0 (result * 2 ^ 16) st s
  whenS (outUp o s) (drainQ (96 + o) []) s

/-- R282: the request of outlet `o` that was taken last completes at once. -/
def mmeNow (o t w0 result st : Nat) (s : State) : State :=
  let s := completeAs true (96 + o) t w0 (result * 2 ^ 16) st [] s
  whenS (outUp o s) (drainQ (96 + o) []) s

/-- R279: completions on Q105 in the order in which the data frames were taken: those finished that stand behind no
unfinished data frame leave the line.  `kept` are the MMEs passed. -/
def flushFrames : List TxFrame → List TxFrame → State → State
  | kept, [], s => setFrames kept s
  | kept, f :: fs, s =>
    if f.mme then flushFrames (kept ++ [f]) fs s
    else match f.done with
      | some (st, r) => flushFrames kept fs (complete 105 0x0C f.w0 (r * 2 ^ 16) st s)
      | none => setFrames (kept ++ f :: fs) s

/-- A frame of modem `o` that is not finished. -/
def unsent (o : Nat) (f : TxFrame) : Bool := f.modem == o && f.done.isNone

/-- The frame a modem is sending: its oldest unfinished one (log entry 111). -/
def sending (o : Nat) (s : State) : Option TxFrame := s.plm.frames.find? (unsent o)

/-- The frame a modem is sending becomes `g`. -/
def setSending (o : Nat) (g : TxFrame) : List TxFrame → List TxFrame
  | [] => []
  | f :: fs => if unsent o f then g :: fs else f :: setSending o g fs

/-- MMEs that are finished complete on Q(96 + o) and leave the line. -/
def flushMmes : List TxFrame → State → State × List TxFrame
  | [], s => (s, [])
  | f :: fs, s =>
    match f.done, f.mme with
    | some (st, r), true => flushMmes fs (mmeDone f.modem 0x10 f.w0 r st s)
    | _, _ => let x := flushMmes fs s
              (x.1, f :: x.2)

def flushLine (fs : List TxFrame) (s : State) : State :=
  let r := flushMmes fs s
  flushFrames [] r.2 r.1

/-- Every unfinished frame of a modem ends with a status and a result. -/
def endFrames (o st r : Nat) (s : State) : State :=
  flushLine (s.plm.frames.map fun f => if unsent o f then { f with done := some (st, r) } else f) s

/-- R291, R294: the frame a modem is sending ends with its MPDU, unless it is finished there; its others end now. -/
def endAfterMpdu (o st r : Nat) (s : State) : State :=
  flushLine (cutFirst s.plm.frames) s
where
  cutFirst : List TxFrame → List TxFrame
    | [] => []
    | f :: fs =>
      if unsent o f then
        { f with cut := f.cut.orElse fun _ => some (st, r) } ::
          fs.map fun g => if unsent o g then { g with done := some (st, r) } else g
      else f :: cutFirst fs

/-- The unfinished frames of a modem (R279). -/
def held4 (o : Nat) (s : State) : Nat := s.plm.frames.countP (unsent o)

/-- The modem is being disabled (R291): it takes nothing more. -/
def goingOff (o : Nat) (s : State) : Bool := (getPlm o s).off.isSome

/-- R279: the modem has room for a frame. -/
def frameRoom (o : Nat) (s : State) : Bool := decide (held4 o s < 4) && !(goingOff o s)

/-- A join or an attenuation that waits ends with a status and a result. -/
def endWaits (o st r : Nat) (s : State) : State :=
  let x := getPlm o s
  let s := modPlm o (fun x => { x with join := none, atten := none }) s
  let s := match x.join with
    | some w0 => mmeDone o 0x12 w0 r st s
    | none => s
  match x.atten with
  | some a => mmeDone o 0x11 a.w0 r st s
  | none => s

/-- The modem takes a frame: held off it completes BUDGET (R294), in a state that does not send it NOLINK (R278).  Outside
LINKED it goes out as a broadcast (R274). -/
def takeFrame (o : Nat) (mme : Bool) (w0 : Nat) (b : List Byte) (can : Bool) (s : State) : State :=
  let done := if txOff o s then some (stBUDGET, 0) else if can then none else some (stOK, 3)
  flushLine (s.plm.frames ++ [{ modem := o, mme := mme, w0 := w0, bytes := b, done := done, bcast := mstate o s != 3 }]) s

/-- R277: the words of a frame's head fit its continuations. -/
def frameFits (w1 : W24) (conts : List Cont) : Bool :=
  let l := fld w1 10 0
  fld w1 23 11 == 0 && within 60 1522 l && conts.length == (l + 5) / 6 && ((contsToBytes conts).drop l).all (· == 0)

/-- PLM_DATA_TX is taken (R277, R278). -/
def dataTx (w0 w1 : W24) (conts : List Cont) (s : State) : State :=
  let m := fld w0 2 0
  if fld w0 23 5 ≠ 0 ∨ !(frameFits w1 conts) then completeAs true 105 0x0C w0.toNat 0 stDENIED [] s
  else takeFrame m false w0.toNat ((contsToBytes conts).take (fld w1 10 0)) (mstate m s == 3) s

/-- R284: the staged NID and NMK written into a frame at offset `k`. -/
def insertKeys (k : Nat) (x : Plm) (b : List Byte) : List Byte :=
  b.take (k - 8) ++ leBytes 7 (Config.nid x.staged).toNat ++ [0] ++ x.staged ++ b.drop (k + 16)

/-- MME_TX is taken (R282, R284). -/
def mmeTx (o : Nat) (w0 w1 : W24) (conts : List Cont) (s : State) : State :=
  let keyins := fld w0 3 3 == 1
  let k := fld w0 14 4
  let l := fld w1 10 0
  let st := mstate o s
  if fld w0 2 0 ≠ o ∨ fld w0 23 15 ≠ 0 ∨ !(frameFits w1 conts) ∨ (keyins ∧ (st ≠ 2 ∨ k < 8 ∨ l < k + 16)) then
    mmeNow o 0x10 w0.toNat 0 stDENIED s
  else
    let b := (contsToBytes conts).take l
    let b := if keyins then insertKeys k (getPlm o s) b else b
    takeFrame o true w0.toNat b (decide (1 ≤ st ∧ st ≤ 3)) s

/-- ATTEN_START is taken (R281, R282). -/
def attenStart (o : Nat) (w0 w1 : W24) (conts : List Cont) (s : State) : State :=
  let st := mstate o s
  let bad := fld w0 2 0 != o || fld w0 23 3 != 0 || fld w1 4 0 == 0 || fld w1 7 5 != 0 || fld w1 15 8 == 0 ||
    fld w1 23 16 != 0 || conts.length != 1 || !(st == 1 || st == 2)
  let r := refusal (st == 5) bad false false false (getPlm o s).atten.isSome
  if r ≠ stOK then mmeNow o 0x11 w0.toNat 0 r s
  else modPlm o (fun x => { x with atten := some ⟨w0.toNat, leNat (contsToBytes conts), fld w1 4 0, 0,
    List.replicate 58 (0, 0)⟩ }) s

/-- R275, R294: back to UNASSOC with a new private NMK; the MPDU on the line finishes, and what is left to send and a join
end. -/
def unassoc (o ev : Nat) (s : State) : State :=
  let x := getPlm o s
  let s := privateNmk o (endAfterMpdu o stOK 3 s)
  let s := match x.join with
    | some w0 => mmeDone o 0x12 w0 1 stOK s
    | none => s
  toMstate o 1 ev s

/-- LINK_SET is taken (R275, R282). -/
def linkSet (o : Nat) (w0 w1 : W24) (s : State) : State :=
  let mode := w1.toNat
  let st := mstate o s
  let ok := (mode == 0 && decide (1 ≤ st ∧ st ≤ 3)) || (mode == 1 && st == 1) || (mode == 2 && st == 2)
  if fld w0 2 0 ≠ o ∨ fld w0 23 3 ≠ 0 ∨ !ok then mmeNow o 0x12 w0.toNat 0 (if st = 5 then stFAULT else stDENIED) s
  else if mode = 0 then mmeNow o 0x12 w0.toNat 0 stOK (unassoc o 0 s)
  else if mode = 1 then
    let r := newKey s
    mmeNow o 0x12 w0.toNat 0 stOK (toMstate o 2 0 (modPlm o (fun x => { x with staged := r.1 }) r.2))
  else if (getPlm o s).join.isSome then mmeNow o 0x12 w0.toNat 0 stBUDGET s
  else modPlm o (fun x => { x with join := some w0.toNat }) s

/-- A request of the outlet engine on Q106 (R282). -/
def plmKReq (o : Nat) (t : Nat) (w0 w1 : W24) (cs : List Cont) (room : Bool) (k : State → State) (s : State) : State :=
  takeReq 106 o t w0.toNat (reqMsgs t w0 w1 cs) (room && !(goingOff o s)) k s

/-- The head of a request queue and its continuations. -/
def headReq (q : Nat) (s : State) : Option (Msg × List Cont × Bool) :=
  match (getQ (qn q) s).ent.map Prod.snd with
  | m :: ms =>
    let cs := (ms.takeWhile isCont).map fun c => (c.w0, c.w1)
    some (m, cs, decide (cs.length < ms.length) || decide ((fld m.w1 10 0 + 5) / 6 ≤ cs.length))
  | [] => none

/-- R279: the modem block takes what waits at the head of Q104 and all of whose frame is there, while the modem has room. -/
def serve104 : Nat → State → State
  | 0, s => s
  | n + 1, s =>
    match headReq 104 s with
    | some (m, cs, whole) =>
      let o := fld m.w0 2 0
      if m.typ == 0x0C && whole && frameRoom o s then
        serve104 n (takeReq 104 o 0x0C m.w0.toNat (reqMsgs 0x0C m.w0 m.w1 cs) true (dataTx m.w0 m.w1 cs) s)
      else s
    | none => s

/-- The same with the requests of the outlet engines on Q106. -/
def serve106 : Nat → State → State
  | 0, s => s
  | n + 1, s =>
    match headReq 106 s with
    | some (m, cs, whole) =>
      let o := fld m.w0 2 0
      let t := m.typ.toNat
      let take (room : Bool) (k : State → State) : State :=
        if room && !(goingOff o s) then serve106 n (plmKReq o t m.w0 m.w1 cs room k s) else s
      if t = 0x10 then take (whole && frameRoom o s) (mmeTx o m.w0 m.w1 cs)
      else if t = 0x11 then take true (attenStart o m.w0 m.w1 cs)
      else if t = 0x12 then take true (linkSet o m.w0 m.w1)
      else s
    | none => s

/-- Room is free again: the requests that waited for it are taken. -/
def modemServe (s : State) : State :=
  let s := serve104 (getQ 104 s).ent.length s
  serve106 (getQ 106 s).ent.length s

/-- The messages of a queue that `p` does not choose by their head, and the chosen heads with their numbers. -/
def splitQ (p : Msg → Bool) : Bool → List (Byte × Msg) → List (Byte × Msg) × List (Byte × Msg)
  | _, [] => ([], [])
  | drop, e :: es =>
    if isCont e.2 then
      let r := splitQ p drop es
      if drop then r else (e :: r.1, r.2)
    else if p e.2 then
      let r := splitQ p true es
      (r.1, e :: r.2)
    else
      let r := splitQ p false es
      (e :: r.1, r.2)

/-- R110: the requests of a function's part in a queue complete WITHDRAWN, in order. -/
def withdrawSome (q o : Nat) (p : Msg → Bool) (s : State) : State :=
  let r := splitQ p false (getQ (qn q) s).ent
  let s := modQ (qn q) (fun x => { x with ent := r.1 }) s
  forEach r.2 (fun e s => withdraw q o e.2.typ.toNat e.2.w0.toNat (some e.1) s) s

/-- R110: a wait or a test that the modem is carrying out ends WITHDRAWN, and a PLM_ENABLE that waits completes. -/
def modemEnds (o : Nat) (s : State) : State :=
  let x := getPlm o s
  let s := endWaits o stWITHDRAWN 0 s
  match x.test with
  | some (n, w0) => outDone 0x09 ⟨n, w0⟩ 0 stWITHDRAWN s
  | none => s

/-- R110 step 4: the streams of a modem end: Q(96 + o). -/
def modemStream (o : Nat) (s : State) : State :=
  if outUp o s then drainQ (96 + o) [streamEnd] s else putQ (96 + o) streamEnd s

/-- R275, R110: a modem is OFF; its outlet engine is told (R39, R268), and a PLM_ENABLE that waits for it completes. -/
def modemGone (o : Nat) (s : State) : State :=
  if mstate o s = 0 then s
  else
    let x := getPlm o s
    let s := modemLost o (modemStream o (toMstate o 0 0 (modPlm o (fun _ => Plm.reset) s)))
    match x.off with
    | some (n, w0) => outDone 0x08 ⟨n, w0⟩ 0 stOK s
    | none => s

/-- R291: a modem that is being disabled and has nothing on the line any more goes off: what of it waits completes
WITHDRAWN. -/
def lineFree (o : Nat) (s : State) : State :=
  if goingOff o s && held4 o s == 0 then
    let mine (m : Msg) := fld m.w0 2 0 == o
    modemGone o (withdrawSome 106 o mine (withdrawSome 104 o mine (modemEnds o s)))
  else s

/-- R291, R294, R110: a modem is disabled; the safe boundary is the end of the MPDU on the line. -/
def modemOff (o n w0 : Nat) (s : State) : State :=
  lineFree o (modPlm o (fun x => { x with off := some (n, w0) }) (endAfterMpdu o stWITHDRAWN 0 s))

/-- R294: a modem's transmitter is held off: the frame on the line is cut, and it and the others it has taken complete
BUDGET. -/
def cutLine (o : Nat) (s : State) : State :=
  lineFree o (endFrames o stBUDGET 0 (wr (R.PLM_STAT_TXOFF o) 1 s))

/-- R22, R110: every modem goes off with PD6: what they are carrying out ends in the order it was taken, then what waits in
Q104 and Q106, in the order of the queues; then their streams end. -/
def modemsOff (s : State) : State :=
  let s := flushLine (s.plm.frames.map fun f => if f.done = none then { f with done := some (stWITHDRAWN, 0) } else f) s
  let s := disableQ 106 0 false (disableQ 104 0 false (forEach outlets modemEnds s))
  endStream 107 (fun m => 8 + fld m.w0 2 0) (putQ 105 streamEnd (forEach outlets modemGone s))

/-- PLM_DATA_TX (R277 to R279, R294): the host sends a data frame; the modem block takes it in queue order, once the
modem's buffer of four has room. -/
def execPlmDataTx (w0 w1 : W24) (conts : List Cont) (s : State) : Host.Outcome State Fault Refusal :=
  let m := fld w0 2 0
  .next (takeReq 104 m 0x0C w0.toNat (reqMsgs 0x0C w0 w1 conts) (frameRoom m s) (dataTx w0 w1 conts) s)

/-- R278, R289: what the MPDUs of a frame that have ended make of it: the frame with its counts, and its result once it is
finished.  An attempt without a SACK counts against TXCFG.RETRY alone, and each PB that a SACK names against BLANK.BLIM
alone; the first limit reached decides (log entry 110).  All PBs are acknowledged when the last SACK names none and every
PB has been sent. -/
def runMpdus (retry blim : Nat) (sent : Bool) : List (Option Nat) → TxFrame → TxFrame × Option Nat
  | [], f => (f, none)
  | none :: r, f =>
    let f := { f with silent := f.silent + 1 }
    if retry ≤ f.silent then (f, some 1) else runMpdus retry blim sent r f
  | some k :: r, f =>
    let f := { f with named := min blim (f.named + k) }
    if 0 < k ∧ blim ≤ f.named then (f, some 2)
    else if k = 0 ∧ sent ∧ r.isEmpty then (f, some 0)
    else runMpdus retry blim sent r f

/-- R275, R288: a LINKED modem hears its peer. -/
def heardPeer (o : Nat) (s : State) : State :=
  if mstate o s = 3 then modPlm o (fun x => { x with heard := s.now }) s else s

/-- PLM_TX_DONE (R278, R279, R289, R291, R294): MPDUs of the frame a modem is sending have ended, and with them the frame or
not; of one that ends with its MPDU only the first counts. -/
def execPlmTxDone (m : Fin 8) (mpdus : List (Option Nat)) (sent : Bool) (s : State) : Host.Outcome State Fault Refusal :=
  match sending m s with
  | none => .next s
  | some f =>
    let ms := if f.cut.isSome then mpdus.take 1 else mpdus
    let (g, res) := runMpdus (rd (R.PLM_TXCFG_RETRY m).eff s) (rd (R.PLM_BLANK_BLIM m).eff s) sent ms f
    let s := addSat (R.PLM_ERRCNT_BRTX m) (g.named - f.named) s
    let s := whenS (ms.any Option.isSome) (heardPeer m) s
    let s := whenS res.isSome (incSat (R.PLM_FRMCNT_TX m)) s
    let s := whenS (res == some 1) (incSat (R.PLM_ERRCNT_NOACK m)) s
    let done := match res with
      | some r => some (stOK, r)
      | none => if ms.isEmpty then none else f.cut
    .next (modemServe (lineFree m (flushLine (setSending m { g with done := done } s.plm.frames) s)))

/-- R287: a received sample, replaced by 0 where blanking is on and its magnitude exceeds the threshold. -/
def blanked (o : Nat) (s : State) (x : Nat) : Nat :=
  if flag (R.PLM_BLANK_EN o).eff s && decide (rd (R.PLM_BLANK_THR o).eff s < x) then 0 else x

/-- R287: the samples of a window that blanking has zeroed. -/
def zeroedIn (o : Nat) (s : State) (l : List Nat) : Nat := l.countP fun x => blanked o s x != x

/-- R288: the symbols of which more than a quarter of the window was zeroed. -/
def markedSyms (o : Nat) (syms : List (List Nat)) (s : State) : Nat := syms.countP fun l => decide (768 < zeroedIn o s l)

/-- R288: BLKCNT of a received frame. -/
def countBlank (o n : Nat) (s : State) : State :=
  if n = 0 then s else incSat (R.PLM_BLKCNT_FRM o) (addSat (R.PLM_BLKCNT_SYM o) n s)

/-- The numbers of the PBs that failed their check. -/
def failedPbs (pbs : List Bool) : List Nat := (pbs.zipIdx.filter fun e => !e.1).map Prod.snd

/-- R275, R287, R288: a modem receives (a part of) a frame: its blanked symbols, what its SACK names, and the peer heard,
with a marked frame whatever its PBs.  `k`: symbols above 25 %. -/
def heardFrame (o k : Nat) (pbs : List Bool) (s : State) : State :=
  let s := whenS (decide (0 < k) || pbs.any id) (heardPeer o) (countBlank o k s)
  modPlm o (fun x => { x with sack := failedPbs pbs }) s

/-- PLM_DATA_RX (R277, R280, R287, R288): PBs that pass are kept and those that fail named in the SACK, until the frame is
whole; it is entered on Q105 only when there is room for all of it.  It is marked when any symbol of it was. -/
def execPlmDataRx (m : Fin 8) (bytes : List Byte) (line : LineRx) (s : State) : Host.Outcome State Fault Refusal :=
  if mstate m s ≠ 3 then .next s
  else
    let k := markedSyms m line.syms s
    let mark := decide (0 < k) || (getPlm m s).rxData
    let s := modPlm m (fun x => { x with rxData := mark }) (heardFrame m k line.pbs s)
    let cs := bytesToConts ((bytes.length + 5) / 6) bytes
    let q := getQ 105 s
    if !(line.pbs.all id) then .next s
    else if q.en && decide (q.cap < q.used + q.late.length + 1 + cs.length) then
      .next (incSat (R.PLM_ERRCNT_RXFULL m) (modPlm m (fun x => { x with sack := List.range line.pbs.length }) s))
    else
      .next (pushAll 105 m (mkMsg 0x4C (m + b2n mark * 8) bytes.length) cs
        (incSat (R.PLM_FRMCNT_RX m) (modPlm m (fun x => { x with rxData := false }) s)))

/-- MME_TX (R282, R284): an outlet engine sends a management frame, optionally with key insertion. -/
def execMmeTx (o : Fin 8) (w0 w1 : W24) (conts : List Cont) (s : State) : Host.Outcome State Fault Refusal :=
  .next (plmKReq o 0x10 w0 w1 conts (frameRoom o s) (mmeTx o w0 w1 conts) s)

/-- MME_RX (R270, R282, R287, R288): a management frame received whole goes to the outlet engine. -/
def execMmeRx (o : Fin 8) (bytes : List Byte) (line : LineRx) (s : State) : Host.Outcome State Fault Refusal :=
  let st := mstate o s
  if !(decide (1 ≤ st ∧ st ≤ 3)) then .next s
  else
    let k := markedSyms o line.syms s
    let mark := decide (0 < k) || (getPlm o s).rxMme
    let s := modPlm o (fun x => { x with rxMme := mark }) (heardFrame o k line.pbs s)
    if !(line.pbs.all id) then .next s
    else
      let s := incSat (R.PLM_FRMCNT_RX o) (modPlm o (fun x => { x with rxMme := false }) s)
      .next (toEngine o (mkMsg 0x48 (o + b2n mark * 8) bytes.length) (bytesToConts ((bytes.length + 5) / 6) bytes) s)

/-- ATTEN_START (R281, R282): starts the measurement of sounds from a vehicle. -/
def execAttenStart (o : Fin 8) (w0 w1 : W24) (conts : List Cont) (s : State) : Host.Outcome State Fault Refusal :=
  .next (plmKReq o 0x11 w0 w1 conts true (attenStart o w0 w1 conts) s)

/-- SOUND_RECEIVED (R274, R283): a modem in UNASSOC or MATCHING measures a sound; those of other addresses are
ignored. -/
def execSoundReceived (o : Fin 8) (addr : BitVec 48) (groups : List (Option Nat)) (s : State) :
    Host.Outcome State Fault Refusal :=
  match (getPlm o s).atten with
  | some a =>
    if a.addr ≠ addr.toNat ∨ !(mstate o s == 1 || mstate o s == 2) then .next s
    else
      let g := (a.groups.zipIdx).map fun e => match (groups.getD e.2 none) with
        | some v => (e.1.1 + v, e.1.2 + 1)
        | none => e.1
      .next (modPlm o (fun x => { x with atten := some { a with count := min (a.count + 1) 31, groups := g } }) s)
  | none => .next s

/-- R283: the mean of a group, rounded half-up; 0xFF where no sound was received. -/
def groupMean (g : Nat × Nat) : Byte := if g.2 = 0 then 0xFF else BitVec.ofNat 8 ((2 * g.1 + g.2) / (2 * g.2))

/-- ATTEN_WINDOW_END (R282, R283): the profile is entered, then the completion. -/
def execAttenWindowEnd (o : Fin 8) (s : State) : Host.Outcome State Fault Refusal :=
  match (getPlm o s).atten with
  | some a =>
    let m := mkMsg 0x49 a.count 58
    let cs := bytesToConts 10 (a.groups.map groupMean)
    let s := modPlm o (fun x => { x with atten := none }) s
    .next (mmeDone o 0x11 a.w0 0 stOK (toEngine o m cs s))
  | none => .next s

/-- LINK_SET (R275, R282): clears the key, stages a new key, or joins the peer. -/
def execLinkSet (o : Fin 8) (w0 w1 : W24) (s : State) : Host.Outcome State Fault Refusal :=
  .next (modemServe (plmKReq o 0x12 w0 w1 [] true (linkSet o w0 w1) s))

/-- PEER_ASSOCIATED (R275, R285, R255): the peer associates and the modem becomes LINKED. -/
def execPeerAssociated (o : Fin 8) (mac : BitVec 48) (s : State) : Host.Outcome State Fault Refusal :=
  match (getPlm o s).join with
  | some w0 =>
    if mstate o s ≠ 2 then .next s
    else
      let ref := s.plm.refs.getD (rd (R.PLM_BCN_REF o).eff s) PlmRef.reset
      let k := newKey s
      let s := modPlm o (fun x => { x with nmk := x.staged, staged := [], nek := k.1, join := none, anchor := ref.n + 1,
                                           next := 0, last := none, period := none, heard := s.now }) k.2
      let s := wrs [(R.PLM_PEERLO_MAC o, mac.toNat), (R.PLM_PEERHI_MAC o, mac.toNat / 2 ^ 32)] (incSat (R.PLM_LINKCNT_MATCH o) s)
      let s := mmeDone o 0x12 w0 0 stOK (toMstate o 3 0 s)
      let s := if ostate o s = 2 ∧ (getOs o s).slac = 0 then modOs o (fun x => { x with slac := 1 }) s else s
      .next (if outActive o s then react o false false 0 (authorised o s) else s)
  | none => .next s

/-- JOIN_TIMEOUT (R275, R282): no peer has associated within 12 s: the staged NMK is destroyed, and the modem goes on under
its private one. -/
def execJoinTimeout (o : Fin 8) (s : State) : Host.Outcome State Fault Refusal :=
  match (getPlm o s).join with
  | some w0 =>
    if mstate o s ≠ 2 then .next s
    else .next (toMstate o 1 0 (mmeDone o 0x12 w0 1 stOK (modPlm o (fun x => { x with join := none, staged := [] }) s)))
  | none => .next s

/-- LINK_LOSS (R275, R288, R294): nothing has been heard from the peer for 2 s. -/
def execLinkLoss (o : Fin 8) (s : State) : Host.Outcome State Fault Refusal :=
  if mstate o s = 3 ∧ (getPlm o s).heard + 2000000 ≤ s.now then
    .next (modemServe (unassoc o 1 (incSat (R.PLM_LINKCNT_LOSS o) s)))
  else .next s

/-- MODEM_FAULT (R275): a self-check of the modem's memories or converters has failed. -/
def execModemFault (o : Fin 8) (s : State) : Host.Outcome State Fault Refusal :=
  let st := mstate o s
  if st = 0 ∨ st = 5 then .next s
  else
    let x := getPlm o s
    let s := endWaits o stFAULT 0 (endFrames o stFAULT 0 s)
    let s := modPlm o (fun x => { x with staged := [], test := none }) s
    let s := match x.test with
      | some (n, w0) => outDone 0x09 ⟨n, w0⟩ 0 stFAULT s
      | none => s
    .next (modemServe (lineFree o (toMstate o 5 5 s)))

/-- A value limited to ± `d`. -/
def clampI (d x : Int) : Int := max (-d) (min d x)

/-- The nearest integer to a / b. -/
def nearestI (a b : Int) : Int := (2 * a + b) / (2 * b)

/-- R286: the beacon period of BCN.NOM, in 2^−16 ns. -/
def nominalPeriod (o : Nat) (s : State) : Int := (if rd (R.PLM_BCN_NOM o).eff s = 1 then 33333000 else 40000000) * 2 ^ 16

/-- R285, R286: a beacon at instant `at_` with period `per`. -/
def showBeacon (o : Nat) (at_ per : Int) (s : State) : State :=
  wr (R.PLM_STAT_BPER o) (per / (1000 * 2 ^ 16)).toNat
    (modPlm o (fun x => { x with last := some at_, period := some per, next := x.next + 1 }) s)

/-- R285: a modem with BCN.CCO = 0 sends none: it has received a beacon of its peer, and tracks its period. -/
def trackBeacon (o : Nat) (s : State) : State :=
  let now : Int := ((s.clock / 2 ^ 24 : Nat) : Int)
  let per := match (getPlm o s).last with
    | some l => now - l
    | none => nominalPeriod o s
  showBeacon o now per (heardPeer o s)

/-- BEACON (R285, R286): a LINKED CCo modem sends a beacon, projected from the latest crossing reported, with the mean
period found last, or at the held period while the reference reports none; one that is not CCo receives its peer's (log
entry 112). -/
def execBeacon (o : Fin 8) (s : State) : Host.Outcome State Fault Refusal :=
  if mstate o s ≠ 3 then .next s
  else if !(flag (R.PLM_BCN_CCO o).eff s) then .next (trackBeacon o s)
  else if driverHighZ o s then .next s
  else
    let x := getPlm o s
    let ref := rd (R.PLM_BCN_REF o).eff s
    let p := s.plm.refs.getD ref PlmRef.reset
    let ofs : Int := rd (R.PLM_BCN_OFS o).eff s * 1000 * 2 ^ 16
    let lim : Int := 50000 * 2 ^ 16
    let held := x.period.getD (nominalPeriod o s)
    let hb := (x.last.getD ((s.clock / 2 ^ 24 : Nat) : Int)) + held
    match (if (crossings ref s).isEmpty then none else p.tz), p.t with
    | some a, some t =>
      let n : Int := p.n
      if t ≤ 0 ∨ n < x.anchor then .next s
      else if !(flag (R.PLM_STAT_NOSYNC o) s) then
        let c := n - x.anchor
        let j := max (x.next : Int) ((c + 1) / 2)
        let per := match x.period with
          | some p => p + clampI lim (2 * t - p)
          | none => 2 * t
        .next (showBeacon o (a + (2 * j - c) * t + ofs) per (modPlm o (fun x => { x with next := j.toNat }) s))
      else
        let k := nearestI (hb - ofs - a) t
        let proj := a + k * t + ofs
        let at_ := hb + clampI lim (proj - hb)
        let s := modPlm o (fun x => { x with anchor := n + k - 2 * x.next }) s
        let s := showBeacon o at_ (held + clampI lim (2 * t - held)) s
        if (at_ - proj).natAbs ≤ 20000 * 2 ^ 16 then .next (modemEvent o 3 0 (wr (R.PLM_STAT_NOSYNC o) 0 s)) else .next s
    | _, _ => if x.last.isSome || flag (R.PLM_STAT_NOSYNC o) s then .next (showBeacon o hb held s) else .next s

/-- REFERENCE_LOST (R286): the reference has reported no crossing for 200 ms. -/
def execReferenceLost (o : Fin 8) (s : State) : Host.Outcome State Fault Refusal :=
  if mstate o s = 0 ∨ flag (R.PLM_STAT_NOSYNC o) s ∨ !(crossings (rd (R.PLM_BCN_REF o).eff s) s).isEmpty then .next s
  else .next (modemEvent o 2 0 (wr (R.PLM_STAT_NOSYNC o) 1 s))

/-- A modem request of the host (R293), forwarded on Q(64 + o). -/
def plmReq (n : Fin 8) (t : Nat) (w0 w1 : W24) (status : Nat → State → Nat) (act : Nat → State → State) (s : State) :
    State :=
  outletReq n t w0 w1 (fun o s => if fld w0 23 4 ≠ 0 ∧ status o s ≠ stFAULT then stDENIED else status o s) act s

/-- The configuration of a modem (R295). -/
def plmFields (o : Nat) : List Fld :=
  [R.PLM_TXCFG_PSD o, R.PLM_TXCFG_RETRY o, R.PLM_TXCFG_MODE o, R.PLM_BLANK_THR o, R.PLM_BLANK_EN o, R.PLM_BLANK_BLIM o,
    R.PLM_BCN_REF o, R.PLM_BCN_OFS o, R.PLM_BCN_CCO o, R.PLM_BCN_NOM o]

def plmCfgBad (o : Nat) (s : State) : Bool :=
  decide (60 < rd (R.PLM_TXCFG_PSD o) s) || rd (R.PLM_TXCFG_RETRY o) s == 0 || rd (R.PLM_TXCFG_MODE o) s == 3 ||
  rd (R.PLM_BLANK_BLIM o) s == 0 || rd (R.PLM_BCN_REF o) s == 3 || decide (44444 < rd (R.PLM_BCN_OFS o) s)

/-- PLM_APPLY (R293, R295): puts the PLM configuration in effect. -/
def execPlmApply (n : Fin 8) (w0 w1 : W24) (s : State) : Host.Outcome State Fault Refusal :=
  .next (plmReq n 0x07 w0 w1
    (fun o s => refusal (mstate o s == 5) (w1 != 0 || inSession o s || plmCfgBad o s) (isScrapped s) false false false)
    (fun o s => outDone 0x07 ⟨n, w0.toNat⟩ 0 stOK (forEach (plmFields o) (fun f s => wr f.eff (rd f s) s) s)) s)

/-- PLM_ENABLE (R275, R276, R291, R293): enables a modem or disables it under withdrawal. -/
def execPlmEnable (n : Fin 8) (w0 w1 : W24) (s : State) : Host.Outcome State Fault Refusal :=
  let on := fld w1 0 0 == 1
  .next (plmReq n 0x08 w0 w1
    (fun o s => refusal (mstate o s == 5 && on) (fld w1 23 1 != 0) (isScrapped s) false false
      (goingOff o s || on && (!(pdOn 6 s) || (mstate o s == 0 && decide (limModems (limitMode s) ≤ rd R.PLM_GSTAT_COUNT s)))))
    (fun o s =>
      if !on && mstate o s != 0 then modemServe (modemOff o n w0.toNat s)
      else outDone 0x08 ⟨n, w0.toNat⟩ 0 stOK (if mstate o s = 0 && on then toMstate o 1 0 (privateNmk o s) else s)) s)

/-- PLM_TEST (R39, R290, R293): starts the internal loopback test of a modem. -/
def execPlmTest (n : Fin 8) (w0 w1 : W24) (s : State) : Host.Outcome State Fault Refusal :=
  .next (plmReq n 0x09 w0 w1
    (fun o s => refusal (mstate o s == 5) (w1 != 0 || mstate o s != 1) (isScrapped s) false false
      ((getPlm o s).test.isSome || inSession o s))
    (fun o s => modemServe (toMstate o 4 0
      (modPlm o (fun x => { x with test := some (n.val, w0.toNat) }) (endFrames o stOK 3 s)))) s)

/-- R290: the transmit gain passes within ±1 dB of the PSD that TXCFG sets; in 0.01 dBm/Hz. -/
def gainPasses (o : Nat) (psd : Int) (s : State) : Bool :=
  decide ((psd + 6000 + 50 * (rd (R.PLM_TXCFG_PSD o).eff s : Int)).natAbs ≤ 100)

/-- R290: the lowest SNR of the carrier groups, in dB, in the eight bits it is reported in. -/
def lowestSnr (snr : List Nat) : Nat := snr.foldl min 255

/-- PLM_TEST_END (R290, R292): the loopback test ends and reports. -/
def execPlmTestEnd (o : Fin 8) (snr : List Nat) (psd : Int) (impulse : List Nat) (s : State) :
    Host.Outcome State Fault Refusal :=
  match (getPlm o s).test with
  | some (n, w0) =>
    if mstate o s ≠ 4 then .next s
    else
      let gain := gainPasses o psd s
      let blank := decide (0 < markedSyms o [impulse] s)
      let pass := decide (20 ≤ lowestSnr snr) && gain && blank
      let d := lowestSnr snr + b2n gain * 2 ^ 8 + b2n blank * 2 ^ 9 + b2n pass * 2 ^ 10
      let s := setMstate o 1 (modPlm o (fun x => { x with test := none }) s)
      .next (outDone 0x09 ⟨n, w0⟩ (d * 256) stOK (modemEvent o 4 d (modemEvent o 0 0 s)))
  | none => .next s

end Sys2Proof.Machine
end

