-- ==== Sys2Proof/Machine/Tag.lean ====
section
/-!
DEFINITION. The contactless reader (R375 to R391): polling, the held card, the credit records and their journal, and
the requests.
-/
namespace Sys2Proof.Machine

def modTag (f : TagSt → TagSt) (s : State) : State := { s with tag := f s.tag }

/-- R391: TSTAT.STATE. -/
def tgOFF : Nat := 0
def tgGUARD : Nat := 1
def tgPOLL : Nat := 2
def tgOPEN : Nat := 3
def tgSECURED : Nat := 4
def tgWRITING : Nat := 5
def tgTEST : Nat := 6
def tgFAULT : Nat := 7
def tstate (s : State) : Nat := rd R.TAG_TSTAT_STATE s
def setTs (v : Nat) (s : State) : State := wr R.TAG_TSTAT_STATE v s

/-- R377: the field comes on, and the guard time runs. -/
def fieldOn (s : State) : State :=
  setTs tgGUARD (wr R.TAG_TSTAT_FIELD 1 (modTag (fun t => { t with fieldReset := false }) s))

/-- No card is held; activation runs at 106 kbit/s (R375). -/
def dropCard (s : State) : State := modTag (fun t => { t with card := none, rate := 0 }) s

/-- R375, R380: a card is held under a profile, at the highest rate that it and MAXRATE allow. -/
def holdCard (c : Card) (p : Nat) (s : State) : State :=
  modTag (fun t => { t with card := some (c, p), rate := min c.maxRate (rd R.TAG_TCFG_MAXRATE.eff s) }) s

/-- The field goes off; a held card is lost with it. -/
def fieldOff (s : State) : State := wr R.TAG_TSTAT_FIELD 0 (dropCard s)

/-- R386: the UID in two continuations. -/
def uidConts (uid : List Byte) : List Cont := bytesToConts 2 uid

/-- R388: TAG_EVENT. -/
def tagEvent (kind : Nat) (uid : List Byte) (typeB : Bool) (w1 : Nat) (s : State) : State :=
  toHostViaC 109 (mkMsg 0x54 (kind + uid.length * 16 + b2n typeB * 256) w1) (uidConts uid) s

/-- R391: JPEND. -/
def showJ (s : State) : State := wr R.TAG_TSTAT_JPEND s.tag.journal.length s

/-- R381, R437: the DERIVE key slot of a reader profile; none where the profile is not there, or the region that holds
the profiles has failed its verification. -/
def readerProf (profile : Nat) (s : State) : Option Nat :=
  if s.upd.bad.getD 4 false then none else Config.readerProfile (mramRdN s 0x0408000 (56 * 4096)) profile

/-- R381: the key of a card under a profile; none where the profile or its DERIVE key is not there. -/
def cardK (profile : Nat) (uid : List Byte) (s : State) : Option (List Byte) :=
  match readerProf profile s with
  | none => none
  | some k => if slotFor k 4 5 s then some (Config.cardKey (s.vault.keys.getD k []) uid) else none

/-- The profile exists (R387). -/
def profileOk (profile : Nat) (s : State) : Bool :=
  (readerProf profile s).isSome

/-- R382: the MAC of a block. -/
def blockMac (k uid body : List Byte) : List Byte := (beBytes 16 (Config.cmac k (uid ++ body)).toNat).take 8

def recOk (k uid r : List Byte) : Bool := decide (r.length = 32) && r.drop 24 == blockMac k uid (r.take 24)
def ptrOk (k uid p : List Byte) : Bool :=
  decide (p.length = 16) && p.drop 8 == blockMac k uid (p.take 8) && decide ((p.getD 4 0).toNat ≤ 1)
def recCnt (r : List Byte) : Nat := leNat (r.take 4)

/-- The record of an index. -/
def cardRec (c : Card) (i : Nat) : List Byte := if i = 0 then c.rec0 else c.rec1

/-- R383: the current record: its index, and whether the pointer named it. -/
def currentRec (k : List Byte) (c : Card) : Option (Nat × Bool) :=
  let i := (c.ptr.getD 4 0).toNat
  if ptrOk k c.uid c.ptr && recCnt (cardRec c i) == leNat (c.ptr.take 4) && recOk k c.uid (cardRec c i) then some (i, true)
  else
    let a := recOk k c.uid c.rec0
    let b := recOk k c.uid c.rec1
    if a && b then some (if recCnt c.rec0 < recCnt c.rec1 then 1 else 0, false)
    else if a then some (0, false) else if b then some (1, false) else none

/-- R382: a pointer block. -/
def mkPtr (k uid : List Byte) (cnt idx : Nat) : List Byte :=
  let b := leBytes 4 cnt ++ leBytes 1 idx ++ [0, 0, 0]
  b ++ blockMac k uid b

/-- R382: a record. -/
def mkRec (k uid : List Byte) (cnt kind amount : Nat) : List Byte :=
  let b := leBytes 4 cnt ++ leBytes 1 kind ++ [0, 0, 0] ++ leBytes 8 amount ++ devIdBytes.take 8
  b ++ blockMac k uid b

/-- A card with its record `i` and its pointer written. -/
def cardWrite (k : List Byte) (i : Nat) (r : List Byte) (c : Card) : Card :=
  let c := if i = 0 then { c with rec0 := r } else { c with rec1 := r }
  { c with ptr := mkPtr k c.uid (recCnt r) i }

def seenOf (uid : List Byte) (typeB : Bool) (s : State) : Option Seen :=
  s.tag.seen.find? fun x => x.uid == uid && x.typeB == typeB

def heldIs (uid : List Byte) (typeB : Bool) (s : State) : Bool :=
  match s.tag.card with
  | some (c, _) => c.uid == uid && c.typeB == typeB
  | none => false

def isEntry (uid : List Byte) (typeB : Bool) (j : Journal) : Bool := j.uid == uid && j.typeB == typeB

/-- R385: free the entry of a card, with its event; a CONFLICT also goes to the general log. -/
def freeEntry (uid : List Byte) (typeB conflict : Bool) (cnt : Nat) (s : State) : State :=
  let s := showJ (modTag (fun t => { t with journal := t.journal.eraseP (isEntry uid typeB) }) s)
  let s := tagEvent (if conflict then 3 else 2) uid typeB cnt s
  if conflict then logEvent 0 0x28 15 [] s else s

/-- R381: the failed authentications of a card in this presentation. -/
def failsOf (uid : List Byte) (typeB : Bool) (s : State) : Nat := ((seenOf uid typeB s).map Seen.fails).getD 0

/-- R381: an authentication of a card fails. -/
def countFail (uid : List Byte) (typeB : Bool) (s : State) : State :=
  modTag (fun t => { t with seen := t.seen.map fun x =>
    if x.uid == uid && x.typeB == typeB then { x with fails := x.fails + 1 } else x }) (incSat R.TAG_TERR_AUTHFAIL s)

/-- R385: the entry of a card that stands in the field and whose current record is `i`: whether it becomes DONE, the
card's CNT then, and the card as it leaves the resolution. -/
def settleCard (j : Journal) (k : List Byte) (c : Card) : Bool × Nat × Card :=
  match currentRec k c with
  | none => (false, leNat (c.ptr.take 4), c)
  | some (i, named) =>
    let cnt := recCnt (cardRec c i)
    if cnt = j.cnt then (true, (j.cnt + 1) % 2 ^ 32, cardWrite k (1 - i) j.record c)
    else if cnt = (j.cnt + 1) % 2 ^ 32 ∧ cardRec c i = j.record then
      (true, cnt, if named then c else { c with ptr := mkPtr k c.uid cnt i })
    else (false, cnt, c)

/-- R385: TE0 and TE15 resolve the journal entry of a card that stands in the field, after its authentication with the
entry's profile; the card as it stands then. -/
def resolve (c : Card) (s : State) : State × Card :=
  match s.tag.journal.find? (isEntry c.uid c.typeB) with
  | none => (s, c)
  | some j =>
    if !(te0Up s && te15Up s) || decide (2 ≤ failsOf c.uid c.typeB s) then (s, c)
    else match cardK j.profile c.uid s with
      | none => (s, c)
      | some k =>
        if !c.authOk then (countFail c.uid c.typeB s, c)
        else let r := settleCard j k c
          (freeEntry c.uid c.typeB (!r.1) r.2.1 s, r.2.2)

/-- R378: a card the poll found. -/
def cardFound (old : List Seen) (c : Card) (s : State) : State :=
  let was := old.find? fun x => x.uid == c.uid && x.typeB == c.typeB
  let s := modTag (fun t =>
    { t with seen := t.seen ++ [⟨c.uid, c.typeB, c.sakAtqa, false, (was.map Seen.fails).getD 0⟩] }) s
  if was.any fun x => !x.missed then s else tagEvent 0 c.uid c.typeB c.sakAtqa.toNat (incSat R.TAG_TCNT_FOUND s)

/-- R378: a card the poll missed: once it is remembered, twice it is reported as removed. -/
def cardMissed (x : Seen) (s : State) : State :=
  if s.tag.seen.any fun y => y.uid == x.uid && y.typeB == x.typeB then s
  else if x.missed then tagEvent 1 x.uid x.typeB x.sakAtqa.toNat s
  else modTag (fun t => { t with seen := t.seen ++ [{ x with missed := true }] }) s

/-- R391: CARDS. -/
def showCards (s : State) : State :=
  wr R.TAG_TSTAT_CARDS (min 7 (s.tag.seen.filter fun x => !x.missed).length) s

/-- Complete a waiting request. -/
def tagDone (t : Nat) (w : TagWait) (status : Nat) (s : State) : State := complete (w.n + 8) t w.w0 0 status s

/-- R379: the bytes of a UID in the order the cascade levels send them; the cascade tag 88 stands before the bytes of an
unfinished level (ISO/IEC 14443-3; log entry 118). -/
def cascade (uid : List Byte) : List Byte :=
  if uid.length = 7 then 0x88 :: uid
  else if uid.length = 10 then 0x88 :: (uid.take 3 ++ 0x88 :: uid.drop 3)
  else uid

/-- R379: the bits of a UID as they are sent, each byte least significant bit first. -/
def uidBits (uid : List Byte) : List Bool := (cascade uid).flatMap fun b => (List.range 8).map b.toNat.testBit

/-- R379: the first bit in which two cards differ decides, 1 before 0. -/
def comesFirst : List Bool → List Bool → Bool
  | a :: as, b :: bs => if a = b then comesFirst as bs else a
  | _, _ => true

/-- R379: a Type A card among those found, in the order of the depth-first resolution; cards with one and the same UID
answer as one. -/
def placeCard (c : Card) : List Card → List Card
  | [] => [c]
  | d :: ds =>
    if c.uid = d.uid then d :: ds
    else if comesFirst (uidBits c.uid) (uidBits d.uid) then c :: d :: ds else d :: placeCard c ds

/-- R379: the Type A cards in the order in which the anticollision finds them. -/
def resolveA (cs : List Card) : List Card := cs.foldr placeCard []

/-- R378: the Type B cards that WUPB with AFI `a` reaches: 0 all, a family with sub-family 0 all of that family (ISO/IEC
14443-3; log entry 118). -/
def afiReaches (a : Nat) (c : Card) : Bool :=
  a == 0 || c.afi.toNat == a || (a % 16 == 0 && c.afi.toNat / 16 == a / 16)

/-- R378: one round of Type B with `n` slots, each card in the slot it has drawn: the cards alone in theirs, in the order of
the slots, those left, and whether an answer was garbled. -/
def slotRound (n : Nat) (draw : List Nat) (cs : List (Card × Nat)) : List Card × List (Card × Nat) × Bool :=
  let at_ (k : Nat) := cs.filter fun c => draw.getD c.2 0 % n == k
  let alone := (List.range n).filterMap fun k => match at_ k with
    | [c] => some c
    | _ => none
  (alone.map Prod.fst, cs.filter (fun c => !(alone.any fun d => d.2 == c.2)),
    (List.range n).any fun k => decide (2 ≤ (at_ k).length))

/-- R378: the rounds of Type B: after a garbled answer the next one, with more slots. -/
def roundsB : List (Nat × List Nat) → List (Card × Nat) → List Card
  | [], _ => []
  | (n, draw) :: rs, cs =>
    let x := slotRound n draw cs
    x.1 ++ if x.2.2 then roundsB rs x.2.1 else []

/-- R378: the Type B cards found, in order; `slots` are the slots the cards draw in the rounds with N = 2, 4, 8 and 16. -/
def resolveB (slots : List (List Nat)) (cs : List Card) : List Card :=
  roundsB ((1, []) :: [2, 4, 8, 16].zip (slots ++ List.replicate 4 [])) cs.zipIdx

/-- POLL (R378, R379, R385): the cards in the field, each Type B one with the slots it draws, are resolved, halted and
reported.  Two Type A cards collide, and two Type B cards garble their answer (TCNT.COLL, log entry 118). -/
def execPoll (typeA typeB : List Card) (slots : List (List Nat)) (s : State) : Host.Outcome State Fault Refusal :=
  if tstate s ≠ tgPOLL ∨ flag R.TAG_TSTAT_FIELD s = false then .next s
  else
    let m := rd R.TAG_TCFG_MAXCARD.eff s + 1
    let a := if flag R.TAG_TCFG_TYPEA.eff s then resolveA typeA else []
    let b := if flag R.TAG_TCFG_TYPEB.eff s then typeB.filter (afiReaches (rd R.TAG_TCFG_AFI.eff s)) else []
    let cards := a.take m ++ (resolveB slots b).take m
    let s := whenS (decide (1 < a.length ∨ 1 < b.length)) (incSat R.TAG_TCNT_COLL) (incSat R.TAG_TCNT_POLLS s)
    let s := match s.tag.enableWait with
      | some w => tagDone 0x1A w stOK (modTag (fun t => { t with enableWait := none }) s)
      | none => s
    let old := s.tag.seen
    let s := forEach cards (cardFound old) (modTag (fun t => { t with seen := [] }) s)
    let s := showCards (forEach old cardMissed s)
    .next (forEach cards (fun c s => (resolve c s).1) s)

/-- The held card is gone: it is reported as removed and polling resumes (R378, R380). -/
def cardGone (s : State) : State :=
  match s.tag.card with
  | none => s
  | some (c, _) =>
    let s := modTag (fun t => { t with seen := t.seen.filter fun x => !(x.uid == c.uid && x.typeB == c.typeB) }) (dropCard s)
    tagEvent 1 c.uid c.typeB c.sakAtqa.toNat (showCards (setTs tgPOLL s))

/-- PRESENCE_CHECK (R378, R391): the card that answers is there, with a bad CRC too; one that is silent is gone. -/
def execPresenceCheck (reply : CardReply) (s : State) : Host.Outcome State Fault Refusal :=
  if s.tag.card.isNone then .next s
  else match reply with
    | .good => .next s
    | .badCrc => .next (incSat R.TAG_TERR_CRC s)
    | .silent => .next (cardGone (incSat R.TAG_TERR_TIMEOUT s))

/-- GUARD_END (R377). -/
def execGuardEnd (s : State) : Host.Outcome State Fault Refusal :=
  if tstate s = tgGUARD && flag R.TAG_TSTAT_FIELD s then .next (setTs tgPOLL s) else .next s

/-- FIELD_RESET_END (R377): after 5 ms the field comes on again. -/
def execFieldResetEnd (s : State) : Host.Outcome State Fault Refusal :=
  if s.tag.fieldReset && s.tag.on && !(flag R.TAG_TSTAT_TXOFF s) then .next (fieldOn s) else .next s

/-- R386: a request to the reader: TE0 forwards it on Q108; a disabled reader completes it WITHDRAWN (R111).  With PD8
off TE0 itself gives the status of R387. -/
def tagReq (n : Fin 8) (t : Nat) (w0 w1 : W24) (cs : List Cont) (ready : Bool) (k : State → State) (s : State) : State :=
  if pdOn 8 s then viaReq 108 0 n t w0 w1 cs ready k s else hostReq n t w0 w1 cs true k s

/-- R386: what a request that names no card must bear. -/
def plainBad (w0 w1 : W24) (mask : Nat) : Bool := w0 != 0 || decide (w1.toNat % 2 ^ mask ≠ w1.toNat)

def tagFault (s : State) : Bool := tstate s == tgFAULT

/-- TAG_APPLY (R386, R391). -/
def execTagApply (n : Fin 8) (w0 w1 : W24) (s : State) : Host.Outcome State Fault Refusal :=
  .next (tagReq n 0x19 w0 w1 [] true (fun s =>
    let st := refusal (tagFault s) (plainBad w0 w1 0 || decide (25 < rd R.TAG_TCFG_IDRV s)) (isScrapped s) false false
      (!(pdOn 8 s))
    let s := whenS (st == stOK) (wrs ([R.TAG_TCFG_IDRV, R.TAG_TCFG_MAXRATE, R.TAG_TCFG_TYPEA, R.TAG_TCFG_TYPEB,
      R.TAG_TCFG_MAXCARD, R.TAG_TCFG_AFI].map fun f => (f.eff, rd f s))) s
    reply n 0x19 w0.toNat 0 st s) s)

/-- R110, R389: the reader is disabled: the field goes off, what waits completes WITHDRAWN in its order (R98), and its
stream Q109 ends. -/
def tagOff (s : State) : State :=
  let s := match s.tag.enableWait with | some w => tagDone 0x1A w stWITHDRAWN s | none => s
  let s := match s.tag.testWait with | some w => tagDone 0x1B w stWITHDRAWN s | none => s
  let s := modTag (fun t => { t with enableWait := none, testWait := none, on := false, fieldReset := false, seen := [] }) s
  let s := disableQ 111 0 false (disableQ 108 0 false (showCards (setTs tgOFF (fieldOff s))))
  endStream 109 (fun _ => 8) s

/-- R387: the status of TAG_ENABLE. -/
def enableStatus (w0 w1 : W24) (s : State) : Nat :=
  refusal (tagFault s) (plainBad w0 w1 1) (isScrapped s) false false (s.tag.enableWait.isSome || !(pdOn 8 s))

/-- R386: TAG_ENABLE at the reader: enabling completes at the first poll. -/
def tagEnable (n : Fin 8) (w0 w1 : W24) (s : State) : State :=
  let st := enableStatus w0 w1 s
  if st ≠ stOK then reply n 0x1A w0.toNat 0 st s
  else if fld w1 0 0 = 0 then reply n 0x1A w0.toNat 0 stOK (tagOff s)
  else
    let s := modTag (fun t => { t with on := true, enableWait := some ⟨n, w0.toNat⟩ }) s
    if tstate s = tgOFF && !(flag R.TAG_TSTAT_TXOFF s) then fieldOn s else s

/-- R91, R110: TE0 enables the queues of the reader with the capacities they have. -/
def tagQueuesOn (s : State) : State :=
  forEach [108, 111] (fun q s => if (getQ (qn q) s).en then s else enableQ q (getQ (qn q) s).cap s) s

/-- TAG_ENABLE (R386).  For a disabled reader TE0 enables its queues once nothing refuses the request (R15). -/
def execTagEnable (n : Fin 8) (w0 w1 : W24) (s : State) : Host.Outcome State Fault Refusal :=
  .next (if (getQ 108 s).en then tagReq n 0x1A w0 w1 [] true (tagEnable n w0 w1) s
    else hostReq n 0x1A w0 w1 [] true (fun s =>
      let st := enableStatus w0 w1 s
      if st ≠ stOK ∨ fld w1 0 0 = 0 then reply n 0x1A w0.toNat 0 st s
      else forwardReq 108 0 n 0x1A w0 w1 [] true (tagEnable n w0 w1) (tagQueuesOn s)) s)

/-- TAG_TEST (R390, R39): polling pauses and the field goes off. -/
def execTagTest (n : Fin 8) (w0 w1 : W24) (s : State) : Host.Outcome State Fault Refusal :=
  .next (tagReq n 0x1B w0 w1 [] true (fun s =>
    let st := refusal (tagFault s) (plainBad w0 w1 0) (isScrapped s) false false
      (s.tag.testWait.isSome || !(pdOn 8 s) || flag R.TAG_TSTAT_TXOFF s || tstate s == tgWRITING)
    if st ≠ stOK then reply n 0x1B w0.toNat 0 st s
    else setTs tgTEST (fieldOff (modTag (fun t => { t with testWait := some ⟨n, w0.toNat⟩, fieldReset := false }) s))) s)

/-- TAG_TEST_END (R390, R388). -/
def execTagTestEnd (currentOk receiveOk : Bool) (s : State) : Host.Outcome State Fault Refusal :=
  match s.tag.testWait with
  | none => .next s
  | some w =>
    let s := modTag (fun t => { t with testWait := none }) s
    let s := if s.tag.on then fieldOn s else setTs tgOFF s
    let s := tagEvent 4 [] false (b2n currentOk + 2 * b2n receiveOk + 4 * b2n (currentOk && receiveOk)) s
    .next (tagDone 0x1B w stOK s)

/-- R386: the UID of a request that names a card; none where its form is wrong. -/
def reqUid (w0 : W24) (cs : List Cont) (nconts : Nat) : Option (List Byte × Bool) :=
  let len := fld w0 3 0
  let b := fld w0 8 8 == 1
  let bs := contsToBytes (cs.take 2)
  if w0.toNat % 512 = w0.toNat ∧ fld w0 7 4 = 0 ∧ (len = 4 ∨ ((len = 7 ∨ len = 10) ∧ b = false)) ∧ cs.length = nconts ∧
      (bs.drop len).all (· == 0) then some (bs.take len, b) else none

/-- R381: the reader cannot authenticate now: its nonces need the noise source (R402). -/
def authFault (s : State) : Bool := tagFault s || flag R.GV_VSTAT_DRBGF s

/-- R381: a failed authentication: the second one in a presentation halts the card. -/
def authFailed (uid : List Byte) (typeB : Bool) (c : Card) (profile : Nat) (s : State) : State :=
  let s := countFail uid typeB s
  if 2 ≤ failsOf uid typeB s then setTs tgPOLL (dropCard s) else setTs tgOPEN (holdCard c profile s)

/-- R381: the held card is SECURED, and the MAC of a response of it fails. -/
def macFails (uid : List Byte) (typeB : Bool) (s : State) : Bool :=
  tstate s == tgSECURED && heldIs uid typeB s && match s.tag.card with
    | some (c, _) => !c.macOk
    | none => false

/-- R381: the failed MAC of the held card: it is OPEN again, or halted after the second failure. -/
def heldFails (uid : List Byte) (typeB : Bool) (s : State) : State :=
  match s.tag.card with
  | some (c, p) => authFailed uid typeB c p s
  | none => s

/-- TAG_AUTH (R380, R381); the journal entry of the card is resolved before (R385): `card` is the card that answers the selection, none where none does or it leaves. -/
def execTagAuth (n : Fin 8) (w0 w1 : W24) (conts : List Cont) (card : Option Card) (s : State) :
    Host.Outcome State Fault Refusal :=
  .next (tagReq n 0x1C w0 w1 conts (te15Up s) (fun s =>
    let u := reqUid w0 conts 2
    let uid := (u.getD ([], false)).1
    let tb := (u.getD ([], false)).2
    let p := fld w1 2 0
    let halted := decide (2 ≤ failsOf uid tb s)
    let there := match card with | some c => c.uid == uid && c.typeB == tb | none => false
    let st := refusal (authFault s) (u.isNone || w1.toNat != p || !(profileOk p s) || halted) (isScrapped s) false
      (!there && !(flag R.TAG_TSTAT_TXOFF s) && pdOn 8 s)
      (!(pdOn 8 s) || flag R.TAG_TSTAT_TXOFF s || !(tstate s == tgPOLL || tstate s == tgOPEN || tstate s == tgSECURED))
    if st = stSTALE then
      let s := incSat R.TAG_TERR_TIMEOUT s
      let s := if heldIs uid tb s then cardGone s else
        match seenOf uid tb s with
        | some x => tagEvent 1 uid tb x.sakAtqa.toNat (showCards (modTag (fun t =>
            { t with seen := t.seen.filter fun y => !(y.uid == uid && y.typeB == tb) }) s))
        | none => s
      let s := whenS (s.tag.on && flag R.TAG_TSTAT_FIELD s) (fun s =>
        setTs tgGUARD (fieldOff (modTag (fun t => { t with fieldReset := true }) s))) s
      reply n 0x1C w0.toNat 0 st s
    else if st ≠ stOK then reply n 0x1C w0.toNat 0 st s
    else match card with
      | none => reply n 0x1C w0.toNat 0 stSTALE s
      | some c =>
        let s := nextFree s
        if c.authOk && (cardK p uid s).isSome then
          let r := resolve c s
          reply n 0x1C w0.toNat 0 stOK (setTs tgSECURED (holdCard r.2 p r.1))
        else reply n 0x1C w0.toNat 0 stDENIED (authFailed uid tb c p s)) s)

/-- R386: AMOUNT in two continuations, with the CNT. -/
def amountConts (amount cnt : Nat) : List Cont :=
  [(w24 amount, w24 (amount / 2 ^ 24)), (w24 (amount / 2 ^ 48 % 2 ^ 16 + cnt / 2 ^ 24 % 256 * 2 ^ 16), w24 cnt)]

/-- TAG_CREDIT_READ (R383). -/
def execTagCreditRead (n : Fin 8) (w0 w1 : W24) (conts : List Cont) (s : State) : Host.Outcome State Fault Refusal :=
  .next (tagReq n 0x1D w0 w1 conts (te15Up s) (fun s =>
    let u := reqUid w0 conts 2
    let uid := (u.getD ([], false)).1
    let tb := (u.getD ([], false)).2
    let held := match s.tag.card with | some (c, p) => some (c, p, (cardK p uid s).getD []) | none => none
    let cur := match held with | some (c, _, k) => currentRec k c | none => none
    let ok := tstate s == tgSECURED && heldIs uid tb s
    let mac := macFails uid tb s
    let st := refusal (tagFault s || (ok && !mac && cur.isNone)) (u.isNone || w1 != 0 || !ok || mac) (isScrapped s) false false
      (!(pdOn 8 s) || flag R.TAG_TSTAT_TXOFF s)
    let s := whenS (mac && u.isSome && w1 == 0 && !(tagFault s)) (heldFails uid tb) s
    match held, cur with
    | some (c, p, k), some (i, named) =>
      if st ≠ stOK then reply n 0x1D w0.toNat 0 st s
      else
        let r := cardRec c i
        let c := if named then c else { c with ptr := mkPtr k uid (recCnt r) i }
        let s := modTag (fun t => { t with card := some (c, p),
                                           reads := ⟨uid, tb, recCnt r, p⟩ :: t.reads.filter fun x => !(x.uid == uid && x.typeB == tb) }) s
        completeWith (n + 8) 0x1D w0.toNat ((r.getD 4 0).toNat % 4 * 2 ^ 8) stOK
          (amountConts (leNat ((r.drop 8).take 8)) (recCnt r)) s
    | _, _ => reply n 0x1D w0.toNat 0 (if st = stOK then stFAULT else st) s) s)

/-- R384: complete a credit write; `later` says that it was journalled only. -/
def writeReply (n : Fin 8) (w0 : W24) (later : Bool) (s : State) : State :=
  complete (n + 8) 0x1E w0.toNat (b2n later * 256) stOK s

/-- R384: steps 2 to 4 for the held card `c` with key `k`; `reach` is how far the field stands: 0 it collapses before
the shadow write, 1 during it, 2 after it and before the pointer is done, 3 not at all. -/
def writeSteps (n : Fin 8) (w0 : W24) (j : Journal) (c : Card) (p : Nat) (k : List Byte) (reach : Nat) (s : State) : State :=
  match currentRec k c with
  | none => reply n 0x1E w0.toNat 0 stFAULT (freeEntry c.uid c.typeB true (leNat (c.ptr.take 4)) s)
  | some (i, _) =>
    let cnt := recCnt (cardRec c i)
    if cnt ≠ j.cnt then reply n 0x1E w0.toNat 0 stSTALE (freeEntry c.uid c.typeB true cnt s)
    else if reach = 3 then
      let s := modTag (fun t => { t with card := some (cardWrite k (1 - i) j.record c, p) }) s
      writeReply n w0 false (freeEntry c.uid c.typeB false ((j.cnt + 1) % 2 ^ 32) s)
    else
      let js := s.tag.journal.map fun x => if isEntry c.uid c.typeB x then { x with shadow := decide (reach = 2) } else x
      let s := modTag (fun t => { t with journal := js }) s
      writeReply n w0 true (cardGone (incSat R.TAG_TERR_COLLAPSE s))

/-- TAG_CREDIT_WRITE (R384, R386). -/
def execTagCreditWrite (n : Fin 8) (w0 w1 : W24) (conts : List Cont) (reach : Fin 4) (s : State) :
    Host.Outcome State Fault Refusal :=
  .next (tagReq n 0x1E w0 w1 conts (te15Up s) (fun s =>
    let u := reqUid w0 conts 4
    let uid := (u.getD ([], false)).1
    let tb := (u.getD ([], false)).2
    let kind := fld w1 1 0
    let c3 := conts.getD 2 (0, 0)
    let c4 := conts.getD 3 (0, 0)
    let amount := c3.1.toNat + c3.2.toNat * 2 ^ 24 + fld c4.1 15 0 * 2 ^ 48
    let held := heldIs uid tb s
    let secured := held && tstate s == tgSECURED
    let away := !held && (seenOf uid tb s).isNone
    let last := s.tag.reads.find? fun x => x.uid == uid && x.typeB == tb
    let bad := u.isNone || w1.toNat != kind || !(kind == 1 || kind == 2) || fld c4.1 23 16 != 0 || c4.2 != 0
    let mac := macFails uid tb s
    let st := refusal (tagFault s) (bad || !(secured || away) || mac) (isScrapped s) false last.isNone
      (wiping s || decide (32 ≤ s.tag.journal.length) || s.tag.journal.any (isEntry uid tb) || !(pdOn 8 s) || flag R.TAG_TSTAT_TXOFF s)
    let s := whenS (mac && !bad && !(tagFault s)) (heldFails uid tb) s
    match last with
    | none => reply n 0x1E w0.toNat 0 st s
    | some r =>
      if st ≠ stOK then reply n 0x1E w0.toNat 0 st s
      else
        let k := (cardK r.profile uid s).getD []
        let j : Journal := ⟨uid, tb, r.cnt, mkRec k uid ((r.cnt + 1) % 2 ^ 32) kind amount, r.profile, false⟩
        let s := showJ (modTag (fun t => { t with journal := t.journal ++ [j] }) s)
        match s.tag.card with
        | some (c, p) => if secured then writeSteps n w0 j c p k reach s else writeReply n w0 true s
        | none => writeReply n w0 true s) s)

/-- TAG_RELEASE (R380): the held card is deselected and halted. -/
def execTagRelease (n : Fin 8) (w0 w1 : W24) (conts : List Cont) (s : State) : Host.Outcome State Fault Refusal :=
  .next (tagReq n 0x1F w0 w1 conts true (fun s =>
    let u := reqUid w0 conts 2
    let uid := (u.getD ([], false)).1
    let tb := (u.getD ([], false)).2
    let st := refusal (tagFault s) (u.isNone || w1 != 0) (isScrapped s) false false
      (!(pdOn 8 s) || flag R.TAG_TSTAT_TXOFF s)
    let s := whenS (st == stOK && heldIs uid tb s) (fun s => setTs tgPOLL (dropCard s)) s
    reply n 0x1F w0.toNat 0 st s) s)

/-- R34, R389: the transmitter is held off: the field collapses. -/
def tagTxOff (s : State) : State :=
  let s := match s.tag.testWait with | some w => tagDone 0x1B w stBUDGET s | none => s
  let was := tstate s
  let s := wr R.TAG_TSTAT_TXOFF 1 (fieldOff (modTag (fun t => { t with testWait := none, fieldReset := false }) s))
  if was = tgOFF ∨ was = tgFAULT then s else setTs (if s.tag.on then tgPOLL else tgOFF) s

/-- R34: the hold ends; the field comes on again where the reader is enabled. -/
def tagTxOn (s : State) : State :=
  let s := wr R.TAG_TSTAT_TXOFF 0 s
  if s.tag.on && tstate s != tgFAULT then fieldOn s else s

/-- TAG_STEP (R381, R411): TE15 makes one pass of the authentication with the key of `slot`; its token is not laid out
by the spec. -/
def execTagStep (slot : Fin 32) (token : List Byte) (s : State) : Host.Outcome State Fault Refusal :=
  let ms := reqMsgs 0x39 (w24 slot.val) 0 (bytesToConts ((token.length + 5) / 6) token)
  .next (takeReq 110 0 0x39 slot.val ms (te15Up s) (fun s =>
    let st := refusal (flag R.GV_VSTAT_DRBGF s || !s.vault.dirOk) (!(slotFor slot 4 5 s)) (isScrapped s) false false false
    if st ≠ stOK then complete 111 0x39 slot.val 0 st s
    else completeWith 111 0x39 slot.val 0 stOK (bytesToConts 3 (freeBytes s 16)) { s with freeCtr := s.freeCtr + 16 }) s)

end Sys2Proof.Machine
end

