-- ==== Sys2Proof/Machine/Power.lean ====
section
/-!
DEFINITION. Power domains, core-voltage modes, the power-fail warning and the junction thresholds (R21, R22, R34, R36,
R37, R484 to R488, R495, R496, R498, R509, R512).
-/
namespace Sys2Proof.Machine

/-- A number with bit `d` set or cleared. -/
def putBit (d : Nat) (b : Bool) (v : Nat) : Nat := if v.testBit d = b then v else if b then v + 2 ^ d else v - 2 ^ d

def setPd (d : Nat) (b : Bool) (s : State) : State := wr R.PWR_PDSTAT_ON (putBit d b (rd R.PWR_PDSTAT_ON s)) s

/-! ### Domains (R21, R487, R488) -/

/-- R21: a domain may be switched off now. -/
def mayOff (d : Nat) (s : State) : Bool :=
  if d = 2 ∨ d = 5 then outlets.all fun o => outOfService o s
  else if d = 3 then [4, 5, 6, 7].all fun o => outOfService o s
  else if d = 4 then !(pdOn 2 s) && !(pdOn 3 s)
  else if d = 8 then tstate s != tgWRITING
  else if d = 7 then !(flag R.SWD_SCFG_EN s) && [0, 1].all fun i => slotSrc i s != 1 && slotSrc i s != 2
  else if d = 9 then !(isSealed s)
  else if d = 10 then !(chans16.any fun c => lsIsOn c s && !(lsComfort c s))
  else true

/-- The outlets, 8 for the supply channels, whose front ends a domain feeds (R21), and their stream queues (R92). -/
def pdOutlets (d : Nat) : List Nat := if d = 2 then [0, 1, 2, 3, 8] else if d = 3 then [4, 5, 6, 7] else []
def pdStreams (d : Nat) : List Nat :=
  if d = 2 then [32, 33, 34, 35, 40, 41, 42, 43, 48, 49] else if d = 3 then [36, 37, 38, 39, 44, 45, 46, 47] else []

/-- R110, R157: the channels of a domain that is switched off: changes and tests complete WITHDRAWN, streams end. -/
def channelsOff (d : Nat) (s : State) : State :=
  let s := forEach (pdOutlets d) (fun o s => forEach (chansOf o) (fun c s =>
    let s := wr (R.FLT_CHSTAT_MODOVL o c) 0 (changeWithdrawn o c s)
    let ch := getCh o c s
    if !ch.testOn then s else complete (8 + ch.testN) 0x21 ch.testW 0 stWITHDRAWN (testOver o c s)) s) s
  forEach (pdStreams d) (fun q => disableQ q q true) s

/-- R136, R487: the enabled channels of outlet `o` deliver again, in START. -/
def channelsStart (o : Nat) (s : State) : State :=
  forEach (chansOf o) (fun c s => whenS (flag (R.FLT_CHCFG_EN o (govern o c)) s) (modCh o c Chan.resumed) s) s

/-- An engine without its supply: nothing of it is left. -/
def engineOff (e : Nat) (s : State) : State :=
  modEng (en e) (fun x => { x with ran := false }) (setEngState e 0 (wipeEng e (returnQueues e s)))

/-- R85, R89, R487: an engine whose supply is back waits for its load; one STOPPED for good stays so. -/
def engineOn (e : Nat) (s : State) : State :=
  if engState e s = 0 then setEngState e (if (getEng (en e) s).final then 5 else 2) s else s

/-- R110, R195: a PAIR_STANDBY under way and the CAL_APPLYs not yet in effect complete WITHDRAWN with their pairs. -/
def pairsWithdrawn (s : State) : State :=
  let s := forEach [0, 1] (fun p s => standbyDone p stWITHDRAWN s) s
  let s := forEach outlets (fun o s => match (getMt o s).cal with
    | some c => complete (8 + c.1) 0x20 c.2 0 stWITHDRAWN (modMt o (fun m => { m with cal := none }) s)
    | none => s) s
  match s.supply.cal with
  | some c => complete (8 + c.1) 0x20 c.2 0 stWITHDRAWN { s with supply := { s.supply with cal := none } }
  | none => s

/-- R21, R22, R110: what ends with a domain. -/
def domainOff (d : Nat) (s : State) : State :=
  if d = 2 ∨ d = 3 then setPd d false (channelsOff d s)
  else if d = 4 then
    let s := pairsWithdrawn (forEach [9, 11] returnQueues s)
    let s := disableQ 53 0 false (disableQ 52 0 false s)
    let s := forEach [9, 10, 11, 12] engineOff s
    let s := forEach outlets (fun o s =>
      dropShown o (modMt o (fun m => { Meter.reset with lastInc := m.lastInc, lastReg := m.lastReg }) s)) s
    let idle (p : Nat) (s : State) : State := showPair p (modPair p (fun x => { PairSt.reset with faults := x.faults }) s)
    idle 1 (idle 0 (setPd 4 false s))
  else if d = 5 then
    setPd 5 false (forEach outlets (fun o s => engineOff (o + 1) (engineDead (o + 1) (returnQueues (o + 1) s))) s)
  else if d = 6 then setPd 6 false (modemsOff s)
  else if d = 7 then
    closeBypass (ebypUpdate (forEach [0, 1] dropHeld (slotLostNow 1 (slotLostNow 0 (setPd 7 false (ringOff s))))))
  else if d = 8 then setPd 8 false (tagOff s)
  else if d = 10 then setPd 10 false (lsPdOff s)
  else setPd d false s

/-- R487: what begins with a domain; TE0 loads the engines it holds (R83). -/
def domainUp (d : Nat) (s : State) : State :=
  let s := setPd d true s
  if d = 2 ∨ d = 3 then forEach (pdStreams d) upQ (forEach (pdOutlets d) channelsStart s)
  else if d = 4 then
    let s := { s with samp := { s.samp with fresh := true } }
    let s := forEach (List.range 9) channelsStart s
    forEach [9, 10, 11, 12] engineOn s
  else if d = 5 then
    if isScrapped s then s else forEach outlets (fun o => engineOn (o + 1)) s
  else if d = 6 then forEach [104, 106] upQ s
  else if d = 7 then bypassSet (ebypUpdate (forEach [16, 17, 18, 19, 20, 21, 22, 23, 93] upQ s))
  else s

/-- PWR_DOMAIN (R21, R22, R488). -/
def execPwrDomain (n : Fin 8) (w0 w1 : W24) (s : State) : Host.Outcome State Fault Refusal :=
  .next (hostReq n 0x0F w0 w1 [] true (fun s =>
    let d := fld w1 3 0
    let on := fld w1 4 4 == 1
    let st := refusal ((rd R.PWR_PDSTAT_SFLT s).testBit d)
      (w0 != 0 || fld w1 23 5 != 0 || decide (11 ≤ d) || d == 0 || d == 1) (isScrapped s) false false
      (!s.pwr.doms.isEmpty || warned s || (!on && pdOn d s && !(mayOff d s)))
    if st ≠ stOK then reply n 0x0F 0 0 st s
    else if pdOn d s = on then reply n 0x0F 0 0 stOK s
    else if on then modPwr (fun p => { p with doms := [(d, true, n.val, 0)] }) s
    else reply n 0x0F 0 0 stOK (domainOff d s)) s)

/-- DOMAIN_POWER_UP (R487, R488): a domain switched on is up. -/
def execDomainPowerUp (d : Fin 12) (s : State) : Host.Outcome State Fault Refusal :=
  match s.pwr.doms.find? fun e => e.1 == d.val with
  | none => .next s
  | some e =>
    .next (complete (e.2.2.1 + 8) 0x0F 0 0 stOK (domainUp d (modPwr (fun p => { p with doms := [] }) s)))

/-- DOMAIN_SUPPLY_FAULT (R512). -/
def execDomainSupplyFault (d : Fin 12) (faulty : Bool) (s : State) : Host.Outcome State Fault Refusal :=
  .next (wr R.PWR_PDSTAT_SFLT (putBit d faulty (rd R.PWR_PDSTAT_SFLT s)) s)

/-! ### Core-voltage modes (R484 to R486) -/

/-- R484: the code of a mode on VSEL2 to VSEL0. -/
def vselOf (m : Nat) : Nat := if m = 0 then 1 else if m = 1 then 2 else 4

/-- R36, R356: ports set to 1000 Mb/s. -/
def gigPorts (s : State) : Nat := [0, 1].countP fun p => rd (R.PTP_PCFG_SPEED p) s == 2

/-- R37: the present load is above a limit of mode `m`. -/
def overLimits (m : Nat) (s : State) : Bool :=
  decide (limModems m < rd R.PLM_GSTAT_COUNT s) || decide (limFast m < fastBooked s) || decide (limTests m < testCount s) ||
    decide (limGig m < gigPorts s)

/-- PWR_CORE (R37, R485, R488). -/
def execPwrCore (n : Fin 8) (w0 w1 : W24) (s : State) : Host.Outcome State Fault Refusal :=
  .next (hostReq n 0x3F w0 w1 [] true (fun s =>
    let m := fld w1 1 0
    let old := rd R.PWR_CORE_MODE s
    let st := refusal false (w0 != 0 || fld w1 23 2 != 0 || m == 3) (isScrapped s) false false
      (s.pwr.core.isSome || flag R.PWR_CORE_CHG s || warned s || (decide (m < old) && overLimits m s))
    if st ≠ stOK then reply n 0x3F 0 0 st s
    else if m = old then reply n 0x3F 0 0 stOK s
    else
      let s := wrs [(R.PWR_CORE_TARGET, m), (R.PWR_CORE_VSEL, vselOf m), (R.PWR_CORE_CHG, 1)] s
      modPwr (fun p => { p with core := some (n.val, 0), coreOld := old }) s) s)

/-- The PWR_CORE in progress completes. -/
def coreDone (st : Nat) (s : State) : State :=
  match s.pwr.core with
  | some r => complete (r.1 + 8) 0x3F 0 0 st (modPwr (fun p => { p with core := none }) s)
  | none => s

/-- R498: TE0 is back; a change that ended meanwhile completes as hardware has ended it. -/
def coreReplay (s : State) : State :=
  whenS (!(flag R.PWR_CORE_CHG s)) (coreDone (if rd R.PWR_CORE_MODE s = s.pwr.coreOld then stFAULT else stOK)) s

/-- VCOK_CONFIRM (R485): VCOK has read 1 for 100 µs.  Hardware ends the change while TE0 reloads; the completion follows
when TE0 is back (R498). -/
def execVcokConfirm (s : State) : Host.Outcome State Fault Refusal :=
  let s := wr R.PWR_CORE_VCOK 1 s
  if !(flag R.PWR_CORE_CHG s) then .next s
  else
    let s := wrs [(R.PWR_CORE_MODE, rd R.PWR_CORE_TARGET s), (R.PWR_CORE_CHG, 0)] s
    .next (whenS (te0Up s) (coreDone stOK) s)

/-- CORE_CHANGE_TIMEOUT (R485, R513).  While TE0 reloads the completion follows its return, as in R498. -/
def execCoreChangeTimeout (s : State) : Host.Outcome State Fault Refusal :=
  if !(flag R.PWR_CORE_CHG s) then .next s
  else
    let asked := rd R.PWR_CORE_TARGET s
    let m := rd R.PWR_CORE_MODE s
    let s := wrs [(R.PWR_CORE_TARGET, m), (R.PWR_CORE_VSEL, vselOf m), (R.PWR_CORE_CHG, 0)] s
    .next (whenS (te0Up s) (coreDone stFAULT) (logFault false 7 0 0x7F asked s))

/-- VCOK_LOST (R486, R513): VCOK low for 1 ms outside a change. -/
def execVcokLost (s : State) : Host.Outcome State Fault Refusal :=
  if flag R.PWR_CORE_CHG s || s.pwr.down then .next s
  else .next (logFault false 8 0xFF 0x7F 0 (wr R.PWR_CORE_VCOK 0 s))

/-! ### Power failure and temperature (R34, R495, R496, R509) -/

/-- R34, R294, R389: the transmitters of modems and reader are held off. -/
def txHold (s : State) : State :=
  tagTxOff (modemServe (forEach outlets cutLine s))

/-- The hold ends. -/
def txRelease (s : State) : State := tagTxOn (forEach outlets (fun o => wr (R.PLM_STAT_TXOFF o) 0) s)

/-- POWER_FAIL_WARNING (R34, R227, R453, R454, R495, R496): PD0 latches the warning; loads and transmitters go off, tests
end, the pairs commit and send their power-fail summaries, and a FREEZE ends.  TE0 then writes the power-fail slot
(POWERFAIL_SUMMARY_APPLY); while it reloads the members write it in its place.  The log entries accepted follow the
slot. -/
def execPowerFailWarning (pin vsys : Bool) (s : State) : Host.Outcome State Fault Refusal :=
  if s.pwr.down || s.pwr.stuck || warned s || !(pin || vsys) then .next s
  else
    let s := wrs [(R.PWR_PFWST_WARN, 1), (R.PWR_PFWST_SRCPIN, b2n pin), (R.PWR_PFWST_SRCVSYS, b2n vsys),
      (R.PWR_PFWSEC_S, clkSec s), (R.PWR_PFWNS_NS, clkNs s)] (incSat R.PWR_PFWST_PFCNT s)
    let s := modPwr (fun p => { p with pfLatch := true }) s
    let s := abortTests (ebypUpdate (txHold (lsPowerFail s)))
    let s := forEach outlets powerSummary s
    let s := whenS (!(te0Up s) && (pairUp 9 s || pairUp 11 s)) saveBilling s
    .next (flushLogs (freezeEnd 4 s))

/-- R509, R512: PWR.TEMP, each die as °C + 40. -/
def setTemps (c a p : Nat) (s : State) : State :=
  wrs [(R.PWR_TEMP_CDIE, c), (R.PWR_TEMP_ADIE, a), (R.PWR_TEMP_PDIE, p), (R.PWR_TEMP_MAX, max c (max a p))] s

/-- R34: what the junction temperature brings about: comfort loads above 125 °C; above 135 °C the transmitters and every
session; below it again the transmitters return. -/
def junctionAct (s : State) : State :=
  let j := junction s
  let s := whenS (decide (165 < j)) lsOverTemp s
  if 175 < j then
    let s := modPwr (fun p => { p with hot := true }) (txHold s)
    forEach outlets (fun o s => if inSession o s && outActive o s then rampDown o 7 false s else s) s
  else if s.pwr.hot then
    let s := modPwr (fun p => { p with hot := false }) s
    whenS (!(warned s)) txRelease s
  else s

/-- R34, R490, R509: a reading of the die sensors.  Before a start it ends the hold of an over-temperature reset once
every die reads below 140 °C. -/
def dieTemps (c a p : Nat) (s : State) : State :=
  if s.pwr.down then modPwr (fun q => { q with held := q.held && decide (180 ≤ max c (max a p)) }) s
  else junctionAct (setTemps c a p s)

/-- JUNCTION_ABOVE_125 (R34, R490, R509): a reading of the die sensors. -/
def execJunctionAbove125 (cdie adie pdie : Byte) (s : State) : Host.Outcome State Fault Refusal :=
  .next (dieTemps cdie.toNat adie.toNat pdie.toNat s)

/-- JUNCTION_ABOVE_135 (R34, R490, R509): a reading of the die sensors. -/
def execJunctionAbove135 (cdie adie pdie : Byte) (s : State) : Host.Outcome State Fault Refusal :=
  .next (dieTemps cdie.toNat adie.toNat pdie.toNat s)

end Sys2Proof.Machine
end

