-- ==== Sys2Proof/Machine/Sys.lean ====
section
/-!
DEFINITION. Branches, jumps, system functions, events and timers (R44, R46, R61, R70, R71, R75).
-/
namespace Sys2Proof.Machine

/-- R61: a target inside the program memory of engine `e`. -/
def inProg (e : Nat) (t : Nat) : Bool := decide (t < memWords e)

/-- R61: a control transfer. -/
def jumpTo (t : Nat) : Body := fun e _ x =>
  if inProg e t then .ok (x.retireTo (BitVec.ofNat 20 t), .none) else .error exMEMORY

/-- R61: a call. -/
def callTo (t : Nat) : Body := fun e _ x =>
  if !(inProg e t) then .error exMEMORY
  else if stackDepth e ≤ x.rstack.length then .error exSTACK
  else .ok ({ x with rstack := (x.pc + 1) :: x.rstack }.retireTo (BitVec.ofNat 20 t), .none)

/-- The branch conditions. -/
def condHolds (c : Nat) (x : Eng) : Bool :=
  match c with
  | 0 => true
  | 1 => x.pr 1 | 2 => x.pr 2 | 3 => x.pr 3
  | 4 => !(x.pr 1) | 5 => !(x.pr 2) | 6 => !(x.pr 3)
  | 7 => x.z | 8 => !x.z | 9 => x.n | 10 => !x.n | 11 => x.c | 12 => !x.c | 13 => x.v | 14 => x.sv
  | _ => false

/-- The registers a branch condition reads. -/
def condReads (c : Fin 16) : List PReg :=
  if c = 0 ∨ c = 15 then [] else if c.val ≤ 6 then [.p ⟨(c.val - 1) % 3 + 1, by omega⟩] else [.sr 1]

/-- The target of a branch: PC + 1 + offset, as a signed number. -/
def branchTarget (off : BitVec 22) (x : Eng) : Int := x.pc.toNat + 1 + off.toInt

/-- B (R61).  Condition 15 raises OPCODE. -/
def execB (e : Eid) (cond : Fin 16) (off : BitVec 22) (s : State) : Host.Outcome State Fault Refusal :=
  .next (issue e (cond == 15) always (fun _ => condReads cond) (fun e s x =>
    if !(condHolds cond x) then .ok (x.retire, .none)
    else if branchTarget off x < 0 then .error exMEMORY
    else jumpTo (branchTarget off x).toNat e s x) s)

/-- CALL (R61). -/
def execCall (e : Eid) (tgt : BitVec 26) (s : State) : Host.Outcome State Fault Refusal := .next (issue e false always noRegs (callTo tgt.toNat) s)

/-- JMP (R61). -/
def execJmp (e : Eid) (tgt : BitVec 26) (s : State) : Host.Outcome State Fault Refusal := .next (issue e false always noRegs (jumpTo tgt.toNat) s)

/-- RET (R61). -/
def execRet (e : Eid) (g : Guard) (s : State) : Host.Outcome State Fault Refusal :=
  .next (issue e false g noRegs (fun e _ x =>
    match x.rstack with
    | [] => .error exSTACK
    | t :: ts => if inProg e t.toNat then .ok ({ x with rstack := ts }.retireTo t, .none) else .error exMEMORY) s)

/-- RTE (R61): OPCODE outside a handler. -/
def execRte (e : Eid) (g : Guard) (s : State) : Host.Outcome State Fault Refusal :=
  .next (issue e false g (fun _ => [.sr 1, .sr 2, .sr 3, .sr 4]) (fun e _ x =>
    if !x.exc then .error exOPCODE
    else if !(inProg e (x.epc.toNat % 2 ^ 20)) then .error exMEMORY
    else .ok ({ x with status := x.estatus, mode := x.emode }.retireTo (x.epc.extractLsb' 0 20), .none)) s)

/-- JR (R61). -/
def execJr (e : Eid) (g : Guard) (a : Fin 16) (s : State) : Host.Outcome State Fault Refusal :=
  .next (issue e false g (fun _ => [.g a]) (fun e s x => jumpTo ((x.gr a).toNat % 2 ^ 20) e s x) s)

/-- CALLR (R61). -/
def execCallr (e : Eid) (g : Guard) (a : Fin 16) (s : State) : Host.Outcome State Fault Refusal :=
  .next (issue e false g (fun _ => [.g a]) (fun e s x => callTo ((x.gr a).toNat % 2 ^ 20) e s x) s)

/-- TRAP (R75): its number travels beside the exception's. -/
def execTrap (e : Eid) (g : Guard) (n : Fin 16) (s : State) : Host.Outcome State Fault Refusal :=
  .next (issue e false g noRegs (fun _ _ _ => .error (exTRAP + 16 * n.val)) s)

/-- HALT (R61): allowed on TE1 to TE8 and TE15.  Elsewhere it is found at decode, so that a guard that fails does not
keep OPCODE back (log entry 18). -/
def execHalt (e : Eid) (g : Guard) (s : State) : Host.Outcome State Fault Refusal :=
  .next (issue e (e == 0 || isPaired e) g noRegs (fun _ _ x => .ok (x.retire, .halt)) s)

/-- R70: WAIT completes with the selected events, or blocks. -/
def waitBody (d a : Fin 16) : Body := fun e s x =>
  let m := x.gr a
  let v := w24 (evPend e x s) &&& m
  if v != 0 || m == 0 then .ok (({ x with blocked := .no }.setG d v).retire, .ack)
  else .ok ({ x with blocked := .wait d a }, .none)

/-- WAIT (R70). -/
def execWait (e : Eid) (g : Guard) (d a : Fin 16) (s : State) : Host.Outcome State Fault Refusal :=
  .next (issue e false g (fun _ => [.g a, .sr 7]) (waitBody d a) s)

/-- An instruction that waits is tried again (R70, R100): no fetch, no guard. -/
def resume (e : Eid) (body : Blocked → Option Body) (s : State) : State :=
  let rs := (issuers e s).filterMap fun m =>
    let x := getEng (en m) s
    (body x.blocked).map fun b => (m, match b m s x with
      | .ok r => .ok r
      | .error n => (.error ⟨n % 16, n / 16, { x with blocked := .no }⟩ : Except Raise Act))
  if rs.isEmpty then s else commitAll e rs s

/-- WAIT_WAKE (R70). -/
def execWaitWake (e : Eid) (s : State) : Host.Outcome State Fault Refusal :=
  .next (resume e (fun b => match b with | .wait d a => some (waitBody d a) | _ => none) s)

/-- CLREV (R70): latched events only. -/
def execClrev (e : Eid) (g : Guard) (a : Fin 16) (s : State) : Host.Outcome State Fault Refusal :=
  .next (issue e false g (fun _ => [.g a]) (alu fun x =>
    let m := x.gr a
    { x with evTmr := x.evTmr &&& ~~~(m.extractLsb' 16 4), evBell := x.evBell && !(m.getLsbD 21) }) s)

/-- MRS (R44): an unlisted number raises OPCODE. -/
def execMrs (e : Eid) (g : Guard) (d : Fin 16) (sr : BitVec 8) (s : State) : Host.Outcome State Fault Refusal :=
  .next (issue e (!(srListed sr.toNat)) g (fun _ => [.sr sr.toNat]) (fun e s x =>
    match srRead e sr.toNat x s with
    | some r => .ok ((r.2.setG d r.1).retire, .none)
    | none => .error exOPCODE) s)

/-- MSR (R44, R46): an unlisted number raises OPCODE, a forbidden write ILLSR. -/
def execMsr (e : Eid) (g : Guard) (d : Fin 16) (sr : BitVec 8) (s : State) : Host.Outcome State Fault Refusal :=
  .next (issue e (!(srListed sr.toNat)) g (fun _ => [.g d]) (fun _ _ x =>
    match srWrite sr.toNat (x.gr d) x with
    | some y => .ok ({ y with parity := y.clean (.sr sr.toNat) }.retire, .none)
    | none => .error exILLSR) s)

/-- TIMER_EXPIRY (R71, R72): the event bit is set and the timer reloads; on a pair, on both members. -/
def execTimerExpiry (e : Eid) (t : Fin 4) (s : State) : Host.Outcome State Fault Refusal :=
  .next (forEach (issuers e s) (fun m s => modEng (en m) (fun x =>
    if vget x.tmr t = 0 then x
    else { x with evTmr := x.evTmr ||| ((1 : BitVec 4) <<< t.val), tmrLeft := vset x.tmrLeft t (vget x.tmr t).toNat }) s) s)

end Sys2Proof.Machine
end

