-- ==== Sys2Proof/Machine/QueueIns.lean ====
section
/-!
DEFINITION. The queue instructions (R67 to R69, R99 to R103).
-/
namespace Sys2Proof.Machine

/-- R95, R67: the message an engine pushes. -/
def engMsg (x : Eng) (h w0 w1 : Fin 16) : Msg := ⟨(x.gr h).extractLsb' 0 8, x.gr w0, x.gr w1⟩

/-- R67: the registers after a pop or a peek. -/
def Eng.take (m : Byte × Msg) (h w0 w1 : Fin 16) (x : Eng) : Eng :=
  ((x.setG h (w24 (m.2.typ.toNat * 2 ^ 8 + m.1.toNat))).setG w0 m.2.w0).setG w1 m.2.w1

/-- R67: the three destination fields name different registers. -/
def distinct3 (h w0 w1 : Fin 16) : Bool := h != w0 && h != w1 && w0 != w1

/-- R68, R102: QPUSH: QACCESS, blocked while the queue is full. -/
def pushBody (q : Qid) (h w0 w1 : Fin 16) : Body := fun e s x =>
  if !(engProduces e q s) then .error exQACCESS
  else if (getQ q s).en && (getQ q s).full then .ok ({ x with blocked := .push q h w0 w1 }, .none)
  else .ok ({ x with blocked := .no }.retire, .push q (engMsg x h w0 w1))

/-- R68: QPOP and QPEEK: blocked while the queue is empty. -/
def takeBody (peek : Bool) (q : Qid) (h w0 w1 : Fin 16) : Body := fun e s x =>
  if !(engConsumes e q s) then .error exQACCESS
  else match (getQ q s).ent with
  | [] => .ok ({ x with blocked := if peek then .peek q h w0 w1 else .pop q h w0 w1 }, .none)
  | m :: _ => .ok (({ x with blocked := .no }.take m h w0 w1).retire, if peek then .none else .pop q)

/-- QPUSH (R67, R68). -/
def execQpush (e : Eid) (q : Qid) (h w0 w1 : Fin 16) (s : State) : Host.Outcome State Fault Refusal :=
  .next (issue e false always (fun _ => [.g h, .g w0, .g w1]) (pushBody q h w0 w1) s)

/-- QPOP (R67, R68). -/
def execQpop (e : Eid) (q : Qid) (h w0 w1 : Fin 16) (s : State) : Host.Outcome State Fault Refusal :=
  .next (issue e (!(distinct3 h w0 w1)) always noRegs (takeBody false q h w0 w1) s)

/-- QPEEK (R67, R68). -/
def execQpeek (e : Eid) (q : Qid) (h w0 w1 : Fin 16) (s : State) : Host.Outcome State Fault Refusal :=
  .next (issue e (!(distinct3 h w0 w1)) always noRegs (takeBody true q h w0 w1) s)

/-- QSTAT (R67, R68): entries held, and whether the queue is enabled. -/
def execQstat (e : Eid) (q : Qid) (h : Fin 16) (s : State) : Host.Outcome State Fault Refusal :=
  .next (issue e false always noRegs (fun e s x =>
    if !(engProduces e q s || engConsumes e q s) then .error exQACCESS
    else .ok ((x.setG h (w24 ((getQ q s).ent.length % 2 ^ 13 + b2n (getQ q s).en * 2 ^ 13))).retire, .none)) s)

/-- QPUSHN (R67, R68). -/
def execQpushn (e : Eid) (q : Qid) (h w0 w1 : Fin 16) (p : Fin 4) (s : State) : Host.Outcome State Fault Refusal :=
  .next (issue e false always (fun _ => [.g h, .g w0, .g w1]) (fun e s x =>
    if !(engProduces e q s) then .error exQACCESS
    else if (getQ q s).en && (getQ q s).full then .ok ((x.setP p false).retire, .none)
    else .ok ((x.setP p true).retire, .push q (engMsg x h w0 w1))) s)

/-- QPOPN (R67, R68). -/
def execQpopn (e : Eid) (q : Qid) (h w0 w1 : Fin 16) (p : Fin 4) (s : State) : Host.Outcome State Fault Refusal :=
  .next (issue e (!(distinct3 h w0 w1)) always noRegs (fun e s x =>
    if !(engConsumes e q s) then .error exQACCESS
    else match (getQ q s).ent with
    | [] => .ok ((x.setP p false).retire, .none)
    | m :: _ => .ok (((x.take m h w0 w1).setP p true).retire, .pop q)) s)

/-- FENCE (R100, R103): an acknowledgement point; entry into every queue is complete when it ends. -/
def execFence (e : Eid) (s : State) : Host.Outcome State Fault Refusal :=
  .next (issue e false always noRegs (fun _ _ x => .ok (x.retire, .ack)) s)

/-- The body of a blocked queue instruction. -/
def blockedBody : Blocked → Option Body
  | .push q h w0 w1 => some (pushBody q h w0 w1)
  | .pop q h w0 w1 => some (takeBody false q h w0 w1)
  | .peek q h w0 w1 => some (takeBody true q h w0 w1)
  | .fence => some fun _ _ x => .ok ({ x with blocked := .no }.retire, .ack)
  | _ => none

/-- BLOCKED_QUEUE_OP_COMPLETE (R100): a blocked queue instruction goes on where its queue now allows it. -/
def execBlockedQueueOpComplete (e : Eid) (s : State) : Host.Outcome State Fault Refusal := .next (resume e blockedBody s)

/-- QTIMEOUT (R69): only under a wait limit; nothing has moved. -/
def execQtimeout (e : Eid) (s : State) : Host.Outcome State Fault Refusal :=
  let limited := (issuers e s).all fun m => (getEng (en m) s).qwlim != 0
  .next (if limited then resume e (fun b => (blockedBody b).map fun _ => fun _ _ _ => .error exQTIMEOUT) s else s)

end Sys2Proof.Machine
end

