-- ==== Sys2Proof/Machine/Start.lean ====
section
/-!
DEFINITION. Full resets and the start (R82, R347, R429, R437, R454, R489 to R493, R497): what a full reset keeps, the
start of the hardware, the loader, and the restart of an activation or a fallback.
-/
namespace Sys2Proof.Machine

/-- R491: the registers that show PD0, the vault's directory in MRAM, or a log's header: they stand through a full
reset. -/
def keptFields : List Fld :=
  [R.PWR_RSTCAUSE_CAUSE, R.PWR_PFWST_PFCNT, R.PWR_PFWSEC_S, R.PWR_PFWNS_NS, R.LIFE_LSTATE_STATE, R.LIFE_LSTATE_PEND,
    R.LIFE_SEAL_CNT, R.LIFE_EPOCH_E, R.GV_VSTAT_TAMPER, R.GV_VSTAT_DIRSEQ, R.GV_TAMPST_MESHA, R.GV_TAMPST_MESHB,
    R.GV_TAMPST_COVER, R.GV_TAMPST_VBAT, R.GV_TAMPST_COUNT, R.BAR_LSTAT_FULL, R.BAR_LSTAT_NEAR, R.BAR_LSTAT_LDROP] ++
  (List.range 8).flatMap fun i => [R.GV_ANCINFO_LOADED i, R.GV_ANCINFO_CURVE i, R.GV_ANCCNT_CNT i, R.GV_ANCHASH_H i]

/-- A restart with the effect of a pin reset: power-on, pin, and the update restart (R429). -/
def pinReset (cause : Nat) : Bool := decide (cause < 2) || cause == 3

/-- The counts and causes that run since the last pin reset: a brown-out and an over-temperature restart keep them (log
entry 109). -/
def sincePin : List Fld :=
  [R.QM_ERR_CORR, R.QM_ERR_UNCORR, R.SWD_SERR_CODEERR, R.SWD_SERR_CRCERR, R.SWD_SERR_BREAKS, R.SWD_SRTX_RESENT,
    R.SWD_SRTX_SAFEDROP, R.TAG_TCNT_POLLS, R.TAG_TCNT_FOUND, R.TAG_TCNT_COLL, R.TAG_TERR_CRC, R.TAG_TERR_TIMEOUT,
    R.TAG_TERR_AUTHFAIL, R.TAG_TERR_COLLAPSE, R.BAR_HOLD_HOLDOVF, R.FOLD_FSTAT_SWCNT, R.FOLD_FSTAT_CAUSE] ++
  (List.range 16).flatMap (fun i => [R.QM_ENGSTAT_RELOADS i, R.LSW_LSCNT_OC i, R.LSW_LSCNT_SC i,
    R.LSW_LSCNT_THERM i, R.LSW_LSCNT_OL i]) ++
  (List.range 128).map R.BAR_CLASS_COUNT ++ (List.range 11).map R.QM_SLKMISS_COUNT ++ (List.range 2).flatMap (fun i => [R.NRG_PAIRSTAT_SWCNT i, R.NRG_PAIRSTAT_CAUSE i]) ++
  (List.range 8).flatMap (fun i => [R.FOLD_TRIPCNT_RC i, R.FOLD_TRIPCNT_ISO i, R.FOLD_TRIPCNT_WELD i,
    R.FOLD_TRIPCNT_KFB i, R.PLM_FRMCNT_TX i, R.PLM_FRMCNT_RX i, R.PLM_BLKCNT_SYM i, R.PLM_BLKCNT_FRM i, R.PLM_ERRCNT_BRTX i,
    R.PLM_ERRCNT_NOACK i, R.PLM_ERRCNT_RXFULL i, R.PLM_LINKCNT_LOSS i, R.PLM_LINKCNT_MATCH i]) ++
  (List.range 9).flatMap fun i => (List.range 12).flatMap fun j => [R.FLT_MODCNT_OVLCNT i j, R.FLT_MODCNT_RSTCNT i j,
    R.FLT_MODCNT_CODEERR i j]

/-- R263: the registers of OUT and their values in effect, which only a pin or a power-on reset returns. -/
def outRegs (a : Nat) : Bool :=
  decide (0x14000000 ≤ a ∧ a < 0x14008000) || decide (0x214000000 ≤ a ∧ a < 0x214008000)

/-- The shadows of update control (R437) and of the calibration record (R199), which stand in MRAM. -/
def updShadow (a : Nat) : Bool := decide (0x21C000000 ≤ a ∧ a < 0x21D000000)
def calShadow (a : Nat) : Bool :=
  decide (0x211000000 ≤ a ∧ a < 0x212000000) || decide (0x500000000 ≤ a ∧ a < 0x600000000)

/-- R491: the register file after a full reset; a part in SCRAPPED has no calibration record left (R409). -/
def keptRegs (pin scrapped : Bool) (m : SMap Nat) : SMap Nat :=
  m.filter fun e => updShadow (e.1 / 32) || (calShadow (e.1 / 32) && !scrapped) || (keptFields.any fun f => f.key == e.1) ||
    (!pin && (outRegs (e.1 / 32) || e.1 == R.FLT_IDX_N.key || sincePin.any fun f => f.key == e.1))

/-- R263, R492, R493: what a restart that keeps the registers of OUT does to an outlet: its contactors open, its pilot goes
to steady −12 V and its engine, once it runs, ends the session. -/
def cutOutlet (reason o : Nat) (s : State) : State :=
  wrs [(R.OUT_STATE_KSTATE o, 0), (R.OUT_STATE_HOLD o, 0), (R.OUT_DUTY_D o, 0), (R.OUT_DUTY_MODE o, 2),
    (R.OUT_DUTY_OFFER o, 0)] (modOs o (fun x => { x with cut := some reason }) s)

/-- R491: a full reset.  It keeps PD0, the fuses and MRAM, where the remaining time of a lock stands (R303); contactors
are de-energised by the driver cells (R492) and the pins stand as R493 states until the engines run.  Only a pin or a
power-on reset restarts the sample index (R143) and returns the registers of OUT (R263) and the counts since the last pin
reset (log entry 109). -/
def fullReset (cause : Nat) (s₀ : State) : State :=
  let s := saveLock s₀
  let r := { State.reset with
    pending := s.pending
    now := s.now
    freeCtr := s.freeCtr
    regs := keptRegs (pinReset cause) (isScrapped s) s.regs
    samp := { Samp.reset with started := s.samp.started && !(pinReset cause) }
    mram := s.mram
    calAct := s.calAct
    calPend := s.calPend
    bar := { s.bar with queued := [], held := [], lost := 0 }
    vault := { s.vault with keys := Vault.reset.keys, temps := Vault.reset.temps,
                            life := s.vault.life.map fun l => (8, l.2.1, l.2.2) }
    upd := { Upd.reset with slot := s.upd.slot, due := s.upd.due }
    net := { Net.reset with bkNs := s.net.bkNs, bkAt := s.net.bkAt, bkUtc := s.net.bkUtc }
    fold := { Fold.reset with pd1 := s.fold.pd1 }
    tag := { TagSt.reset with journal := s.tag.journal }
    pwr := { Pwr.reset with cause := cause, pfLatch := s.pwr.pfLatch, held := s.pwr.held || cause == 4 } }
  if pinReset cause then r else forEach outlets (cutOutlet (if cause = 4 then 7 else 15)) r

/-- R89, R493: TE0's memory or the queue pool has failed its check: the part stays in reset, its pins as in a full reset,
with PD0 and PD11 on, until a pin or power-on reset. -/
def stayInReset (cause : Nat) (s : State) : State :=
  wr R.PWR_PDSTAT_ON 0x801 (modPwr (fun p => { p with stuck := true, down := false }) (fullReset cause s))

/-- MEMORY_WIPE_COMPLETE (R88, R89): the engines of the scope may be loaded; a failing one stays STOPPED, and TE0's
memory or the queue pool failing holds the part in reset. -/
def execMemoryWipeComplete (scope : WipeScope) (fail : WipeFail) (micros : BitVec 16) (s : State) :
    Host.Outcome State Fault Refusal :=
  let due := match scope with
    | .engine e => engState e s == 1 && !(wipeRuns e s)
    | w => s.pwr.wipe == some w
  if !due then .next s
  else
    let shown (s : State) : State :=
      wrs [(R.QM_WIPE_DONE, 1), (R.QM_WIPE_FAILED, b2n (fail != WipeFail.none)), (R.QM_WIPE_DURATION, micros.toNat)] s
    let stay : State := shown (stayInReset (rd R.PWR_RSTCAUSE_CAUSE s) s)
    let s := shown s
    let s := if s.pwr.wipe == some scope then modPwr (fun p => { p with wipe := none }) s else s
    let s := forEach (scopeEngines scope) (fun e s => if engState e s = 1 then setEngState e 2 s else s) s
    match fail with
    | .none => .next s
    | .pool => .next stay
    | .engine e a =>
      if !((scopeEngines scope).contains e.val) then .next s
      else if e.val = 0 then .next stay
      else
        let s := logFault true 4 e 0x7F a.toNat (stopForGood e s)
        .next (if isPaired e then pairStart (pairIdx e) s else s)

/-- POWER_ON_RESET (R483, R490). -/
def execPowerOnReset (s : State) : Host.Outcome State Fault Refusal := .next (fullReset 0 s)

/-- PIN_RESET (R490): nRESET low for 10 µs. -/
def execPinReset (s : State) : Host.Outcome State Fault Refusal := .next (fullReset 1 s)

/-- BROWN_OUT_RESTART (R497): a warning has come and the supplies have been back for 100 ms. -/
def execBrownOutRestart (s : State) : Host.Outcome State Fault Refusal :=
  if s.pwr.down || s.pwr.stuck || !(warned s) then .next s else .next (fullReset 2 s)

/-- OVER_TEMPERATURE_RESET (R490). -/
def execOverTemperatureReset (s : State) : Host.Outcome State Fault Refusal :=
  if s.pwr.down || s.pwr.stuck then .next s else .next (fullReset 4 s)

/-- R454: the entries accepted and not written before the start are counted in LOST. -/
def logLost (s : State) : State :=
  let n := s.bar.pd0Unwritten
  if n = 0 then s else ownEntry 0x2A [n] (modBar (fun b => { b with pd0Unwritten := 0 }) s)

/-- R347: the local clock is loaded from the backup clock, with RATE 0, and is INVALID. -/
def loadClock (s : State) : State :=
  let ns := s.net.bkNs + (s.now - s.net.bkAt) * 1000
  setUtc s.net.bkUtc { s with clock := ns * 2 ^ 40 % clockMod }

/-- START (R82 step 1, R347, R362, R454, R484, R487, R489): crystal and fuses, the domains in turn, the module's
position, and the wipe. -/
def execStart (swid : Fin 8) (s : State) : Host.Outcome State Fault Refusal :=
  if !s.pwr.down || s.pwr.held then .next s
  else
    let s := wrs [(R.PWR_RSTCAUSE_CAUSE, s.pwr.cause), (R.PWR_PDSTAT_ON, 0xFFF), (R.PWR_CORE_VCOK, 1),
      (R.SWD_SSTAT_POS, swid.val)] s
    let s := modPwr (fun p => { p with down := false, wipe := some .full }) s
    let s := forEach engs16 (fun e => setEngState e 1) s
    .next (showJ (showLogs (logLost (loadClock s))))

/-! ### The loader (R82, R437) -/

/-- R199, R298: the calibration record is restored: the values as applied become the register values, and the Fold's PD1
copy follows. -/
def restoreCal (s : State) : State :=
  let up := s.regs.filter fun e => calShadow (e.1 / 32)
  forEach outlets writePd1
    { s with regs := up.foldl (fun m e => SMap.ins (SMap.drop m (e.1 - 0x200000000 * 32)) (e.1 - 0x200000000 * 32) e.2) s.regs }

def regions : List Nat := [1, 2, 3, 4, 5]

/-- R421, R423, R437: TE0's program: the supervisor image, and the billing module in the upper 128 KiB. -/
def loadTe0 (billing : Bool) (s : State) : State :=
  let sup := (sectWords 1 0 s).take 0x18000
  let mod := if billing then (sectWords 3 0 s).take 0x8000 else []
  modEng 0 (fun x => { x with pmem := SMap.putN 0 (SMap.cells 0 0 sup) 0x18000 mod }) s

/-- R437: the engines that are still to be loaded are left in a state; those left STOPPED are not loaded again. -/
def leaveEngines (l : List Nat) (st : Nat) (s : State) : State :=
  forEach l (fun e s => if engState e s ≠ 2 then s else if st = 5 then stopForGood e s else setEngState e st s) s

/-- R437: a region that fails outside a trial leaves its engines STOPPED. -/
def leaveStopped (r : Nat) (bad : Bool) (s : State) : State :=
  if !bad then s
  else logFault true 0 0xFF 0x7F 0 (leaveEngines ((regEngines r).filter fun e => e != 15) 5 s)

/-- R437: recovery mode: TE0 runs the loader, and no other engine is started. -/
def enterRecovery (full : Bool) (s : State) : State :=
  let s := showLegal (wr R.UPD_LDRSTAT_MODE 1 (leaveEngines (engs16.drop 1) 0 s))
  beginEng 0 3 (whenS full (planQueues shippedPlan) s)

/-- R82 steps 2 and 3: TE0 runs the supervisor image; what has waited for it goes on. -/
def startTe0 (full : Bool) (s : State) : State :=
  let bad2 := !(imageOk 2 (fun _ => true) s)
  let bad3 := !(imageOk 3 (fun _ => true) s)
  let s := modUpd (fun u => { u with bad := [false, bad2, bad3, u.bad.getD 3 false, u.bad.getD 4 false] }) s
  let s := leaveStopped 3 bad3 (leaveStopped 2 bad2 s)
  let s := whenS (isScrapped s) (leaveEngines [1, 2, 3, 4, 5, 6, 7, 8, 13, 14] 0) s
  let s := beginEng 0 3 (logLoaded 0 (loadTe0 (!bad3) s))
  let s := showLegal (whenS full (planQueues (imagePlan s)) s)
  coreReplay (te0GoesOn s)

/-- LOADER_START (R82 step 2, R424, R430, R433, R437, R440): the loader reads update control, makes the fallbacks that
are due, verifies, and loads TE0 or enters recovery mode. -/
def execLoaderStart (s : State) : Host.Outcome State Fault Refusal :=
  if engState 0 s != 2 || s.pwr.stuck then .next s
  else
    let full := decide (rd R.PWR_RSTCAUSE_CAUSE s < 5)
    let counted := !s.pwr.pfLatch
    let s := showUpd (whenS full restoreCal s)
    let s := forEach regions verifyTrial (forEach regions (bootTrial full counted) s)
    let s := modPwr (fun p => { p with pfLatch := false }) (forEach regions loaderRestore s)
    if !(imageOk 1 (fun _ => true) s) || !(imageOk 2 (planBlock s) s) then .next (enterRecovery full s)
    else .next (startTe0 full s)

/-- R429 steps 3 to 6, R433, R437: the pairs save and TE0 writes the slot, which recovery mode skips; update control takes
the new state of the regions in `m` and of those that fall back; the recorder writes its entries; and the part restarts. -/
def restartWith (m : Nat) (s : State) : State :=
  let s := if recovery s then s else saveBilling (forEach outlets powerSummary s)
  let s := forEach (maskRegions s.upd.fbWait) (fun r => setUs r usFALLBACK) (forEach (maskRegions m) putInForce s)
  fullReset 3 (flushLogs s)

/-- ACTIVATION_RESTART (R429, R433): after the acknowledgement of an UPD_ACTIVATE, or once the sessions of a fallback
have ended. -/
def execActivationRestart (s : State) : Host.Outcome State Fault Refusal :=
  let ready := match s.upd.act with
    | some _ => activationAcked s
    | none => s.upd.fbWait != 0 && !(outlets.any fun o => inSession o s)
  if te0Up s && ready then .next (restartWith (s.upd.act.getD 0) s) else .next s

end Sys2Proof.Machine
end

