-- ==== Sys2Proof/Machine/Dispatch.lean ====
section
/-!
DEFINITION. The dispatch: one arm per command of the table.
-/
namespace Sys2Proof.Machine

def exec (i : Instr) (s : State) : Host.Outcome State Fault Refusal :=
  match i with
  -- Treltor instructions (R41 to R78): e is the issuing engine, g the guard, d, a, b the fields of R54
  | .nop e g => Sys2Proof.Machine.execNop e g s
  | .invalidEncoding e w => Sys2Proof.Machine.execInvalidEncoding e w s
  | .add e g d a b => Sys2Proof.Machine.execAdd e g d a b s
  | .sub e g d a b => Sys2Proof.Machine.execSub e g d a b s
  | .addw e g d a b => Sys2Proof.Machine.execAddw e g d a b s
  | .subw e g d a b => Sys2Proof.Machine.execSubw e g d a b s
  | .addc e g d a b => Sys2Proof.Machine.execAddc e g d a b s
  | .subb e g d a b => Sys2Proof.Machine.execSubb e g d a b s
  | .neg e g d a => Sys2Proof.Machine.execNeg e g d a s
  | .abs e g d a => Sys2Proof.Machine.execAbs e g d a s
  | .min e g d a b => Sys2Proof.Machine.execMin e g d a b s
  | .max e g d a b => Sys2Proof.Machine.execMax e g d a b s
  | .mov e g d a => Sys2Proof.Machine.execMov e g d a s
  | .and e g d a b => Sys2Proof.Machine.execAnd e g d a b s
  | .or e g d a b => Sys2Proof.Machine.execOr e g d a b s
  | .xor e g d a b => Sys2Proof.Machine.execXor e g d a b s
  | .not e g d a => Sys2Proof.Machine.execNot e g d a s
  | .shl e g d a b => Sys2Proof.Machine.execShl e g d a b s
  | .shr e g d a b => Sys2Proof.Machine.execShr e g d a b s
  | .sar e g d a b => Sys2Proof.Machine.execSar e g d a b s
  | .shls e g d a b => Sys2Proof.Machine.execShls e g d a b s
  | .norm e g d a => Sys2Proof.Machine.execNorm e g d a s
  | .cmpeq e g d a b => Sys2Proof.Machine.execCmpeq e g d a b s
  | .cmplt e g d a b => Sys2Proof.Machine.execCmplt e g d a b s
  | .cmpltu e g d a b => Sys2Proof.Machine.execCmpltu e g d a b s
  | .cmple e g d a b => Sys2Proof.Machine.execCmple e g d a b s
  | .pand e g d a b => Sys2Proof.Machine.execPand e g d a b s
  | .por e g d a b => Sys2Proof.Machine.execPor e g d a b s
  | .pxor e g d a b => Sys2Proof.Machine.execPxor e g d a b s
  | .movgx e g d a => Sys2Proof.Machine.execMovgx e g d a s
  | .movxg e g d a => Sys2Proof.Machine.execMovxg e g d a s
  | .addxr e g d a b => Sys2Proof.Machine.execAddxr e g d a b s
  | .addi e d a imm => Sys2Proof.Machine.execAddi e d a imm s
  | .andi e d a imm => Sys2Proof.Machine.execAndi e d a imm s
  | .ori e d a imm => Sys2Proof.Machine.execOri e d a imm s
  | .xori e d a imm => Sys2Proof.Machine.execXori e d a imm s
  | .shli e d a amt => Sys2Proof.Machine.execShli e d a amt s
  | .shri e d a amt => Sys2Proof.Machine.execShri e d a amt s
  | .sari e d a amt => Sys2Proof.Machine.execSari e d a amt s
  | .shlsi e d a amt => Sys2Proof.Machine.execShlsi e d a amt s
  | .ldi e d imm => Sys2Proof.Machine.execLdi e d imm s
  | .insh e d a imm => Sys2Proof.Machine.execInsh e d a imm s
  | .cmpeqi e d a imm => Sys2Proof.Machine.execCmpeqi e d a imm s
  | .cmplti e d a imm => Sys2Proof.Machine.execCmplti e d a imm s
  | .cmpltui e d a imm => Sys2Proof.Machine.execCmpltui e d a imm s
  | .addxi e d a imm => Sys2Proof.Machine.execAddxi e d a imm s
  | .ldxi e d imm => Sys2Proof.Machine.execLdxi e d imm s
  | .mpy e g d a b => Sys2Proof.Machine.execMpy e g d a b s
  | .mac e g d a b => Sys2Proof.Machine.execMac e g d a b s
  | .msu e g d a b => Sys2Proof.Machine.execMsu e g d a b s
  | .mpyi e g d a b => Sys2Proof.Machine.execMpyi e g d a b s
  | .maci e g d a b => Sys2Proof.Machine.execMaci e g d a b s
  | .mpyuu e g d a b => Sys2Proof.Machine.execMpyuu e g d a b s
  | .macuu e g d a b => Sys2Proof.Machine.execMacuu e g d a b s
  | .mpysu e g d a b => Sys2Proof.Machine.execMpysu e g d a b s
  | .macsu e g d a b => Sys2Proof.Machine.execMacsu e g d a b s
  | .clra e g d => Sys2Proof.Machine.execClra e g d s
  | .adda e g d => Sys2Proof.Machine.execAdda e g d s
  | .suba e g d => Sys2Proof.Machine.execSuba e g d s
  | .ldah e g d a => Sys2Proof.Machine.execLdah e g d a s
  | .shla e g d b => Sys2Proof.Machine.execShla e g d b s
  | .sara e g d b => Sys2Proof.Machine.execSara e g d b s
  | .movah e g d a => Sys2Proof.Machine.execMovah e g d a s
  | .movam e g d a => Sys2Proof.Machine.execMovam e g d a s
  | .moval e g d a => Sys2Proof.Machine.execMoval e g d a s
  | .movag e g d a => Sys2Proof.Machine.execMovag e g d a s
  | .putam e g d a => Sys2Proof.Machine.execPutam e g d a s
  | .putal e g d a => Sys2Proof.Machine.execPutal e g d a s
  | .putag e g d a => Sys2Proof.Machine.execPutag e g d a s
  | .mpyr e g d a b => Sys2Proof.Machine.execMpyr e g d a b s
  | .ld e d post x off => Sys2Proof.Machine.execLd e d post x off s
  | .st e d post x off => Sys2Proof.Machine.execSt e d post x off s
  | .ldx e d post x off => Sys2Proof.Machine.execLdx e d post x off s
  | .stx e d post x off => Sys2Proof.Machine.execStx e d post x off s
  | .b e cond off => Sys2Proof.Machine.execB e cond off s
  | .call e target => Sys2Proof.Machine.execCall e target s
  | .jmp e target => Sys2Proof.Machine.execJmp e target s
  | .ret e g => Sys2Proof.Machine.execRet e g s
  | .rte e g => Sys2Proof.Machine.execRte e g s
  | .jr e g a => Sys2Proof.Machine.execJr e g a s
  | .callr e g a => Sys2Proof.Machine.execCallr e g a s
  | .trap e g n => Sys2Proof.Machine.execTrap e g n s
  | .halt e g => Sys2Proof.Machine.execHalt e g s
  | .wait e g d a => Sys2Proof.Machine.execWait e g d a s
  | .waitWake e => Sys2Proof.Machine.execWaitWake e s
  | .clrev e g a => Sys2Proof.Machine.execClrev e g a s
  | .mrs e g d sr => Sys2Proof.Machine.execMrs e g d sr s
  | .msr e g d sr => Sys2Proof.Machine.execMsr e g d sr s
  | .qpush e q h w0 w1 => Sys2Proof.Machine.execQpush e q h w0 w1 s
  | .qpop e q h w0 w1 => Sys2Proof.Machine.execQpop e q h w0 w1 s
  | .qpeek e q h w0 w1 => Sys2Proof.Machine.execQpeek e q h w0 w1 s
  | .qstat e q h => Sys2Proof.Machine.execQstat e q h s
  | .qpushn e q h w0 w1 p => Sys2Proof.Machine.execQpushn e q h w0 w1 p s
  | .qpopn e q h w0 w1 p => Sys2Proof.Machine.execQpopn e q h w0 w1 p s
  | .fence e => Sys2Proof.Machine.execFence e s
  | .blockedQueueOpComplete e => Sys2Proof.Machine.execBlockedQueueOpComplete e s
  | .qtimeout e => Sys2Proof.Machine.execQtimeout e s
  | .timerExpiry e t => Sys2Proof.Machine.execTimerExpiry e t s
  -- Engines, pairs and the queue fabric (R79 to R114, R185 to R190)
  | .memberGiveUp e cause => Sys2Proof.Machine.execMemberGiveUp e cause s
  | .standbyTakeover p => Sys2Proof.Machine.execStandbyTakeover p s
  | .stateCheckSweep e => Sys2Proof.Machine.execStateCheckSweep e s
  | .pairFault p => Sys2Proof.Machine.execPairFault p s
  | .memberRejoin e imageOk testOk => Sys2Proof.Machine.execMemberRejoin e imageOk testOk s
  | .rejoinSync e => Sys2Proof.Machine.execRejoinSync e s
  | .engineReload e => Sys2Proof.Machine.execEngineReload e s
  | .engineLoad e words crc => Sys2Proof.Machine.execEngineLoad e words crc s
  | .engineLoadComplete e => Sys2Proof.Machine.execEngineLoadComplete e s
  | .memoryWipeComplete scope fail micros => Sys2Proof.Machine.execMemoryWipeComplete scope fail micros s
  | .supervisorReset watchdog => Sys2Proof.Machine.execSupervisorReset watchdog s
  | .te0WatchdogExpiry => Sys2Proof.Machine.execTe0WatchdogExpiry s
  | .wdtRetrigger => Sys2Proof.Machine.execWdtRetrigger s
  | .withdrawnCompletionEntry q => Sys2Proof.Machine.execWithdrawnCompletionEntry q s
  | .poolUncorrectableError q idx => Sys2Proof.Machine.execPoolUncorrectableError q idx s
  | .qpushh q v => Sys2Proof.Machine.execQpushh q v s
  | .qpoph q => Sys2Proof.Machine.execQpoph q s
  | .qack q v => Sys2Proof.Machine.execQack q v s
  | .qreplay v => Sys2Proof.Machine.execQreplay v s
  | .doorbell v => Sys2Proof.Machine.execDoorbell v s
  | .slkclr sn v => Sys2Proof.Machine.execSlkclr sn v s
  -- Sampling and decimation chain (R115 to R158): o = 8 names the supply channels S0 to S3
  | .stageDeadlineMiss sn o c => Sys2Proof.Machine.execStageDeadlineMiss sn o c s
  | .modCodeError o c code => Sys2Proof.Machine.execModCodeError o c code s
  | .modulatorReset o c => Sys2Proof.Machine.execModulatorReset o c s
  | .frame codes => Sys2Proof.Machine.execFrame codes s
  | .fastSubsample o aux sub codes => Sys2Proof.Machine.execFastSubsample o aux sub codes s
  | .spliceBlock o c => Sys2Proof.Machine.execSpliceBlock o c s
  | .detectorWindowEnd o c => Sys2Proof.Machine.execDetectorWindowEnd o c s
  | .responseSwitch o c => Sys2Proof.Machine.execResponseSwitch o c s
  | .crossfadeEnd o c => Sys2Proof.Machine.execCrossfadeEnd o c s
  | .rateSwitch o c => Sys2Proof.Machine.execRateSwitch o c s
  | .presetSwitch o aux => Sys2Proof.Machine.execPresetSwitch o aux s
  | .setResponse n w0 w1 => Sys2Proof.Machine.execSetResponse n w0 w1 s
  | .setRate n w0 w1 => Sys2Proof.Machine.execSetRate n w0 w1 s
  | .setCompanion n w0 w1 => Sys2Proof.Machine.execSetCompanion n w0 w1 s
  | .setDetect n w0 w1 cw0 cw1 => Sys2Proof.Machine.execSetDetect n w0 w1 cw0 cw1 s
  | .setEnable n w0 w1 => Sys2Proof.Machine.execSetEnable n w0 w1 s
  | .setSplice n w0 w1 => Sys2Proof.Machine.execSetSplice n w0 w1 s
  | .setPreset n w0 w1 => Sys2Proof.Machine.execSetPreset n w0 w1 s
  -- Energy computation and calibration (R159 to R201)
  | .frameBilling o => Sys2Proof.Machine.execFrameBilling o s
  | .tempReading o t => Sys2Proof.Machine.execTempReading o t s
  | .bandChange o => Sys2Proof.Machine.execBandChange o s
  | .live o => Sys2Proof.Machine.execLive o s
  | .summary o vectorOk => Sys2Proof.Machine.execSummary o vectorOk s
  | .calApply n w0 w1 => Sys2Proof.Machine.execCalApply n w0 w1 s
  | .chTest n w0 w1 => Sys2Proof.Machine.execChTest n w0 w1 s
  | .chTestEnd o c gainErr ratioErr => Sys2Proof.Machine.execChTestEnd o c gainErr ratioErr s
  | .pairStandby n w0 w1 => Sys2Proof.Machine.execPairStandby n w0 w1 s
  | .restore o => Sys2Proof.Machine.execRestore o s
  -- Legal registers, tariffs and signed readings (R202 to R243)
  | .summaryApply => Sys2Proof.Machine.execSummaryApply s
  | .powerfailSummaryApply => Sys2Proof.Machine.execPowerfailSummaryApply s
  | .billingRestart => Sys2Proof.Machine.execBillingRestart s
  | .readSigned n w0 w1 => Sys2Proof.Machine.execReadSigned n w0 w1 s
  | .sessionOpen n w0 w1 conts => Sys2Proof.Machine.execSessionOpen n w0 w1 conts s
  | .sessionClose n w0 w1 => Sys2Proof.Machine.execSessionClose n w0 w1 s
  | .calendarLoad n w0 w1 => Sys2Proof.Machine.execCalendarLoad n w0 w1 s
  | .clockAuth n w0 w1 => Sys2Proof.Machine.execClockAuth n w0 w1 s
  | .mdReset n w0 w1 => Sys2Proof.Machine.execMdReset n w0 w1 s
  | .creditStop o => Sys2Proof.Machine.execCreditStop o s
  -- Outlet control and charging sessions (R244 to R269)
  | .pilotStateChange o m1 m2 m3 => Sys2Proof.Machine.execPilotStateChange o m1 m2 m3 s
  | .ppChange o r => Sys2Proof.Machine.execPpChange o r s
  | .generatorFault o => Sys2Proof.Machine.execGeneratorFault o s
  | .outService n w0 w1 => Sys2Proof.Machine.execOutService n w0 w1 s
  | .pilotCheckEnd o => Sys2Proof.Machine.execPilotCheckEnd o s
  | .outAuthorise n w0 w1 => Sys2Proof.Machine.execOutAuthorise n w0 w1 s
  | .outLimit n w0 w1 => Sys2Proof.Machine.execOutLimit n w0 w1 s
  | .outStop n w0 w1 => Sys2Proof.Machine.execOutStop n w0 w1 s
  | .outApply n w0 w1 => Sys2Proof.Machine.execOutApply n w0 w1 s
  | .outEnergise n w0 w1 => Sys2Proof.Machine.execOutEnergise n w0 w1 s
  | .rampdown o reason => Sys2Proof.Machine.execRampdown o reason s
  | .rampdownTimeout o => Sys2Proof.Machine.execRampdownTimeout o s
  | .slacTimeout o => Sys2Proof.Machine.execSlacTimeout o s
  | .holdWindowExpiry o => Sys2Proof.Machine.execHoldWindowExpiry o s
  | .holdResume o => Sys2Proof.Machine.execHoldResume o s
  -- Powerline modem on the pilot line (R270 to R295)
  | .plmDataTx w0 w1 conts => Sys2Proof.Machine.execPlmDataTx w0 w1 conts s
  | .plmTxDone m mpdus sent => Sys2Proof.Machine.execPlmTxDone m mpdus sent s
  | .plmDataRx m bytes line => Sys2Proof.Machine.execPlmDataRx m bytes line s
  | .mmeTx o w0 w1 conts => Sys2Proof.Machine.execMmeTx o w0 w1 conts s
  | .mmeRx o bytes line => Sys2Proof.Machine.execMmeRx o bytes line s
  | .attenStart o w0 w1 conts => Sys2Proof.Machine.execAttenStart o w0 w1 conts s
  | .soundReceived o addr groups => Sys2Proof.Machine.execSoundReceived o addr groups s
  | .attenWindowEnd o => Sys2Proof.Machine.execAttenWindowEnd o s
  | .linkSet o w0 w1 => Sys2Proof.Machine.execLinkSet o w0 w1 s
  | .peerAssociated o mac => Sys2Proof.Machine.execPeerAssociated o mac s
  | .joinTimeout o => Sys2Proof.Machine.execJoinTimeout o s
  | .linkLoss o => Sys2Proof.Machine.execLinkLoss o s
  | .modemFault o => Sys2Proof.Machine.execModemFault o s
  | .beacon o => Sys2Proof.Machine.execBeacon o s
  | .referenceLost o => Sys2Proof.Machine.execReferenceLost o s
  | .plmApply n w0 w1 => Sys2Proof.Machine.execPlmApply n w0 w1 s
  | .plmEnable n w0 w1 => Sys2Proof.Machine.execPlmEnable n w0 w1 s
  | .plmTest n w0 w1 => Sys2Proof.Machine.execPlmTest n w0 w1 s
  | .plmTestEnd o snr psd impulse => Sys2Proof.Machine.execPlmTestEnd o snr psd impulse s
  -- The Fold safety island (R296 to R344)
  | .estopChange chB closed => Sys2Proof.Machine.execEstopChange chB closed s
  | .estopDiscrepancy => Sys2Proof.Machine.execEstopDiscrepancy s
  | .doorChange chB closed => Sys2Proof.Machine.execDoorChange chB closed s
  | .doorDiscrepancy => Sys2Proof.Machine.execDoorDiscrepancy s
  | .foldWatchdogExpiry m => Sys2Proof.Machine.execFoldWatchdogExpiry m s
  | .pd1WindowLoss => Sys2Proof.Machine.execPd1WindowLoss s
  | .foldMemberFail m cause => Sys2Proof.Machine.execFoldMemberFail m cause s
  | .foldPairFault => Sys2Proof.Machine.execFoldPairFault s
  | .foldPathCompare => Sys2Proof.Machine.execFoldPathCompare s
  | .kClose o w0 w1 conts => Sys2Proof.Machine.execKClose o w0 w1 conts s
  | .closeFire o => Sys2Proof.Machine.execCloseFire o s
  | .kfbChange o isOpen => Sys2Proof.Machine.execKfbChange o isOpen s
  | .closeTimeout o => Sys2Proof.Machine.execCloseTimeout o s
  | .weldTimeout o => Sys2Proof.Machine.execWeldTimeout o s
  | .postOpenCheckTimeout o => Sys2Proof.Machine.execPostOpenCheckTimeout o s
  | .kOpen o w0 w1 => Sys2Proof.Machine.execKOpen o w0 w1 s
  | .holdEnd o w0 w1 => Sys2Proof.Machine.execHoldEnd o w0 w1 s
  | .pstageSet o w0 w1 => Sys2Proof.Machine.execPstageSet o w0 w1 s
  | .safeCfgLoad te0 w0 w1 => Sys2Proof.Machine.execSafeCfgLoad te0 w0 w1 s
  | .safeCfgCommit te0 w0 w1 conts => Sys2Proof.Machine.execSafeCfgCommit te0 w0 w1 conts s
  | .cfgCommitDeferred => Sys2Proof.Machine.execCfgCommitDeferred s
  | .safePwd te0 w0 w1 => Sys2Proof.Machine.execSafePwd te0 w0 w1 s
  | .pwdLockExpiry => Sys2Proof.Machine.execPwdLockExpiry s
  | .foldReset te0 w0 w1 => Sys2Proof.Machine.execFoldReset te0 w0 w1 s
  | .foldStandby te0 w0 w1 => Sys2Proof.Machine.execFoldStandby te0 w0 w1 s
  | .rcTest te0 w0 w1 => Sys2Proof.Machine.execRcTest te0 w0 w1 s
  | .rcSample o => Sys2Proof.Machine.execRcSample o s
  | .rcSelftestStart o => Sys2Proof.Machine.execRcSelftestStart o s
  | .rcSelftestEnd o => Sys2Proof.Machine.execRcSelftestEnd o s
  | .exciterFault o => Sys2Proof.Machine.execExciterFault o s
  | .insStep o => Sys2Proof.Machine.execInsStep o s
  | .foldOpenDeadline o => Sys2Proof.Machine.execFoldOpenDeadline o s
  | .sframeTx c => Sys2Proof.Machine.execSframeTx c s
  | .sframeIn host w0 w1 bytes => Sys2Proof.Machine.execSframeIn host w0 w1 bytes s
  | .connectionWatchdog c => Sys2Proof.Machine.execConnectionWatchdog c s
  -- Network time, Ethernet and the Sward link (R345 to R374)
  | .ptpSync sn src seq twoStep t1 corr ts => Sys2Proof.Machine.execPtpSync sn src seq twoStep t1 corr ts s
  | .ptpFollowUp sn src seq t1 => Sys2Proof.Machine.execPtpFollowUp sn src seq t1 s
  | .ptpAnnounce sn src gm rank utc utcValid leap59 leap61 ptpScale => Sys2Proof.Machine.execPtpAnnounce sn src gm rank utc utcValid leap59 leap61 ptpScale s
  | .delayReqTx sn => Sys2Proof.Machine.execDelayReqTx sn s
  | .ptpDelayResp sn src seq t4 corr interval => Sys2Proof.Machine.execPtpDelayResp sn src seq t4 corr interval s
  | .pdelayReqTx p => Sys2Proof.Machine.execPdelayReqTx p s
  | .ptpPdelayReq p => Sys2Proof.Machine.execPtpPdelayReq p s
  | .ptpPdelayResp p seq t2 t3 corr => Sys2Proof.Machine.execPtpPdelayResp p seq t2 t3 corr s
  | .slotLost sn => Sys2Proof.Machine.execSlotLost sn s
  | .holdtimeExpiry => Sys2Proof.Machine.execHoldtimeExpiry s
  | .backupClockUpdate => Sys2Proof.Machine.execBackupClockUpdate s
  | .ethFrameRx p bytes fcsOk => Sys2Proof.Machine.execEthFrameRx p bytes fcsOk s
  | .htxptrWrite v => Sys2Proof.Machine.execHtxptrWrite v s
  | .ethFrameTxDone => Sys2Proof.Machine.execEthFrameTxDone s
  | .swardLinkUp lane => Sys2Proof.Machine.execSwardLinkUp lane s
  | .swardLinkDown loss => Sys2Proof.Machine.execSwardLinkDown loss s
  | .unwrap => Sys2Proof.Machine.execUnwrap s
  | .qmsg lane bytes => Sys2Proof.Machine.execQmsg lane bytes s
  | .safe lane bytes => Sys2Proof.Machine.execSafe lane bytes s
  | .ack lane bytes => Sys2Proof.Machine.execAck lane bytes s
  | .swardResendTimeout dest safeClass => Sys2Proof.Machine.execSwardResendTimeout dest safeClass s
  | .topo lane pos wrap body => Sys2Proof.Machine.execTopo lane pos wrap body s
  | .topoTx => Sys2Proof.Machine.execTopoTx s
  | .positionLost pos => Sys2Proof.Machine.execPositionLost pos s
  | .time lane bytes residence => Sys2Proof.Machine.execTime lane bytes residence s
  | .timeTx => Sys2Proof.Machine.execTimeTx s
  | .timex lane bytes => Sys2Proof.Machine.execTimex lane bytes s
  | .delay lane t1 t2 t3 t4 => Sys2Proof.Machine.execDelay lane t1 t2 t3 t4 s
  -- Contactless reader (R375 to R391)
  | .poll typeA typeB slots => Sys2Proof.Machine.execPoll typeA typeB slots s
  | .presenceCheck reply => Sys2Proof.Machine.execPresenceCheck reply s
  | .guardEnd => Sys2Proof.Machine.execGuardEnd s
  | .tagApply n w0 w1 => Sys2Proof.Machine.execTagApply n w0 w1 s
  | .tagEnable n w0 w1 => Sys2Proof.Machine.execTagEnable n w0 w1 s
  | .tagTest n w0 w1 => Sys2Proof.Machine.execTagTest n w0 w1 s
  | .tagTestEnd currentOk receiveOk => Sys2Proof.Machine.execTagTestEnd currentOk receiveOk s
  | .tagAuth n w0 w1 conts card => Sys2Proof.Machine.execTagAuth n w0 w1 conts card s
  | .tagCreditRead n w0 w1 conts => Sys2Proof.Machine.execTagCreditRead n w0 w1 conts s
  | .tagCreditWrite n w0 w1 conts reach => Sys2Proof.Machine.execTagCreditWrite n w0 w1 conts reach s
  | .tagRelease n w0 w1 conts => Sys2Proof.Machine.execTagRelease n w0 w1 conts s
  | .tagStep slot token => Sys2Proof.Machine.execTagStep slot token s
  -- Gorse vault, lifecycle and check-value units (R392 to R420)
  | .vaultKeyLoad n w0 w1 => Sys2Proof.Machine.execVaultKeyLoad n w0 w1 s
  | .vaultAnchorLoad n w0 w1 => Sys2Proof.Machine.execVaultAnchorLoad n w0 w1 s
  | .lifeChange n w0 w1 => Sys2Proof.Machine.execLifeChange n w0 w1 s
  | .lifeWipeDone => Sys2Proof.Machine.execLifeWipeDone s
  | .tamperClear n w0 w1 => Sys2Proof.Machine.execTamperClear n w0 w1 s
  | .vaultGenerate n w0 w1 => Sys2Proof.Machine.execVaultGenerate n w0 w1 s
  | .signReading body => Sys2Proof.Machine.execSignReading body s
  | .verifyAuth auth => Sys2Proof.Machine.execVerifyAuth auth s
  | .blobLoad w0 w1 => Sys2Proof.Machine.execBlobLoad w0 w1 s
  | .verifyImage w0 w1 => Sys2Proof.Machine.execVerifyImage w0 w1 s
  | .tamperEvent src => Sys2Proof.Machine.execTamperEvent src s
  | .drbgHealthFail => Sys2Proof.Machine.execDrbgHealthFail s
  | .ckLoad u v => Sys2Proof.Machine.execCkLoad u v s
  | .ckdata u v => Sys2Proof.Machine.execCkdata u v s
  | .ckdatab u v => Sys2Proof.Machine.execCkdatab u v s
  | .ckvalloRead u => Sys2Proof.Machine.execCkvalloRead u s
  | .ckresloRead u => Sys2Proof.Machine.execCkresloRead u s
  | .clksecloRead => Sys2Proof.Machine.execClksecloRead s
  -- Firmware update and fallback (R421 to R443)
  | .updBegin n w0 w1 => Sys2Proof.Machine.execUpdBegin n w0 w1 s
  | .updBlock n w0 w1 => Sys2Proof.Machine.execUpdBlock n w0 w1 s
  | .updActivate n w0 w1 => Sys2Proof.Machine.execUpdActivate n w0 w1 s
  | .activationRestart => Sys2Proof.Machine.execActivationRestart s
  | .updFallback n w0 w1 => Sys2Proof.Machine.execUpdFallback n w0 w1 s
  | .updConfirm v => Sys2Proof.Machine.execUpdConfirm v s
  | .updReqfb v => Sys2Proof.Machine.execUpdReqfb v s
  | .trialWindowExpiry r => Sys2Proof.Machine.execTrialWindowExpiry r s
  | .loaderStart => Sys2Proof.Machine.execLoaderStart s
  | .settingsMigration r converted => Sys2Proof.Machine.execSettingsMigration r converted s
  -- Barrow event recorder (R444 to R458)
  | .logTrigger src w0 w1 conts => Sys2Proof.Machine.execLogTrigger src w0 w1 conts s
  | .logEntryWrite => Sys2Proof.Machine.execLogEntryWrite s
  | .logRead w0 w1 conts => Sys2Proof.Machine.execLogRead w0 w1 conts s
  | .logClear n w0 w1 => Sys2Proof.Machine.execLogClear n w0 w1 s
  | .freezeOn v => Sys2Proof.Machine.execFreezeOn v s
  | .freezeOff v => Sys2Proof.Machine.execFreezeOff v s
  | .freezeTimeout => Sys2Proof.Machine.execFreezeTimeout s
  | .headerRebuild general => Sys2Proof.Machine.execHeaderRebuild general s
  -- Legal display driver (R459 to R468)
  | .lcdTagWrite page outlet => Sys2Proof.Machine.execLcdTagWrite page outlet s
  | .lcdExpWrite => Sys2Proof.Machine.execLcdExpWrite s
  | .lcdFrameStart => Sys2Proof.Machine.execLcdFrameStart s
  | .lcdTagTimeout => Sys2Proof.Machine.execLcdTagTimeout s
  | .pageDwell => Sys2Proof.Machine.execPageDwell s
  -- Protected load switches (R469 to R480)
  | .lsOn c v => Sys2Proof.Machine.execLsOn c v s
  | .lsClear c v => Sys2Proof.Machine.execLsClear c v s
  | .lsTest c v => Sys2Proof.Machine.execLsTest c v s
  | .lsTestEnd c isOpen shortGnd shortVls responds => Sys2Proof.Machine.execLsTestEnd c isOpen shortGnd shortVls responds s
  | .lsShortCircuit c idx => Sys2Proof.Machine.execLsShortCircuit c idx s
  | .lsOvercurrent c idx => Sys2Proof.Machine.execLsOvercurrent c idx s
  | .lsThermal c temp => Sys2Proof.Machine.execLsThermal c temp s
  | .lsUndervoltage vls => Sys2Proof.Machine.execLsUndervoltage vls s
  | .vlsDroop vls => Sys2Proof.Machine.execVlsDroop vls s
  | .blankEnd c => Sys2Proof.Machine.execBlankEnd c s
  | .openLoad c idx => Sys2Proof.Machine.execOpenLoad c idx s
  | .lsRetry c => Sys2Proof.Machine.execLsRetry c s
  | .groupShed isum pdiss => Sys2Proof.Machine.execGroupShed isum pdiss s
  -- Power, reset and the host port (R481 to R512)
  | .pwrDomain n w0 w1 => Sys2Proof.Machine.execPwrDomain n w0 w1 s
  | .pwrCore n w0 w1 => Sys2Proof.Machine.execPwrCore n w0 w1 s
  | .vcokConfirm => Sys2Proof.Machine.execVcokConfirm s
  | .coreChangeTimeout => Sys2Proof.Machine.execCoreChangeTimeout s
  | .vcokLost => Sys2Proof.Machine.execVcokLost s
  | .powerFailWarning pin vsys => Sys2Proof.Machine.execPowerFailWarning pin vsys s
  | .brownOutRestart => Sys2Proof.Machine.execBrownOutRestart s
  | .powerOnReset => Sys2Proof.Machine.execPowerOnReset s
  | .pinReset => Sys2Proof.Machine.execPinReset s
  | .overTemperatureReset => Sys2Proof.Machine.execOverTemperatureReset s
  | .start swid => Sys2Proof.Machine.execStart swid s
  | .junctionAbove125 cdie adie pdie => Sys2Proof.Machine.execJunctionAbove125 cdie adie pdie s
  | .junctionAbove135 cdie adie pdie => Sys2Proof.Machine.execJunctionAbove135 cdie adie pdie s
  | .read addr n ready => Sys2Proof.Machine.execRead addr n ready s
  | .write addr words => Sys2Proof.Machine.execWrite addr words s
  | .status => Sys2Proof.Machine.execStatus s
  | .portReset => Sys2Proof.Machine.execPortReset s
  | .registerWrite addr v => Sys2Proof.Machine.execRegisterWrite addr v s
  | .mramWindowWrite off v => Sys2Proof.Machine.execMramWindowWrite off v s
  | .pilotPeriodStart o => Sys2Proof.Machine.execPilotPeriodStart o s
  | .pd1WindowReturn => Sys2Proof.Machine.execPd1WindowReturn s
  | .leapSecond => Sys2Proof.Machine.execLeapSecond s
  | .portLinkLost p => Sys2Proof.Machine.execPortLinkLost p s
  | .forwardedFrameEgress p => Sys2Proof.Machine.execForwardedFrameEgress p s
  | .fieldResetEnd => Sys2Proof.Machine.execFieldResetEnd s
  | .sourceTest => Sys2Proof.Machine.execSourceTest s
  | .hostPortOtherCommand cmd => Sys2Proof.Machine.execHostPortOtherCommand cmd s
  | .hrxptrWrite v => Sys2Proof.Machine.execHrxptrWrite v s
  | .servoScfgWrite sn v => Sys2Proof.Machine.execServoScfgWrite sn v s
  | .clkcfgWrite v => Sys2Proof.Machine.execClkcfgWrite v s
  | .pcfgWrite p v => Sys2Proof.Machine.execPcfgWrite p v s
  | .swardScfgWrite v => Sys2Proof.Machine.execSwardScfgWrite v s
  | .domainPowerUp d => Sys2Proof.Machine.execDomainPowerUp d s
  | .domainSupplyFault d faulty => Sys2Proof.Machine.execDomainSupplyFault d faulty s
  | .rctokExpiry o => Sys2Proof.Machine.execRctokExpiry o s

end Sys2Proof.Machine
end

