-- ==== Sys2Proof/Machine/Tick.lean ====
section
/-!
DEFINITION. What one microsecond without a command does: the local clock (R345), the engine timers (R71), the write of a
bundle (R517), the samples of KFB and the lock of the Fold (R303, R313) and the count of a trial (R431).  Everything else that time brings about has a command of its own in the table (log entry 2).
-/
namespace Sys2Proof.Machine

/-- R345: the 250 edges of one microsecond, each 2^42 + 4 × RATE units of 2^−40 ns. -/
def tickClock (s : State) : State :=
  { s with clock := (((s.clock : Int) + 250 * (2 ^ 42 + 4 * sext 32 (rd R.PTP_RATE_RATE s))) % clockMod).toNat }

/-- R71: one timer counts one microsecond; at zero it sets its event and reloads; a reload value of 0 stops it. -/
def tickTimer (x : Eng) (t : Fin 4) : Eng :=
  if vget x.tmr t = 0 then x
  else if vget x.tmrLeft t ≤ 1 then
    { x with evTmr := x.evTmr ||| ((1 : BitVec 4) <<< t.val), tmrLeft := vset x.tmrLeft t (vget x.tmr t).toNat }
  else { x with tmrLeft := vset x.tmrLeft t (vget x.tmrLeft t - 1) }

/-- R71: the timers of the running engines. -/
def tickEngine (s : State) (e : Nat) : State :=
  if running e s then modEng (en e) (fun x => [(0 : Fin 4), 1, 2, 3].foldl tickTimer x) s else s

/-- R431: a second of a trial, saved every ten of them. -/
def tickTrial (s : State) (r : Nat) : State :=
  if ustate r s ≠ usTRIAL then s
  else
    let n := min (rd (R.UPD_RWIN_ELAPSED (r - 1)) s + 1) 0xFFF
    if n % 10 = 0 then uw (R.UPD_RWIN_ELAPSED (r - 1)) n s else wr (R.UPD_RWIN_ELAPSED (r - 1)) n s

/-- One microsecond. -/
def tick (s : State) : State :=
  let s := tickClock { s with now := s.now + 1 }
  let s := tickFold (tickBilling ((List.range 16).foldl tickEngine s))
  if s.now % 1000000 = 0 then [1, 2, 3, 4, 5].foldl tickTrial s else s

end Sys2Proof.Machine
end

