-- ==== Sys2Proof/Safety.lean ====
section
/-!
DEFINITION. What a safe run is, and what a command may touch, in the terms the statements use.  The part has no way to
stop (Machine/State.lean): a run is safe while every step answers a next state with the MRAM in its canonical form.
-/
namespace Sys2Proof.Machine

/-- The MRAM is in canonical form: addresses strictly rising, no entry equal to what an unlisted byte reads as. -/
def memoryWf (s : State) : Bool := SMap.wf 0 s.mram

/-- A step that answers a next state. -/
def Safe (s : State) : Prop := ∃ t, step s = .next t

/-- The block of the host address map a field belongs to (R29). -/
def Fld.block (f : Fld) : Nat := f.addr / 2 ^ 24

/-- A count of the queue fabric: QWDCNT of a queue (R111), or the pool errors of QM.ERR (R106). -/
def Fld.isQCount (f : Fld) : Bool :=
  decide (0x10001000 ≤ f.addr ∧ f.addr < 0x10003000 ∧ f.addr % 0x40 = 0x0C) || f.addr == 0x10000008

/-- Only the queues, the requests taken and not completed, the fabric's counts and registers of CHK (0x1B) differ. -/
def QueueOnly (s t : State) : Prop :=
  { t with qs := s.qs, owed := s.owed, regs := s.regs } = s ∧ ∀ g : Fld, g.lsb < 32 → g.isQCount = false → g.block ≠ 0x1B → rd g t = rd g s

/-- Only the queues, the requests taken and not completed, the recorder, the fabric's counts and registers of CHK and
BAR (0x1D) differ. -/
def LogOnly (s t : State) : Prop :=
  { t with qs := s.qs, owed := s.owed, regs := s.regs, bar := s.bar } = s ∧
    ∀ g : Fld, g.lsb < 32 → g.isQCount = false → g.block ≠ 0x1B → g.block ≠ 0x1D → rd g t = rd g s

end Sys2Proof.Machine
end

