-- ==== Sys2Proof/Certificates/Slice0/Obligations.lean ====
section
/-!
DEFINITION. The statements for the provers.  The names of Sys2Proof.Claims are the vocabulary of the statements: the
conditions under which the spec gives a command its effect, and the effects as the spec's own tables and formulas give
them.
-/
namespace Sys2Proof.Claims
open Sys2Proof.Machine

/-! ### Treltor instructions -/

/-- The engine after the fetch: a single-bit error of the instruction word is corrected and counted (R51). -/
def fetched (m : Nat) (s : State) : Eng :=
  let x := getEng (en m) s
  if x.pErr1.contains x.pc.toNat then
    { x with pErr1 := x.pErr1.filter (· != x.pc.toNat), eccCnt := BitVec.ofNat 24 (min (x.eccCnt.toNat + 1) 0xFFFFFF) }
  else x

/-- Engine `m` meets none of the causes of R73 that do not depend on the instruction, and waits in none. -/
def Able (m : Nat) (s : State) : Prop :=
  let x := getEng (en m) s
  x.blocked = .no ∧ x.pc.toNat < memWords m ∧ x.pc.toNat ∉ x.pErr2 ∧ x.parity = []

/-- The members that issue the instruction (both members of a pair, or the one engine) are able to, and the guard of
R57 lets it take effect on each. -/
def Ready (e : Eid) (g : Guard) (s : State) : Prop :=
  issuers e s ≠ [] ∧ ∀ m ∈ issuers e s, Able m s ∧ (getEng (en m) s).pr g.p ≠ g.neg

/-- `s` with the engine of every issuing member replaced. -/
def installed (e : Eid) (f : Nat → Eng) (s : State) : State :=
  (issuers e s).foldl (fun t m => setEng (en m) (f m) t) s

/-- An instruction's effect on one member: its engine afterwards, and what it does beyond it; none where it raises. -/
abbrev Effect := Nat → State → Eng → Option (Eng × Eff)

/-- R94, R186: of a duplex pair that goes on, the standby's push and what both members store are kept for the comparison
at the next acknowledgement point. -/
def tracked (e : Eid) (eff : Eff) (t : State) : State :=
  if isPaired e && pairDuplex (pairLow e) t then
    match eff with
    | .push q m =>
      if (getQ (qn q) t).en && !(isCont m && (getQ (qn q) t).cut.contains (stageId e)) then
        modPair (pairIdx e) (fun p => { p with alt := p.alt ++ [(q, m)] }) t
      else t
    | .store a v => modPair (pairIdx e) (fun p => { p with stA := p.stA ++ [(a, v)], stB := p.stB ++ [(a, v)] }) t
    | _ => t
  else t

/-- Instruction `i` of engine `e` has the effect `f`: wherever its members are ready and none of them meets a cause of
its own, exec answers the state in which the members' engines are as `f` says and nothing else has changed but for the
one thing the instruction does beyond its engine. -/
def Carries (i : Instr) (e : Eid) (g : Guard) (f : Effect) : Prop :=
  ∀ (s : State) (eff : Eff), Ready e g s →
    (∀ m ∈ issuers e s, ∃ y, f m s (fetched m s) = some (y, eff)) →
    exec i s = .next (tracked e eff (applyEff e eff
      (installed e (fun m => ((f m s (fetched m s)).getD (fetched m s, .none)).1) s)))

/-- Instruction `i` of engine `e` completes in state `s`: every member that issues it is as `f` makes it of its engine,
and nothing else has changed. -/
def Gives (i : Instr) (e : Eid) (f : Nat → Eng → Eng) (s : State) : Prop :=
  exec i s = .next (installed e (fun m => f m (fetched m s)) s)

/-- The instruction retires: PC moves on and CYCL/CYCH count it. -/
def done (x : Eng) : Eng := { x with pc := x.pc + 1, cyc := x.cyc + 1 }

/-- An effect on the engine alone. -/
def plainly (f : Eng → Eng) : Effect := fun _ _ x => some (done (f x), .none)

/-- R62: the exact value `x` fits in `w` bits. -/
def fits (w : Nat) (x : Int) : Bool := decide (-(2 ^ (w - 1)) ≤ x ∧ x ≤ 2 ^ (w - 1) - 1)

/-- R62, R63: the value that is written: exact where it fits, else wrapped or saturated. -/
def fitTo (w : Nat) (wrap : Bool) (x : Int) : BitVec w :=
  if fits w x || wrap then BitVec.ofInt w x else if x < 0 then BitVec.ofInt w (-(2 ^ (w - 1))) else BitVec.ofInt w (2 ^ (w - 1) - 1)

/-- STATUS with new Z, N, C and V; SV is only ever set, EXC is kept (R64). -/
def newFlags (x : Eng) (z n c v : Bool) : W24 := statusOf z n c v (x.sv || v) x.exc

/-- STATUS with new Z and N only. -/
def newZN (x : Eng) (r : W24) : W24 := statusOf (r == 0) r.msb x.c x.v x.sv x.exc

/-- R63, R64: the mode-governed ALU instructions: destination, exact result, and the C that is written. -/
def governed : Instr → Option (Eid × Guard × Fin 16 × (Eng → Int) × (Eng → Bool))
  | .add e g d a b => some (e, g, d, fun x => (x.gr a).toInt + (x.gr b).toInt,
      fun x => decide (2 ^ 24 ≤ (x.gr a).toNat + (x.gr b).toNat))
  | .sub e g d a b => some (e, g, d, fun x => (x.gr a).toInt - (x.gr b).toInt, fun x => decide ((x.gr a).toNat < (x.gr b).toNat))
  | .addi e d a imm => some (e, always, d, fun x => (x.gr a).toInt + imm.toInt,
      fun x => decide (2 ^ 24 ≤ (x.gr a).toNat + (imm.signExtend 24).toNat))
  | .neg e g d a => some (e, g, d, fun x => -(x.gr a).toInt, fun x => (x.gr a).toNat != 0)
  | .abs e g d a => some (e, g, d, fun x => if (x.gr a).toInt < 0 then -(x.gr a).toInt else (x.gr a).toInt, fun x => x.c)
  | .shls e g d a b => some (e, g, d, fun x => (x.gr a).toInt * 2 ^ ((x.gr b).toNat % 32), fun x => x.c)
  | .shlsi e d a amt => some (e, always, d, fun x => (x.gr a).toInt * 2 ^ amt.toNat, fun x => x.c)
  | _ => none

/-- R65: the instructions of a multiword chain: destination, exact result, C, and whether Z is chained. -/
def chain : Instr → Option (Eid × Guard × Fin 16 × (Eng → Int) × (Eng → Bool) × Bool)
  | .addw e g d a b => some (e, g, d, fun x => (x.gr a).toInt + (x.gr b).toInt,
      fun x => decide (2 ^ 24 ≤ (x.gr a).toNat + (x.gr b).toNat), false)
  | .subw e g d a b => some (e, g, d, fun x => (x.gr a).toInt - (x.gr b).toInt,
      fun x => decide ((x.gr a).toNat < (x.gr b).toNat), false)
  | .addc e g d a b => some (e, g, d, fun x => (x.gr a).toInt + (x.gr b).toInt + x.c.toNat,
      fun x => decide (2 ^ 24 ≤ (x.gr a).toNat + (x.gr b).toNat + x.c.toNat), true)
  | .subb e g d a b => some (e, g, d, fun x => (x.gr a).toInt - (x.gr b).toInt - x.c.toNat,
      fun x => decide ((x.gr a).toNat < (x.gr b).toNat + x.c.toNat), true)
  | _ => none

/-- R58: bits below bit 23 that equal bit 23, counted from bit 22 downward. -/
def norm (v : W24) : Nat := ((List.range 23).takeWhile fun k => v.getLsbD (22 - k) == v.getLsbD 23).length

/-- R58, R64: the instructions that write one G register and set Z and N only. -/
def zn : Instr → Option (Eid × Guard × Fin 16 × (Eng → W24))
  | .min e g d a b => some (e, g, d, fun x => if (x.gr a).slt (x.gr b) then x.gr a else x.gr b)
  | .max e g d a b => some (e, g, d, fun x => if (x.gr a).slt (x.gr b) then x.gr b else x.gr a)
  | .mov e g d a => some (e, g, d, fun x => x.gr a)
  | .and e g d a b => some (e, g, d, fun x => x.gr a &&& x.gr b)
  | .or e g d a b => some (e, g, d, fun x => x.gr a ||| x.gr b)
  | .xor e g d a b => some (e, g, d, fun x => x.gr a ^^^ x.gr b)
  | .not e g d a => some (e, g, d, fun x => ~~~(x.gr a))
  | .shl e g d a b => some (e, g, d, fun x => BitVec.ofNat 24 ((x.gr a).toNat * 2 ^ ((x.gr b).toNat % 32)))
  | .shr e g d a b => some (e, g, d, fun x => BitVec.ofNat 24 ((x.gr a).toNat / 2 ^ ((x.gr b).toNat % 32)))
  | .sar e g d a b => some (e, g, d, fun x => BitVec.ofInt 24 ((x.gr a).toInt / 2 ^ ((x.gr b).toNat % 32)))
  | .norm e g d a => some (e, g, d, fun x => BitVec.ofNat 24 (norm (x.gr a)))
  | .movxg e g d a => some (e, g, d, fun x => BitVec.ofNat 24 (x.xr a).toNat)
  | .andi e d a imm => some (e, always, d, fun x => x.gr a &&& BitVec.ofNat 24 imm.toNat)
  | .ori e d a imm => some (e, always, d, fun x => x.gr a ||| BitVec.ofNat 24 imm.toNat)
  | .xori e d a imm => some (e, always, d, fun x => x.gr a ^^^ BitVec.ofNat 24 imm.toNat)
  | .shli e d a amt => some (e, always, d, fun x => BitVec.ofNat 24 ((x.gr a).toNat * 2 ^ amt.toNat))
  | .shri e d a amt => some (e, always, d, fun x => BitVec.ofNat 24 ((x.gr a).toNat / 2 ^ amt.toNat))
  | .sari e d a amt => some (e, always, d, fun x => BitVec.ofInt 24 ((x.gr a).toInt / 2 ^ amt.toNat))
  | .ldi e d imm => some (e, always, d, fun _ => BitVec.ofInt 24 imm.toInt)
  | .insh e d a imm => some (e, always, d, fun x => BitVec.ofNat 24 (imm.toNat * 2 ^ 14 + (x.gr a).toNat % 2 ^ 14))
  | .movam e g d a => some (e, g, d, fun x => BitVec.ofNat 24 ((x.ar a).toNat / 2 ^ 24))
  | .moval e g d a => some (e, g, d, fun x => BitVec.ofNat 24 (x.ar a).toNat)
  | .movag e g d a => some (e, g, d, fun x => BitVec.ofInt 24 ((x.ar a).toInt / 2 ^ 48))
  | _ => none

/-- A predicate is written; P0 discards it (R41). -/
def putP (d : Fin 4) (v : Bool) (x : Eng) : Eng := { x with p := if d = 0 then x.p else vset x.p d v }

/-- R64: the instructions that write a predicate or an X register, or nothing, and no flag. -/
def flagless : Instr → Option (Eid × Guard × (Eng → Eng))
  | .nop e g => some (e, g, id)
  | .cmpeq e g d a b => some (e, g, fun x => putP d (x.gr a == x.gr b) x)
  | .cmplt e g d a b => some (e, g, fun x => putP d (decide ((x.gr a).toInt < (x.gr b).toInt)) x)
  | .cmpltu e g d a b => some (e, g, fun x => putP d (decide ((x.gr a).toNat < (x.gr b).toNat)) x)
  | .cmple e g d a b => some (e, g, fun x => putP d (decide ((x.gr a).toInt ≤ (x.gr b).toInt)) x)
  | .cmpeqi e d a imm => some (e, always, fun x => putP d (decide ((x.gr a).toInt = imm.toInt)) x)
  | .cmplti e d a imm => some (e, always, fun x => putP d (decide ((x.gr a).toInt < imm.toInt)) x)
  | .cmpltui e d a imm => some (e, always, fun x => putP d (decide ((x.gr a).toNat < imm.toNat)) x)
  | .pand e g d a b => some (e, g, fun x => putP d (x.pr a && x.pr b) x)
  | .por e g d a b => some (e, g, fun x => putP d (x.pr a || x.pr b) x)
  | .pxor e g d a b => some (e, g, fun x => putP d (x.pr a != x.pr b) x)
  | .movgx e g d a => some (e, g, fun x => { x with x := vset x.x d (BitVec.ofNat 20 (x.gr a).toNat) })
  | .addxr e g d a b => some (e, g, fun x => { x with x := vset x.x d (BitVec.ofInt 20 ((x.xr a).toNat + (x.gr b).toInt)) })
  | .addxi e d a imm => some (e, always, fun x => { x with x := vset x.x d (BitVec.ofInt 20 ((x.xr a).toNat + imm.toInt)) })
  | .ldxi e d imm => some (e, always, fun x => { x with x := vset x.x d (BitVec.ofNat 20 imm.toNat) })
  | _ => none

/-- R59: the mode-governed accumulator writes: destination and exact result. -/
def accumulate : Instr → Option (Eid × Guard × Fin 2 × (Eng → Int))
  | .mpy e g d a b => some (e, g, d, fun x => 2 * (x.gr a).toInt * (x.gr b).toInt)
  | .mac e g d a b => some (e, g, d, fun x => (x.ar d).toInt + 2 * (x.gr a).toInt * (x.gr b).toInt)
  | .msu e g d a b => some (e, g, d, fun x => (x.ar d).toInt - 2 * (x.gr a).toInt * (x.gr b).toInt)
  | .mpyi e g d a b => some (e, g, d, fun x => (x.gr a).toInt * (x.gr b).toInt)
  | .maci e g d a b => some (e, g, d, fun x => (x.ar d).toInt + (x.gr a).toInt * (x.gr b).toInt)
  | .mpyuu e g d a b => some (e, g, d, fun x => (x.gr a).toNat * (x.gr b).toNat)
  | .macuu e g d a b => some (e, g, d, fun x => (x.ar d).toInt + (x.gr a).toNat * (x.gr b).toNat)
  | .mpysu e g d a b => some (e, g, d, fun x => (x.gr a).toInt * (x.gr b).toNat)
  | .macsu e g d a b => some (e, g, d, fun x => (x.ar d).toInt + (x.gr a).toInt * (x.gr b).toNat)
  | .clra e g d => some (e, g, d, fun _ => 0)
  | .adda e g d => some (e, g, d, fun x => (x.ar d).toInt + (x.ar (if d = 0 then 1 else 0)).toInt)
  | .suba e g d => some (e, g, d, fun x => (x.ar d).toInt - (x.ar (if d = 0 then 1 else 0)).toInt)
  | .ldah e g d a => some (e, g, d, fun x => (x.gr a).toInt * 2 ^ 24)
  | .shla e g d b => some (e, g, d, fun x => (x.ar d).toInt * 2 ^ ((x.gr b).toNat % 64))
  | .sara e g d b => some (e, g, d, fun x => (x.ar d).toInt / 2 ^ ((x.gr b).toNat % 64))
  | _ => none

/-- R59: the accumulator moves in: destination and the new 56 bits as a number. -/
def moveIn : Instr → Option (Eid × Guard × Fin 2 × (Eng → Nat))
  | .putam e g d a => some (e, g, d, fun x =>
      (x.ar d).toNat / 2 ^ 48 * 2 ^ 48 + (x.gr a).toNat * 2 ^ 24 + (x.ar d).toNat % 2 ^ 24)
  | .putal e g d a => some (e, g, d, fun x => (x.ar d).toNat / 2 ^ 24 * 2 ^ 24 + (x.gr a).toNat)
  | .putag e g d a => some (e, g, d, fun x => (x.gr a).toNat % 2 ^ 8 * 2 ^ 48 + (x.ar d).toNat % 2 ^ 48)
  | _ => none

/-- R62: `q` is `x / 2^k` rounded by RND. -/
def Rounded (rnd : Nat) (x : Int) (k : Nat) (q : Int) : Prop :=
  if rnd = 0 then q * 2 ^ k ≤ x ∧ x < (q + 1) * 2 ^ k
  else if rnd = 2 then 2 * q * 2 ^ k - 2 ^ k ≤ 2 * x ∧ 2 * x < 2 * q * 2 ^ k + 2 ^ k
  else 2 * q * 2 ^ k - 2 ^ k ≤ 2 * x ∧ 2 * x ≤ 2 * q * 2 ^ k + 2 ^ k ∧
    ((2 * x = 2 * q * 2 ^ k - 2 ^ k ∨ 2 * x = 2 * q * 2 ^ k + 2 ^ k) → q % 2 = 0)

/-- R62: the instructions that round: destination, exact value, bits dropped. -/
def rounding : Instr → Option (Eid × Guard × Fin 16 × (Eng → Int) × Nat)
  | .movah e g d a => some (e, g, d, fun x => (x.ar a).toInt, 24)
  | .mpyr e g d a b => some (e, g, d, fun x => (x.gr a).toInt * (x.gr b).toInt, 23)
  | _ => none

/-- R60: the effective address of an access, and the engine with its address register as the access leaves it. -/
def ea (post : Bool) (i : Fin 8) (off : BitVec 14) (x : Eng) : Nat :=
  if post then (x.xr i).toNat else (BitVec.ofInt 20 ((x.xr i).toNat + off.toInt)).toNat
def stepX (post : Bool) (i : Fin 8) (off : BitVec 14) (x : Eng) : Eng :=
  if post then { x with x := vset x.x i (BitVec.ofInt 20 ((x.xr i).toNat + off.toInt)) } else x

/-- R51: a single-bit error of the data word at `a` is corrected and counted. -/
def mended (a : Nat) (x : Eng) : Eng :=
  if x.dErr1.contains a then
    { x with dErr1 := x.dErr1.filter (· != a), eccCnt := BitVec.ofNat 24 (min (x.eccCnt.toNat + 1) 0xFFFFFF) }
  else x

/-- R48, R51: a word of data memory that can be read or written. -/
def dataOk (m a : Nat) (x : Eng) : Bool := decide (a < memWords m) && !(x.dErr2.contains a)

/-- R60, in data memory: loads. -/
def loads : Instr → Option (Eid × Effect)
  | .ld e d post i off => some (e, fun m _ x =>
      let a := ea post i off x
      if dataOk m a x then
        let y := stepX post i off (mended a x)
        some (done { y with g := vset y.g d (SMap.get 0 x.dmem a) }, .none)
      else none)
  | .ldx e d post i off => some (e, fun m _ x =>
      let a := ea post i off x
      if dataOk m a x && !(post && d == i) then
        let y := stepX post i off (mended a x)
        some (done { y with x := vset y.x d (BitVec.ofNat 20 (SMap.get 0 x.dmem a).toNat) }, .none)
      else none)
  | _ => none

/-- R60, in data memory: stores: the address and the word. -/
def stores : Instr → Option (Eid × Bool × Fin 8 × BitVec 14 × (Eng → W24))
  | .st e d post i off => some (e, post, i, off, fun x => x.gr d)
  | .stx e d post i off => some (e, post, i, off, fun x => BitVec.ofNat 24 (x.xr d).toNat)
  | _ => none

/-- A control transfer to `t`, where it lies in program memory (R61). -/
def goTo (m t : Nat) (x : Eng) : Option (Eng × Eff) :=
  if t < memWords m then some ({ x with pc := BitVec.ofNat 20 t, cyc := x.cyc + 1 }, .none) else none

/-- A call of `t`: PC + 1 goes on the return stack. -/
def calls (m t : Nat) (x : Eng) : Option (Eng × Eff) :=
  if x.rstack.length < (if m = 0 then 64 else 16) then goTo m t { x with rstack := (x.pc + 1) :: x.rstack } else none

/-- The branch conditions 0 to 14. -/
def taken (c : Fin 16) (x : Eng) : Bool :=
  [true, x.pr 1, x.pr 2, x.pr 3, !x.pr 1, !x.pr 2, !x.pr 3, x.z, !x.z, x.n, !x.n, x.c, !x.c, x.v, x.sv].getD c.val false

/-- R61: branches, jumps, calls and returns. -/
def transfers : Instr → Option (Eid × Guard × Effect)
  | .b e c off => some (e, always, fun m _ x =>
      if c = 15 then none
      else if taken c x then
        if 0 ≤ (x.pc.toNat : Int) + 1 + off.toInt then goTo m ((x.pc.toNat : Int) + 1 + off.toInt).toNat x else none
      else some (done x, .none))
  | .jmp e t => some (e, always, fun m _ x => goTo m t.toNat x)
  | .call e t => some (e, always, fun m _ x => calls m t.toNat x)
  | .jr e g a => some (e, g, fun m _ x => goTo m ((x.gr a).toNat % 2 ^ 20) x)
  | .callr e g a => some (e, g, fun m _ x => calls m ((x.gr a).toNat % 2 ^ 20) x)
  | .ret e g => some (e, g, fun m _ x =>
      match x.rstack with
      | [] => none
      | t :: ts => goTo m t.toNat { x with rstack := ts })
  | .rte e g => some (e, g, fun m _ x =>
      if x.exc then goTo m (x.epc.toNat % 2 ^ 20) { x with status := x.estatus, mode := x.emode } else none)
  | _ => none

/-- R75: exception entry with number `n`, the saved PC `pc` and the trap number `trap`. -/
def enters (n trap : Nat) (pc : W20) (x : Eng) : Eng :=
  { x with epc := BitVec.ofNat 24 pc.toNat, ecode := BitVec.ofNat 24 (n + trap * 2 ^ 8), estatus := x.status, emode := x.mode,
           status := x.status ||| 0x20, pc := BitVec.ofNat 20 (x.vbase.toNat + 4 * n) }

/-- R44: a listed special-register number. -/
def listed (n : Nat) : Bool := (List.range 15 ++ [0x10, 0x11, 0x12, 0x13] ++ (List.range 16).map (0x20 + ·)).contains n

/-- R44, R45, R70: the value of special register `n` on engine `m`. -/
def special (n m : Nat) (s : State) (x : Eng) : W24 :=
  if 0x20 ≤ n then x.evq.toList.getD (n - 0x20) 0
  else if 0x10 ≤ n then x.tmr.toList.getD (n - 0x10) 0
  else [x.mode, x.status, x.emode, x.estatus, x.epc, x.ecode, x.vbase, BitVec.ofNat 24 (evPend m x s), x.qwlim,
    BitVec.ofNat 24 (pairLow m + (if isPaired m then 16 else 0) + rd R.SWD_SSTAT_POS s % 8 * 32), BitVec.ofNat 24 x.cyc.toNat,
    x.cych, x.eccCnt, BitVec.ofNat 24 x.rstack.length, x.bwsel].getD n 0

/-- R44: a read of CYCL latches the high half into CYCH. -/
def latched (n : Nat) (x : Eng) : Eng := if n = 0x0A then { x with cych := BitVec.ofNat 24 (x.cyc.toNat / 2 ^ 24) } else x

/-- R44, R46, R50, R71: a special register that MSR writes takes `v`, its reserved bits as 0; none where it raises
ILLSR. -/
def written (n : Nat) (v : W24) (x : Eng) : Option Eng :=
  let low (k : Nat) : W24 := BitVec.ofNat 24 (v.toNat % 2 ^ k)
  if n = 0 then (if v.toNat % 4 = 3 then none else some { x with mode := low 3 })
  else if n = 1 then some { x with status := BitVec.ofNat 24 (v.toNat % 32 + x.status.toNat / 32 % 2 * 32) }
  else if n = 2 then (if v.toNat % 4 = 3 then none else some { x with emode := low 3 })
  else if n = 3 then some { x with estatus := low 6 }
  else if n = 4 then some { x with epc := low 20 }
  else if n = 6 then some { x with vbase := BitVec.ofNat 24 (v.toNat % 2 ^ 20 / 64 * 64) }
  else if n = 8 then some { x with qwlim := v }
  else if n = 0x0E then
    if v.toNat % 256 = 0 ∨ (0x10 ≤ v.toNat % 256 ∧ v.toNat % 256 ≤ 0x20) then some { x with bwsel := low 8 } else none
  else if h : 0x10 ≤ n ∧ n < 0x14 then
    some { x with tmr := vset x.tmr ⟨n - 0x10, by omega⟩ v, tmrLeft := vset x.tmrLeft ⟨n - 0x10, by omega⟩ v.toNat }
  else if h : 0x20 ≤ n ∧ n < 0x30 then some { x with evq := vset x.evq ⟨n - 0x20, by omega⟩ (low 8) }
  else none

/-- R100: after an acknowledgement point of an engine outside a pair: what it had taken is acknowledged, what it had
staged is entered. -/
def Acknowledged (e : Eid) (s t : State) : Prop :=
  ∀ q : Qid, (engConsumes e q s = true → (getQ q t).dlv = []) ∧ ∀ m ∈ (getQ q t).stg, m.1 ≠ e.val

/-- R70: the events of `EVPEND and Ga`. -/
def events (a : Fin 16) (m : Nat) (s : State) (x : Eng) : W24 := BitVec.ofNat 24 (evPend m x s) &&& x.gr a

/-- R70, R44, R46, R61: events, special registers, and HALT where it is allowed. -/
def system : Instr → Option (Eid × Guard × Effect)
  | .wait e g d a => some (e, g, fun m s x =>
      if events a m s x ≠ 0 ∨ x.gr a = 0 then some (done { x with g := vset x.g d (events a m s x), blocked := .no }, .ack)
      else none)
  | .clrev e g a => some (e, g, fun _ _ x => some (done
      { x with evTmr := x.evTmr &&& ~~~(BitVec.ofNat 4 ((x.gr a).toNat / 2 ^ 16)), evBell := x.evBell && !((x.gr a).getLsbD 21) },
      .none))
  | .mrs e g d n => some (e, g, fun m s x =>
      (srRead m n.toNat x s).map fun r => (done { r.2 with g := vset r.2.g d r.1 }, .none))
  | .msr e g d n => some (e, g, fun _ _ x =>
      if srListed n.toNat then (srWrite n.toNat (x.gr d) x).map fun y => (done y, .none) else none)
  | .halt e g => some (e, g, fun m _ x => if (1 ≤ m ∧ m ≤ 8) ∨ m = 15 then some (done x, .halt) else none)
  | .fence e => some (e, always, fun _ _ x => some (done x, .ack))
  | _ => none

/-- R67: the registers a pop or a peek writes. -/
def takes (n : Byte) (m : Msg) (h w0 w1 : Fin 16) (x : Eng) : Eng :=
  { x with g := vset (vset (vset x.g h (BitVec.ofNat 24 (m.typ.toNat * 2 ^ 8 + n.toNat))) w0 m.w0) w1 m.w1 }

/-- The message an engine pushes. -/
def pushed (x : Eng) (h w0 w1 : Fin 16) : Msg := ⟨BitVec.ofNat 8 (x.gr h).toNat, x.gr w0, x.gr w1⟩

/-- R67, R68: the queue instructions where they go through; a full queue, or an empty one, stops the blocking forms. -/
def queueOps : Instr → Option (Eid × Effect)
  | .qpush e q h w0 w1 => some (e, fun m s x =>
      if engProduces m q s && !((getQ q s).en && (getQ q s).full) then
        some (done { x with blocked := .no }, .push q (pushed x h w0 w1)) else none)
  | .qpushn e q h w0 w1 p => some (e, fun m s x =>
      if !(engProduces m q s) then none
      else if (getQ q s).en && (getQ q s).full then some (done (putP p false x), .none)
      else some (done (putP p true x), .push q (pushed x h w0 w1)))
  | .qpop e q h w0 w1 => some (e, fun m s x =>
      if engConsumes m q s && h != w0 && h != w1 && w0 != w1 then
        (getQ q s).ent.head?.map fun v => (done (takes v.1 v.2 h w0 w1 { x with blocked := .no }), .pop q)
      else none)
  | .qpeek e q h w0 w1 => some (e, fun m s x =>
      if engConsumes m q s && h != w0 && h != w1 && w0 != w1 then
        (getQ q s).ent.head?.map fun v => (done (takes v.1 v.2 h w0 w1 { x with blocked := .no }), .none)
      else none)
  | .qpopn e q h w0 w1 p => some (e, fun m s x =>
      if engConsumes m q s && h != w0 && h != w1 && w0 != w1 then
        match (getQ q s).ent with
        | [] => some (done (putP p false x), .none)
        | v :: _ => some (done (putP p true (takes v.1 v.2 h w0 w1 x)), .pop q)
      else none)
  | .qstat e q h => some (e, fun m s x =>
      if engProduces m q s || engConsumes m q s then
        some (done { x with g := vset x.g h (BitVec.ofNat 24 ((getQ q s).ent.length % 2 ^ 13 + (if (getQ q s).en then 2 ^ 13 else 0))) },
          .none)
      else none)
  | _ => none

/-- The message that every issuing member pushes. -/
def AllPush (e : Eid) (h w0 w1 : Fin 16) (m : Msg) (s : State) : Prop :=
  ∀ k ∈ issuers e s, pushed (fetched k s) h w0 w1 = m

/-- R99, R102: queue `q` takes a push of engine `e`: it is a producer, the queue is enabled with room for one more
staged message, and what it pushes does not follow a discarded message. -/
def Takes (e : Eid) (q : Qid) (s : State) : Prop :=
  (∀ k ∈ issuers e s, engProduces k q s = true) ∧ (getQ q s).en = true ∧ (getQ q s).full = false ∧
    stageId e ∉ (getQ q s).cut ∧ ((getQ q s).stg.countP fun m => m.1 == stageId e) < 128

/-- The message is staged in `q` behind what was staged, and every other queue, the registers and the memory stay. -/
def Staged (e : Eid) (q : Qid) (m : Msg) (s t : State) : Prop :=
  getQ q t = { getQ q s with stg := (getQ q s).stg ++ [(stageId e, m)] } ∧
    (∀ k : Qid, k ≠ q → getQ k t = getQ k s) ∧ t.regs = s.regs ∧ t.mram = s.mram

/-- The engines of the issuing members as `f` makes them, the others as they were. -/
def Members (e : Eid) (f : Nat → Eng → Eng) (s t : State) : Prop :=
  ∀ k : Eid, getEng k t = if k.val ∈ issuers e s then f k.val (fetched k.val s) else getEng k s

/-- R67: the three registers of a pop or a peek are different ones, and the engine is a consumer. -/
def MayTake (e : Eid) (q : Qid) (h w0 w1 : Fin 16) (s : State) : Prop :=
  h ≠ w0 ∧ h ≠ w1 ∧ w0 ≠ w1 ∧ ∀ k ∈ issuers e s, engConsumes k q s = true

/-- R99, R101: the oldest message of `q` is delivered, a single-bit error of it corrected (R106, R113); with 128
unacknowledged an acknowledgement point comes first. -/
def popped (e : Eid) (q : Qid) (s : State) : State :=
  let s := if 128 ≤ (getQ q s).dlv.length then ackPoint e s else s
  let t := corrected q ((getQ q s).ent.take 1) s
  setQ q { getQ q t with ent := (getQ q s).ent.drop 1, dlv := (getQ q s).dlv ++ (getQ q s).ent.take 1 } t

/-- The engine waits in a queue instruction. -/
def waitsForQueue (x : Eng) : Bool :=
  match x.blocked with
  | .no => false
  | .wait _ _ => false
  | _ => true

/-- R69, R70: an instruction that waits, tried again. -/
def resumes : Instr → Option (Eid × Effect)
  | .waitWake e => some (e, fun m s x =>
      match x.blocked with
      | .wait d a =>
        if events a m s x ≠ 0 ∨ x.gr a = 0 then some (done { x with g := vset x.g d (events a m s x), blocked := .no }, .ack)
        else none
      | _ => none)
  | .blockedQueueOpComplete e => some (e, fun m s x =>
      match x.blocked with
      | .push q h w0 w1 =>
        if engProduces m q s && !((getQ q s).en && (getQ q s).full) then
          some (done { x with blocked := .no }, .push q (pushed x h w0 w1)) else none
      | .pop q h w0 w1 =>
        if engConsumes m q s then
          (getQ q s).ent.head?.map fun v => (done (takes v.1 v.2 h w0 w1 { x with blocked := .no }), .pop q)
        else none
      | .peek q h w0 w1 =>
        if engConsumes m q s then
          (getQ q s).ent.head?.map fun v => (done (takes v.1 v.2 h w0 w1 { x with blocked := .no }), .none)
        else none
      | _ => none)
  | _ => none

end Sys2Proof.Claims

open Sys2Proof Sys2Proof.Machine Sys2Proof.Claims

/-- R63, R64: each mode-governed ALU instruction writes the exact result where it fits 24 bits, else the wrapped or
saturated one by MODE.OVF; Z and N follow the result, C and V the exact operation, SV is only set; PC moves on, the
instruction is counted, and nothing else changes. -/
def Obligations.ModeGovernedArithmeticFits : Prop :=
  ∀ i e g d v c, governed i = some (e, g, d, v, c) →
    Carries i e g (plainly fun x =>
      let r := fitTo 24 x.wraps (v x)
      { x with g := vset x.g d r, status := newFlags x (r == 0) r.msb (c x) (!(fits 24 (v x))) })

/-- R65: the chain instructions always wrap; C counts the carry in, and ADDC and SUBB chain Z. -/
def Obligations.MultiwordChainWraps : Prop :=
  ∀ i e g d v c ch, chain i = some (e, g, d, v, c, ch) →
    Carries i e g (plainly fun x =>
      let r : W24 := BitVec.ofInt 24 (v x)
      { x with g := vset x.g d r, status := newFlags x ((!ch || x.z) && r == 0) r.msb (c x) (!(fits 24 (v x))) })

/-- R58, R64: the moves, minima, logic functions, shifts and their immediates write one G register and set Z and N
only. -/
def Obligations.MovesLogicAndShiftsSetZN : Prop :=
  ∀ i e g d v, zn i = some (e, g, d, v) →
    Carries i e g (plainly fun x => { x with g := vset x.g d (v x), status := newZN x (v x) })

/-- R41, R53, R64: compares, predicate functions and address arithmetic change no flag; writes to P0 are discarded and
addresses wrap modulo 2^20; NOP only retires. -/
def Obligations.ComparesAndAddressesKeepFlags : Prop :=
  ∀ i e g f, flagless i = some (e, g, f) → Carries i e g (plainly f)

/-- R59, R64: an accumulator write is exact where it fits 56 bits, else wrapped or saturated; only V and SV change. -/
def Obligations.AccumulatorArithmeticFits : Prop :=
  ∀ i e g d v, accumulate i = some (e, g, d, v) →
    Carries i e g (plainly fun x =>
      { x with acc := vset x.acc d (fitTo 56 x.wraps (v x)), status := newFlags x x.z x.n x.c (!(fits 56 (v x))) })

/-- R59: PUTAM, PUTAL and PUTAG replace one part of an accumulator and keep the others.  That V is written 0 is the
model's reading (log entry 21). -/
def Obligations.AccumulatorMovesKeepOtherParts : Prop :=
  ∀ i e g d v, moveIn i = some (e, g, d, v) →
    Carries i e g (plainly fun x =>
      { x with acc := vset x.acc d (BitVec.ofNat 56 (v x)), status := newFlags x x.z x.n x.c false })

/-- R62: MOVAH and MPYR round by MODE.RND, the nearest value with the stated treatment of ties, and fit the result. -/
def Obligations.RoundedMovesFollowMode : Prop :=
  ∀ i e g d v k, rounding i = some (e, g, d, v, k) →
    ∃ q : Eng → Int, (∀ x : Eng, x.rnd ≠ 3 → Rounded x.rnd (v x) k (q x)) ∧
      Carries i e g (plainly fun x =>
        let r := fitTo 24 x.wraps (q x)
        { x with g := vset x.g d r, status := newFlags x (r == 0) r.msb x.c (!(fits 24 (q x))) })

/-- R48, R51, R60: a load from data memory gives the word at the effective address; the address register moves only under
post-modify; memory, flags and all else are unchanged. Model's choices in it: log entries 17 and 63. -/
def Obligations.LoadsReadDataMemory : Prop :=
  ∀ i e f, loads i = some (e, f) → Carries i e always f

/-- R48, R60: a store to data memory changes the word at the effective address and no other word of any engine. Model's
choices in it: log entries 17 and 18. -/
def Obligations.StoresWriteOneDataWord : Prop :=
  ∀ i e post ix off v, stores i = some (e, post, ix, off, v) → ∀ s, Ready e always s →
    (∀ m ∈ issuers e s, dataOk m (ea post ix off (fetched m s)) (fetched m s) = true) →
    ∃ t, exec i s = .next t ∧
      (∀ m ∈ issuers e s,
        let x := fetched m s
        let y := getEng (en m) t
        (∀ a, SMap.get 0 y.dmem a = if a = ea post ix off x then v x else SMap.get 0 x.dmem a) ∧
        { y with dmem := x.dmem, chk := x.chk } = done (stepX post ix off (mended (ea post ix off x) x))) ∧
      (∀ k : Eid, k.val ∉ issuers e s → getEng k t = getEng k s) ∧ { t with engs := s.engs } = s

/-- R61: a transfer within program memory sets PC; calls push and returns pop the return address; RTE restores STATUS and
MODE. Model's choices in it: log entries 17 and 18. -/
def Obligations.ControlTransfersSetPc : Prop :=
  ∀ i e g f, transfers i = some (e, g, f) → Carries i e g f

/-- R73, R75: TRAP, and a word that encodes no instruction, enter the handler of TRAP (9) and of OPCODE (1) on every
member; EPC, ECODE, ESTATUS, EMODE, STATUS.EXC and PC are as R75 orders, and nothing else changes. Model's choices in
it: log entry 17. -/
def Obligations.TrapAndInvalidWordEnterHandlers : Prop :=
  (∀ e g n s, Ready e g s → (∀ m ∈ issuers e s, (getEng (en m) s).exc = false) →
    exec (.trap e g n) s = .next (installed e (fun m => enters 9 n.val ((fetched m s).pc + 1) (fetched m s)) s)) ∧
  (∀ e w s, decodeTreltor e w.toNat = none → Ready e always s → (∀ m ∈ issuers e s, (getEng (en m) s).exc = false) →
    exec (.invalidEncoding e w) s = .next (installed e (fun m => enters 1 0 (fetched m s).pc (fetched m s)) s))

/-- R61, R70, R44, R46, R100: WAIT with an event, CLREV, MRS and MSR of a listed register, HALT on an engine that allows
it, and FENCE complete: what each does to the members of the engine, and, outside a pair, the acknowledgement point that
WAIT, FENCE and HALT are. Model's choices in it: log entries 17 and 18. -/
def Obligations.SystemInstructionsComplete : Prop :=
  (∀ i e g f, system i = some (e, g, f) → Carries i e g f) ∧
  (∀ e g a s, Ready e g s → Gives (.clrev e g a) e (fun _ x => done
    { x with evTmr := x.evTmr &&& ~~~(BitVec.ofNat 4 ((x.gr a).toNat / 2 ^ 16)), evBell := x.evBell && !((x.gr a).getLsbD 21) }) s) ∧
  (∀ e g d n s, Ready e g s → listed n.toNat = true →
    Gives (.mrs e g d n) e (fun m x => done { latched n.toNat x with g := vset x.g d (special n.toNat m s x) }) s) ∧
  (∀ e g d n s, Ready e g s → (∀ m ∈ issuers e s, (written n.toNat ((fetched m s).gr d) (fetched m s)).isSome = true) →
    Gives (.msr e g d n) e (fun _ x => done ((written n.toNat (x.gr d) x).getD x)) s) ∧
  (∀ e g d a s, Ready e g s → isPaired e = false → (events a e s (fetched e s) ≠ 0 ∨ (fetched e s).gr a = 0) →
    ∃ t, exec (.wait e g d a) s = .next t ∧ Acknowledged e s t ∧
      Members e (fun m x => done { x with g := vset x.g d (events a m s x), blocked := .no }) s t) ∧
  (∀ e s, Ready e always s → isPaired e = false →
    ∃ t, exec (.fence e) s = .next t ∧ Acknowledged e s t ∧ Members e (fun _ x => done x) s t) ∧
  (∀ (e : Eid) g s, Ready e g s → (1 ≤ e.val ∧ e.val ≤ 8) ∨ e.val = 15 →
    ∃ t, exec (.halt e g) s = .next t ∧ engState e t = 4 ∧ Acknowledged e s t ∧ Members e (fun _ x => done x) s t)

/-- R67, R68, R99, R102: the queue instructions of a listed producer or consumer complete: QPUSH and QPUSHN stage the
message of an enabled queue with room, QPUSHN clears its predicate at a full one; QPOP and QPOPN deliver the oldest
message, QPOPN clears its predicate at an empty queue; QPEEK reads it and QSTAT the count and the enable. Model's choices
in it: log entries 10, 17 and 22. -/
def Obligations.QueueInstructionsComplete : Prop :=
  (∀ i e f, queueOps i = some (e, f) → Carries i e always f) ∧
  (∀ (e : Eid) (q : Qid) h w0 w1 m s, Ready e always s → Takes e q s → AllPush e h w0 w1 m s →
    ∃ t, exec (.qpush e q h w0 w1) s = .next t ∧ Staged e q m s t ∧
      Members e (fun _ x => done { x with blocked := .no }) s t) ∧
  (∀ (e : Eid) (q : Qid) h w0 w1 p m s, Ready e always s → Takes e q s → AllPush e h w0 w1 m s →
    ∃ t, exec (.qpushn e q h w0 w1 p) s = .next t ∧ Staged e q m s t ∧ Members e (fun _ x => done (putP p true x)) s t) ∧
  (∀ (e : Eid) (q : Qid) h w0 w1 p s, Ready e always s → (∀ k ∈ issuers e s, engProduces k q s = true) →
    (getQ q s).en = true → (getQ q s).full = true →
    Gives (.qpushn e q h w0 w1 p) e (fun _ x => done (putP p false x)) s) ∧
  (∀ (e : Eid) (q : Qid) h w0 w1 v vs s, Ready e always s → MayTake e q h w0 w1 s → (getQ q s).ent = v :: vs →
    exec (.qpop e q h w0 w1) s = .next (popped e q
      (installed e (fun m => done (takes v.1 v.2 h w0 w1 { fetched m s with blocked := .no })) s))) ∧
  (∀ (e : Eid) (q : Qid) h w0 w1 p v vs s, Ready e always s → MayTake e q h w0 w1 s → (getQ q s).ent = v :: vs →
    exec (.qpopn e q h w0 w1 p) s = .next (popped e q
      (installed e (fun m => done (putP p true (takes v.1 v.2 h w0 w1 (fetched m s)))) s))) ∧
  (∀ (e : Eid) (q : Qid) h w0 w1 p s, Ready e always s → MayTake e q h w0 w1 s → (getQ q s).ent = [] →
    Gives (.qpopn e q h w0 w1 p) e (fun _ x => done (putP p false x)) s) ∧
  (∀ (e : Eid) (q : Qid) h w0 w1 v vs s, Ready e always s → MayTake e q h w0 w1 s → (getQ q s).ent = v :: vs →
    Gives (.qpeek e q h w0 w1) e (fun _ x => done (takes v.1 v.2 h w0 w1 { x with blocked := .no })) s) ∧
  (∀ (e : Eid) (q : Qid) h s, Ready e always s → (∀ k ∈ issuers e s, (engProduces k q s || engConsumes k q s) = true) →
    Gives (.qstat e q h) e (fun _ x => done { x with g := vset x.g h (BitVec.ofNat 24
      ((getQ q s).ent.length % 2 ^ 13 + (if (getQ q s).en then 2 ^ 13 else 0))) }) s)

/-- R69, R70, R100: an instruction that waits goes on, on every member, as soon as it can: WAIT with its event, a push
with room, a pop or a peek with a message; under a wait limit QTIMEOUT enters its handler and nothing has moved.
Model's choices in it: log entries 10 and 17. -/
def Obligations.BlockedInstructionsGoOn : Prop :=
  (∀ i e f, resumes i = some (e, f) → ∀ (s : State) (eff : Eff), issuers e s ≠ [] →
    (∀ m ∈ issuers e s, ∃ y, f m s (getEng (en m) s) = some (y, eff)) →
    exec i s = .next (tracked e eff (applyEff e eff
      (installed e (fun m => ((f m s (getEng (en m) s)).getD (getEng (en m) s, .none)).1) s)))) ∧
  (∀ (e : Eid) d a s, isPaired e = false → issuers e s ≠ [] → (getEng e s).blocked = .wait d a →
    (events a e s (getEng e s) ≠ 0 ∨ (getEng e s).gr a = 0) →
    ∃ t, exec (.waitWake e) s = .next t ∧ Acknowledged e s t ∧ getEng e t =
      done { getEng e s with g := vset (getEng e s).g d (events a e s (getEng e s)), blocked := .no }) ∧
  (∀ (e : Eid) (q : Qid) h w0 w1 v vs s, issuers e s ≠ [] → (getQ q s).ent = v :: vs →
    (∀ m ∈ issuers e s, (getEng (en m) s).blocked = .pop q h w0 w1 ∧ engConsumes m q s = true) →
    exec (.blockedQueueOpComplete e) s = .next (popped e q
      (installed e (fun m => done (takes v.1 v.2 h w0 w1 { getEng (en m) s with blocked := .no })) s))) ∧
  (∀ (e : Eid) (s : State), issuers e s ≠ [] →
    (∀ m ∈ issuers e s, (getEng (en m) s).qwlim ≠ 0 ∧ (getEng (en m) s).exc = false ∧ waitsForQueue (getEng (en m) s) = true) →
    exec (.qtimeout e) s =
      .next (installed e (fun m => enters 6 0 (getEng (en m) s).pc { getEng (en m) s with blocked := .no }) s))

/-- R71, R72: a timer that reaches zero sets its event and reloads from TMRn, on both members of a pair; a timer whose
reload value is 0 stays stopped. Model's choices in it: log entry 9. -/
def Obligations.TimerExpiryLatchesEvent : Prop :=
  ∀ (e : Eid) (t : Fin 4) (s : State), ∃ u, exec (.timerExpiry e t) s = .next u ∧ { u with engs := s.engs } = s ∧
    ∀ k : Eid, (getEng k u).evTmr = (if k.val ∈ issuers e s ∧ vget (getEng k s).tmr t ≠ 0 then
        (getEng k s).evTmr ||| BitVec.ofNat 4 (2 ^ t.val) else (getEng k s).evTmr) ∧
      vget (getEng k u).tmrLeft t = (if k.val ∈ issuers e s ∧ vget (getEng k s).tmr t ≠ 0 then
        (vget (getEng k s).tmr t).toNat else vget (getEng k s).tmrLeft t) ∧
      { getEng k u with evTmr := (getEng k s).evTmr, tmrLeft := (getEng k s).tmrLeft } = getEng k s

namespace Sys2Proof.Claims
open Sys2Proof.Machine

/-- Command `c` completes in state `s`, and its next state has the property `P`. -/
def Yields (c : Instr) (s : State) (P : State → Prop) : Prop := ∃ t, exec c s = .next t ∧ P t

/-! ### Requests of the host -/

/-- A request of the host on Q(n) reaches TE0 at once: the queue is enabled and nothing stands before it, TE0 runs with
no activation under way and no summary to apply, and the part is not in recovery mode (R26, R92, R103, R429, R437). -/
def Served (n : Fin 8) (s : State) : Prop :=
  (getQ (qn n) s).en = true ∧ clearQ n s = true ∧ te0Up s = true ∧ s.upd.act = none ∧ recovery s = false ∧
    billingWaits s = false

/-- The owner of queue `f` takes at once what TE0 forwards to it there (R84, R103). -/
def Open (f : Nat) (s : State) : Prop := (getQ (qn f) s).en = true ∧ clearQ f s = true

/-- The state once the request's messages have been taken from Q(n), with its completion owed (R98). -/
def received (n : Fin 8) (t : Nat) (w0 w1 : W24) (cs : List Cont) (s : State) : State :=
  owe (8 + n) n t w0.toNat (arrive n (reqMsgs t w0 w1 cs) s)

/-- The state once TE0 has forwarded the request on queue `f` and its owner has taken it there. -/
def forwarded (n : Fin 8) (t f o : Nat) (w0 w1 : W24) (cs : List Cont) (s : State) : State :=
  passQ f (reqMsgs t w0 w1 cs) (oweVia f (complQ f o) true (received n t w0 w1 cs s))

/-- The engines of a supervisor reset (R490). -/
def supervisorEngines : List Nat := [0, 15, 1, 2, 3, 4, 5, 6, 7, 8]

/-- R490, R494: a supervisor reset: its cause in RSTCAUSE, the wipe of its scope under way, its engines WIPING. -/
def SupervisorReset (cause : Nat) (t : State) : Prop :=
  rd R.PWR_RSTCAUSE_CAUSE t = cause ∧ t.pwr.wipe = some .supervisor ∧ ∀ e ∈ supervisorEngines, engState e t = 1

/-- No full reset holds the part down. -/
def Awake (s : State) : Prop := s.pwr.down = false ∧ s.pwr.stuck = false ∧ fullWipe s = false

/-- The other member of a pair. -/
def peer (e : Nat) : Nat := if e % 2 = 1 then e + 1 else e - 1

end Sys2Proof.Claims

/-- A step takes the command at the front of the queue and answers what exec answers with the rest of the queue. -/
def Obligations.StepRunsFrontCommand : Prop :=
  ∀ (c : Instr) (rest : List Instr) (s : State), s.pending = c :: rest → step s = exec c { s with pending := rest }

/-- On an empty queue the block lets one microsecond pass (the model's choice, log entry 2): time and the local clock
advance, the clock by 250 edges of 2^42 + 4 × RATE units each (R345).  With no bundle to write (R517), no password lock
(R303) and no sample of KFB due, which comes each millisecond (R313), nothing else changes but the engines' timers (R71). -/
def Obligations.IdleStepAdvancesClock : Prop :=
  ∀ s : State, s.pending = [] → ∃ t, step s = .next t ∧ t.now = s.now + 1 ∧
    (t.clock : Int) = ((s.clock : Int) + 250 * (2 ^ 42 + 4 * (BitVec.ofNat 32 (rd R.PTP_RATE_RATE s)).toInt)) %
      (2 ^ 48 * 1000000000 * 2 ^ 40) ∧
    (s.bill.unsaved = false → s.fold.lock = none → (s.now + 1) % 1000 ≠ 0 →
      { t with now := s.now, clock := s.clock, engs := s.engs } = s ∧
      ∀ k : Eid, { getEng k t with evTmr := (getEng k s).evTmr, tmrLeft := (getEng k s).tmrLeft } = getEng k s)

/-- R54 to R61: the decoder reads back every instruction that the encoder writes, with every operand, for every
well-formed Treltor instruction; the word has 32 bits. -/
def Obligations.DecodeInvertsEncode : Prop :=
  ∀ (i : Instr) (e : Eid) (w : Nat), i.wf = true → encodeTreltor i = some w → issuer i = some e →
    w < 2 ^ 32 ∧ decodeTreltor e w = some i

/-- R55, R56: each 32-bit word has at most one meaning: the encoder writes back every word the decoder reads. -/
def Obligations.EncodeInvertsDecode : Prop :=
  ∀ (i : Instr) (e : Eid) (w : Nat), w < 2 ^ 32 → decodeTreltor e w = some i →
    i.wf = true ∧ issuer i = some e ∧ encodeTreltor i = some w

/-- The words of the spec's worked example (the three-term product sum) decode to its source lines, on every engine;
0xFFFF_FFFF decodes to nothing and 0x0000_0000 is NOP (R55). -/
def Obligations.WorkedExampleWordsDecode : Prop :=
  ∀ e : Eid,
    [0x10438100, 0x10838110, 0x12020003, 0x04000009, 0x20640001, 0x20A80001, 0x04048001, 0x12203FFF, 0x423FFFFB,
      0x04C00010, 0x0404B001, 0x00000000].map (decodeTreltor e) =
    [some (.ldxi e 1 0x100), some (.ldxi e 2 0x110), some (.ldi e 8 3), some (.clra e ⟨false, 0⟩ 0),
      some (.ld e 1 true 1 1), some (.ld e 2 true 2 1), some (.mac e ⟨false, 0⟩ 0 1 2), some (.addi e 8 8 0x3FFF),
      some (.b e 8 0x3FFFFB), some (.movah e ⟨false, 0⟩ 3 0), some (.mac e ⟨true, 2⟩ 0 1 2), some (.nop e ⟨false, 0⟩)] ∧
    decodeTreltor e 0xFFFFFFFF = none

/-- R97, R99, R104 to R106: the host's accesses to its queues: a write of QPUSHH enters the assembled message with the
queue's next number, and on Q0 to Q7 TE0 takes off what no host request is (log entry 103); a read of QPOPH delivers the
oldest one; QACK acknowledges up to a number; QREPLAY returns what is delivered and not acknowledged, oldest first. Model's
choices in it: log entries 10, 22 and 103. -/
def Obligations.HostQueueAccessesMoveMessages : Prop :=
  (∀ (q : Qid) (v : W32) (s : State), hostGate true (qreg q 0x14) s = none → hostProduces q s = true →
    (getQ q s).en = true → 16 ∉ (getQ q s).cut → (getQ q s).late = [] → (getQ q s).full = false →
    (q.val < 8 → unserved (((getQ q s).ent.map Prod.snd).headD (hostMsg (rd (R.QM_QPUSHL_LOW q) s) v.toNat)) = false) →
    Yields (.qpushh q v) s fun t =>
      (getQ q t).ent = (getQ q s).ent ++ [((getQ q s).tail, hostMsg (rd (R.QM_QPUSHL_LOW q) s) v.toNat)] ∧
      (getQ q t).tail = (getQ q s).tail + 1 ∧ rd R.PWR_HSTAT_LAST t = 0) ∧
  (∀ (q : Qid) (v : W32) (s : State), hostGate true (qreg q 0x14) s = none → q.val < 8 → Served (o8 q) s →
    hostProduces q s = true → 16 ∉ (getQ q s).cut → unserved (hostMsg (rd (R.QM_QPUSHL_LOW q) s) v.toNat) = true →
    Yields (.qpushh q v) s fun t =>
      (getQ q t).ent = [] ∧ (getQ q t).tail = (getQ q s).tail + 1 ∧ rd R.PWR_HSTAT_LAST t = 0) ∧
  (∀ (q : Qid) (s : State) e es, hostGate false (qreg q 0x1C) s = none → hostConsumes q s = true →
    (getQ q s).ent = e :: es → (getQ q s).dlv.length < 128 →
    Yields (.qpoph q) s fun t =>
      (getQ q t).ent = es ∧ (getQ q t).dlv = (getQ q s).dlv ++ [e] ∧ rd (R.QM_QPOPH_HIGH q) t = msgHigh e % 2 ^ 32 ∧
      rd (R.QM_QPOPL_LOW q) t = msgLow e.2 % 2 ^ 32 ∧ rd R.PWR_HSTAT_LAST t = 0) ∧
  (∀ (q : Qid) (v : W32) (s : State) k, hostGate true (qreg q 0x20) s = none → hostConsumes q s = true →
    (getQ q s).dlv.findIdx? (fun e => e.1 == BitVec.ofNat 8 v.toNat) = some k →
    Yields (.qack q v) s fun t =>
      (getQ q t).dlv = (getQ q s).dlv.drop (k + 1) ∧ (getQ q t).ack = BitVec.ofNat 8 v.toNat ∧
      (getQ q t).ackReq = false ∧ rd R.PWR_HSTAT_LAST t = 0) ∧
  (∀ (v : W32) (s : State), hostGate true 0x10000010 s = none → hostConsumes (v.toNat % 128) s = true →
    Yields (.qreplay v) s fun t =>
      (getQ (qn v.toNat) t).ent = (getQ (qn v.toNat) s).dlv ++ (getQ (qn v.toNat) s).ent ∧
      (getQ (qn v.toNat) t).dlv = [] ∧ rd R.PWR_HSTAT_LAST t = 0)

/-- R106, R108, R112, R113: the doorbell sets its event on TE0; SLKCLR restores a slack monitor; a waiting completion
enters as soon as there is room; an uncorrectable message becomes CORRUPT with its number kept. Model's choices in it:
log entry 10. -/
def Obligations.QueueManagerEventsAct : Prop :=
  (∀ (v : W32) (s : State), hostGate true 0x10000004 s = none → v.toNat % 2 = 1 →
    Yields (.doorbell v) s fun t => (getEng 0 t).evBell = true ∧ t.qs = s.qs ∧ rd R.PWR_HSTAT_LAST t = 0) ∧
  (∀ (i : Fin 11) (v : W32) (s : State), hostGate true (0x1000400C + i.val * 0x10) s = none → v.toNat % 2 = 1 →
    Yields (.slkclr i v) s fun t => rd (R.QM_SLKMIN_MIN i) t = 0xFF ∧ rd (R.QM_SLKLOW_COUNT i) t = 0 ∧ t.qs = s.qs) ∧
  (∀ (q : Qid) (s : State) m ms, (getQ q s).late = m :: ms → (getQ q s).full = false →
    Yields (.withdrawnCompletionEntry q) s fun t =>
      (getQ q s).ent ++ [((getQ q s).tail, m)] <+: (getQ q t).ent ∧ (getQ q t).dlv = (getQ q s).dlv) ∧
  (∀ (q : Qid) (k : Nat) (s : State) e, (getQ q s).dlv = [] → (getQ q s).ent[k]? = some e →
    exec (.poolUncorrectableError q k) s =
      .next (logFault true 1 0xFF q e.1.toNat (incSat R.QM_ERR_UNCORR
        (setQ q { getQ q s with ent := (getQ q s).ent.set k (e.1, ⟨0xF1, 0, 0⟩) } s)))) ∧
  (∀ (q : Qid) (k : Nat) (s : State) e, (getQ q s).dlv[k]? = some e →
    exec (.poolUncorrectableError q k) s =
      .next (logFault true 1 0xFF q e.1.toNat (incSat R.QM_ERR_UNCORR
        (setQ q { getQ q s with dlv := (getQ q s).dlv.set k (e.1, ⟨0xF1, 0, 0⟩) } s)))) ∧
  (∀ (q : Qid) (k : Nat) (s : State) e, (getQ q s).dlv = [] → (getQ q s).ent = [] → (getQ q s).stg[k]? = some e →
    exec (.poolUncorrectableError q k) s =
      .next (logFault true 1 0xFF q (getQ q s).tail.toNat (incSat R.QM_ERR_UNCORR
        (setQ q { getQ q s with stg := (getQ q s).stg.set k (e.1, ⟨0xF1, 0, 0⟩) } s))))

/-- R43, R82, R83, R85, R88: TE0 reloads an engine that has stopped (not for good), halted or serves an outlet out of
service: it is WIPING, its registers and memories are cleared and RELOADS counts; in its turn the load port writes
the image and compares its CRC-32 with the section's; an engine whose image matched starts with every register at its
reset value and its input queues enabled, one whose second load fails too stays STOPPED. Model's choices in it: log entries 24 and 71. -/
def Obligations.EngineReloadsWipeAndLoad : Prop :=
  (∀ (e : Eid) (s : State), te0Up s = true → (1 ≤ e.val ∧ e.val ≤ 8) ∨ e.val = 15 →
    (getEng e s).final = false → engState e s = 5 ∨ engState e s = 4 ∨
      (engState e s = 3 ∧ e.val ≤ 8 ∧ outOfService (e - 1) s = true) →
    Yields (.engineReload e) s fun t =>
      engState e t = 1 ∧ getEng e t = { Eng.start with faults := (getEng e s).faults, ran := (getEng e s).ran } ∧
      rd (R.QM_ENGSTAT_RELOADS e) t = min (rd (R.QM_ENGSTAT_RELOADS e) s + 1) (2 ^ (R.QM_ENGSTAT_RELOADS e).wid - 1) %
        2 ^ (R.QM_ENGSTAT_RELOADS e).wid) ∧
  (∀ (e : Eid) (ws : List W32) (crc : W32) (s : State), te0Up s = true → engState e s = 2 → loadTurn e s = true →
    sectOk e s = true → (sectFor (engRegion e) e s).map (fun q => q.2.2) = some crc.toNat →
    Yields (.engineLoad e ws crc) s fun t =>
      (∀ a, a < memWords e → SMap.get 0 (getEng e t).pmem a = ws.getD a 0) ∧
      (getEng e t).loadOk = decide (imageCrc ws = crc.toNat) ∧ (∀ k : Eid, k ≠ e → getEng k t = getEng k s) ∧
      { t with engs := s.engs } = s) ∧
  (∀ (e : Eid) (s : State), te0Up s = true → engState e s = 2 → 1 ≤ e.val → e.val ≤ 8 → startHeld e s = false →
    (getEng e s).loadOk = true → (getOs (e - 1) s).cut = none →
    (held (e - 1) s = true ∨ ((getQ (qn (79 + e)) s).ent = [] ∧ (getQ (qn (95 + e)) s).ent = [])) →
    Yields (.engineLoadComplete e) s fun t => engState e t = 3 ∧ getEng e t = (getEng e s).begun ∧
      (∀ k : Eid, k ≠ e → getEng k t = getEng k s) ∧
      ∀ q ∈ [55 + e.val, 63 + e, 79 + e, 95 + e], (getQ (qn q) t).en = ((getQ (qn q) s).en || decide (0 < (getQ (qn q) s).cap))) ∧
  (∀ (e : Eid) (s : State), te0Up s = true → engState e s = 2 → isPaired e = false → startHeld e s = false →
    (getEng e s).loadOk = true → exec (.engineLoadComplete e) s = .next (engineStart e s)) ∧
  (∀ (e : Eid) (s : State), te0Up s = true → engState e s = 2 → isPaired e = false → startHeld e s = false →
    (getEng e s).loadOk = false →
    Yields (.engineLoadComplete e) s fun t =>
      if (getEng e s).loadTries = 0 then engState e t = 2 ∧ (getEng e t).loadTries = 1
      else engState e t = 5 ∧ (getEng e t).final = true) ∧
  (∀ (e : Eid) (s : State), te0Up s = true → engState e s = 2 → isPaired e = true → startHeld e s = false →
    (getEng e s).loadOk = true →
    exec (.engineLoadComplete e) s = .next (pairStart (pairIdx e) s))

/-- R88, R89: a wipe that is due ends: WIPE shows it, and the engines of its scope may be loaded. Model's choices in it:
log entry 24. -/
def Obligations.WipeEndsAndEnginesLoad : Prop :=
  ∀ (sc : WipeScope) (us : BitVec 16) (s : State),
    (match sc with | .engine e => engState e s = 1 ∧ wipeRuns e s = false | w => s.pwr.wipe = some w) →
    Yields (.memoryWipeComplete sc .none us) s fun t =>
      rd R.QM_WIPE_DONE t = 1 ∧ rd R.QM_WIPE_FAILED t = 0 ∧ rd R.QM_WIPE_DURATION t = us.toNat % 2 ^ R.QM_WIPE_DURATION.wid ∧
      (∀ e ∈ scopeEngines sc, engState e s = 1 → engState e t = 2) ∧ t.pwr.wipe ≠ some sc ∧ t.qs = s.qs ∧ t.mram = s.mram

/-- R490, R494: a supervisor reset, and the watchdog of TE0 once TOUT ms have passed without a retrigger; a retrigger
restarts its time. Model's choices in it: log entries 9 and 23. -/
def Obligations.SupervisorResetsRestartEngines : Prop :=
  (∀ (w : Bool) (s : State), Awake s → Yields (.supervisorReset w) s (SupervisorReset (if w then 6 else 5))) ∧
  (∀ s : State, Awake s → (∀ t, s.pwr.wdtAt = some t → t + rd R.PWR_WDT_TOUT s * 1000 ≤ s.now) →
    Yields .te0WatchdogExpiry s (SupervisorReset 6)) ∧
  (∀ s : State, te0Up s = true →
    exec .wdtRetrigger s = .next { s with pwr := { s.pwr with wdtAt := some s.now } })

/-- R185 to R189: a member of a metering pair that fails stops and shows its cause; a standby takes over; the state
check takes out a member whose data memory it finds changed and leaves a sound one alone; the first two pair faults
of a minute reload both members. Model's choices in it: log entries 23 and 86. -/
def Obligations.PairMembersFailAndTakeOver : Prop :=
  (∀ (e : Eid) (c : Fin 16) (s : State), 9 ≤ e.val → e.val < 13 → running e s = true → running (peer e) s = true →
    (1 ≤ c.val ∧ c.val ≤ 6) ∨ c.val = 8 →
    Yields (.memberGiveUp e c) s fun t =>
      engState e t = 5 ∧ engState (peer e) t = engState (peer e) s ∧
      rd (R.NRG_PAIRSTAT_CAUSE (pairIdx e)) t = c.val % 2 ^ (R.NRG_PAIRSTAT_CAUSE (pairIdx e)).wid ∧
      rd (R.NRG_PAIRSTAT_DUPLEX (pairIdx e)) t = 0) ∧
  (∀ (p : Fin 2) (upper : Bool) (s : State), pairUp (pairLo p) s = false → engState (pairLo p + upper.toNat) s = 6 →
    engState (pairLo p + (!upper).toNat) s ≠ 6 →
    Yields (.standbyTakeover p) s fun t => engState (pairLo p + upper.toNat) t = 3 ∧
      rd (R.NRG_PAIRSTAT_ACTIVE p) t = upper.toNat ∧ ∀ o ∈ pairOutlets p, (getMt o t).flags.testBit 4 = true) ∧
  (∀ (e : Eid) (s : State), isPaired e = true → running e s = true →
    exec (.stateCheckSweep e) s =
      (if (getEng e s).dErr2 ≠ [] then exec (.memberGiveUp e 1) s
       else if chkOf (getEng e s).dmem ≠ (getEng e s).chk then exec (.memberGiveUp e 3) s else .next s)) ∧
  (∀ (p : Fin 2) (s : State), (running (pairLo p) s || running (pairLo p + 1) s) = true →
    ((getPair p s).faults.filter fun t => decide (s.now < t + 60000000)).length < 2 →
    Yields (.pairFault p) s fun t => engState (pairLo p) t = 1 ∧ engState (pairLo p + 1) t = 1)

/-- R189, R190: a stopped member is loaded from the active one and given its data memory; when its state check value
agrees it is STANDBY with the active member's registers and memory. Model's choices in it: log entry 23. -/
def Obligations.StoppedMemberRejoins : Prop :=
  (∀ (e : Eid) (s : State), isPaired e = true → te0Up s = true → engState e s = 5 → (getEng e s).final = false →
    (getEng e s).loadTries = 0 → engState (peer e) s = 3 → standbyReload (pairIdx e) s = none →
    (13 ≤ e.val → ∀ o ∈ outlets, maybeShut o s = false) →
    Yields (.memberRejoin e true true) s fun t =>
      engState e t = 2 ∧ (getEng e t).dmem = (getEng (en (peer e)) s).dmem ∧
      (getEng e t).pmem = (getEng (en (peer e)) s).pmem ∧ (getPair (pairIdx e) t).swept = true) ∧
  (∀ (e : Eid) (s : State), isPaired e = true → engState e s = 2 → engState (peer e) s = 3 →
    (getPair (pairIdx e) s).swept = true → chkOf (getEng (en (peer e)) s).dmem = (getEng (en (peer e)) s).chk →
    Yields (.rejoinSync e) s fun t =>
      engState e t = 6 ∧ (getEng e t).g = (getEng (en (peer e)) s).g ∧ (getEng e t).pc = (getEng (en (peer e)) s).pc ∧
      (getEng e t).dmem = (getEng (en (peer e)) s).dmem ∧ (getEng e t).pmem = (getEng e s).pmem)

namespace Sys2Proof.Claims
open Sys2Proof.Machine

/-! ### Sampling and decimation -/

/-- R98: no completion but that of this request is owed, and TE0 runs to pass it on. -/
def OwesOnly (n typ w0 : Nat) (s : State) : Prop :=
  te0Up s = true ∧ (s.owed = [] ∨ ∃ x, s.owed = [x] ∧ x.c = 8 + n ∧ x.t = typ ∧ x.w0 = w0 ∧ x.done = none ∧
    ∀ v, x.via = some v → qn v ≠ qn (8 + n))

/-- A completion of request type `typ` with these words enters Q(8 + n), where that queue is enabled and has room and no
other completion is owed before it. -/
def Completed (n typ w0 w1 st : Nat) (s t : State) : Prop :=
  let x := getQ (qn (8 + n)) s
  OwesOnly n typ w0 s → x.en = true → x.late = [] → x.full = false →
    (getQ (qn (8 + n)) t).ent = x.ent ++ [(x.tail, mkMsg (typ + 0x80) w0 (w1 / 256 * 256 + st))]

/-- R153, R516: the request's words name a channel, and its owner runs, has its registers back, and takes the request. -/
def Owned (n : Fin 8) (w0 : W24) (s : State) : Prop :=
  Served n s ∧ chanListed w0 = true ∧ pairServes (chanOwner (reqOutlet w0) (reqChan w0)) s = true ∧
    Open (ownerQ (chanOwner (reqOutlet w0) (reqChan w0))) s

/-- A register of channel `c` of outlet `o`, or of the low range that goes with it (R138). -/
def OfChan (o c : Nat) (f : Fld) : Prop :=
  f.addr / 0x100 = 0x110000 + o * 0x10 + c ∨ (isCurrent o c = true ∧ f.addr / 0x100 = 0x110000 + o * 0x10 + c + 4)

/-- Only channel `c` of outlet `o` (with its low range) differs, beside queues, completions, QWDCNT, CHK and FASTCNT. -/
def OnlyChan (o c : Nat) (s t : State) : Prop :=
  { t with qs := s.qs, owed := s.owed, regs := s.regs, samp := s.samp } = s ∧ { t.samp with chans := s.samp.chans } = s.samp ∧
  (∀ k : Fin 126, k ≠ chIx o c → (isCurrent o c = true → k ≠ chIx o (c + 4)) → vget t.samp.chans k = vget s.samp.chans k) ∧
  ∀ f : Fld, f.lsb < 32 → f.isQCount = false → f.block ≠ 0x1B → ¬ OfChan o c f → f.addr ≠ 0x1100F008 → rd f t = rd f s

/-- R154 to R156: the sampling requests: host queue, type, W0, whether the owner accepts it on the channel's present
setting, and the change that then waits (one already in force waits as `nothing`). -/
def asked (s : State) : Instr → Option (Fin 8 × Nat × W24 × Bool × Change)
  | .setResponse n w0 w1 =>
    let o := reqOutlet w0
    let c := reqChan w0
    let r := fld w1 3 0
    let en := flag (R.FLT_CHCFG_EN o c) s
    let comp := flag (R.FLT_CHCFG_COMP o c) s
    let force := fld w1 4 4 == 1
    let listed := if o = 8 ∨ c < 4 then [0, 1, 2, 5, 6, 14, 15] else if c < 8 then [0, 1, 2, 3, 4, 5, 6, 14, 15] else []
    some (n, 0x10, w0,
      fld w1 23 8 == 0 && decide (fld w1 7 5 ≤ 4) && listed.contains r && !(comp && decide (2 < r)) &&
        !((force || comp) && rd (R.FLT_CHCFG_RATE o c) s != 0) &&
        (!(locked s) || (rd (R.FLT_PERMIT_MASK o c) s).testBit r),
      if en && (force || comp) then .xfade r (fld w1 7 5) else .resp r)
  | .setRate n w0 w1 =>
    let o := reqOutlet w0
    let c := reqChan w0
    let k := fld w1 2 0
    some (n, 0x11, w0,
      fld w1 23 3 == 0 && decide (k ≤ 6) && (decide (o = 8) || decide (c < 8)) && !(chanMetered o c s) &&
        !(decide (k ≠ 0) && flag (R.FLT_CHCFG_COMP o c) s),
      .rate k)
  | .setCompanion n w0 w1 =>
    let o := reqOutlet w0
    let c := reqChan w0
    let on := fld w1 0 0 == 1
    let comp := flag (R.FLT_CHCFG_COMP o c) s
    some (n, 0x12, w0,
      fld w1 23 1 == 0 && decide (c < 3) &&
        !(on && (rd (R.FLT_CHCFG_RATE o c) s != 0 || decide (2 < rd (R.FLT_CHCFG_RESP o c) s))),
      if flag (R.FLT_CHCFG_EN o c) s && on == comp then .nothing else if on then .comp else .compOff)
  | .setDetect n w0 w1 cw0 cw1 =>
    let z := fld w1 8 5
    some (n, 0x13, w0,
      decide (cw1 = 0) && decide (fld w1 3 0 ≤ 13) && (decide (z ≤ 3) || decide (8 ≤ z ∧ z ≤ 11)),
      .detect w1.toNat cw0.toNat)
  | .setEnable n w0 w1 =>
    let o := reqOutlet w0
    let c := reqChan w0
    let on := fld w1 0 0 == 1
    some (n, 0x14, w0,
      fld w1 23 1 == 0 && !(decide (o < 8 ∧ 8 ≤ c ∧ c < 12)) && (on || !(chanMetered o c s)) &&
        !(on && decide (o < 8 ∧ 12 ≤ c) && !(flag (R.FLT_CHCFG_EN o c) s) && rd (R.FLT_CHCFG_PRESET o c) s == 1 &&
          decide (limFast (limitMode s) ≤ fastBooked s)),
      if !on then .disable else if flag (R.FLT_CHCFG_EN o c) s then .nothing else .enable)
  | .setSplice n w0 w1 =>
    let o := reqOutlet w0
    let c := reqChan w0
    let m := fld w1 1 0
    some (n, 0x15, w0,
      fld w1 23 2 == 0 && decide (o < 8 ∧ 4 ≤ c ∧ c < 8) && !(locked s && decide (m = 1 ∨ m = 2)), .splice m)
  | .setPreset n w0 w1 =>
    let o := reqOutlet w0
    let c := reqChan w0
    let p := fld w1 1 0
    some (n, 0x18, w0,
      fld w1 23 2 == 0 && decide (p ≤ 2) && decide (o < 8 ∧ 12 ≤ c) &&
        !(decide (p = 2 ∧ c = 12) && !(outOfService o s)) &&
        !(decide (p = 1) && flag (R.FLT_CHCFG_EN o c) s && rd (R.FLT_CHCFG_PRESET o c) s != 1 &&
          decide (limFast (limitMode s) ≤ fastBooked s)),
      if flag (R.FLT_CHCFG_EN o c) s && rd (R.FLT_CHCFG_PRESET o c) s == p then .nothing else .preset p)
  | _ => none

/-- The change waits on its channel, its request not yet completed. -/
def Waits (o c n typ : Nat) (w0 : W24) (chg : Change) (t : State) : Prop :=
  (getCh o c t).chg = chg ∧ (getCh o c t).chgN = n ∧ (getCh o c t).chgT = typ ∧ (getCh o c t).chgW = w0.toNat

/-- The set-up of a channel as CHCFG shows it (R158). -/
def chcfg (o c : Nat) (s : State) : List Nat :=
  [rd (R.FLT_CHCFG_EN o c) s, rd (R.FLT_CHCFG_RESP o c) s, rd (R.FLT_CHCFG_RATE o c) s, rd (R.FLT_CHCFG_COMP o c) s,
    rd (R.FLT_CHCFG_PRESET o c) s, rd (R.FLT_CHCFG_SPLMODE o c) s]

/-- R138: the main slot holds response `r`. -/
def MainIs (o c r : Nat) (s : State) : Prop :=
  (rd (R.FLT_CHSTAT_SLOTA o c) s = 1 ∧ rd (R.FLT_CHSTAT_RESPA o c) s = r) ∨
    (rd (R.FLT_CHSTAT_SLOTB o c) s = 1 ∧ rd (R.FLT_CHSTAT_RESPB o c) s = r)

/-- R139: one slot is the shadow with response `r`, the other is in role `k`. -/
def ShadowIs (o c r k : Nat) (s : State) : Prop :=
  (rd (R.FLT_CHSTAT_SLOTA o c) s = 2 ∧ rd (R.FLT_CHSTAT_RESPA o c) s = r ∧ rd (R.FLT_CHSTAT_SLOTB o c) s = k) ∨
    (rd (R.FLT_CHSTAT_SLOTB o c) s = 2 ∧ rd (R.FLT_CHSTAT_RESPB o c) s = r ∧ rd (R.FLT_CHSTAT_SLOTA o c) s = k)

/-- R139, R155: the waiting change is over: its request completes OK with the index of the first frame that has it. -/
def InEffect (o c n : Nat) (s t : State) : Prop :=
  (getCh o c t).chg = .none ∧
    Completed (getCh o c s).chgN (getCh o c s).chgT (getCh o c s).chgW (n % 2 ^ 16 * 256) stOK s t

end Sys2Proof.Claims

/-- R139, R140, R142, R153 to R157: an accepted sampling request waits on its channel; an enabled channel keeps its
present setting meanwhile (a cross-fade starts its count), and nothing but the channel changes. A disable is accepted
although a change waits, and an enable or disable although FLT stands. Model's choices in it: log entries 11, 13 and
78. -/
def Obligations.SamplingRequestsWaitForTheirFrame : Prop :=
  ∀ (i : Instr) (s : State) n typ w0 chg, asked s i = some (n, typ, w0, true, chg) → Owned n w0 s →
    (typ ≠ 0x14 → flag (R.FLT_CHSTAT_FLT (reqOutlet w0) (reqChan w0)) s = false) →
    (chg = .disable ∨ (getCh (reqOutlet w0) (reqChan w0) s).chg = .none) →
    (getCh (reqOutlet w0) (reqChan w0) s).testOn = false →
    Yields i s fun t =>
      Waits (reqOutlet w0) (reqChan w0) n typ w0 chg t ∧ OnlyChan (reqOutlet w0) (reqChan w0) s t ∧
      (flag (R.FLT_CHCFG_EN (reqOutlet w0) (reqChan w0)) s = true → chcfg (reqOutlet w0) (reqChan w0) t =
        chcfg (reqOutlet w0) (reqChan w0) s) ∧
      (∀ r v, chg = .xfade r v → rd (R.FLT_CHSTAT_XFREM (reqOutlet w0) (reqChan w0)) t = 64 * 2 ^ v)

/-- R139, R140, R142, R129, R155: a waiting change takes effect: a shadow whose line is full becomes main, a
cross-fade that has delivered its last output leaves the new response, a rate whose tail is full applies, and so does
a preset, to FAST at any FAST output and from FAST after SUB 3; CHCFG shows the new setting, and the request
completes OK with the index of the first output that has it. Model's choices in it: log entries 13 and 82. -/
def Obligations.PendingChangesTakeEffect : Prop :=
  (∀ (o : Fin 9) (c : Fin 14) (r : Nat) (s : State), r < 16 → govern o c = c → (getCh o c s).chg = .resp r → ShadowIs o c r 1 s →
    shadowFull o c r s = true →
    Yields (.responseSwitch o c) s fun t => MainIs o c r t ∧ (getCh o c t).sw = true ∧ OnlyChan o c s t ∧
      if nextIdx s % 2 ^ rd (R.FLT_CHCFG_RATE o c) s = 0 then rd (R.FLT_CHCFG_RESP o c) t = r ∧ InEffect o c (nextIdx s) s t
      else (getCh o c t).chg = .switched r) ∧
  (∀ (o : Fin 9) (c : Fin 14) (r v : Nat) (s : State), r < 16 → govern o c = c → (getCh o c s).chg = .xfade r v →
    rd (R.FLT_CHSTAT_XFREM o c) s = 0 → (rd (R.FLT_CHSTAT_SLOTA o c) s = 1 ∨ rd (R.FLT_CHSTAT_SLOTB o c) s = 1) →
    Yields (.crossfadeEnd o c) s fun t => rd (R.FLT_CHCFG_RESP o c) t = r ∧ MainIs o c r t ∧
      InEffect o c (rd R.FLT_IDX_N s) s t ∧ OnlyChan o c s t) ∧
  (∀ (o : Fin 9) (c : Fin 14) (k : Nat) (s : State), k < 7 → (getCh o c s).chg = .rate k →
    tailReady o c k (nextIdx s) s = true →
    Yields (.rateSwitch o c) s fun t => rd (R.FLT_CHCFG_RATE o c) t = k ∧ (getCh o c t).sw = true ∧
      InEffect o c (nextIdx s) s t ∧ OnlyChan o c s t) ∧
  (∀ (o : Fin 8) (aux : Bool) (p : Nat) (s : State), p < 3 → (getCh o (12 + aux.toNat) s).chg = .preset p →
    ShadowIs o (12 + aux.toNat) (if p = 1 then 12 else if p = 2 then 11 else 10) 1 s →
    shadowFull o (12 + aux.toNat) (if p = 1 then 12 else if p = 2 then 11 else 10) s = true →
    (p = 2 → tailReady o (12 + aux.toNat) 3 (nextIdx s) s = true) →
    (atFast o (12 + aux.toNat) s = true → 384 ≤ (getCh o (12 + aux.toNat) s).fed) →
    Yields (.presetSwitch o aux) s fun t => rd (R.FLT_CHCFG_PRESET o (12 + aux.toNat)) t = p ∧
      MainIs o (12 + aux.toNat) (if p = 1 then 12 else if p = 2 then 11 else 10) t ∧
      rd R.FLT_FASTCNT_N t = fastCount t % 2 ^ 5 ∧
      InEffect o (12 + aux.toNat)
        (if p = 1 ∧ (getCh o (12 + aux.toNat) s).fed < 384 then prevIdx (nextIdx s) else nextIdx s) s t ∧ OnlyChan o (12 + aux.toNat) s t)

/-- R143, R145, R146: a frame takes the next index; its period telescopes from the last stamp, or is 8,000,000 with FLAG
1 after a start, after a step, or out of range; while PD4 is off only the index counts.  The Fold's work of the frame
follows on the state `u` that the sampling chain leaves. -/
def Obligations.FramesAreNumberedAndTimed : Prop :=
  ∀ (codes : List (List (BitVec 3))) (s : State), ∃ u v,
    exec (.frame codes) s = .next (forEach outlets (foldFrame fun o => flag (R.FLT_CHCFG_EN o 12) s) v) ∧
    (let w := forEach [0, 1, 2] noteCross u
     v = modFold (fun F => { F with lastC := w.clock / 2 ^ 24, supTap := (List.range 4).map fun c => tapOf 8 c w }) w) ∧
    (pdOn 4 s = false → u = if s.samp.started then wr R.FLT_IDX_N ((rd R.FLT_IDX_N s + 1) % 2 ^ 24) s else s) ∧
    (pdOn 4 s = true →
      rd R.FLT_IDX_N u = (if s.samp.started then (rd R.FLT_IDX_N s + 1) % 2 ^ 24 else 0) ∧
      u.samp.started = true ∧ u.samp.lastF = s.clock / 2 ^ 34 ∧
      (let p := s.clock / 2 ^ 34 - s.samp.lastF
       if s.samp.fresh || s.samp.stepped || decide (p < 7600000) || decide (8388607 < p) then
         rd R.FLT_PERIOD_P u = 8000000 ∧ rd R.FLT_PERIOD_FLAG u = 1
       else rd R.FLT_PERIOD_P u = p ∧ rd R.FLT_PERIOD_FLAG u = 0))

/-- R116, R117, R149: a code that is not listed counts in CODEERR; the 256th instant at one extreme resets the modulator's
loop filter and counts in RSTCNT; each is one instant, and but for a privileged channel that completes a sub-sample with
it no message is entered; a FAST channel that completes SUB 1 to 3 delivers that sample. Model's choices in it: log
entries 12, 13 and 98. -/
def Obligations.ModulatorEventsAreCounted : Prop :=
  (∀ (o : Fin 9) (c : Fin 14) (code : BitVec 3) (s : State), code = 3 ∨ code = 4 ∨ code = 5 → chOn o c s = true →
    (getCh o c s).fed < 511 → (getCh o c s).rst = 0 → (getCh o c s).nErr = 0 → rd (R.FLT_MODCNT_CODEERR o c) s < 255 →
    Yields (.modCodeError o c code) s fun t =>
      rd (R.FLT_MODCNT_CODEERR o c) t = rd (R.FLT_MODCNT_CODEERR o c) s + 1 ∧
      (getCh o c t).fed = (getCh o c s).fed + 1 ∧ OnlyChan o c s t ∧
      (isPriv o c = false ∨ ((getCh o c s).fed + 1) % 128 ≠ 0 → (getCh o c t).ageRec = 0 ∧ t.qs = s.qs)) ∧
  (∀ (o : Fin 9) (c : Fin 14) (s : State), chOn o c s = true → (getCh o c s).run = 255 →
    (getCh o c s).ext = 2 ∨ (getCh o c s).ext = -2 → (getCh o c s).fed < 511 → (getCh o c s).rst = 0 →
    (getCh o c s).nRst = 0 → rd (R.FLT_MODCNT_RSTCNT o c) s < 255 →
    Yields (.modulatorReset o c) s fun t =>
      rd (R.FLT_MODCNT_RSTCNT o c) t = rd (R.FLT_MODCNT_RSTCNT o c) s + 1 ∧
      (getCh o c t).fed = (getCh o c s).fed + 1 ∧ OnlyChan o c s t ∧
      (isPriv o c = false ∨ ((getCh o c s).fed + 1) % 128 ≠ 0 →
        (getCh o c t).rst = 64 ∧ (getCh o c t).ageRec = 0 ∧ (getCh o c t).run = 0 ∧ t.qs = s.qs)) ∧
  (∀ (o : Fin 8) (aux : Bool) (sub : Fin 4) (codes : List (BitVec 3)) (s : State), sub ≠ 0 → s.samp.started = true →
    chOn o (12 + aux.toNat) s = true → atFast o (12 + aux.toNat) s = true → (getCh o (12 + aux.toNat) s).chg ≠ .preset 1 →
    128 * (sub.val - 1) ≤ (getCh o (12 + aux.toNat) s).fed → (getCh o (12 + aux.toNat) s).fed < 128 * sub.val →
    512 ≤ (getCh o (12 + aux.toNat) (feedChan o (12 + aux.toNat) (128 * sub.val) codes s)).ageStart →
    ∀ y, (getCh o (12 + aux.toNat) (feedChan o (12 + aux.toNat) (128 * sub.val) codes s)).outs = [y] →
    Yields (.fastSubsample o aux sub codes) s fun t =>
      (getCh o (12 + aux.toNat) t).fed = 128 * sub.val ∧ (getCh o (12 + aux.toNat) t).outs = [] ∧
      (getCh o (12 + aux.toNat) t).stat / 2 ^ 13 % 4 = sub.val ∧ OnlyChan o (12 + aux.toNat) s t)

/-- R125: narrowing by residue carry loses nothing: within the Q1.31 range the output and the new residue together are
the accumulator and the old residue; outside it the output is the nearer end and the residue 0. -/
def Obligations.NarrowingCarriesTheResidue : Prop :=
  ∀ (acc : Int) (res : Nat), res < 2 ^ 23 →
    (narrow acc res).2.1 < 2 ^ 23 ∧ -(2 ^ 31) ≤ (narrow acc res).1 ∧ (narrow acc res).1 < 2 ^ 31 ∧
    (if (narrow acc res).2.2 then (narrow acc res).2.1 = 0 ∧
        (acc + res < -(2 ^ 54) ∧ (narrow acc res).1 = -(2 ^ 31) ∨ 2 ^ 54 ≤ acc + res ∧ (narrow acc res).1 = 2 ^ 31 - 1)
     else (narrow acc res).1 * 2 ^ 23 + (narrow acc res).2.1 = acc + res)

/-- R28, R134, R135, R150, R157: a splice block of 4,096 frames moves the ratio a sixteenth of the way to the block's
estimate, or rejects it; a complete window writes its results; a missed deadline counts in SLKMISS, substitutes the
next sample, and the third within 10 s sets FLT. Model's choices in it: log entries 13, 15, 27, 77 and 80. -/
def Obligations.BlocksWindowsAndDeadlinesEnd : Prop :=
  (∀ (o : Fin 8) (c : Fin 4) (s : State), 4096 ≤ (getCh o (4 + c.val) s).blk →
    Yields (.spliceBlock o c) s fun t =>
      (getCh o (4 + c.val) t).blk = 0 ∧ (getCh o (4 + c.val) t).spk = 0 ∧ (getCh o (4 + c.val) t).shl = 0 ∧
      (getCh o (4 + c.val) t).sll = 0 ∧ OnlyChan o (4 + c.val) s t ∧
      (let x := getCh o (4 + c.val) s
       let r := rd (R.FLT_SPLR_R o (4 + c.val)) s
       let rb := x.shl * 2 ^ 32 / x.sll
       if x.spk < 1024 then rd (R.FLT_SPLR_R o (4 + c.val)) t = r
       else if 0x0F0F0F0F ≤ rb ∧ rb ≤ 0x11111111 then
         rd (R.FLT_SPLR_R o (4 + c.val)) t = ((r : Int) + (rb - r) / 16).toNat % 2 ^ 32 ∧
           (getCh o (4 + c.val) t).conv = if (rb - r).natAbs ≤ 0x1000 then x.conv + 1 else 0
       else rd (R.FLT_SPLR_R o (4 + c.val)) t = r ∧ (getCh o (4 + c.val) t).conv = 0 ∧
         rd (R.FLT_SPLSTAT_REJ o (4 + c.val)) t = min (rd (R.FLT_SPLSTAT_REJ o (4 + c.val)) s + 1) 255)) ∧
  (∀ (o : Fin 9) (c : Fin 14) (s : State), (getCh o c s).wfull = true →
    Yields (.detectorWindowEnd o c) s fun t =>
      rd (R.FLT_PKMAX_X o c) t = toU 24 (getCh o c s).pkmax ∧ rd (R.FLT_PKMIN_X o c) t = toU 24 (getCh o c s).pkmin ∧
      rd (R.FLT_RMS_X o c) t = Nat.sqrt ((getCh o c s).sumsq / (getCh o c s).wn) % 2 ^ 24 ∧
      rd (R.FLT_ENV_X o c) t = (getCh o c s).env / 256 % 2 ^ 24 ∧
      rd (R.FLT_DETIDX_N o c) t = rd R.FLT_IDX_N s % 2 ^ 24 ∧
      (getCh o c t).wn = 0 ∧ (getCh o c t).pkSeen = false ∧ OnlyChan o c s t) ∧
  (∀ (st : Fin 11) (o : Fin 9) (c : Fin 14) (s : State), rd (R.QM_SLKMISS_COUNT st) s < 2 ^ (R.QM_SLKMISS_COUNT st).wid - 1 →
    Yields (.stageDeadlineMiss st o c) s fun t =>
      rd (R.QM_SLKMISS_COUNT st) t = rd (R.QM_SLKMISS_COUNT st) s + 1 ∧
      (chOn o c s = true → (getCh o c t).missed = true ∧ (getCh o c t).ageRec = 0 ∧
        (2 ≤ ((getCh o c s).misses.filter fun x => decide (s.now < x + 10000000)).length → flag (R.FLT_CHSTAT_FLT o c) t = true)))

namespace Sys2Proof.Claims
open Sys2Proof.Machine

/-! ### Energy computation -/

/-- The values of a list whose phase the no-load test of R175 has not left out. -/
def metered (l : List Int) (noload : List Bool) : List Int := ((l.zip noload).filter fun e => !e.2).map Prod.fst

/-- Rounded half-up square root of a / d, saturated to 24 bits (R177). -/
def rmsOf (a d : Nat) : Nat := min ((Nat.sqrt (4 * a / d) + 1) / 2) 0xFFFFFF

/-- R195: the outlet's staged configuration may be applied: the channels are set up as its type requires, KE is usable,
the outlet is in no session, and TYPE, UREF, IREF and ACCMODE change only out of service. -/
def applicable (o : Nat) (s : State) : Prop :=
  setupOk o (rd (R.MET_OCFG_TYPE o) s) s = true ∧
  keOk (rd (R.MET_OCFG_TYPE o) s) (rd (R.MET_UREF_MV o) s) (rd (R.MET_IREF_MA o) s) = true ∧ inSession o s = false ∧
  (outOfService o s = true ∨ (rd (R.MET_OCFG_TYPE o) s = metType o s ∧ rd (R.MET_UREF_MV o) s = rd (R.MET_UREF_MV o).eff s ∧
    rd (R.MET_IREF_MA o) s = rd (R.MET_IREF_MA o).eff s ∧ rd (R.MET_OCFG_ACCMODE o) s = rd (R.MET_OCFG_ACCMODE o).eff s)) ∧
  ¬ (flag (R.MET_OCFG_ACCMODE o) s = true ∧ flag (R.OUT_OCFG_BIDIR o).eff s = true)

/-- R177, R200: after LIVE, NRG shows the values of the closed interval of `s` (VRMS and IRMS of an AC outlet by R177's
formulas), the interval is used up and no energy has changed. -/
def LiveShown (o : Fin 8) (s t : State) : Prop :=
  (metType o s ≠ 3 → ∀ k ∈ phaseList (metType o s),
    let l := (getMt o s).lvDone
    rd (R.NRG_VRMS_V o k) t = rmsOf (l.sv.getD k 0 * rd (R.MET_UREF_MV o).eff s ^ 2) (l.sumP * 2 ^ 62) ∧
    rd (R.NRG_IRMS_I o k) t = rmsOf (l.si.getD k 0 * rd (R.MET_IREF_MA o).eff s ^ 2 * 100) (l.sumP * 2 ^ 62)) ∧
  (getMt o t).lvDone = LiveSum.reset ∧ (getMt o t).regs = (getMt o s).regs ∧ (getMt o t).b = (getMt o s).b

/-- R180: the LIVE message and its continuations, from the values that NRG shows in `t` and the closed interval of `s`. -/
def liveMsgs (o : Fin 8) (s t : State) : List Msg :=
  let ks := phaseList (metType o s)
  let total : Int := (ks.map fun k => sext 24 (rd (R.NRG_PWR_P o k) t)).sum
  let low := (ks.map fun k => rd (R.NRG_VRMS_V o k) t).foldl min 0xFFFFFF
  [mkMsg 0x51 ((ks.map fun k => rd (R.NRG_IRMS_I o k) t).foldl max 0) (toU 24 (satS 24 total)),
   contMsg (w24 ((low + 5) / 10), w24 (rd (R.NRG_FREQ_F o) t)),
   contMsg (w24 ((getMt o s).flags ||| startGap (getMt o s)), w24 (getMt o s).lvDone.last)]

/-- R194: the ratio error of a current channel in ppm, floored and saturated: the ratio of the two ranges' outputs over the
injection against the present r; where there is none, the operand, of which -32,768 stands for no result. -/
def ratioOf (o c : Nat) (e : BitVec 16) (s : State) : Nat :=
  let hl := (getCh o c s).tHL
  let ll := (getCh o c s).tLL
  let r := rd (R.FLT_SPLR_R o c) s
  if ll = 0 ∨ r = 0 then (if e = 0x8000 then 0x8001 else e.toNat)
  else ((max (-32767) (min 32767 ((hl * 2 ^ 32 / ll - r) * 1000000 / r)) : Int) % 2 ^ 16).toNat

/-- R178, R200: after SUMMARY, NRG shows the summary `u` and it is sent, where its queue is enabled and has room; no energy
has changed. -/
def SummaryShown (o : Fin 8) (u : Summ) (s t : State) : Prop :=
  (getMt o t).regs = (getMt o s).regs ∧
  rd (R.NRG_SECLO_S o) t = u.sec % 2 ^ 32 ∧ rd (R.NRG_SECHI_S o) t = u.sec / 2 ^ 32 % 2 ^ 16 ∧
  rd (R.NRG_SUMSTAT_ST o) t = u.flags % 2 ^ 24 ∧
  (∀ k < 8, rd (R.NRG_ENERGY_V o (k * 3)) t = u.regs.getD k 0 % 2 ^ 32 ∧
    rd (R.NRG_ENERGY_V o (k * 3 + 1)) t = u.regs.getD k 0 / 2 ^ 32 % 2 ^ 32 ∧
    rd (R.NRG_ENERGY_V o (k * 3 + 2)) t = u.regs.getD k 0 / 2 ^ 64 % 2 ^ 32) ∧
  (let x := getQ (qn (if o.val < 4 then 50 else 51)) s
   x.en = true → x.late = [] → x.used + 20 ≤ x.cap →
   (getQ (qn (if o.val < 4 then 50 else 51)) t).ent.map Prod.snd =
     x.ent.map Prod.snd ++ mkMsg 0x50 o u.sec :: (summConts u).map contMsg)

end Sys2Proof.Claims

/-- R167, R170, R171, R188, R516: once TE0 has resumed billing, applied the summaries that wait and saved, RESTORE gives
the pair the eight registers of that save, which TE0 holds;
after it the pair, its band set, pops each frame of the outlet's stream and bills it by its index and stamp, from the
first complete one on; before it, or with TYPE NONE, frames are popped and nothing is billed. Model's choices in it:
log entries 10, 28, 83 and 84. -/
def Obligations.MeteringFramesAreBilledAfterRestore : Prop :=
  (∀ (o : Fin 8) (s : State), te0Up s = true → s.bill.resumed = true → billingWaits s = false → s.bill.unsaved = false →
    pairUp (pairOf o) s = true → metType o s ≠ 0 → (getMt o s).restored = false →
    Yields (.restore o) s fun t =>
      (getMt o t).regs = (getBo o s).regs ∧ (getMt o t).restored = true ∧ (getMt o t).billing = false ∧
      (getMt o t).startF = true ∧ (getBo o t).sent = (getBo o s).regs ∧ (getBo o t).regs = (getBo o s).regs ∧
      t.mram = s.mram ∧ t.samp = s.samp ∧ t.fold = s.fold) ∧
  (∀ (o : Fin 8) (s : State) (f : FrameIn) (k : Nat), pairUp (pairOf o) s = true → metType o s ≠ 0 →
    (getMt o s).restored = true → (getMt o s).bandInit = true → (getMt o s).billing = true ∨ f.c.isSome = true →
    (getMt o s).cal = none → s.supply.cal = none → (getQ (qn (32 + o.val)) s).late = [] →
    parseFrame (getMt o s).lastN ((getQ (qn (32 + o.val)) s).ent.map Prod.snd) = some (some f, k) →
    Yields (.frameBilling o) s fun t =>
      (getMt o t).billing = true ∧ (getMt o t).lastN = f.n ∧
      (getMt o t).lastC = f.c.getD ((getMt o s).lastC + 125000 * 2 ^ 16) ∧
      (getQ (qn (32 + o.val)) t).ent = (getQ (qn (32 + o.val)) s).ent.drop k ∧
      ((getMt o s).gapAt = none → t.mram = s.mram ∧ t.samp = s.samp ∧ t.fold = s.fold)) ∧
  (∀ (o : Fin 8) (s : State), pairUp (pairOf o) s = true → metType o s = 0 ∨ (getMt o s).restored = false →
    Yields (.frameBilling o) s fun t =>
      (getMt o t).regs = (getMt o s).regs ∧ (getMt o t).b = (getMt o s).b ∧ (getMt o t).lastN = (getMt o s).lastN)

/-- R169, R172, R173, R176: no energy is lost or rounded away. A frame adds, for the phases the no-load test has not left
out, exactly p × P(n) × KE to the bucket and its residue, active and reactive alike, and phase by phase where ACCMODE is
ABSOLUTE; a commit moves the buckets into
A+ or A− and NET, modulo 2^96, and empties them. Model's choices in it: log entry 29. -/
def Obligations.BucketsAndCommitsLoseNoEnergy : Prop :=
  (∀ (ke p : Nat) (fv : FrameVals) (m : Meter) b0 bs r0 r1 r2 r3, m.b = b0 :: bs → m.resA = [r0, r1, r2, r3] →
    let m' := bucketFrame false ke p fv m
    m'.b.sum * 2 ^ 131 + m'.resA.getD 3 0 = m.b.sum * 2 ^ 131 + r3 + (metered fv.p m.noload).sum * p * ke ∧
    m'.bq * 2 ^ 131 + m'.resQ = m.bq * 2 ^ 131 + m.resQ + (metered fv.q m.noload).sum * p * ke ∧
    m'.resA.take 3 = [r0, r1, r2] ∧ m'.resA.getD 3 0 < 2 ^ 131 ∧ m'.resQ < 2 ^ 131 ∧ m'.regs = m.regs) ∧
  (∀ (ke p : Nat) (fv : FrameVals) (m : Meter) b0 b1 b2 r0 r1 r2 r3 n0 n1 n2 p0 p1 p2, m.b = [b0, b1, b2] →
    m.resA = [r0, r1, r2, r3] → m.noload = [n0, n1, n2] → fv.p = [p0, p1, p2] →
    let m' := bucketFrame true ke p fv m
    m'.resA.getD 3 0 = r3 ∧ m'.regs = m.regs ∧
      ∀ e ∈ [(0, b0, r0, n0, p0), (1, b1, r1, n1, p1), (2, b2, r2, n2, p2)],
        m'.b.getD e.1 0 * 2 ^ 131 + m'.resA.getD e.1 0 =
          e.2.1 * 2 ^ 131 + e.2.2.1 + (if e.2.2.2.1 then 0 else e.2.2.2.2 * p * ke) ∧ m'.resA.getD e.1 0 < 2 ^ 131) ∧
  (∀ (ty ke iref noload : Nat) (abs forced : Bool) (m : Meter) r0 r1 r2 r3 r4 r5 r6 r7,
    m.regs = [r0, r1, r2, r3, r4, r5, r6, r7] →
    let m' := commitMeter ty abs ke iref noload forced m
    m'.b = [0, 0, 0] ∧ m'.bq = 0 ∧ m'.regs.length = 8 ∧
    (abs = false →
      ((m'.regs.getD 0 0 : Int) - m'.regs.getD 1 0 - (r0 - r1 + m.b.sum)) % 2 ^ 96 = 0 ∧
      ((m'.regs.getD 7 0 : Int) - (r7 + m.b.sum)) % 2 ^ 96 = 0) ∧
    (abs = true →
      ((m'.regs.getD 0 0 : Int) - (r0 + (m.b.map fun x => (x.natAbs : Int)).sum)) % 2 ^ 96 = 0 ∧
      m'.regs.getD 1 0 = r1 ∧ m'.regs.getD 7 0 = r7) ∧
    (ty ≠ 3 → ((m'.regs.getD 2 0 : Int) + m'.regs.getD 3 0 + m'.regs.getD 4 0 + m'.regs.getD 5 0
      - (r2 + r3 + r4 + r5 + m.bq.natAbs)) % 2 ^ 96 = 0))

/-- R166 to R168: each reading is shown, the first one sets the band, a later one sets the target with 1 °C of hysteresis
(or FBAND, forced, outside SEALED) and marks it pending; a pending change that is due takes effect and sets BANDCHG with its first frame.
Model's choices in it: log entry 9. -/
def Obligations.TemperatureBandsFollowReadings : Prop :=
  (∀ (o : Fin 8) (v : BitVec 16) (s : State), pairUp (pairOf o) s = true →
    let cur := rd (R.MET_TEMP_BAND o) s
    let forced := flag (R.MET_OCFG_FEN o).eff s && !(locked s)
    let band (x : Int) : Nat := if x < -200 then 0 else if 1000 ≤ x then 7 else ((x + 400) / 200).toNat
    let first := !((getMt o s).bandInit)
    let near := if first then band v.toInt
      else if cur < band v.toInt ∧ (cur : Int) * 200 - 190 ≤ v.toInt then band v.toInt
      else if band v.toInt < cur ∧ v.toInt < (cur : Int) * 200 - 410 then band v.toInt else cur
    let tgt := if forced then rd (R.MET_OCFG_FBAND o).eff s else near
    tgt < 8 →
    Yields (.tempReading o v) s fun t =>
      rd (R.MET_TEMP_T o) t = v.toNat ∧ rd (R.MET_TEMP_TBAND o) t = tgt ∧
      (first = true → rd (R.MET_TEMP_BAND o) t = tgt ∧ rd (R.MET_TEMP_PEND o) t = 0) ∧
      (first = false → rd (R.MET_TEMP_BAND o) t = cur ∧ (rd (R.MET_TEMP_PEND o) t = if tgt = cur then 0 else 1)) ∧
      t.qs = s.qs ∧ t.mram = s.mram ∧ (getMt o t).regs = (getMt o s).regs) ∧
  (∀ (o : Fin 8) (s : State), pairUp (pairOf o) s = true → bandDue o (s.clock / 2 ^ 24) s = true →
    Yields (.bandChange o) s fun t =>
      rd (R.MET_TEMP_BAND o) t = rd (R.MET_TEMP_TBAND o) s % 8 ∧ rd (R.MET_TEMP_PEND o) t = 0 ∧
      (getMt o t).next.testBit 7 = true ∧ (getMt o t).regs = (getMt o s).regs ∧ t.qs = s.qs ∧ t.mram = s.mram)

/-- R177, R178, R180, R200: LIVE completes: the values of the closed 100 ms interval appear in NRG and go to the outlet
engine, and energy is not touched; an engine that runs takes them at once.  SUMMARY completes: the summary of the oldest
closed second, or of the second under way once the clock has passed it, is shown and sent, unless the test vector fails: then
the active member gives up with cause 4. Model's choices in it: log entries 3, 16, 29 and 100. -/
def Obligations.LiveValuesAndSummariesReport : Prop :=
  (∀ (o : Fin 8) (s : State), pairUp (pairOf o) s = true → metType o s ≠ 0 → (getMt o s).lvDone.n ≠ 0 →
    Yields (.live o) s (LiveShown o s)) ∧
  (∀ (o : Fin 8) (s : State), pairUp (pairOf o) s = true → metType o s ≠ 0 → (getMt o s).lvDone.n ≠ 0 →
    outActive o s = false →
    Yields (.live o) s fun t => LiveShown o s t ∧ t.mram = s.mram ∧ t.samp = s.samp ∧ t.fold = s.fold ∧ t.outs = s.outs ∧
      (let x := getQ (qn (56 + o.val)) s
       x.en = true → x.late = [] → x.used + 3 ≤ x.cap →
       (getQ (qn (56 + o.val)) t).ent.map Prod.snd = x.ent.map Prod.snd ++ liveMsgs o s t)) ∧
  (∀ (o : Fin 8) (s : State), pairUp (pairOf o) s = true → metType o s ≠ 0 → (getMt o s).lvDone.n ≠ 0 →
    outActive o s = true → (getOs o s).ramp = none → (ostate o s = 5 → (getOs o s).nOver < 49 ∧ (getOs o s).nExp < 19) →
    Yields (.live o) s fun t => LiveShown o s t ∧ t.mram = s.mram ∧ t.samp = s.samp ∧ t.fold = s.fold ∧
      (getQ (qn (56 + o.val)) t).ent = [] ∧ ostate o t = ostate o s ∧
      (ostate o s ≠ 5 → (getOs o t).nOver = 0 ∧ (getOs o t).nExp = 0)) ∧
  (∀ (o : Fin 8) (s : State), o ≠ 0 → pairUp (pairOf o) s = false ∨ metType o s = 0 ∨ (getMt o s).lvDone.n = 0 →
    exec (.live o) s = .next s) ∧
  (∀ (o : Fin 8) (s : State) u us, pairUp (pairOf o) s = true → metType o s ≠ 0 → (getMt o s).restored = true →
    (getMt o s).due = u :: us → u.regs.length = 8 →
    Yields (.summary o true) s fun t => us <+: (getMt o t).due ∧ SummaryShown o u s t) ∧
  (∀ (o : Fin 8) (sec : Nat) (s : State), pairUp (pairOf o) s = true → metType o s ≠ 0 → (getMt o s).restored = true →
    (getMt o s).due = [] → (getMt o s).sec = some sec → sec < clkSec s → frameWaits o sec s = false →
    (getMt o s).regs.length = 8 →
    Yields (.summary o true) s fun t => (getMt o t).due = [] ∧ (getMt o t).sec = none ∧
      SummaryShown o ⟨sec, (getMt o s).flags ||| flagIf (getMt o s).startF sfSTART ||| flagIf (getMt o s).gapF sfGAP,
        (getMt o s).regs, (getMt o s).first, (getMt o s).lastN, (getMt o s).secP⟩ s t) ∧
  (∀ (o : Fin 8) (s : State) u us, pairUp (pairOf o) s = true → metType o s ≠ 0 → (getMt o s).restored = true →
    (getMt o s).due = u :: us →
    exec (.summary o false) s = exec (.memberGiveUp (en (activeOf (pairOf o) s)) 4) (closeIfPast o s)) ∧
  (∀ (o : Fin 8) (v : Bool) (s : State), pairUp (pairOf o) s = false ∨ metType o s = 0 ∨ (getMt o s).restored = false →
    exec (.summary o v) s = .next s)

/-- R191 to R196: CAL_APPLY copies the staged configuration and sets and leaves those in effect until they apply;
CH_TEST injects the reference on one channel; the end of the frames it affects ends the test and reports the measured
errors; PAIR_STANDBY takes the standby member out for its self-test. Model's choices in it: log entries 31 and 85. -/
def Obligations.CalibrationAndTestRequestsAct : Prop :=
  (∀ (n : Fin 8) (w0 : W24) (s : State), Owned n w0 s → locked s = false →
    flag (R.FLT_CHSTAT_FLT (reqOutlet w0) (reqChan w0)) s = false →
    (reqOutlet w0 = 8 → s.supply.cal = none) →
    (reqOutlet w0 < 8 → applicable (reqOutlet w0) s ∧ (getMt (reqOutlet w0) s).cal = none) →
    Yields (.calApply n w0 0) s fun t =>
      (reqOutlet w0 < 8 → (getMt (reqOutlet w0) t).cal = some (n.val, w0.toNat)) ∧
      (reqOutlet w0 = 8 → t.supply.cal = some (n.val, w0.toNat)) ∧
      (∀ f ∈ metFields (reqOutlet w0), rd f.copy t = rd f s % 2 ^ f.wid) ∧
      (∀ f ∈ calFields (reqOutlet w0), rd f.eff t = rd f.eff s ∧ rd f t = rd f s) ∧ t.mram = s.mram ∧ t.samp = s.samp) ∧
  (∀ (n : Fin 8) (w0 w1 : W24) (s : State), Owned n w0 s →
    let o := reqOutlet w0
    let c := reqChan w0
    let ms := fld w1 9 0
    flag (R.FLT_CHSTAT_FLT o c) s = false → fld w1 23 10 = 0 → 1 ≤ ms → ms ≤ 1000 → o = 8 ∨ c < 8 →
    flag (R.FLT_CHCFG_EN o c) s = true → pairDuplex (chanOwner o c) s = true → chanBusy o c s = false →
    testBudget o c s + ms ≤ 1000 → testCount s < limTests (limitMode s) →
    (∀ d ∈ chansOf o, (getCh o d s).testOn = false) →
    Yields (.chTest n w0 w1) s fun t =>
      (getCh o c t).testOn = true ∧ (getCh o c t).inject = true ∧ (getCh o c t).testN = n ∧ (getCh o c t).testW = w0.toNat ∧
      (isCurrent o c = true → (getCh o (c + 4) t).inject = true) ∧
      testBudget o c t = testBudget o c s + ms ∧
      OnlyChan o c (if o < 8 then modMt o (fun m => { m with commitSince := false }) s else s) t) ∧
  (∀ (o : Fin 9) (c : Fin 14) (n : Fin 8) (g r : BitVec 16) (s : State), (getCh o c s).testOn = true → (getCh o c s).testN = n →
    testPast o c s = true →
    let e := if g = 0x8000 then 0x8001 else g.toNat
    Yields (.chTestEnd o c g r) s fun t =>
      (getCh o c t).testOn = false ∧ (getCh o c t).inject = false ∧ OnlyChan o c s t ∧
      (isCurrent o c = false → Completed n 0x21 (getCh o c s).testW (e * 256) stOK s t) ∧
      (let x := getQ (qn (8 + n.val)) s
       isCurrent o c = true → OwesOnly n 0x21 (getCh o c s).testW s → x.en = true → x.late = [] → x.used + 2 ≤ x.cap →
       (getQ (qn (8 + n.val)) t).ent = x.ent ++ [(x.tail, mkMsg 0xA1 (getCh o c s).testW (e * 256)),
         (x.tail + 1, contMsg (w24 (ratioOf o c r s), 0))])) ∧
  (∀ (n : Fin 8) (w0 w1 : W24) (s : State), Served n s →
    let p := fld w0 0 0
    let sb := if engState (pairLo p) s = 6 then pairLo p else pairLo p + 1
    fld w0 23 1 = 0 → fld w1 23 1 = 0 → Open (ownerQ (pairLo p)) s → pairServes (pairLo p) s = true →
    pairDuplex (pairLo p) s = true → isScrapped s = false →
    (getPair p s).req = none →
    (∀ o ∈ pairOutlets p ++ (if p = 0 then [8] else []), ∀ c ∈ chansOf o, c < 12 → (getCh o c s).testOn = false) →
    Yields (.pairStandby n w0 w1) s fun t =>
      engState sb t = 2 ∧ (getPair p t).req = some (n.val, w0.toNat, w1.toNat % 2 == 1) ∧ (getPair p t).swept = false ∧
      (∀ e, e ≠ sb → e < 16 → engState e t = engState e s) ∧ t.engs = s.engs ∧ t.mram = s.mram)

namespace Sys2Proof.Claims
open Sys2Proof.Machine

/-! ### Billing -/

/-- R206 to R208: the summaries of local second `sec` that wait in Q50 and Q51 and have not been applied before. -/
def fresh (typ sec : Nat) (s : State) : List SumIn :=
  let a := takeSummaries typ 50 sec 4 s
  let b := takeSummaries typ 51 sec 4 a.1
  (a.2 ++ b.2).filter fun u => decide (u.o < 8) && !(applied u s)

/-- A billing request of the host reaches TE0, which has resumed billing and whose vault engine runs. -/
def BillServed (n : Fin 8) (s : State) : Prop :=
  Served n s ∧ te15Up s = true ∧ s.upd.bad.getD 2 false = false ∧ s.bill.resumed = true

/-- A request is answered at once with type `typ` + 0x80 and these words: its completion enters Q(8 + n), where that
queue is enabled and has room and no other completion is owed (R98). -/
def Answered (n typ w0 w1 st : Nat) (s t : State) : Prop :=
  let x := getQ (qn (8 + n)) s
  s.owed = [] → x.en = true → x.late = [] → x.full = false →
    (getQ (qn (8 + n)) t).ent = x.ent ++ [(x.tail, mkMsg (typ + 0x80) w0 (w1 / 256 * 256 + st))]

/-- No summary applied so far, no reading made: the billing registers of every outlet are as before. -/
def BillRegsKept (s t : State) : Prop := ∀ o < 8, (getBo o t).regs = (getBo o s).regs ∧ (getBo o t).timp = (getBo o s).timp

end Sys2Proof.Claims

/-- R206 to R208, R226 to R229: TE0 applies the waiting summaries of the next second, each once; after a warning the
power-fail summaries end billing; a slot reads back what was saved, with the frames then applied, and leaves the other
slots alone; a start after a
full reset resumes from the newest valid slot. Model's choices in it: log entries 10, 34, 35, 60, 87 and 108. -/
def Obligations.BillingAppliesSavesAndRestarts : Prop :=
  (∀ (s : State) (sec : Nat), billingUp s = true → nextSecond 0x50 s = some sec → fresh 0x50 sec s ≠ [] →
    ((fresh 0x50 sec s).map SumIn.o).Nodup → s.bill.clkWait = [] → s.bill.unsaved = false →
    Yields .summaryApply s fun t =>
      (∀ u ∈ fresh 0x50 sec s, (getBo u.o t).regs = u.regs ∧ (getBo u.o t).last = u.flags) ∧
      (∀ o < 8, o ∉ (fresh 0x50 sec s).map SumIn.o → (getBo o t).regs = (getBo o s).regs) ∧
      t.bill.lsec = sec ∧ t.bill.t = legalOf sec s ∧ t.bill.first = false) ∧
  (∀ (s : State) (sec : Nat), billingUp s = true → nextSecond 0x50 s = some sec → fresh 0x50 sec s = [] →
    s.bill.unsaved = false → ∃ u, QueueOnly s u ∧ exec .summaryApply s = .next (te0GoesOn u)) ∧
  (∀ (s : State) (sec : Nat), billingUp s = true → warned s = true → nextSecond 0x50 s = none → s.bill.unsaved = false →
    nextSecond 0x52 s = some sec → fresh 0x52 sec s ≠ [] → ((fresh 0x52 sec s).map SumIn.o).Nodup →
    nextSecond 0x52 (applyPartial sec s) = none →
    Yields .powerfailSummaryApply s fun t =>
      (∀ u ∈ fresh 0x52 sec s, (getBo u.o t).regs = u.regs) ∧ t.bill.lsec = sec ∧ t.bill.closed = true ∧
      exec .summaryApply t = .next t ∧ exec .powerfailSummaryApply t = .next t) ∧
  (∀ (kind : Nat) (s : State), rd R.BIL_SAVESEQ_SEQ s + 1 < 2 ^ 32 →
    let b := slotBytes (rd R.BIL_SAVESEQ_SEQ s + 1) kind (modBill (fun b => { b with lastFrame := b.newFrame }) s)
    b.length = 3648 → readSlot ((rd R.BIL_SAVESEQ_SEQ s + 1) % 8) (writeSlot kind s) = some b ∧
    ∀ i < 8, i ≠ (rd R.BIL_SAVESEQ_SEQ s + 1) % 8 → readSlot i (writeSlot kind s) = readSlot i s) ∧
  (∀ (s : State) a rest, te0Up s = true → recovery s = false → s.upd.bad.getD 2 false = false →
    s.bill.resumed = false → s.bill.loaded = false → validSlots s = a :: rest →
    Yields .billingRestart s fun t =>
      (∀ o < 8, ∀ k < 8, (getBo o t).regs.getD k 0 = sl a (64 + 448 * o + 12 * k) 12) ∧
      t.bill.t = sl a 14 6 ∧ t.bill.lsec = sl a 8 6 ∧ t.bill.closed = false ∧ t.bill.resumed = true)

/-- R231, R234 to R240: the billing requests: a signed reading takes the next counter and stands in the buffer; a
session opens with its identifier and kind and waits for its first second; it closes with its end reading; a calendar
waits as pending; an authorised clock mode or demand reset waits, its counter spent. No request changes a register.
Model's choices in it: log entries 4, 33, 35 and 87. -/
def Obligations.BillingRequestsAct : Prop :=
  (∀ (n : Fin 8) (w0 : W24) (s : State),
    let o := fld w0 3 0
    let cnt := s.bill.counter + 1
    let body := readingBody o 0 (fld w0 5 4) cnt s
    BillServed n s → canSign s = true → o < 8 → fld w0 23 6 = 0 → fld w0 5 4 ≠ 3 → pairStopped (pairOf o) s = false →
    s.bill.rdWait.length < 64 →
    (metType o s ≠ 0 ∧ isScrapped s = false) ∨ (isScrapped s = true ∧ wiping s = false) → body.length = 160 →
    Yields (.readSigned n w0 0) s fun t =>
      t.bill.counter = cnt ∧ mramRdN t (rdBase + (cnt - 1) % 64 * 256) 160 = body ∧ BillRegsKept s t ∧
      Answered n 0x30 w0.toNat ((cnt - 1) % 64 * 256 + cnt % 1024 * 2 ^ 14) stOK s t) ∧
  (∀ (n : Fin 8) (w0 : W24) (conts : List Cont) (s : State),
    let o := fld w0 3 0
    BillServed n s → flag R.GV_VSTAT_DRBGF s = false → o < 8 → fld w0 23 6 = 0 → fld w0 5 4 ≠ 3 → conts.length = 4 →
    leNat (((contsToBytes conts).drop 16).take 2) = 0 → metType o s ≠ 0 → (getBo o s).sess.op = false →
    pairStopped (pairOf o) s = false → isScrapped s = false →
    Yields (.sessionOpen n w0 0 conts) s fun t =>
      (getBo o t).sess.op = true ∧ (getBo o t).sess.id = (contsToBytes conts).take 16 ∧
      (getBo o t).sess.kind = fld w0 5 4 ∧ (getBo o t).sess.wait = some (n.val, w0.toNat) ∧
      rd (R.BIL_BSTAT_CREDKIND o) t = fld w0 5 4 ∧ BillRegsKept s t ∧ t.mram = s.mram) ∧
  (∀ (n : Fin 8) (w0 : W24) (s : State),
    let o := fld w0 3 0
    BillServed n s → canSign s = true → o < 8 → fld w0 23 4 = 0 → metType o s ≠ 0 → (getBo o s).sess.op = true →
    (getBo o s).sess.closeWait = none → pairStopped (pairOf o) s = false → isScrapped s = false →
    Yields (.sessionClose n w0 0) s fun t =>
      BillRegsKept s t ∧
      (match (getBo o s).sess.wait with
       | none => (getBo o t).sess.op = false ∧ t.bill.counter = s.bill.counter + 1 ∧
         (n ≠ 0 → Answered n 0x32 w0.toNat (s.bill.counter % 64 * 256 + (s.bill.counter + 1) % 1024 * 2 ^ 14) stOK s t)
       | some _ => (getBo o t).sess.op = true ∧ (getBo o t).sess.closeWait = some (n.val, w0.toNat))) ∧
  (∀ (n : Fin 8) (w0 : W24) (s : State),
    let c := mramRdN s 0x0B0000 1296
    BillServed n s → fld w0 23 4 = 0 → calBad c s = false → isScrapped s = false → wiping s = false →
    (s.calAct ≠ [] → calSeq s.calAct < calSeq c) → (s.calPend ≠ [] → calSeq s.calPend < calSeq c) →
    Yields (.calendarLoad n w0 0) s fun t =>
      t.calPend = c ∧ t.calAct = s.calAct ∧ BillRegsKept s t ∧ t.mram = s.mram ∧ Answered n 0x33 w0.toNat 0 stOK s t) ∧
  (∀ (n : Fin 8) (w0 w1 : W24) (s : State),
    let a := tariffAuth s
    BillServed n s → vaultFault false s = false → fld w0 23 4 = 0 → fld w1 23 1 = 0 →
    authDenied a 0x10 (a.plen == 4 * fld w1 0 0) (a.anchor == 3) s = false → authStale a s = false →
    isScrapped s = false → wiping s = false →
    Yields (.clockAuth n w0 w1) s fun t =>
      t.bill.clkWait = s.bill.clkWait ++
        [⟨n, w0.toNat, if fld w1 0 0 = 1 then some (sext 32 (leNat (a.params.take 4))) else none⟩] ∧
      rd (R.GV_ANCCNT_CNT a.anchor) t = a.counter % 2 ^ 32 ∧ t.bill.t = s.bill.t ∧ BillRegsKept s t ∧ t.mram = s.mram) ∧
  (∀ (n : Fin 8) (w0 : W24) (s : State),
    let a := tariffAuth s
    BillServed n s → vaultFault false s = false → fld w0 23 4 = 0 →
    authDenied a 0x11 (a.plen == 0) (a.anchor == 3) s = false → authStale a s = false →
    isScrapped s = false → wiping s = false →
    Yields (.mdReset n w0 0) s fun t =>
      t.bill.mdWait = s.bill.mdWait ++ [(n.val, w0.toNat)] ∧ rd (R.GV_ANCCNT_CNT a.anchor) t = a.counter % 2 ^ 32 ∧
      BillRegsKept s t ∧ (∀ o < 8, (getBo o t).md = (getBo o s).md) ∧ t.mram = s.mram)

namespace Sys2Proof.Claims
open Sys2Proof.Machine

/-! ### Outlet sessions -/

/-- R265: a request of the host for outlet `o` reaches its engine, which has the pilot, and none of the conditions of
R266 that every request shares refuses it. -/
def OutServed (n : Fin 8) (w0 : W24) (s : State) : Prop :=
  Served n s ∧ fld w0 3 0 < 8 ∧ fld w0 23 4 = 0 ∧ Open (64 + fld w0 3 0) s ∧ pdOn 5 s = true ∧
    outActive (fld w0 3 0) s = true ∧ flag (R.OUT_DUTY_GENF (fld w0 3 0)) s = false ∧ metType (fld w0 3 0) s ≠ 0 ∧ isScrapped s = false

/-- The outlet has the state `st` with a reason, after `was`. -/
def OutletIn (o st was reason : Nat) (t : State) : Prop :=
  ostate o t = st ∧ rd (R.OUT_STATE_PREV o) t = was ∧ rd (R.OUT_STATE_REASON o) t = reason

/-- No request of the outlet waits for a change of state, and no ramp-down runs. -/
def Quiet (o : Nat) (s : State) : Prop :=
  let x := getOs o s
  x.ramp = none ∧ x.leave = none ∧ x.check = none ∧ x.auth = none ∧ x.stop = none ∧ x.energise = none

/-- R246: a plateau in 10 mV shows state `k` (0 A to 4 E), more than 0.2 V clear of the bounds of its band. -/
def InBand (k : Nat) (v : Int) : Prop :=
  (k = 0 ∧ 1070 < v) ∨ (k = 1 ∧ 770 < v ∧ v < 1030) ∨ (k = 2 ∧ 470 < v ∧ v < 730) ∨ (k = 3 ∧ 170 < v ∧ v < 430) ∨
    (k = 4 ∧ -130 < v ∧ v < 130)

/-- R246: a period measures the positive plateau: it is at least 20 µs long. -/
def Measured (o : Nat) (s : State) : Prop := rd (R.OUT_DUTY_MODE o) s = 0 → 40 ≤ rd (R.OUT_DUTY_D o) s

/-- R246: the rule of DIODE looks at the low plateau: PWM with one that is long enough. -/
def LowJudged (o : Nat) (s : State) : Prop := rd (R.OUT_DUTY_MODE o) s = 0 ∧ rd (R.OUT_DUTY_D o) s ≤ 1960

/-- R246: three consecutive periods show state `k`; in PWM a vehicle in B, C or D pulls its low plateau to −10.5 V. -/
def ThreeShow (o k : Nat) (m1 m2 m3 : Plateaus) (s : State) : Prop :=
  Measured o s ∧ ∀ m ∈ [m1, m2, m3], InBand k m.hi.toInt ∧ (LowJudged o s → 1 ≤ k → k ≤ 3 → m.lo.toInt ≤ -1050)

end Sys2Proof.Claims

/-- R246 to R249, R252, R260, R281: a pilot state that three consecutive periods show, and a proximity band that five
measurements lie in, is shown before the outlet acts on it, and the engine counts the changes from B to C; periods that do not agree change nothing. State A ends a
connection, or opens a charging session at once; an invalid pilot or a generator fault leads to FAULT; at the start
of a period the generator takes its new duty, and a vehicle found in IDLE is CONNECTED. Model's choices in it: log
entries 36, 90 and 113. -/
def Obligations.PilotAndProximityDriveTheOutlet : Prop :=
  (∀ (o : Fin 8) (m1 m2 m3 : Plateaus) (s : State), ∃ u,
    (Measured o s → rd (R.OUT_PILOT_VHI o) u = m3.hi.toNat) ∧
    (∀ k < 5, ThreeShow o k m1 m2 m3 s → rd (R.OUT_STATE_PILOT o) u = k) ∧
    (Measured o s → LowJudged o s → ∀ k, 1 ≤ k → k ≤ 3 → (∀ m ∈ [m1, m2, m3], InBand k m.hi.toInt ∧ -1050 < m.lo.toInt) →
      rd (R.OUT_STATE_PILOT o) u = 6) ∧
    (∀ j k, j ≠ k → j < 5 → k < 5 → ThreeShow o j m1 m1 m1 s → ThreeShow o k m3 m3 m3 s →
      rd (R.OUT_STATE_PILOT o) u = pilotOf o s) ∧
    ({ getOs o u with toggles := (getOs o s).toggles } = getOs o s) ∧
    ((getOs o u).toggles = (if pilotOf o u = pilotOf o s then (getOs o s).toggles else if pilotOf o u = 0 then 0
      else if pilotOf o s = 1 ∧ pilotOf o u = 2 then (getOs o s).toggles + 1 else (getOs o s).toggles)) ∧
    (∀ k : Fin 8, k ≠ o → getOs k u = getOs k s) ∧ { u with regs := s.regs, outs := s.outs } = s ∧
    exec (.pilotStateChange o m1 m2 m3) s = .next (
      if pilotOf o u = pilotOf o s then u
      else if held o s then (if foldUp s then holdPilot o (pilotAs o (pilotOf o s) s) u else u)
      else react o true false (pilotAs o (pilotOf o s) s) u)) ∧
  (∀ (o : Fin 8) (m1 m2 m3 : Plateaus) (s : State), ThreeShow o 0 m1 m2 m3 s → pilotOf o s ≠ 0 → outActive o s = true →
    flag (R.OUT_DUTY_GENF o) s = false → ppFault o s = false → Quiet o s →
    (ostate o s = 2 → Yields (.pilotStateChange o m1 m2 m3) s (OutletIn o 1 2 3)) ∧
    (ostate o s = 5 → Yields (.pilotStateChange o m1 m2 m3) s fun t =>
      ostate o t = 5 ∧ (getOs o t).ramp = some ⟨8, 3, true, true, false⟩ ∧ rd (R.OUT_STATE_KSTATE o) t = 3)) ∧
  (∀ (o : Fin 8) (m1 m2 m3 : Plateaus) (s : State), ThreeShow o 4 m1 m2 m3 s → pilotOf o s ≠ 4 → outActive o s = true →
    Quiet o s → ostate o s ∈ [1, 2, 3, 6, 8] →
    Yields (.pilotStateChange o m1 m2 m3) s (OutletIn o 9 (ostate o s) 5)) ∧
  (∀ (o : Fin 8) (r1 r2 r3 r4 r5 : BitVec 16) (s : State),
    if ∀ r ∈ [r1, r2, r3, r4], ppRow r.toNat = ppRow r5.toNat then
      ∃ u, rd (R.OUT_PP_R o) u = r5.toNat % 2 ^ (R.OUT_PP_R o).wid ∧ { u with regs := s.regs } = s ∧
        (socket o s = true → r5.toNat < 2 ^ (R.OUT_PP_R o).wid →
          rd (R.OUT_PP_CAP o) u = (ppBand r5.toNat).getD 0 ∧
          rd (R.OUT_STATE_PPOK o) u = if (ppBand r5.toNat).getD 0 = 0 then 0 else 1) ∧
        exec (.ppChange o ⟨r1, r2, r3, r4, r5⟩) s =
          .next (if held o s then (if foldUp s then holdPP o u else u) else setGen o (react o true false 0 u))
    else exec (.ppChange o ⟨r1, r2, r3, r4, r5⟩) s = .next s) ∧
  (∀ (o : Fin 8) (s : State), outActive o s = true → Quiet o s → ostate o s ∈ [1, 2, 3, 6, 8] →
    Yields (.generatorFault o) s fun t => OutletIn o 9 (ostate o s) 5 t ∧ rd (R.OUT_DUTY_GENF o) t = 1) ∧
  (∀ (o : Fin 8) (s : State), pdOn 5 s = true → ∃ u,
    rd (R.OUT_DUTY_MODE o) u = (getOs o s).tMode % 2 ^ (R.OUT_DUTY_MODE o).wid ∧
    rd (R.OUT_DUTY_D o) u = (if (getOs o s).tMode = 0 then (getOs o s).tDuty else 0) % 2 ^ (R.OUT_DUTY_D o).wid ∧
    (getOs o u).limit = (if outActive o s then none else (getOs o s).limit) ∧
    exec (.pilotPeriodStart o) s = .next (react o false true 0 u)) ∧
  (∀ (o : Fin 8) (s : State), pdOn 5 s = true → outActive o s = true → flag (R.OUT_DUTY_GENF o) s = false → Quiet o s →
    (getOs o s).limit = none → ppValid o s = true → 1 ≤ pilotOf o s → pilotOf o s ≤ 3 → ostate o s = 1 →
    Yields (.pilotPeriodStart o) s (OutletIn o 2 1 0))

/-- R245, R252, R253, R265, R266, R269: the requests to an outlet engine: in and out of service, the pilot check,
authorisation, the host's limit, stop and suspend, the configuration, and closing on DC. Model's choices in it: log
entry 36. -/
def Obligations.OutletRequestsAct : Prop :=
  (∀ (n : Fin 8) (w0 : W24) (s : State), let o := fld w0 3 0
    OutServed n w0 s → Quiet o s →
    (ostate o s ∈ [1, 8, 9] → Yields (.outService n w0 0) s (OutletIn o 0 (ostate o s) 1)) ∧
    (ostate o s = 0 → Yields (.outService n w0 0) s fun t => ostate o t = 0 ∧ Answered n 0x01 w0.toNat 0 stOK s t) ∧
    (ostate o s = 0 → pairStopped (pairOf o) s = false → outPowered o s = true →
      Yields (.outService n w0 1) s (OutletIn o 1 0 0)) ∧
    (ostate o s = 9 → pairStopped (pairOf o) s = false → outPowered o s = true →
      Yields (.outService n w0 1) s fun t => ostate o t = 9 ∧ (getOs o t).check = some ⟨n, w0.toNat⟩)) ∧
  (∀ (o : Fin 8) (w : Waiting) (s : State), outActive o s = true → (getOs o s).check = some w → (getOs o s).leave = none →
    ostate o s = 9 →
    Yields (.pilotCheckEnd o) s fun t => (getOs o t).check = none ∧
      if pilotOf o s ≤ 3 ∧ ppFault o s = false ∧ flag (R.OUT_DUTY_GENF o) s = false then OutletIn o 1 9 0 t
      else ostate o t = 9) ∧
  (∀ (n : Fin 8) (w0 : W24) (s : State), let o := fld w0 3 0
    OutServed n w0 s → pairStopped (pairOf o) s = false → Quiet o s → ostate o s = 2 → pilotOf o s = 1 → ppFault o s = false →
    Yields (.outAuthorise n w0 0) s (fun t => ostate o t = 2 ∧ Answered n 0x02 w0.toNat 0 stOK s t) ∧
    Yields (.outAuthorise n w0 1) s (fun t =>
      if hlcOf o s = 2 ∧ (getOs o s).slac ≠ 1 then ostate o t = 2 ∧ (getOs o t).auth = some ⟨n, w0.toNat⟩
      else OutletIn o 3 2 0 t ∧ (getOs o t).auth = none ∧ (getOs o t).hostLim = 800)) ∧
  (∀ (n : Fin 8) (w0 w1 : W24) (s : State), let o := fld w0 3 0
    OutServed n w0 s → w1.toNat ≤ 800 → (getOs o s).limit = none → ∃ u,
    (getOs o u).hostLim = w1.toNat ∧ (getOs o u).limit = some ⟨n, w0.toNat⟩ ∧ ostate o u = ostate o s ∧
    exec (.outLimit n w0 w1) s = .next (setGen o (react o true false 0 u))) ∧
  (∀ (n : Fin 8) (w0 : W24) (s : State), let o := fld w0 3 0
    OutServed n w0 s → Quiet o s →
    (ostate o s ∈ [3, 6] → Yields (.outStop n w0 0) s (OutletIn o 8 (ostate o s) 1)) ∧
    (ostate o s ∈ [4, 5] → Yields (.outStop n w0 0) s fun t => OutletIn o 7 (ostate o s) 1 t ∧
      (getOs o t).stop = some (⟨n, w0.toNat⟩, 0)) ∧
    (ostate o s ∈ [0, 1, 2, 8, 9] → Yields (.outStop n w0 0) s fun t =>
      ostate o t = ostate o s ∧ Answered n 0x04 w0.toNat (ostate o s * 256) stOK s t) ∧
    (ostate o s = 5 → Yields (.outStop n w0 1) s fun t => ostate o t = 5 ∧
      (getOs o t).ramp = some ⟨6, 1, false, false, false⟩ ∧ (getOs o t).susp = true)) ∧
  (∀ (n : Fin 8) (w0 : W24) (s : State), let o := fld w0 3 0
    OutServed n w0 s → outOfService o s = true → outCfgBad o s = false →
    Yields (.outApply n w0 0) s fun t => (∀ f ∈ outFields o, rd f.eff t = rd f s % 2 ^ f.wid) ∧
      ostate o t = ostate o s ∧ Answered n 0x05 w0.toNat 0 stOK s t) ∧
  (∀ (n : Fin 8) (w0 : W24) (s : State), let o := fld w0 3 0
    OutServed n w0 s → pairStopped (pairOf o) s = false → Quiet o s → isDC o s = true → ppFault o s = false →
    (ostate o s = 3 → pilotOf o s = 1 → Yields (.outEnergise n w0 0) s fun t =>
      ostate o t = 3 ∧ (getOs o t).energise = some ⟨n, w0.toNat⟩) ∧
    (ostate o s = 6 → Yields (.outEnergise n w0 0) s fun t => OutletIn o 4 6 0 t ∧ rd (R.OUT_STATE_KSTATE o) t = 1 ∧
      (getOs o t).closing = true ∧ (getOs o t).susp = false))

/-- R34, R255, R258, R259, R262, R263: a ramp-down cause ends a session that is not energised, and ramps down one that is; so
does spent credit; after 3 s the contactors open by force; SLAC fails in time; an expired hold ramps down; a returning
engine ends the hold, and a session that it resumes above 135 °C. Model's choices in it: log entries 9 and 36. -/
def Obligations.RampDownsAndHoldsRun : Prop :=
  (∀ (o : Fin 8) (r : Fin 19) (s : State), outActive o s = true → r.val ∈ [1, 2, 6, 7, 8, 9, 11, 12] → Quiet o s →
    (ostate o s ∈ [3, 6] → Yields (.rampdown o r) s (OutletIn o 8 (ostate o s) r.val)) ∧
    (ostate o s = 4 → Yields (.rampdown o r) s fun t => OutletIn o 7 4 r.val t ∧
      (getOs o t).ramp = some ⟨8, r.val, false, true, false⟩ ∧ rd (R.OUT_STATE_KSTATE o) t = 3) ∧
    (ostate o s = 5 → Yields (.rampdown o r) s fun t => OutletIn o 7 5 r.val t ∧
      (getOs o t).ramp = some ⟨8, r.val, false, false, false⟩)) ∧
  (∀ (o : Fin 8) (s : State), Open (64 + o) s → outActive o s = true → Quiet o s →
    (ostate o s ∈ [3, 6] → Yields (.creditStop o) s (OutletIn o 8 (ostate o s) 2)) ∧
    (ostate o s = 5 → Yields (.creditStop o) s fun t => OutletIn o 7 5 2 t ∧
      (getOs o t).ramp = some ⟨8, 2, false, false, false⟩)) ∧
  (∀ (o : Fin 8) (r : Ramp) (s : State), held o s = false → outActive o s = true → (getOs o s).ramp = some r →
    r.imm = false → r.opening = false →
    Yields (.rampdownTimeout o) s fun t => (getOs o t).ramp = some { r with opening := true, forced := true } ∧
      rd (R.OUT_STATE_KSTATE o) t = 3 ∧ ostate o t = ostate o s) ∧
  (∀ (o : Fin 8) (s : State), held o s = true → foldUp s = true → (getFo o s).hold = 2 → ∃ u,
    (getFo o u).hold = 3 ∧ (getFo o u).forced = true ∧ { u with fold := s.fold } = s ∧
    exec (.rampdownTimeout o) s = .next (openNow o none u)) ∧
  (∀ (o : Fin 8) (s : State), outActive o s = true → ostate o s = 2 → (getOs o s).slac = 0 → hlcOf o s ≠ 0 →
    Yields (.slacTimeout o) s fun t => (getOs o t).slac = 2 ∧ { t with outs := s.outs } = s) ∧
  (∀ (o : Fin 8) (s : State), foldUp s = true → held o s = true → (getFo o s).hold = 1 → shut o s = false →
    Yields (.holdWindowExpiry o) s fun t => (getFo o t).hold = (if notOpen o s then 3 else 4) ∧ (getOs o t).tMode = 1 ∧ (getFo o t).pst = 2 ∧
      held o t = true) ∧
  (∀ (o : Fin 8) (s : State), foldUp s = true → held o s = true → (getFo o s).hold = 1 → shut o s = true → notOpen o s = true →
    kindOf o s ≠ 3 → 2 ≤ pilotAs o (pilotOf o s) s →
    Yields (.holdWindowExpiry o) s fun t => (getFo o t).hold = 2 ∧ (getOs o t).tMode = 1 ∧ (getFo o t).pst = 2 ∧ held o t = true) ∧
  (∀ (o : Fin 8) (s : State), outUp o s = true → held o s = true → (getFo o s).hold ≠ 2 → (getFo o s).hold ≠ 3 → ∃ u,
    held o u = false ∧ (getFo o u).hold = 0 ∧ rd (R.OUT_STATE_REASON o) u = 16 ∧
    exec (.holdResume o) s = .next (react o true false 0 (takeLink o (hotEnds o u))))

namespace Sys2Proof.Claims
open Sys2Proof.Machine

/-! ### Powerline modems -/

/-- A request of outlet `o`'s engine to its modem: nothing stands before it in Q106. -/
def ModemAsked (o : Fin 8) (w0 : W24) (s : State) : Prop := Open 106 s ∧ fld w0 2 0 = o.val ∧ goingOff o s = false

/-- A frame as a modem takes it, not finished. -/
def onLine (o : Nat) (mme : Bool) (w0 : Nat) (b : List Byte) (bcast : Bool) : TxFrame :=
  { modem := o, mme := mme, w0 := w0, bytes := b, done := none, bcast := bcast }

/-- No frame that a modem has taken is finished and waiting. -/
def NoneDone (s : State) : Prop := ∀ f ∈ s.plm.frames, f.done = none

/-- A modem request of the host (R293) reaches the engine of outlet `o`. -/
def PlmServed (n : Fin 8) (w0 : W24) (s : State) : Prop :=
  Served n s ∧ fld w0 3 0 < 8 ∧ fld w0 23 4 = 0 ∧ Open (64 + fld w0 3 0) s ∧ pdOn 5 s = true ∧
    outActive (fld w0 3 0) s = true ∧ isScrapped s = false

/-- No request waits in Q104 and Q106 for room in a modem. -/
def NoneWaits (s : State) : Prop := (getQ 104 s).ent = [] ∧ (getQ 106 s).ent = []

/-- R278, R289: these ends of MPDUs finish a data frame with the result: every PB acknowledged (0), as many attempts without
SACK as RETRY allows (1), or as many resends named by SACKs as BLIM allows (2). -/
def Finishes (m : Nat) (f : TxFrame) (mpdus : List (Option Nat)) (sent : Bool) (s : State) (res : Nat) : Prop :=
  (res = 0 ∧ mpdus = [some 0] ∧ sent = true) ∨
  (res = 1 ∧ f.silent < rd (R.PLM_TXCFG_RETRY m).eff s ∧
    mpdus = List.replicate (rd (R.PLM_TXCFG_RETRY m).eff s - f.silent) none) ∨
  (res = 2 ∧ ∃ k, 0 < k ∧ mpdus = [some k] ∧ rd (R.PLM_BLANK_BLIM m).eff s ≤ f.named + k)

/-- R287, R288: blanking has zeroed more than 768 samples of the 3,072 of a symbol. -/
def Marked (m : Nat) (l : List Nat) (s : State) : Prop :=
  flag (R.PLM_BLANK_EN m).eff s = true ∧ 768 < l.countP fun x => decide (rd (R.PLM_BLANK_THR m).eff s < x)

/-- R275: the modem is UNASSOC under a new private key, with nothing staged, nothing waiting for a peer. -/
def Unassociated (o : Nat) (t : State) : Prop :=
  mstate o t = 1 ∧ (getPlm o t).nmk.length = 16 ∧ (getPlm o t).nek.length = 16 ∧ (getPlm o t).staged = [] ∧ (getPlm o t).join = none

end Sys2Proof.Claims

/-- R274, R277 to R284, R287 to R289: a data frame or a management frame joins the line of frames, with keys inserted where
asked; the oldest frame leaves when its PBs are acknowledged, or a limit of RETRY or BLIM is reached; received frames are
counted, or refused for want of room, and PBs that fail are named; sounds of the named vehicle are summed by group until the
window ends. Model's choices in it: log entries 4, 37, 110 and 111. -/
def Obligations.ModemFramesMove : Prop :=
  (∀ (w0 w1 : W24) (conts : List Cont) (s : State), Open 104 s →
    held4 (fld w0 2 0) s < 4 → goingOff (fld w0 2 0) s = false → fld w0 23 5 = 0 → frameFits w1 conts = true →
    txOff (fld w0 2 0) s = false → mstate (fld w0 2 0) s = 3 → NoneDone s →
    Yields (.plmDataTx w0 w1 conts) s fun t =>
      t.plm.frames = s.plm.frames ++
        [onLine (fld w0 2 0) false w0.toNat ((contsToBytes conts).take (fld w1 10 0)) false] ∧
      QueueOnly s { t with plm := s.plm }) ∧
  (∀ (m : Fin 8) (mpdus : List (Option Nat)) (sent : Bool) (s : State) f fs res, s.plm.frames = f :: fs → f.modem = m →
    f.mme = false → f.cut = none → NoneDone s → NoneWaits s → goingOff m s = false → Finishes m f mpdus sent s res →
    Yields (.plmTxDone m mpdus sent) s fun t => t.plm.frames = fs ∧
      rd (R.PLM_FRMCNT_TX m) t = satInc (R.PLM_FRMCNT_TX m).wid (rd (R.PLM_FRMCNT_TX m) s) ∧
      (res = 1 → rd (R.PLM_ERRCNT_NOACK m) t = satInc (R.PLM_ERRCNT_NOACK m).wid (rd (R.PLM_ERRCNT_NOACK m) s)) ∧
      Completed 97 0x0C f.w0 (res * 2 ^ 16) stOK s t) ∧
  (∀ (m : Fin 8) (k : Nat) (sent : Bool) (s : State) f fs, s.plm.frames = f :: fs → f.modem = m → f.cut = none →
    NoneDone s → NoneWaits s → goingOff m s = false → 0 < k → f.named + k < rd (R.PLM_BLANK_BLIM m).eff s →
    Yields (.plmTxDone m [some k] sent) s fun t => t.plm.frames = { f with named := f.named + k } :: fs ∧
      rd (R.PLM_ERRCNT_BRTX m) t =
        min (rd (R.PLM_ERRCNT_BRTX m) s + k) (2 ^ (R.PLM_ERRCNT_BRTX m).wid - 1) % 2 ^ (R.PLM_ERRCNT_BRTX m).wid ∧
      rd (R.PLM_FRMCNT_TX m) t = rd (R.PLM_FRMCNT_TX m) s ∧ t.qs = s.qs) ∧
  (∀ (m : Fin 8) (bytes : List Byte) (line : LineRx) (s : State), mstate m s = 3 → line.pbs.all id = true →
    Yields (.plmDataRx m bytes line) s fun t =>
      if (getQ 105 s).en = true ∧ (getQ 105 s).cap < (getQ 105 s).used + (getQ 105 s).late.length + 1 +
          (bytesToConts ((bytes.length + 5) / 6) bytes).length then
        rd (R.PLM_ERRCNT_RXFULL m) t = satInc (R.PLM_ERRCNT_RXFULL m).wid (rd (R.PLM_ERRCNT_RXFULL m) s) ∧ t.qs = s.qs
      else rd (R.PLM_FRMCNT_RX m) t = satInc (R.PLM_FRMCNT_RX m).wid (rd (R.PLM_FRMCNT_RX m) s)) ∧
  (∀ (m : Fin 8) (bytes : List Byte) (line : LineRx) (s : State), mstate m s = 3 → line.pbs.all id = false →
    Yields (.plmDataRx m bytes line) s fun t =>
      t.qs = s.qs ∧ rd (R.PLM_FRMCNT_RX m) t = rd (R.PLM_FRMCNT_RX m) s ∧
      (∀ k, k ∈ (getPlm m t).sack ↔ line.pbs[k]? = some false) ∧
      (∀ l ∈ line.syms, Marked m l s → (getPlm m t).heard = s.now ∧ (getPlm m t).rxData = true ∧
        rd (R.PLM_BLKCNT_FRM m) t = satInc (R.PLM_BLKCNT_FRM m).wid (rd (R.PLM_BLKCNT_FRM m) s))) ∧
  (∀ (o : Fin 8) (w0 w1 : W24) (conts : List Cont) (s : State), ModemAsked o w0 s → held4 o s < 4 → fld w0 23 15 = 0 →
    frameFits w1 conts = true → txOff o s = false → 1 ≤ mstate o s → mstate o s ≤ 3 → NoneDone s →
    (fld w0 3 3 = 1 → mstate o s = 2 ∧ 8 ≤ fld w0 14 4 ∧ fld w0 14 4 + 16 ≤ fld w1 10 0) →
    Yields (.mmeTx o w0 w1 conts) s fun t =>
      let b := (contsToBytes conts).take (fld w1 10 0)
      t.plm.frames = s.plm.frames ++
        [onLine o true w0.toNat (if fld w0 3 3 = 1 then insertKeys (fld w0 14 4) (getPlm o s) b else b) (mstate o s != 3)] ∧
      QueueOnly s { t with plm := s.plm }) ∧
  (∀ (o : Fin 8) (bytes : List Byte) (line : LineRx) (s : State), 1 ≤ mstate o s → mstate o s ≤ 3 → line.pbs.all id = true →
    Yields (.mmeRx o bytes line) s fun t =>
      rd (R.PLM_FRMCNT_RX o) t = satInc (R.PLM_FRMCNT_RX o).wid (rd (R.PLM_FRMCNT_RX o) s) ∧
      t.plm.frames = s.plm.frames ∧ (mstate o s = 3 → line.pbs ≠ [] → (getPlm o t).heard = s.now) ∧
      (outUp o s = true → (getQ (qn (96 + o.val)) s).en = true → (getQ (qn (96 + o.val)) s).ent = [] →
        (getQ (qn (96 + o.val)) s).late = [] → bytes.length ≤ 1522 →
        (getOs o t).mme = if Config.slacMme bytes then bytes else (getOs o s).mme)) ∧
  (∀ (o : Fin 8) (w0 w1 : W24) (c : Cont) (s : State), ModemAsked o w0 s → fld w0 23 3 = 0 → fld w1 4 0 ≠ 0 → fld w1 7 5 = 0 →
    fld w1 15 8 ≠ 0 → fld w1 23 16 = 0 → mstate o s = 1 ∨ mstate o s = 2 → (getPlm o s).atten = none →
    Yields (.attenStart o w0 w1 [c]) s fun t =>
      (getPlm o t).atten = some ⟨w0.toNat, leNat (contsToBytes [c]), fld w1 4 0, 0, List.replicate 58 (0, 0)⟩ ∧
      t.plm.frames = s.plm.frames) ∧
  (∀ (o : Fin 8) (addr : BitVec 48) (groups : List (Option Nat)) (s : State) a, (getPlm o s).atten = some a →
    Yields (.soundReceived o addr groups) s fun t => { t with plm := s.plm } = s ∧
      if a.addr = addr.toNat ∧ (mstate o s = 1 ∨ mstate o s = 2) then
        ∃ a', (getPlm o t).atten = some a' ∧ a'.count = min (a.count + 1) 31 ∧
          a'.groups.length = a.groups.length ∧ ∀ k g, a.groups[k]? = some g → a'.groups[k]? = some (match groups.getD k none with
            | some v => (g.1 + v, g.2 + 1)
            | none => g)
      else t = s) ∧
  (∀ (o : Fin 8) (s : State) a, (getPlm o s).atten = some a →
    Yields (.attenWindowEnd o) s fun t => (getPlm o t).atten = none ∧ QueueOnly s { t with plm := s.plm, outs := s.outs })

/-- R270, R274, R275, R284 to R286, R288, R290 to R295: LINK_SET clears, stages or joins; a peer makes the modem LINKED under the
staged key; a join that takes too long, a lost link, a fault, a disable and a test leave the states R275 gives;
beacons keep their period, or track the peer's; a configuration applies outside a session; a modem that is sending
finishes its MPDU before it is disabled. Model's choices in it: log entries 3, 4, 37, 111 and 112. -/
def Obligations.ModemLinksChangeState : Prop :=
  (∀ (o : Fin 8) (w0 : W24) (s : State), ModemAsked o w0 s → fld w0 23 3 = 0 →
    (1 ≤ mstate o s → mstate o s ≤ 3 → Yields (.linkSet o w0 0) s (Unassociated o)) ∧
    (mstate o s = 1 → Yields (.linkSet o w0 1) s fun t => mstate o t = 2 ∧ (getPlm o t).staged.length = 16 ∧
      (getPlm o t).nmk = (getPlm o s).nmk) ∧
    (mstate o s = 2 → (getPlm o s).join = none → Yields (.linkSet o w0 2) s fun t => mstate o t = 2 ∧
      (getPlm o t).join = some w0.toNat ∧ (getPlm o t).staged = (getPlm o s).staged)) ∧
  (∀ (o : Fin 8) (mac : BitVec 48) (s : State) w0, (getPlm o s).join = some w0 → mstate o s = 2 → ∃ u,
    mstate o u = 3 ∧ (getPlm o u).nmk = (getPlm o s).staged ∧ (getPlm o u).staged = [] ∧ (getPlm o u).join = none ∧
    (getPlm o u).nek.length = 16 ∧ (getPlm o u).heard = s.now ∧
    rd (R.PLM_PEERLO_MAC o) u = mac.toNat % 2 ^ 32 ∧ rd (R.PLM_PEERHI_MAC o) u = mac.toNat / 2 ^ 32 ∧
    rd (R.PLM_LINKCNT_MATCH o) u = satInc (R.PLM_LINKCNT_MATCH o).wid (rd (R.PLM_LINKCNT_MATCH o) s) ∧
    (ostate o s = 2 → (getOs o s).slac = 0 → (getOs o u).slac = 1) ∧
    exec (.peerAssociated o mac) s = .next (if outActive o u then react o false false 0 (authorised o u) else u)) ∧
  (∀ (o : Fin 8) (s : State), mstate o s = 2 → (getPlm o s).join ≠ none → Yields (.joinTimeout o) s fun t =>
    mstate o t = 1 ∧ (getPlm o t).nmk = (getPlm o s).nmk ∧ (getPlm o t).staged = [] ∧ (getPlm o t).join = none) ∧
  (∀ (o : Fin 8) (s : State), mstate o s = 3 → s.now < (getPlm o s).heard + 2000000 → exec (.linkLoss o) s = .next s) ∧
  (∀ (o : Fin 8) (s : State), mstate o s = 3 → (getPlm o s).heard + 2000000 ≤ s.now →
    Yields (.linkLoss o) s fun t => Unassociated o t ∧
    rd (R.PLM_LINKCNT_LOSS o) t = satInc (R.PLM_LINKCNT_LOSS o).wid (rd (R.PLM_LINKCNT_LOSS o) s)) ∧
  (∀ (o : Fin 8) (s : State), mstate o s ≠ 0 → mstate o s ≠ 5 → goingOff o s = false →
    Yields (.modemFault o) s fun t => mstate o t = 5 ∧ (getPlm o t).join = none ∧ (getPlm o t).atten = none ∧
      (getPlm o t).test = none ∧ (getPlm o t).staged = [] ∧ ∀ f ∈ t.plm.frames, f.modem = o.val → f.done ≠ none) ∧
  (∀ (o : Fin 8) (s : State) a t8, mstate o s = 3 → flag (R.PLM_BCN_CCO o).eff s = true → txOff o s = false →
    flag (R.PLM_STAT_NOSYNC o) s = false → crossings (rd (R.PLM_BCN_REF o).eff s) s ≠ [] →
    (s.plm.refs.getD (rd (R.PLM_BCN_REF o).eff s) PlmRef.reset).tz = some a →
    (s.plm.refs.getD (rd (R.PLM_BCN_REF o).eff s) PlmRef.reset).t = some t8 → 0 < t8 →
    (getPlm o s).anchor ≤ (s.plm.refs.getD (rd (R.PLM_BCN_REF o).eff s) PlmRef.reset).n →
    Yields (.beacon o) s fun t =>
      let c : Int := (s.plm.refs.getD (rd (R.PLM_BCN_REF o).eff s) PlmRef.reset).n - (getPlm o s).anchor
      let j := max ((getPlm o s).next : Int) ((c + 1) / 2)
      (getPlm o t).period = some (match (getPlm o s).period with
        | some q => q + max (-(50000 * 2 ^ 16)) (min (50000 * 2 ^ 16) (2 * t8 - q))
        | none => 2 * t8) ∧
      (getPlm o t).last = some (a + (2 * j - c) * t8 + rd (R.PLM_BCN_OFS o).eff s * 1000 * 2 ^ 16) ∧
      ((getPlm o t).next : Int) = j + 1) ∧
  (∀ (o : Fin 8) (s : State), mstate o s = 3 → flag (R.PLM_BCN_CCO o).eff s = false →
    Yields (.beacon o) s fun t => (getPlm o t).last = some ((s.clock / 2 ^ 24 : Nat) : Int) ∧ (getPlm o t).heard = s.now ∧
      (∀ l, (getPlm o s).last = some l → (getPlm o t).period = some (((s.clock / 2 ^ 24 : Nat) : Int) - l))) ∧
  (∀ (o : Fin 8) (s : State) l p, mstate o s = 3 → flag (R.PLM_BCN_CCO o).eff s = true → txOff o s = false →
    (crossings (rd (R.PLM_BCN_REF o).eff s) s) = [] → (getPlm o s).last = some l → (getPlm o s).period = some p →
    Yields (.beacon o) s fun t => (getPlm o t).last = some (l + p) ∧ (getPlm o t).period = some p ∧
      (getPlm o t).next = (getPlm o s).next + 1) ∧
  (∀ (o : Fin 8) (s : State), mstate o s ≠ 0 → flag (R.PLM_STAT_NOSYNC o) s = false →
    crossings (rd (R.PLM_BCN_REF o).eff s) s = [] →
    Yields (.referenceLost o) s fun t => flag (R.PLM_STAT_NOSYNC o) t = true ∧ t.plm = s.plm) ∧
  (∀ (n : Fin 8) (w0 : W24) (s : State), let o := fld w0 3 0
    PlmServed n w0 s → mstate o s ≠ 5 → inSession o s = false → plmCfgBad o s = false →
    Yields (.plmApply n w0 0) s fun t => (∀ f ∈ plmFields o, rd f.eff t = rd f s % 2 ^ f.wid) ∧ t.plm = s.plm ∧
      Answered n 0x07 w0.toNat 0 stOK s t) ∧
  (∀ (n : Fin 8) (w0 : W24) (s : State), let o := fld w0 3 0
    PlmServed n w0 s → goingOff o s = false →
    (mstate o s = 0 → pdOn 6 s = true → rd R.PLM_GSTAT_COUNT s < limModems (limitMode s) →
      Yields (.plmEnable n w0 1) s (Unassociated o)) ∧
    (mstate o s ≠ 0 → inSession o s = false → ostate o s ≠ 2 → held4 o s = 0 →
      Yields (.plmEnable n w0 0) s fun t => mstate o t = 0 ∧ getPlm o t = Plm.reset) ∧
    (mstate o s ≠ 0 → ∀ f, sending o s = some f → f.cut = none →
      Yields (.plmEnable n w0 0) s fun t => mstate o t = mstate o s ∧ (getPlm o t).off = some (n.val, w0.toNat) ∧
        sending o t = some { f with cut := some (stWITHDRAWN, 0) }) ∧
    (mstate o s = 1 → (getPlm o s).test = none → inSession o s = false →
      Yields (.plmTest n w0 0) s fun t => mstate o t = 4 ∧ (getPlm o t).test = some (n.val, w0.toNat))) ∧
  (∀ (o n : Fin 8) (w0 : Nat) (snr : List Nat) (psd : Int) (impulse : List Nat) (s : State),
    (getPlm o s).test = some (n.val, w0) → mstate o s = 4 →
    let low := snr.foldl min 255
    let gain := decide (-100 ≤ psd + 6000 + 50 * (rd (R.PLM_TXCFG_PSD o).eff s : Int) ∧
      psd + 6000 + 50 * (rd (R.PLM_TXCFG_PSD o).eff s : Int) ≤ 100)
    ∀ blank : Bool, (blank = true ↔ Marked o impulse s) →
    Yields (.plmTestEnd o snr psd impulse) s fun t => mstate o t = 1 ∧ (getPlm o t).test = none ∧
      (n ≠ o → (getQ 107 s).ent = [] → (getQ 107 s).late = [] → Completed n 0x09 w0 ((low + gain.toNat * 2 ^ 8 +
        blank.toNat * 2 ^ 9 + (decide (20 ≤ low) && gain && blank).toNat * 2 ^ 10) * 256) stOK s t))

namespace Sys2Proof.Claims
open Sys2Proof.Machine

/-! ### The Fold -/

/-- Every outlet is OPEN and none has a close in progress. -/
def AllOpen (s : State) : Prop := ∀ o < 8, (getFo o s).kst = 0 ∧ (getFo o s).close = none

/-- R186: a member's data memory agrees with its state check value. -/
def Sound (e : Nat) (s : State) : Prop := (getEng (en e) s).dErr2 = [] ∧ chkOf (getEng (en e) s).dmem = (getEng (en e) s).chk

/-- Both paths of an outlet are de-energised. -/
def Dead (o : Nat) (t : State) : Prop := rd (R.FOLD_KSTAT_KA o) t = 0 ∧ rd (R.FOLD_KSTAT_KB o) t = 0

/-- R314: the state of a contactor that has been asked to open: OPENING, or CHECK where the mirror contact reads open. -/
def opening (o : Nat) (s : State) : Nat := if kfb o s then 4 else 3

/-- R337: a request of the outlet engine reaches the running Fold and names its own outlet. -/
def KAsked (o : Fin 8) (w0 : W24) (s : State) : Prop :=
  Open 88 s ∧ foldUp s = true ∧ pairStopped 13 s = false ∧ s.fold.recBad = false ∧ w0.toNat % 16 = o.val ∧
    isScrapped s = false

/-- R338: a request of TE0 on Q89, or of the host on Q91, reaches the running Fold. -/
def FoldServed (te0 : Bool) (s : State) : Prop :=
  Open (if te0 then 89 else 91) s ∧ foldUp s = true ∧ pairStopped 13 s = false ∧ s.fold.recBad = false ∧ isScrapped s = false

/-- The record `r` is committed: in effect, shown in CFGCRC; a record staged since stays staged. -/
def Committed (r : List Byte) (s t : State) : Prop :=
  t.fold.record = r ∧ t.fold.commit = none ∧ rd R.FOLD_CFGCRC_CRC t = rec4 r 528 % 2 ^ 32 ∧
    (s.fold.staged = r → t.fold.staged = [] ∧ rd R.FOLD_PENDCRC_CRC t = 0) ∧
    (s.fold.staged ≠ r → t.fold.staged = s.fold.staged) ∧
    rd R.FOLD_CFGLOG_CHG t = satInc 16 (rd R.FOLD_CFGLOG_CHG s)

/-- The 66 bytes of the staging area that may hold passwords are zero. -/
def PasswordsErased (t : State) : Prop := mramRdN t foldStage 66 = List.replicate 66 0

/-- R321: a close that waited for the monitor takes its first step. -/
def waitingClose (o : Nat) (s : State) : State :=
  match (getFo o s).close with
  | some c => if c.wait then closeStep1 o s else s
  | none => s

/-- R309: the course of clearing the stop, with the levels of its channels. -/
def clearsStop (a b : Bool) (s : State) : State :=
  modFold (fun F => { F with eClear := clearing F.eClear a b s.now }) s

end Sys2Proof.Claims

/-- R297, R307 to R310, R314, R340: an opened stop channel drops its path of every outlet in hardware and latches the
stop; a discrepancy latches its flag and reports; doors act as DOORACT says; loss of the PD1 window de-energises
every outlet; a trip opens a closed outlet and shows its cause. Model's choices in it: log entries 38, 39 and 91. -/
def Obligations.StopsDoorsAndWindowsOpenContactors : Prop :=
  (∀ (b closed : Bool) (s : State), ∃ u,
    rd (if b then R.FOLD_FSTAT_ESTB else R.FOLD_FSTAT_ESTA) u = closed.toNat ∧
    (closed = false → ∀ o < 8, rd (if b then R.FOLD_KSTAT_KB o else R.FOLD_KSTAT_KA o) u = 0) ∧
    { u with regs := s.regs, fold := s.fold } = s ∧ u.fold = { s.fold with levels := s.fold.levels.set b.toNat true } ∧
    exec (.estopChange b closed) s = .next (if foldUp u then
      clearsStop (flag R.FOLD_FSTAT_ESTA u) (flag R.FOLD_FSTAT_ESTB u) (if closed then u else emergencyStop u) else u)) ∧
  (∀ (b : Bool) (s : State), foldUp s = true → AllOpen s → s.fold.estop = false →
    Yields (.estopChange b false) s fun t => t.fold.estop = true ∧ AllOpen t ∧
      rd (if b then R.FOLD_FSTAT_ESTB else R.FOLD_FSTAT_ESTA) t = 0) ∧
  (∀ s : State, foldUp s = true → flag R.FOLD_FSTAT_ESTA s ≠ flag R.FOLD_FSTAT_ESTB s →
    Yields .estopDiscrepancy s fun t => t.fold.estopDisc = true ∧ t.fold.eClear = ⟨0, s.now⟩ ∧
      (s.fold.estopDisc = false → rd R.FOLD_FSTAT_DISC t = 1) ∧ t.fold.outs = s.fold.outs) ∧
  (∀ (b closed : Bool) (s : State), foldUp s = true → doorAct s < 2 →
    Yields (.doorChange b closed) s fun t =>
      rd (if b then R.FOLD_FSTAT_DOORB else R.FOLD_FSTAT_DOORA) t = closed.toNat ∧
      (flag R.FOLD_FSTAT_DOORA t = true → flag R.FOLD_FSTAT_DOORB t = true → t.fold.door = false) ∧
      t.fold.doorDisc = s.fold.doorDisc ∧ t.fold.outs = s.fold.outs) ∧
  (∀ (b : Bool) (s : State), foldUp s = true → 2 ≤ doorAct s → AllOpen s → flag R.FOLD_FSTAT_DOORA s = true →
    flag R.FOLD_FSTAT_DOORB s = true →
    Yields (.doorChange b false) s fun t => t.fold.door = true ∧ AllOpen t) ∧
  (∀ s : State, foldUp s = true → flag R.FOLD_FSTAT_DOORA s ≠ flag R.FOLD_FSTAT_DOORB s → s.fold.doorDisc = false →
    AllOpen s →
    Yields .doorDiscrepancy s fun t => t.fold.doorDisc = true ∧ rd R.FOLD_FSTAT_DDISC t = 1 ∧
      t.fold.door = (s.fold.door || decide (2 ≤ doorAct s))) ∧
  (∀ s : State, Yields .pd1WindowLoss s fun t => t.fold.pd1 = false ∧ t.qs = s.qs ∧ ∀ o < 8, Dead o t ∧
    (getFo o t).enable = false ∧ (getFo o t).kst = if (getFo o s).kst = 2 then 3 else (getFo o s).kst) ∧
  (∀ s : State, Yields .pd1WindowReturn s fun t => t.fold.pd1 = true ∧ { t with fold := s.fold } = s ∧ t.fold.outs = s.fold.outs) ∧
  (∀ (o cause : Nat) (s : State), o < 8 → cause < 256 → shut o s = true → (getFo o s).close = none → (getFo o s).hold = 0 →
    outActive o s = false → (getFo o s).trip = none → energised o s = true →
    let t := tripOutlet o cause s
    Dead o t ∧ (getFo o t).kst = opening o s ∧ (getFo o t).trip = some cause ∧ (getFo o t).enable = false ∧
      rd (R.FOLD_KSTAT_CAUSE o) t = cause)

/-- R326 to R336: a member of the Fold that fails stops, the other is active, and contactors trip; with both lost
every path is dead; FOLD_STANDBY takes the standby out; a sender numbers its frames; a receiver takes a frame that is
ahead and in time, counts others, and enters SAFE after three check failures within 10 s or when its watchdog ends.
Model's choices in it: log entries 3, 38, 41 and 91. -/
def Obligations.FoldMembersAndConnectionsFailSafe : Prop :=
  (∀ (m : Fin 2) (c : Fin 16) (s : State), running (13 + m.val) s = true → running (14 - m.val) s = true → ∃ u,
    engState (13 + m.val) u = 5 ∧ (engState (14 - m.val) u = if engState (14 - m.val) s = 6 then 3 else engState (14 - m.val) s) ∧
    rd R.FOLD_FSTAT_CAUSE u = c.val ∧ rd R.FOLD_FSTAT_SWCNT u = satInc 8 (rd R.FOLD_FSTAT_SWCNT s) ∧ u.fold = s.fold ∧
    exec (.foldMemberFail m c) s = .next (showF (forEach outlets
      (fun o s => if notOpen o s then tripOutlet o 13 s else
        if (getFo o s).close.isSome then closeDone o stDENIED 1 s else s) u))) ∧
  (∀ (m : Fin 2) (s : State), running (13 + m.val) s = true → running (14 - m.val) s = true →
    Yields (.foldWatchdogExpiry m) s fun t => exec (.foldMemberFail m 7) s = .next t ∧
      engState (13 + m.val) t = 5 ∧ rd R.FOLD_FSTAT_CAUSE t = 7) ∧
  (∀ (s : State), pairDuplex 13 s = true → flag R.FOLD_FSTAT_ESTA s = true → flag R.FOLD_FSTAT_ESTB s = true →
    (∃ o < 8, flag (R.FOLD_KSTAT_KA o) s ≠ flag (R.FOLD_KSTAT_KB o) s) →
    (Sound 13 s → Sound 14 s → Yields .foldPathCompare s fun t =>
      exec (.foldMemberFail (if engState 13 s = 3 then 1 else 0) 5) s = .next t ∧
      engState (if engState 13 s = 3 then 14 else 13) t = 5 ∧ rd R.FOLD_FSTAT_CAUSE t = 5) ∧
    (¬ Sound 13 s → Sound 14 s → exec .foldPathCompare s = exec (.foldMemberFail 0 3) s) ∧
    (Sound 13 s → ¬ Sound 14 s → exec .foldPathCompare s = exec (.foldMemberFail 1 3) s)) ∧
  (∀ s : State, foldUp s = true →
    Yields .foldPairFault s fun t =>
      (let n := (s.fold.faults.filter fun x => decide (s.now < x + 60000000)).length
       engState 13 t = (if 2 ≤ n then 5 else 1) ∧ engState 14 t = (if 2 ≤ n then 5 else 1)) ∧
      t.fold.standby = none ∧ t.fold.rcReq = [] ∧ t.fold.commit = none ∧ t.fold.record = s.fold.record ∧
      (∀ o < 8, Dead o t ∧ (getFo o t).enable = false ∧ (getFo o t).close = none ∧
        (getFo o t).kst = if shut o s then 3 else (getFo o s).kst)) ∧
  (∀ (te0 : Bool) (w1 : W24) (s : State), FoldServed te0 s → w1.toNat < 2 → s.fold.standby = none → pairDuplex 13 s = true →
    (∀ o < 8, maybeShut o s = false) →
    Yields (.foldStandby te0 0 w1) s fun t =>
      t.fold.standby = some (⟨te0, 0⟩, w1.toNat == 1) ∧ engState (if engState 13 s = 6 then 13 else 14) t = 2 ∧
      (getPair 2 t).swept = false) ∧
  (∀ (c : Fin 16) (s : State), foldUp s = true → s.fold.record ≠ [] → ckind c s = 3 → ∃ u q m cs,
    (getConn c u).start = false ∧ rd (R.FOLD_SCSTAT_STATE c) u = 1 ∧ (getConn c u).pay = connPayload c s ∧
    ((getConn c s).start = false → (getConn c u).seq = ((getConn c s).seq + 1) % 2 ^ 32) ∧
    rd (R.FOLD_SCSEQ_SEQ c) u = (getConn c u).seq % 2 ^ 32 ∧
    exec (.sframeTx c) s = .next (ringGo 93 (pushAll q 0 m cs u))) ∧
  (∀ (c : Fin 16) (s : State), foldUp s = true → s.fold.record ≠ [] → ckind c s = 1 → ∃ u,
    (getConn c u).start = false ∧ rd (R.FOLD_SCSTAT_STATE c) u = 1 ∧
    exec (.sframeTx c) s = .next (forEach outlets (fun o s =>
      if covers c o s && (getFo o s).pstWait then kDone o 0x2F stOK (modFo o (fun x => { x with pstWait := false }) s) else s)
      (ringGo 93 u))) ∧
  (∀ (host : Bool) (w0 w1 : W24) (bytes : List Byte) (s : State),
    let c := fld w0 3 0
    let fr := bytes.take (fld w1 4 0)
    let n := rec1 fr 7
    let good := decide (n ≤ 16) && fr.length == 12 + n && rec4 fr (8 + n) == frameCheck c (fr.take (8 + n)) s
    let d := (rec4 fr 0 + 2 ^ 32 - (getConn c s).seq) % 2 ^ 32
    let timely := decide ((rec2 fr 4 + 2 ^ 16 - clkMs s % 2 ^ 16) % 2 ^ 16 ≤ cRec2 c 10 s + 2) && clkStatus s != 0 && !s.fold.timeBad
    Open (if host then 91 else 94) s → foldUp s = true → s.fold.record ≠ [] → ckind c s = 2 ∨ ckind c s = 4 →
    rd (R.FOLD_SCSTAT_STATE c) s = 1 →
    (good = false → 3 ≤ ((getConn c s).crcAt.filter fun t => decide (s.now < t + 10000000)).length + 1 → ckind c s = 2 →
      AllOpen s → Yields (.sframeIn host w0 w1 bytes) s fun t =>
        rd (R.FOLD_SCSTAT_STATE c) t = 2 ∧ (getConn c t).pay = [] ∧
        rd (R.FOLD_SCSTAT_CRCERR c) t = satInc 8 (rd (R.FOLD_SCSTAT_CRCERR c) s)) ∧
    (good = true → timely = false ∨ d = 0 ∨ 16 < d → Yields (.sframeIn host w0 w1 bytes) s fun t =>
      rd (R.FOLD_SCSTAT_STALE c) t = satInc 8 (rd (R.FOLD_SCSTAT_STALE c) s) ∧ t.fold = s.fold) ∧
    (good = true → timely = true → 1 ≤ d → d ≤ 16 → ∃ u,
      (getConn c u).seq = rec4 fr 0 ∧ (getConn c u).pay = (fr.drop 8).take n ∧
      rd (R.FOLD_SCSEQ_SEQ c) u = rec4 fr 0 % 2 ^ 32 ∧ rd (R.FOLD_SCSTAT_STATE c) u = 1 ∧
      exec (.sframeIn host w0 w1 bytes) s = .next (payloadTaken c (getConn c s).pay true u))) ∧
  (∀ (c : Fin 16) (s : State), foldUp s = true → ckind c s = 2 → AllOpen s →
    rd (R.FOLD_SCSTAT_STATE c) s = 1 ∨ rd (R.FOLD_SCSTAT_STATE c) s = 3 →
    Yields (.connectionWatchdog c) s fun t => rd (R.FOLD_SCSTAT_STATE c) t = 2 ∧ (getConn c t).pay = [] ∧ AllOpen t)

/-- R311 to R315, R337, R518: a close whose conditions hold energises both paths at once, or waits for its fire
instant; one whose conditions fail is DENIED with its cause and changes no path; the mirror contact decides CLOSED and
CHECK, and the third of its millisecond samples that read open the KFB trip; timeouts report; an open de-energises both paths; hold ends and stage settings are taken.
Model's choices in it: log entries 9, 38 and 91. -/
def Obligations.ContactorsCloseAndOpenUnderConditions : Prop :=
  (∀ (o : Fin 8) (w0 : W24) (s : State), KAsked o w0 s → w0.toNat = o.val → (getFo o s).close = none → (getFo o s).test = 0 →
    (getFo o s).mask = 0 →
    (closeBar o none false s = 0 → s.fold.pd1 = true → Yields (.kClose o w0 0 []) s fun t =>
      (getFo o t).kst = 1 ∧ (getFo o t).close = some ⟨none, false, true⟩ ∧ rd (R.FOLD_KSTAT_KST o) t = 1 ∧
      rd (R.FOLD_KSTAT_KA o) t = 1 ∧ rd (R.FOLD_KSTAT_KB o) t = 1) ∧
    (closeBar o none false s ≠ 0 → closeBar o none false s ≠ 6 → (getFo o s).kst ≠ 1 → ∃ u,
      rd (R.FOLD_KSTAT_KA o) u = rd (R.FOLD_KSTAT_KA o) s ∧ rd (R.FOLD_KSTAT_KB o) u = rd (R.FOLD_KSTAT_KB o) s ∧
      (getFo o u).kst = (getFo o s).kst ∧ exec (.kClose o w0 0 []) s = .next (closeDone o stDENIED (closeBar o none false s) u))) ∧
  (∀ (o : Fin 8) (w0 : W24) (c : Cont) (s : State), KAsked o w0 s → w0.toNat = o.val + 16 → fld c.2 23 14 = 0 →
    (getFo o s).close = none → (getFo o s).test = 0 → (getFo o s).mask = 0 → closeBar o (some (fireOf c s)) false s = 0 →
    s.fold.timeBad = false → s.clock / 2 ^ 40 ≤ fireOf c s →
    Yields (.kClose o w0 0 [c]) s fun t => (getFo o t).kst = 1 ∧ (getFo o t).close = some ⟨some (fireOf c s), false, false⟩ ∧
      rd (R.FOLD_KSTAT_KA o) t = rd (R.FOLD_KSTAT_KA o) s ∧ rd (R.FOLD_KSTAT_KB o) t = rd (R.FOLD_KSTAT_KB o) s) ∧
  (∀ (o : Fin 8) (f : Nat) (s : State), (getFo o s).close = some ⟨some f, false, false⟩ → (getFo o s).kst = 1 → energised o s = false →
    foldUp s = true → closeBar o none true s = 0 → s.fold.pd1 = true →
    Yields (.closeFire o) s fun t => rd (R.FOLD_KSTAT_KA o) t = 1 ∧ rd (R.FOLD_KSTAT_KB o) t = 1 ∧ (getFo o t).kst = 1 ∧
      (getFo o t).close = some ⟨some f, false, true⟩) ∧
  (∀ (o : Fin 8) (s : State), foldUp s = true →
    (kfb o s = true → (getFo o s).kst = 1 → energised o s = true → ∃ u, (getFo o u).kst = 2 ∧
      rd (R.FOLD_KSTAT_KST o) u = 2 ∧ rd (R.FOLD_KSTAT_KFB o) u = 0 ∧ (getFo o u).enable = (kindOf o s == 3) ∧
      exec (.kfbChange o false) s = .next (closeDone o stOK 0 u)) ∧
    (kfb o s = false → (getFo o s).kst = 3 → Yields (.kfbChange o true) s fun t => (getFo o t).kst = 4 ∧
      rd (R.FOLD_KSTAT_KFB o) t = 1) ∧
    (kfb o s = false → (getFo o s).kst = 2 → Yields (.kfbChange o true) s fun t => rd (R.FOLD_KSTAT_KFB o) t = 1 ∧
      { t with regs := s.regs } = s)) ∧
  (∀ (o : Fin 8) (s : State), (getFo o s).kst = 2 → kfb o s = true → energised o s = true →
    (getFo o s).onAt + oRec2 o 16 s * 1000 < s.now →
    ((getFo o s).dropN < 2 → tickKfb o s = modFo o (fun x => { x with dropN := x.dropN + 1 }) s) ∧
    ((getFo o s).dropN = 2 → ∃ u, (getFo o u).kfbLatch = true ∧
      rd (R.FOLD_TRIPCNT_KFB o) u = satInc 8 (rd (R.FOLD_TRIPCNT_KFB o) s) ∧ tickKfb o s = tripOutlet o 10 u)) ∧
  (∀ (o : Fin 8) (r : CloseReq) (s : State), foldUp s = true → (getFo o s).kst = 1 → kfb o s = true →
    (getFo o s).close = some r → r.fired = true → ∃ u, Dead o u ∧ (getFo o u).kst = 0 ∧
    rd (R.FOLD_TRIPCNT_KFB o) u = satInc 8 (rd (R.FOLD_TRIPCNT_KFB o) s) ∧
    exec (.closeTimeout o) s = .next (closeDone o stFAULT 15 u)) ∧
  (∀ (o : Fin 8) (s : State), foldUp s = true → kfb o s = false → Dead o s →
    flag (R.FOLD_KSTAT_WELD o) s = false → ∃ u, rd (R.FOLD_KSTAT_WELD o) u = 1 ∧
    rd (R.FOLD_TRIPCNT_WELD o) u = satInc 8 (rd (R.FOLD_TRIPCNT_WELD o) s) ∧ (getFo o u).kst = (getFo o s).kst ∧
    exec (.weldTimeout o) s = .next (if (getFo o s).kst = 3 then openOver o true (foldTrip o 9 u) else foldTrip o 9 u)) ∧
  (∀ (o : Fin 8) (s : State), foldUp s = true → (getFo o s).kst = 4 →
    exec (.postOpenCheckTimeout o) s = .next (openOver o true (weldLatch o s))) ∧
  (∀ (o : Fin 8) (w0 : W24) (s : State), KAsked o w0 s → w0.toNat = o.val → (getFo o s).openReq = false →
    ((getFo o s).kst = 2 → (getFo o s).close = none → Yields (.kOpen o w0 0) s fun t => Dead o t ∧
      (getFo o t).kst = opening o s ∧ (getFo o t).openReq = true ∧ (getFo o t).enable = false) ∧
    (s.fold.kq = [] → (getFo o s).kst = 0 → (getFo o s).close = none → ∃ u, Dead o u ∧ (getFo o u).kst = 0 ∧
      exec (.kOpen o w0 0) s = .next (toOutlet o (mkMsg 0xA7 o stOK) u))) ∧
  (∀ (o : Fin 8) (w0 : W24) (s : State), KAsked o w0 s → w0.toNat = o.val → s.fold.kq = [] → ∃ u, held o u = false ∧ (getFo o u).hold = 0 ∧
    exec (.holdEnd o w0 0) s = .next (toOutlet o (mkMsg 0xAE o stOK) u)) ∧
  (∀ (o : Fin 8) (w0 w1 : W24) (s : State), KAsked o w0 s → w0.toNat = o.val → fld w1 23 14 = 0 → fld w1 1 0 ≠ 3 →
    (getFo o s).pstWait = false → Yields (.pstageSet o w0 w1) s fun t => (getFo o t).pst = fld w1 1 0 ∧
      (getFo o t).plim = fld w1 13 2 ∧ (getFo o t).pstWait = true ∧ (getFo o t).kst = (getFo o s).kst) ∧
  (∀ (o : Fin 8) (s : State), foldUp s = true → (getFo o s).deadline = true → (getFo o s).kst = 2 → (getFo o s).close = none →
    Yields (.foldOpenDeadline o) s fun t => Dead o t ∧ (getFo o t).deadline = false ∧ (getFo o t).kst = opening o s)

/-- R301 to R306, R321, R338, R519: a record is staged under the right password and refused, with the failure counted and
the lock begun, under a wrong one; TE0 may do none of it; the staging area forgets passwords; a commit takes effect when every contactor is
OPEN; the first password is set; a lock ends; FOLD_RESET clears exactly what it names; RC_TEST starts its tests.
Model's choices in it: log entries 4, 38 and 40. -/
def Obligations.SafetyConfigurationIsGuarded : Prop :=
  (∀ s : State, FoldServed false s → wiping s = false → s.fold.salt ≠ [] → s.fold.lock = none →
    (pwMatches s = true → recordOk (stagedRecord s) = true → Yields (.safeCfgLoad false 0 0) s fun t =>
      t.fold.staged = stagedRecord s ∧ rd R.FOLD_PENDCRC_CRC t = rec4 (stagedRecord s) 528 % 2 ^ 32 ∧
      t.fold.record = s.fold.record ∧ t.fold.fails = 0 ∧ PasswordsErased t) ∧
    (pwMatches s = false → Yields (.safeCfgLoad false 0 0) s fun t =>
      t.fold.staged = s.fold.staged ∧ t.fold.record = s.fold.record ∧ t.fold.fails = s.fold.fails + 1 ∧
      (s.fold.fails < 2 → t.fold.lock = none) ∧
      (2 ≤ s.fold.fails → t.fold.lock = some (min (60 * 2 ^ (s.fold.fails - 2)) 3600, s.now)) ∧ PasswordsErased t)) ∧
  (∀ (w1 : W24) (hi : Byte) (s : State), FoldServed false s → s.fold.salt ≠ [] → s.fold.staged ≠ [] → s.fold.commit = none →
    w1.toNat + hi.toNat * 2 ^ 24 = rd R.FOLD_PENDCRC_CRC s →
    (AllOpen s → Yields (.safeCfgCommit false 0 w1 [(w24 hi.toNat, 0)]) s (Committed s.fold.staged s)) ∧
    ((∀ o < 8, shut o s = false) → (∃ o < 8, (getFo o s).kst ≠ 0) →
      Yields (.safeCfgCommit false 0 w1 [(w24 hi.toNat, 0)]) s fun t =>
        t.fold.commit = some ⟨false, 0⟩ ∧ t.fold.commitRec = s.fold.staged ∧ t.fold.record = s.fold.record ∧ t.fold.staged = s.fold.staged)) ∧
  (∀ (w : FoldWait) (s : State), s.fold.commit = some w → foldUp s = true → AllOpen s →
    Yields .cfgCommitDeferred s (Committed s.fold.commitRec s)) ∧
  (∀ s : State, FoldServed false s → wiping s = false → s.fold.salt = [] → s.fold.record.length ≤ 1024 → (stagePw 0 s).1 = 0 → pwGood (stagePw 1 s) = true →
    Yields (.safePwd false 0 0) s fun t => t.fold.salt.length = 16 ∧ t.fold.hash = pwHash t.fold.salt (stagePw 1 s).2 ∧
      t.fold.fails = 0 ∧ rd R.FOLD_FSTAT_PWDSET t = 1 ∧ PasswordsErased t) ∧
  (∀ (w0 w1 : W24) (cs : List Cont) (s : State), FoldServed true s →
    Yields (.safeCfgLoad true w0 w1) s (fun t => t.fold = s.fold) ∧
    Yields (.safeCfgCommit true w0 w1 cs) s (fun t => t.fold = s.fold) ∧
    Yields (.safePwd true w0 w1) s (fun t => t.fold = s.fold)) ∧
  (∀ s : State, s.fold.lock ≠ none → Yields .pwdLockExpiry s fun t => t.fold.lock = none ∧ t.fold.fails = s.fold.fails ∧
    t.regs = s.regs) ∧
  (∀ (te0 : Bool) (w1 : W24) (s : State), FoldServed te0 s → fld w1 23 10 = 0 → (∀ o ∈ maskList (fld w1 7 0), outletStuck o s = 0) →
    (fld w1 8 8 = 1 → moduleStuck s = 0) →
    Yields (.foldReset te0 0 w1) s fun t =>
      (∀ o < 8, if o ∈ maskList (fld w1 7 0) then rd (R.FOLD_KSTAT_WELD o) t = 0 ∧ rd (R.FOLD_KSTAT_ISOF o) t = 0 ∧
          (getFo o t).rcLatch = [] ∧ (getFo o t).kfbLatch = false ∧
          (flag (R.FOLD_KSTAT_ISOF o) s = true → rd (R.FOLD_ISOVAL_ISTATE o) t = (getFo o s).insNow % 2 ^ (R.FOLD_ISOVAL_ISTATE o).wid)
        else rd (R.FOLD_KSTAT_WELD o) t = rd (R.FOLD_KSTAT_WELD o) s ∧ (getFo o t).rcLatch = (getFo o s).rcLatch ∧
          (getFo o t).kfbLatch = (getFo o s).kfbLatch) ∧
      (if fld w1 8 8 = 1 then moduleLatched t = false else moduleLatched t = moduleLatched s) ∧
      (fld w1 9 9 = 1 → ∀ c < 16, rd (R.FOLD_SCSTAT_STATE c) s = 2 → rd (R.FOLD_SCSTAT_STATE c) t = 3)) ∧
  (∀ (te0 : Bool) (w1 : W24) (s : State), FoldServed te0 s → fld w1 23 8 = 0 → AllOpen s → maskList (fld w1 7 0) ≠ [] →
    (∀ e ∈ s.fold.rcReq, ∀ o ∈ maskList (fld w1 7 0), e.2.2.1.testBit o = false) →
    (∀ o ∈ maskList (fld w1 7 0), kindOf o s ≠ 0) →
    Yields (.rcTest te0 0 w1) s fun t => t.fold.rcReq = s.fold.rcReq ++ [(⟨te0, 0⟩, fld w1 7 0, fld w1 7 0, 0)] ∧
      ∀ o ∈ maskList (fld w1 7 0), 2 ≤ (getFo o t).test ∧ (getFo o t).testRc = true)

/-- R317 to R325: the residual-current monitor takes each NORMAL sample into its window, trips on the first threshold
reached and latches every one; its self-test passes between 7.2 and 8.8 mA; an exciter fault and an aged test count; the insulation bridge
steps, and restarts without voltage. Model's choices in it: log entry 39. -/
def Obligations.ResidualAndInsulationMonitorsJudge : Prop :=
  (∀ (o : Fin 8) (s : State) e es, foldUp s = true → kindOf o s ≠ 0 → (getQ (qn (40 + o.val)) s).ent = e :: es →
    (getQ (qn (40 + o.val)) s).late = [] → e.2.typ = 0x61 → fld e.2.w1 3 0 = 12 → bits (msgSample e.2).2 10 9 = 0 →
    let a := pd1Cal o 12 (msgSample e.2).1 s
    let ring := (a :: if (msgSample e.2).2.testBit 12 then [] else (getFo o s).ring).take (rcWin o s)
    ((getFo o s).test ≠ 0 → Yields (.rcSample o) s fun t => (getFo o t).ring = ring ∧ (getFo o t).noNorm = 0 ∧
      (getFo o t).seen = true ∧ (getQ (qn (40 + o.val)) t).ent = es ∧ (getFo o t).kst = (getFo o s).kst) ∧
    ((getFo o s).test = 0 → (getFo o s).mask ≤ 1 → ∃ u, (getFo o u).ring = ring ∧
      (getFo o u).noNorm = 0 ∧ (getQ (qn (40 + o.val)) u).ent = es ∧
      exec (.rcSample o) s = .next (waitingClose o (rcTrips o (rcJudge o u).2 (rcJudge o u).1)))) ∧
  (∀ (o : Fin 8) (causes : List Nat) (s : State), ∀ c ∈ causes, c ∈ (getFo o (rcTrips o causes s)).rcLatch) ∧
  (∀ (o : Fin 8) (s : State), foldUp s = true → kindOf o s ≠ 0 → (getFo o s).kst = 0 → flag (R.FLT_CHCFG_EN o 12) s = true →
    Yields (.rcSelftestStart o) s fun t =>
      (getFo o t).test = max (getFo o s).test (if (getFo o s).due then 2 else 1) ∧ (getFo o t).due = false) ∧
  (∀ (o : Fin 8) (s : State), foldUp s = true → (getFo o s).test ≠ 0 → (getFo o s).testRc = false → (getFo o s).ring ≠ [] →
    let i := (getFo o s).ring.sum * oRec2 o 8 s * 10
    let n : Int := (getFo o s).ring.length * 2 ^ 53
    if 72 * n ≤ i ∧ i ≤ 88 * n then Yields (.rcSelftestEnd o) s fun t => rd (R.FOLD_KSTAT_RCTOK o) t = 1 ∧
        (getFo o t).passed = true ∧ (getFo o t).test = 0 ∧ (getFo o t).excBad = false
      else ∃ u, (getFo o u).test = 0 ∧ exec (.rcSelftestEnd o) s = .next (rcTrip o 7 u)) ∧
  (∀ (o : Fin 8) (s : State), foldUp s = true → ∃ u, (getFo o u).excBad = true ∧ (getFo o u).kst = (getFo o s).kst ∧
    exec (.exciterFault o) s = .next (if shut o s then rcTrip o 7 u else u)) ∧
  (∀ (o : Fin 8) (s : State), Yields (.rctokExpiry o) s fun t => rd (R.FOLD_KSTAT_RCTOK o) t = 0 ∧ { t with regs := s.regs } = s) ∧
  (∀ (o : Fin 8) (s : State), foldUp s = true → kindOf o s = 3 → (getFo o s).insSt % 2 = 0 → (getFo o s).calBad = false →
    let m := insMean o s
    (absR (m.1 - m.2.1) < 50 → Yields (.insStep o) s fun t => (getFo o t).insSt = 0 ∧ (getFo o t).insBad = 0 ∧
      (getFo o t).insZero = none ∧ t.qs = s.qs) ∧
    (50 ≤ absR (m.1 - m.2.1) → absR m.2.2 ≤ 1 / 1000000 → Yields (.insStep o) s fun t =>
      (getFo o t).insSt = ((getFo o s).insSt + 1) % 4 ∧ (getFo o t).insZero = some (m.1, m.2.1) ∧
      (getFo o t).insBad = (getFo o s).insBad ∧ { t with fold := s.fold } = s))

namespace Sys2Proof.Claims
open Sys2Proof.Machine

/-! ### Time, Ethernet and the Sward link -/

/-- R350: `v` limited to ±RATEMAX. -/
def clampRate (v : Int) (s : State) : Int := max (-(rateMax s)) (min v (rateMax s))

/-- R350: f for the offset `o` (2^−16 ns) at interval `ts`. -/
def freqOf (o : Int) (ts : Nat) : Int := (o * 2 ^ 24).tdiv ts

/-- R348, R350, R351: slot `i` has taken the offset `o` (2^−16 ns) at interval `ts`: it is counted and shown in SOFS; the
first one of the selected slot steps the clock and steers nothing, a later one sets ri and RATE and leaves the time; a
slot that is not selected moves neither; 16 small offsets in a row lock the slot. -/
def OffsetTaken (i : Nat) (o : Int) (ts : Nat) (s t : State) : Prop :=
  rd (R.PTP_SCNT_SYNC i) t = satInc (R.PTP_SCNT_SYNC i).wid (rd (R.PTP_SCNT_SYNC i) s) ∧
  rd (R.PTP_SOFS_O i) t = toU 32 (satS 32 (o.tdiv (2 ^ 16))) ∧
  (i = selSlot s → flag R.PTP_CLKSTAT_STEPPED s = false →
    t.clock = (((s.clock : Int) + o * 2 ^ 24) % (2 ^ 48 * 1000000000 * 2 ^ 40)).toNat ∧ flag R.PTP_CLKSTAT_STEPPED t = true ∧
    rd R.PTP_RATE_RATE t = rd R.PTP_RATE_RATE s ∧ (getSv i t).ri = (getSv i s).ri) ∧
  (i = selSlot s → flag R.PTP_CLKSTAT_STEPPED s = true →
    t.clock = s.clock ∧ (getSv i t).ri = (getSv i s).ri + (freqOf o ts).tdiv (2 ^ rd (R.PTP_SCFG_KI i) s) ∧
    rd R.PTP_RATE_RATE t = toU 32 (clampRate ((getSv i t).ri + (freqOf o ts).tdiv (2 ^ rd (R.PTP_SCFG_KP i) s)) s)) ∧
  (i ≠ selSlot s → t.clock = s.clock ∧ rd R.PTP_RATE_RATE t = rd R.PTP_RATE_RATE s ∧ (getSv i t).ri = (getSv i s).ri)

/-- R351: 16 consecutive offsets below VALIDLIM lock a slot; the step counts as an offset of 0. -/
def LocksAtSixteen (i : Nat) (o : Int) (s t : State) : Prop :=
  15 ≤ (getSv i s).good → o.natAbs < rd R.PTP_VALIDLIM_NS s * 2 ^ 16 → lockOf i s ≠ 2 → lockOf i t = 2

/-- R349: the PTP engine has sent the message of type `m` on port `p`, under its own identity. -/
def Sent (p m : Nat) (seq : BitVec 16) (stamp : Int) (s t : State) : Prop :=
  t.net.ptpTx = (⟨p, m, portIdent p, seq, stamp⟩ :: s.net.ptpTx).take 8

/-- R350: the path delay of slot `i` is in hand, and no earlier Sync waits for it. -/
def DelayInHand (i : Nat) (s : State) : Prop := delayKnown i s = true ∧ (getSv i s).syncs = []

/-- R357: the ingress stamp of a frame at the port of slot `i`. -/
def syncStamp (i : Nat) (s : State) : Int := ingressStamp (slotSrc i s - 1) s

/-- R356: port `p` is up. -/
def PortUp (p : Nat) (s : State) : Prop := pdOn 7 s = true ∧ flag (R.PTP_PCFG_EN p) s = true

/-- R366, R374: the module is on the ring and hears lane `l`. -/
def Hears (l : Nat) (s : State) : Prop := ringOn s = true ∧ laneUp l s = true

/-- R363: a good frame of this kind addressed to this module. -/
def ForMe (kind : Nat) (f : List Byte) (s : State) : Prop :=
  frameOk f = true ∧ fBcast f = false ∧ fDest f = ownPos s ∧ fKind f = kind

/-- R364: a numbered frame of class `safe` that is the next expected enters queue `q`, and the link expects the
following number. -/
def NumberedEnters (safe : Bool) (q : Qid) (f : List Byte) (s t : State) : Prop :=
  (getQ q t).ent = (getQ q s).ent ++ [((getQ q s).tail, msgOfBits (leNat (fPay f)))] ∧
  (getLink safe (fSrc f) t).expect = (fLseq f + 1) % 256

end Sys2Proof.Claims

/-- R347 to R355, R357, R371, R372: what the messages of the selected master, the losses and the host's writes do to a
servo slot and to the local clock; an offset is formed only once the path delay is in hand, and a move changes RATE by at
most RATEMAX. Model's choices in it: log entries 42, 115 and 116. -/
def Obligations.ServosSteerTheLocalClock : Prop :=
  (∀ (i : Fin 2) src seq t1 corr ts (s : State), tracks1588 i s = true → (getSv i s).master = some src →
    Yields (.ptpSync i src seq true t1 corr ts) s fun t =>
      (getSv i t).wait = some (src, seq, syncStamp i s - corr, ts) ∧ { t with net := s.net } = s) ∧
  (∀ (i : Fin 2) src seq t1 corr ts (s : State), tracks1588 i s = true → (getSv i s).master = some src → s.net.move = none →
    DelayInHand i s →
    Yields (.ptpSync i src seq false t1 corr ts) s fun t =>
      OffsetTaken i (t1 + corr - syncStamp i s - (pathDelay i s * 2 ^ 16 : Nat)) ts s t ∧
      LocksAtSixteen i (t1 + corr - syncStamp i s - (pathDelay i s * 2 ^ 16 : Nat)) s t) ∧
  (∀ (i : Fin 2) src seq t1 corr ts (s : State), tracks1588 i s = true → (getSv i s).master = some src →
    delayKnown i s = false →
    Yields (.ptpSync i src seq false t1 corr ts) s fun t =>
      (getSv i t).syncs = (getSv i s).syncs ++ [(t1 + corr, syncStamp i s, ts)] ∧ { t with net := s.net } = s) ∧
  (∀ (i : Fin 2) src seq t1 corr ts (s : State), tracks1588 i s = true → (getSv i s).master = some src → DelayInHand i s →
    s.net.move = some i.val → selSlot s ≠ i → flag R.PTP_CLKSTAT_STEPPED s = true →
    ((t1 + corr - syncStamp i s - (pathDelay i s * 2 ^ 16 : Nat)).tdiv (2 ^ 16)).natAbs ≤ rd R.PTP_SWLIM_NS s →
    Yields (.ptpSync i src seq false t1 corr ts) s fun t =>
      selSlot t = i ∧ t.clock = s.clock ∧ (rateNow t - rateNow s).natAbs ≤ rateMax s) ∧
  (∀ (i : Fin 2) src seq t1 t2 ts (s : State), tracks1588 i s = true → (getSv i s).master = some src → s.net.move = none →
    DelayInHand i s → (getSv i s).wait = some (src, seq, t2, ts) →
    Yields (.ptpFollowUp i src seq t1) s fun t =>
      OffsetTaken i (t1 - t2 - (pathDelay i s * 2 ^ 16 : Nat)) ts s t ∧ (getSv i t).wait = none) ∧
  (∀ (i : Fin 2) src gm rank (utc : BitVec 16) (s : State), tracks1588 i s = true →
    (∀ m ∈ (getSv i s).heard, m.at_ + 3000000 ≤ s.now) →
    Yields (.ptpAnnounce i src gm rank utc true false false true) s fun t =>
      (getSv i t).master = some src ∧ (getSv i t).heard = [⟨src, gm, rank, s.now⟩] ∧
      rd (R.PTP_SGMLO_ID i) t = gm.toNat % 2 ^ 32 ∧
      rd (R.PTP_SGMHI_ID i) t = gm.toNat / 2 ^ 32 ∧ rd (R.PTP_SSTAT_UTCOFS i) t = utc.toNat ∧
      (i.val = selSlot s → rd R.BIL_UTCOFS_S t = utc.toNat)) ∧
  (∀ (i : Fin 2) src gm rank (utc : BitVec 16) (leap61 : Bool) (s : State), tracks1588 i s = true →
    (∀ m ∈ (getSv i s).heard, m.at_ + 3000000 ≤ s.now) →
    Yields (.ptpAnnounce i src gm rank utc true (!leap61) leap61 true) s fun t =>
      (getSv i t).leap = some (if leap61 then utc.toInt + 1 else utc.toInt - 1) ∧
      (i.val = selSlot s → rd R.BIL_UTCOFS_S t = utc.toNat)) ∧
  (∀ (i : Fin 2) (s : State), tracks1588 i s = true → flag (R.PTP_SCFG_PDELAY i) s = false →
    (getSv i s).master.isSome = true →
    Yields (.delayReqTx i) s fun t =>
      Sent (slotSrc i s - 1) 1 (getSv i s).dseq (egressStamp (slotSrc i s - 1) s) s t ∧
      (getSv i t).dreq = some ((getSv i s).dseq, egressStamp (slotSrc i s - 1) s) ∧
      (getSv i t).dseq = (getSv i s).dseq + 1 ∧ { t with net := s.net } = s) ∧
  (∀ (i : Fin 2) src seq (t1 t2 t3 t4 corr : Int) (interval d : Nat) (s : State), tracks1588 i s = true →
    (getSv i s).dreq = some (seq, t3) → (getSv i s).last = some (t1, t2) → (getSv i s).master = some src →
    (getSv i s).syncs = [] → d < 2 ^ 24 → (((t2 - t1) + (t4 - corr - t3)) / 2) / 2 ^ 16 = d →
    Yields (.ptpDelayResp i src seq t4 corr interval) s fun t => rd (R.PTP_SMPD_D i) t = d ∧ (getSv i t).dreq = none ∧
      (getSv i t).delayed = true ∧ (getSv i t).dint = interval ∧ t.clock = s.clock) ∧
  (∀ (p : Fin 2) (s : State), PortUp p s → usesPdelay p s = true →
    Yields (.pdelayReqTx p) s fun t => Sent p 2 s.net.pdseq (egressStamp p s) s t ∧
      t.net.pdreq = s.net.pdreq.set p (some (s.net.pdseq, egressStamp p s)) ∧ t.net.pdseq = s.net.pdseq + 1 ∧
      { t with net := s.net } = s) ∧
  (∀ (p : Fin 2) (s : State), PortUp p s →
    Yields (.ptpPdelayReq p) s fun t => { t with net := s.net, freeCtr := s.freeCtr } = s ∧
      ∃ q, t.net.ptpTx = (⟨p, 0xA, portIdent p, q, egressStamp p s⟩ :: ⟨p, 3, portIdent p, q, ingressStamp p s⟩ ::
        s.net.ptpTx).take 8) ∧
  (∀ (p : Fin 2) seq (t1 t2 t3 corr : Int) (d : Nat) (s : State), PortUp p s → s.net.pdreq.getD p none = some (seq, t1) →
    (∀ i : Fin 2, (getSv i s).syncs = []) → d < 2 ^ 24 →
    (((ingressStamp p s - t1) - (t3 - t2) - corr) / 2) / 2 ^ 16 = d →
    Yields (.ptpPdelayResp p seq t2 t3 corr) s fun t => rd (R.PTP_PPDLY_D p) t = d ∧
      t.net.pdreq = s.net.pdreq.set p none ∧ t.net.pdone = s.net.pdone.set p true ∧ t.clock = s.clock) ∧
  (∀ (i : Fin 2) (s : State), lockOf i s = 1 ∨ lockOf i s = 2 →
    Yields (.slotLost i) s fun t => lockOf i t = 3 ∧ t.clock = s.clock ∧
      rd (R.PTP_SCNT_LOSS i) t = satInc (R.PTP_SCNT_LOSS i).wid (rd (R.PTP_SCNT_LOSS i) s) ∧
      (i.val ≠ selSlot s → rd R.PTP_RATE_RATE t = rd R.PTP_RATE_RATE s) ∧
      (i.val = selSlot s → clkStatus t ≠ 2 ∧ ∀ m : Int, s.net.rates ≠ [] → s.net.rates.sum = m * (s.net.rates.length : Int) →
        rd R.PTP_RATE_RATE t = toU 32 m)) ∧
  (∀ s : State, lockOf (selSlot s) s ≠ 2 → s.net.holdOk = true →
    Yields .holdtimeExpiry s fun t => clkStatus t = 0 ∧ t.net.holdOk = false ∧ t.clock = s.clock) ∧
  (∀ s : State, clkStatus s = 2 →
    exec .backupClockUpdate s = .next { s with net := { s.net with bkNs := s.clock / 2 ^ 40, bkAt := s.now } }) ∧
  (∀ (v : Int) (s : State), (getSv (selSlot s) s).leap = some v →
    Yields .leapSecond s fun t => rd R.BIL_UTCOFS_S t = toU 16 v ∧ t.net.bkUtc = v ∧ t.clock = s.clock) ∧
  (∀ (i : Fin 2) (v : W32) (s : State), hostGate true (0x17000100 + i.val * 0x40) s = none →
    Yields (.servoScfgWrite i v) s fun t =>
      slotSrc i t = v.toNat % 4 ∧ lockOf i t = (if v.toNat % 4 = 0 then 0 else 1) ∧
      rd (R.PTP_SCFG_DOMAIN i) t = bits v.toNat 9 2 ∧ rd (R.PTP_SCFG_KP i) t = bits v.toNat 20 17 ∧
      rd (R.PTP_SCFG_KI i) t = bits v.toNat 24 21 ∧ t.clock = s.clock ∧ rd R.PWR_HSTAT_LAST t = 0) ∧
  (∀ (v : W32) (s : State), hostGate true 0x17000018 s = none →
    Yields (.clkcfgWrite v) s fun t => t.clock = s.clock ∧
      if v.toNat % 4 < 2 ∧ v.toNat % 4 ≠ selSlot s ∧ rd R.PTP_SWLIM_NS s < (sofs (v.toNat % 4) s).natAbs then
        rd R.PWR_HSTAT_LAST t = stBUDGET ∧ rd R.PTP_CLKCFG_SELMODE t = rd R.PTP_CLKCFG_SELMODE s ∧ t.net = s.net
      else rd R.PWR_HSTAT_LAST t = 0 ∧ rd R.PTP_CLKCFG_SELMODE t = v.toNat % 4 ∧
        flag R.PTP_CLKSTAT_CLAMP t = decide ((rateNow s).natAbs = bits v.toNat 10 2 * 2 ^ 40 / 1000000) ∧
        rd R.PTP_CLKCFG_RATEMAX t = bits v.toNat 10 2 ∧ rd R.PTP_CLKCFG_HOLDTIME t = bits v.toNat 21 11 ∧
        (v.toNat % 4 < 2 → v.toNat % 4 ≠ selSlot s → t.net.move = some (v.toNat % 4))) ∧
  (∀ s : State, hostGate false 0x17000000 s = none →
    Yields .clksecloRead s fun t => t.pwr.out = [BitVec.ofNat 32 (clkSec s)] ∧
      rd R.PTP_CLKSECHI_S t = clkSec s / 2 ^ 32 % 2 ^ 16 ∧ rd R.PTP_CLKNS_NS t = clkNs s ∧ rd R.PTP_CLKSUB_SUB t = clkSub s ∧
      rd R.PWR_HSTAT_LAST t = 0)

/-- R356 to R374: frames are placed, passed on with their residence time, dropped and counted; the rings move; a
message enters the queue of its sender once, is kept and resent until it is acknowledged; links, positions, the time
leader and the ring's time follow what the lanes bear. Model's choices in it: log entries 3, 43, 44, 45, 92 and 117. -/
def Obligations.PortsAndRingCarryFrames : Prop :=
  (∀ (p : Fin 2) (bs : List Byte) (s : State), PortUp p s →
    Yields (.ethFrameRx p bs false) s fun t => t.net = s.net ∧
      rd (R.PTP_PCNT_FCS p) t = satInc (R.PTP_PCNT_FCS p).wid (rd (R.PTP_PCNT_FCS p) s)) ∧
  (∀ (p : Fin 2) (bs : List Byte) (s : State), PortUp p s → bs.length ≤ 2032 →
    Yields (.ethFrameRx p bs true) s fun t =>
      let h := rd R.PTP_HRXPTR_HEAD s
      (if trackedPtp p bs s = false ∧ (isGroup bs = true ∨ isHostMac bs s = true) then
        if (h + 1) % 64 = rd R.PTP_HRXPTR_TAIL s then
          t.net.rx = s.net.rx ∧ rd (R.PTP_PCNT_DROP p) t = satInc (R.PTP_PCNT_DROP p).wid (rd (R.PTP_PCNT_DROP p) s)
        else rd R.PTP_HRXPTR_HEAD t = (h + 1) % 64 ∧ SMap.getN 0 t.net.rx (h * 2048 + 16) bs.length = bs ∧
          SMap.getN 0 t.net.rx (h * 2048 + 4) 12 = stampBytes (ingressStamp p s)
       else t.net.rx = s.net.rx ∧ t.regs = s.regs) ∧
      t.net.held = s.net.held ++
        (if (trackedPtp p bs s = true ∨ isGroup bs = true ∨ isHostMac bs s = false) ∧
            flag (R.PTP_PCFG_FWD p) s = true ∧ flag (R.PTP_PCFG_EN (1 - p)) s = true ∧ p2pStops p bs s = false then
          [(1 - p.val, bs, (ingressStamp p s % (clockMod / 2 ^ 24 : Nat)).toNat)] else [])) ∧
  (∀ (p : Fin 2) (s : State) f, s.net.held.find? (fun f => f.1 == p.val) = some f → PortUp p s →
    Yields (.forwardedFrameEgress p) s fun t =>
      t.net.held = s.net.held.eraseP (fun f => f.1 == p.val) ∧
      rd (R.PTP_PCNT_FWD (1 - p.val)) t = satInc (R.PTP_PCNT_FWD (1 - p.val)).wid (rd (R.PTP_PCNT_FWD (1 - p.val)) s) ∧
      (rd (R.PTP_PCFG_TC (1 - p.val)) s = 0 → t.net.lastTx = ((p.val, f.2.1) :: s.net.lastTx).take 4) ∧
      (rd (R.PTP_PCFG_TC (1 - p.val)) s = 1 → ptpAt f.2.1 = some (14, 0) → fb f.2.1 14 % 16 = 0 → fb f.2.1 20 / 2 % 2 = 0 →
        t.net.lastTx = ((p.val, f.2.1.take 22 ++ beBytes 8 (toU 64 (sext 64 (beNat ((f.2.1.drop 22).take 8)) +
          (egressStamp p s - (f.2.2 : Int)))) ++ f.2.1.drop 30) :: s.net.lastTx).take 4)) ∧
  (∀ (p : Fin 2) (s : State), Yields (.portLinkLost p) s fun t =>
    t.net.held = s.net.held.filter (fun f => f.1 != p.val) ∧ rd (R.PTP_PCNT_DROP p) t =
      min (rd (R.PTP_PCNT_DROP p) s + (s.net.held.filter fun f => f.1 == p.val).length) (2 ^ (R.PTP_PCNT_DROP p).wid - 1)) ∧
  (∀ (p : Fin 2) (s : State), PortUp p s → rd R.PTP_HTXPTR_HEAD s ≠ rd R.PTP_HTXPTR_TAIL s →
    fb (SMap.getN 0 s.net.tx (rd R.PTP_HTXPTR_HEAD s * 2048) 2048) 2 % 4 = p.val →
    Yields .ethFrameTxDone s fun t =>
      let slot := SMap.getN 0 s.net.tx (rd R.PTP_HTXPTR_HEAD s * 2048) 2048
      rd R.PTP_HTXPTR_HEAD t = (rd R.PTP_HTXPTR_HEAD s + 1) % 32 ∧
      t.net.lastTx = ((p.val, (slot.drop 16).take (leNat (slot.take 2))) :: s.net.lastTx).take 4 ∧
      if fb slot 2 / 4 % 2 = 0 then t.net.tx = s.net.tx
      else SMap.getN 0 t.net.tx (rd R.PTP_HTXPTR_HEAD s * 2048 + 4) 12 = stampBytes (egressStamp p s)) ∧
  (∀ (v : W32) (s : State), hostGate true 0x17000034 s = none →
    Yields (.htxptrWrite v) s fun t => rd R.PTP_HTXPTR_TAIL t = bits v.toNat 20 16 ∧
      rd R.PTP_HTXPTR_HEAD t = rd R.PTP_HTXPTR_HEAD s ∧ rd R.PWR_HSTAT_LAST t = 0) ∧
  (∀ (v : W32) (s : State), hostGate true 0x17000030 s = none →
    Yields (.hrxptrWrite v) s fun t => rd R.PTP_HRXPTR_TAIL t = bits v.toNat 21 16 ∧
      rd R.PTP_HRXPTR_HEAD t = rd R.PTP_HRXPTR_HEAD s ∧ rd R.PWR_HSTAT_LAST t = 0) ∧
  (∀ (p : Fin 2) (v : W32) (s : State), hostGate true (0x17001000 + p.val * 0x1000) s = none →
    Yields (.pcfgWrite p v) s fun t =>
      if bits v.toNat 2 1 = 2 ∧ rd (R.PTP_PCFG_SPEED (1 - p.val)) s = 2 ∧ limGig (limitMode s) < 2 then
        rd R.PWR_HSTAT_LAST t = stBUDGET ∧ rd (R.PTP_PCFG_SPEED p) t = rd (R.PTP_PCFG_SPEED p) s ∧ t.net = s.net
      else rd R.PWR_HSTAT_LAST t = 0 ∧ rd (R.PTP_PCFG_EN p) t = v.toNat % 2 ∧ rd (R.PTP_PCFG_SPEED p) t = bits v.toNat 2 1 ∧
        rd (R.PTP_PCFG_TC p) t = bits v.toNat 4 3 ∧ rd (R.PTP_PCFG_FWD p) t = bits v.toNat 5 5 ∧
        t.net.ebyp = (pdOn 7 s && flag (R.PTP_PCFG_FWD 0) t && flag (R.PTP_PCFG_FWD 1) t && !(warned s))) ∧
  (∀ (l : Fin 2) (f : List Byte) (s : State), Hears l s → ForMe 1 f s → s.net.qlink.length = 8 →
    ((getLink false (fSrc f) s).expect = fLseq f → (getQ (qn (24 + fSrc f)) s).en = true →
      (getQ (qn (24 + fSrc f)) s).late = [] → (getQ (qn (24 + fSrc f)) s).full = false →
      Yields (.qmsg l f) s (NumberedEnters false (qn (24 + fSrc f)) f s)) ∧
    ((getLink false (fSrc f) s).expect ≠ fLseq f → Yields (.qmsg l f) s fun t => t.qs = s.qs)) ∧
  (∀ (l : Fin 2) (f : List Byte) (s : State), Hears l s → ForMe 2 f s → s.net.slink.length = 8 →
    ((getLink true (fSrc f) s).expect = fLseq f → (getQ 94 s).en = true → (getQ 94 s).late = [] → (getQ 94 s).full = false →
      Yields (.safe l f) s (NumberedEnters true 94 f s)) ∧
    ((getLink true (fSrc f) s).expect ≠ fLseq f → Yields (.safe l f) s fun t => t.qs = s.qs)) ∧
  (∀ (l : Fin 2) (f : List Byte) (safe : Bool) (s : State) pre k post, Hears l s → ForMe 3 f s →
    s.net.qlink.length = 8 → s.net.slink.length = 8 → fb f 4 = (if safe then 2 else 1) →
    (getQ (qn (if safe then 93 else 16 + fSrc f)) s).ent = [] →
    (getLink safe (fSrc f) s).kept = pre ++ k :: post → k.lseq = fb f 5 → (∀ x ∈ pre, x.lseq ≠ fb f 5) →
    Yields (.ack l f) s fun t => (getLink safe (fSrc f) t).kept = post ∧ t.qs = s.qs) ∧
  (∀ (d : Fin 8) (safe : Bool) (s : State), ringOn s = true → (getLink safe d s).kept ≠ [] →
    Yields (.swardResendTimeout d safe) s fun t => { t.net with lanes := s.net.lanes } = s.net ∧
      rd R.SWD_SRTX_RESENT t = min (rd R.SWD_SRTX_RESENT s + (getLink safe d s).kept.length) (2 ^ 16 - 1)) ∧
  (∀ (l : Fin 2) (s : State), ringOn s = true → (∀ q ∈ [16, 17, 18, 19, 20, 21, 22, 23, 93], (getQ (qn q) s).ent = []) →
    Yields (.swardLinkUp l) s fun t => laneUp l t = true ∧ laneUp (1 - l.val) t = laneUp (1 - l.val) s ∧
      { t.net with split := s.net.split } = s.net ∧
      (laneUp (1 - l.val) s = true → s.net.wrapped = false → brokenElsewhere s = false → rd R.SWD_SSTAT_RING t = 1)) ∧
  (∀ (l : Fin 2) (errors : Nat) (s : State), Hears l s →
    Yields (.swardLinkDown ⟨l, errors⟩) s fun t =>
      rd R.SWD_SERR_CODEERR t = min (rd R.SWD_SERR_CODEERR s + errors) (2 ^ R.SWD_SERR_CODEERR.wid - 1) ∧ laneUp l t = false ∧ t.net.wrapped = true ∧ (getEng 0 t).evHw = true ∧
      rd R.SWD_SERR_BREAKS t = satInc R.SWD_SERR_BREAKS.wid (rd R.SWD_SERR_BREAKS s) ∧
      rd R.SWD_SSTAT_RING t =
        (if laneUp (1 - l.val) s = true ∧ (s.net.split = false ∨ s.net.gone.any id = false) then 2 else 3)) ∧
  (∀ s : State, Hears 0 s → laneUp 1 s = true → s.net.wrapped = true →
    Yields .unwrap s fun t => t.net.wrapped = false ∧
      (brokenElsewhere s = false → rd R.SWD_SSTAT_RING t = 1) ∧ (brokenElsewhere s = true → 2 ≤ rd R.SWD_SSTAT_RING t) ∧ t.qs = s.qs) ∧
  (∀ (l : Fin 2) (pos : Fin 8) (wrap : Bool) (clock : Fin 4) (lead : Bool) (s : State), Hears l s →
    (pos.val ≠ ownPos s → Yields (.topo l pos wrap ⟨clock, lead⟩) s fun t =>
      (wrap = true → t.net.turnedAt = some s.now ∧ brokenElsewhere t = true) ∧
      (rd R.SWD_SSTAT_PRESENT t).testBit pos = true ∧ t.net.peers = s.net.peers.set pos (some (clock.val, lead)) ∧
      (s.net.peers = List.replicate 8 none → flag R.SWD_SCFG_TLEADEN s = false → lead = true →
        rd R.SWD_SSTAT_LEADER t = pos ∧ flag R.SWD_SSTAT_LEADOK t = true)) ∧
    (pos.val = ownPos s → Yields (.topo l pos wrap ⟨clock, lead⟩) s fun t =>
      rd R.SWD_SSTAT_DUPID t = 1 ∧ rd R.SWD_SSTAT_BYPASS t = 1 ∧ (getEng 0 t).evHw = true)) ∧
  (∀ s : State, ringOn s = true → Yields .topoTx s fun t =>
    (isLeader (chooseLeader s) = false → rd R.SWD_SSTAT_LEADER t = rd R.SWD_SSTAT_LEADER s ∧
      rd R.SWD_SSTAT_LEADOK t = rd R.SWD_SSTAT_LEADOK s) ∧
    (isLeader (chooseLeader s) = true → rd R.SWD_SSTAT_LEADER t = ownPos s ∧ flag R.SWD_SSTAT_LEADOK t = true) ∧ ∃ f, frameOk f = true ∧ fKind f = 6 ∧
    fSrc f = ownPos s % 8 ∧ fBcast f = true ∧ [⟨0, f⟩, ⟨1, f⟩] <:+ t.net.lanes) ∧
  (∀ (pos : Fin 8) (s : State), (rd R.SWD_SSTAT_PRESENT s).testBit pos = true → pos.val ≠ ownPos s → s.net.slink.length = 8 →
    Yields (.positionLost pos) s fun t =>
      (rd R.SWD_SSTAT_PRESENT t).testBit pos = false ∧ t.net.gone = s.net.gone.set pos true ∧
      (getQ (qn (16 + pos)) t).en = false ∧ (getQ (qn (24 + pos)) t).en = false ∧ (getLink true pos t).kept = [] ∧
      rd R.SWD_SRTX_SAFEDROP t = min (rd R.SWD_SRTX_SAFEDROP s + (getLink true pos s).kept.length) (2 ^ 16 - 1)) ∧
  (∀ (l : Fin 2) (f : List Byte) (res : Nat) (s : State), Hears l s → frameOk f = true → fSrc f ≠ ownPos s → fKind f = 4 →
    Yields (.time l f res) s fun t =>
      let v := leNat (fPay f)
      let at_ := timeOf v + hopDelay l s
      (outBroken l s = false → ∃ g, [⟨l.val, g⟩] <:+ t.net.lanes ∧ frameOk g = true ∧ fSrc g = fSrc f ∧ fKind g = 4 ∧
        fPay g = leBytes 8 (timePay (at_ + res) (bits v 63 62))) ∧
      (s.net.ringKnown = false → t.clock = s.clock) ∧
      (isLeader s = false → flag R.SWD_SSTAT_LEADOK s = true → rd R.SWD_SSTAT_LEADER s = fSrc f → s.net.ringKnown = true →
        s.net.move = none → ∀ i : Fin 2, slotSrc i s = 3 → slotSrc (1 - i.val) s ≠ 3 → OffsetTaken i (ringTime at_ s - clk16 s) 1000000 s t)) ∧
  (∀ s : State, ringOn s = true → isLeader s = true →
    Yields .timeTx s fun t => t.regs = s.regs ∧ t.clock = s.clock ∧
      (s.net.ringSec = clkSec s → ∃ f, frameOk f = true ∧ fKind f = 4 ∧ fPay f = leBytes 8 (timePay (clk16 s) (clkStatus s)) ∧
        [⟨0, f⟩, ⟨1, f⟩] <:+ t.net.lanes) ∧
      (s.net.ringSec ≠ clkSec s → t.net.ringSec = clkSec s ∧ ∃ f g, frameOk f = true ∧ fKind f = 4 ∧
        fPay f = leBytes 8 (timePay (clk16 s) (clkStatus s)) ∧ frameOk g = true ∧ fKind g = 7 ∧
        fPay g = leBytes 8 (clkSec s % 2 ^ 48 + rd R.BIL_UTCOFS_S s * 2 ^ 48) ∧
        [⟨0, f⟩, ⟨1, f⟩, ⟨0, g⟩, ⟨1, g⟩] <:+ t.net.lanes)) ∧
  (∀ (l : Fin 2) (f : List Byte) (s : State), Hears l s → frameOk f = true → fKind f = 7 → fBcast f = true →
    fSrc f ≠ ownPos s → isLeader s = false → flag R.SWD_SSTAT_LEADOK s = true → rd R.SWD_SSTAT_LEADER s = fSrc f →
    Yields (.timex l f) s fun t =>
      t.net.ringSec = leNat (fPay f) % 2 ^ 48 ∧ t.net.ringKnown = true ∧ t.clock = s.clock ∧
      ∀ i : Fin 2, slotSrc i s = 3 → rd (R.PTP_SSTAT_UTCOFS i) t = leNat (fPay f) / 2 ^ 48 ∧
        (i.val = selSlot s → rd R.BIL_UTCOFS_S t = leNat (fPay f) / 2 ^ 48)) ∧
  (∀ (l : Fin 2) (t1 t2 t3 t4 : Int) (d : Nat) (s : State), Hears l s → d < 2 ^ 16 →
    ((t4 - t1) - (t3 - t2)) / 2 * 10 / 2 ^ 16 = d →
    Yields (.delay l t1 t2 t3 t4) s fun t => rd (if l.val = 0 then R.SWD_SHOP_LANE0 else R.SWD_SHOP_LANE1) t = d ∧
      { t.net with lanes := s.net.lanes } = s.net ∧ t.clock = s.clock ∧
      ∃ f, frameOk f = true ∧ fKind f = 5 ∧ fSrc f = ownPos s % 8 ∧ [⟨1 - l.val, f⟩] <:+ t.net.lanes) ∧
  (∀ (v : W32) (s : State), hostGate true 0x18000000 s = none →
    Yields (.swardScfgWrite v) s fun t =>
      rd R.SWD_SCFG_EN t = v.toNat % 2 ∧ rd R.SWD_SCFG_TLEADEN t = bits v.toNat 1 1 ∧ rd R.SWD_SCFG_NMOD t = bits v.toNat 4 2 ∧
      rd R.SWD_SCFG_LOSST t = bits v.toNat 12 5 ∧ rd R.PWR_HSTAT_LAST t = 0 ∧
      if v.toNat % 2 = 0 ∨ flag R.SWD_SSTAT_DUPID s = true ∨ pdOn 7 s = false then rd R.SWD_SSTAT_BYPASS t = 1 ∧ rd R.SWD_SSTAT_LANEUP t = 0
      else rd R.SWD_SSTAT_BYPASS t = 0)

namespace Sys2Proof.Claims
open Sys2Proof.Machine

/-! ### The contactless reader, the vault and the check units -/

/-- These messages enter queue `q`, in order, where it is enabled and has room for them and no completion is owed. -/
def Enters (q : Qid) (ms : List Msg) (s t : State) : Prop :=
  s.owed = [] → (getQ q s).en = true → (getQ q s).late = [] → (getQ q s).used + ms.length ≤ (getQ q s).cap →
    (getQ q t).ent.map Prod.snd = (getQ q s).ent.map Prod.snd ++ ms

/-- A host request to a reader that is enabled with nothing waiting, powered, not at FAULT and not held off (R386,
R387). -/
def TagServed (n : Fin 8) (s : State) : Prop :=
  Served n s ∧ Open 108 s ∧ pdOn 8 s = true ∧ isScrapped s = false ∧ flag R.TAG_TSTAT_TXOFF s = false ∧
    tstate s ≠ tgFAULT

/-- R378, R379: the Type A cards in the order the anticollision finds them, and the Type B cards WUPB reaches. -/
def foundA (a : List Card) (s : State) : List Card := if flag R.TAG_TCFG_TYPEA.eff s then resolveA a else []
def reachedB (b : List Card) (s : State) : List Card :=
  if flag R.TAG_TCFG_TYPEB.eff s then b.filter (afiReaches (rd R.TAG_TCFG_AFI.eff s)) else []

/-- R378, R379: the cards a poll reports, where the Type B cards draw these slots. -/
def polled (a b : List Card) (slots : List (List Nat)) (s : State) : List Card :=
  (foundA a s).take (rd R.TAG_TCFG_MAXCARD.eff s + 1) ++
    (resolveB slots (reachedB b s)).take (rd R.TAG_TCFG_MAXCARD.eff s + 1)

/-- The identity of a card. -/
def sameCard (x : Seen) (c : Card) : Prop := x.uid = c.uid ∧ x.typeB = c.typeB

/-- R380: the reader holds card `c` under profile `p`, SECURED, its key is `k`, and the MACs of its responses verify
(R381). -/
def Secured (c : Card) (p : Nat) (k : List Byte) (s : State) : Prop :=
  tstate s = tgSECURED ∧ s.tag.card = some (c, p) ∧ cardK p c.uid s = some k ∧ c.macOk = true

/-- R386: the UID words of a request name card `c`. -/
def Names (w0 : W24) (cs : List Cont) (m : Nat) (c : Card) : Prop := reqUid w0 cs m = some (c.uid, c.typeB)

/-- A vault request of the host: TE0 and TE15 run and Q112 is free, the directory and the noise source are sound, no wipe runs and the
part is not SCRAPPED (R411, R412). -/
def VaultServed (n : Fin 8) (s : State) : Prop :=
  Served n s ∧ Open 112 s ∧ te15Up s = true ∧ s.vault.dirOk = true ∧ flag R.GV_VSTAT_DRBGF s = false ∧ isScrapped s = false ∧ wiping s = false

/-- R398, R399: authorisation `a` is accepted: its form, purpose, device and anchor are right, its signature verifies and
its counter is fresh. -/
def AuthOk (a : Auth) (purpose anchor : Nat) (s : State) : Prop :=
  a.format = 1 ∧ a.res = true ∧ a.purpose = purpose ∧ a.plen ≤ 448 ∧ a.devid = devIdBytes ∧ a.anchor = anchor ∧ anchor ≤ 5 ∧
    anchorLoaded anchor s = true ∧ anchorVerifies anchor a.signed a.rest s = true ∧ rd (R.GV_ANCCNT_CNT anchor) s < a.counter

/-- An internal request reaches TE15 (R411). -/
def VaultInner (s : State) : Prop := Open 112 s ∧ te15Up s = true ∧ s.vault.dirOk = true

/-- R414: one bit fed to a register of width `w` and polynomial `poly`. -/
def feedBit (w poly val : Nat) (b : Bool) : Nat :=
  if val.testBit (w - 1) != b then (val * 2 % 2 ^ w) ^^^ poly else val * 2 % 2 ^ w

/-- R414: bytes fed to unit `u`. -/
def fedVal (u : Nat) (bs : List Byte) (s : State) : Nat :=
  let w := rd (R.CHK_CKCFG_WIDTH u) s + 1
  let poly := (rd (R.CHK_CKPOLYLO_P u) s + 2 ^ 32 * rd (R.CHK_CKPOLYHI_P u) s) % 2 ^ w
  let order := if flag (R.CHK_CKCFG_REFIN u) s then [0, 1, 2, 3, 4, 5, 6, 7] else [7, 6, 5, 4, 3, 2, 1, 0]
  bs.foldl (fun v b => order.foldl (fun v i => feedBit w poly v (b.getLsbD i)) v) (ckVal u s)

/-- Unit `u` has been fed these bytes and no others. -/
def Fed (u : Nat) (bs : List Byte) (s t : State) : Prop :=
  ckVal u t = fedVal u bs s ∧ rd (R.CHK_CKCNT_N u) t = (rd (R.CHK_CKCNT_N u) s + bs.length) % 2 ^ 32 ∧
    rd R.PWR_HSTAT_LAST t = 0

end Sys2Proof.Claims

/-- R377 to R391: polls report what comes and goes; the presence check lets an absent card go; field, guard and test;
authentication, credit reads and journalled credit writes of the held card; its release. Model's choices in it: log
entries 3, 4, 8, 46 and 118. -/
def Obligations.ReaderServesItsCards : Prop :=
  (∀ (a b : List Card) (sl : List (List Nat)) (s : State), tstate s = tgPOLL → flag R.TAG_TSTAT_FIELD s = true →
    Yields (.poll a b sl) s fun t =>
      rd R.TAG_TCNT_POLLS t = satInc R.TAG_TCNT_POLLS.wid (rd R.TAG_TCNT_POLLS s) ∧ t.tag.enableWait = none ∧
      rd R.TAG_TCNT_COLL t = (if 1 < (foundA a s).length ∨ 1 < (reachedB b s).length
        then satInc R.TAG_TCNT_COLL.wid (rd R.TAG_TCNT_COLL s) else rd R.TAG_TCNT_COLL s) ∧
      (t.tag.seen.take (polled a b sl s).length).map Seen.uid = (polled a b sl s).map Card.uid ∧
      (∀ c ∈ polled a b sl s, ∃ x ∈ t.tag.seen, sameCard x c ∧ x.missed = false) ∧
      (∀ x ∈ s.tag.seen, (∀ c ∈ polled a b sl s, ¬ sameCard x c) →
        (x.missed = false → ∃ y ∈ t.tag.seen, y.uid = x.uid ∧ y.typeB = x.typeB ∧ y.missed = true) ∧
        (x.missed = true → (∀ z ∈ s.tag.seen, z.uid = x.uid → z.typeB = x.typeB → z.missed = true) →
          ∀ y ∈ t.tag.seen, ¬ (y.uid = x.uid ∧ y.typeB = x.typeB)))) ∧
  (∀ s : State, exec (.presenceCheck .good) s = .next s) ∧
  (∀ s : State, s.tag.card.isSome = true →
    Yields (.presenceCheck .badCrc) s fun t => t.tag = s.tag ∧ t.qs = s.qs ∧
      rd R.TAG_TERR_CRC t = satInc R.TAG_TERR_CRC.wid (rd R.TAG_TERR_CRC s)) ∧
  (∀ (s : State) c p, s.tag.card = some (c, p) →
    Yields (.presenceCheck .silent) s fun t => t.tag.card = none ∧ tstate t = tgPOLL ∧
      (∀ x ∈ t.tag.seen, ¬ sameCard x c) ∧
      rd R.TAG_TERR_TIMEOUT t = satInc R.TAG_TERR_TIMEOUT.wid (rd R.TAG_TERR_TIMEOUT s)) ∧
  (∀ s : State, tstate s = tgGUARD → flag R.TAG_TSTAT_FIELD s = true →
    Yields .guardEnd s fun t => tstate t = tgPOLL ∧ t.tag = s.tag ∧ t.qs = s.qs) ∧
  (∀ s : State, s.tag.fieldReset = true → s.tag.on = true → flag R.TAG_TSTAT_TXOFF s = false →
    Yields .fieldResetEnd s fun t => tstate t = tgGUARD ∧ rd R.TAG_TSTAT_FIELD t = 1 ∧ t.tag.fieldReset = false) ∧
  (∀ (n : Fin 8) (s : State), TagServed n s → rd R.TAG_TCFG_IDRV s ≤ 25 →
    Yields (.tagApply n 0 0) s fun t => Answered n 0x19 0 0 stOK s t ∧
      ∀ f ∈ [R.TAG_TCFG_IDRV, R.TAG_TCFG_MAXRATE, R.TAG_TCFG_TYPEA, R.TAG_TCFG_TYPEB, R.TAG_TCFG_MAXCARD, R.TAG_TCFG_AFI],
        rd f.eff t = rd f s % 2 ^ f.wid) ∧
  (∀ (n : Fin 8) (s : State), Served n s → clearQ 108 s = true → pdOn 8 s = true → isScrapped s = false →
    s.tag.enableWait = none →
    (tstate s = tgOFF → flag R.TAG_TSTAT_TXOFF s = false → 0 < (getQ 108 s).cap → Yields (.tagEnable n 0 1) s fun t =>
      t.tag.on = true ∧ (getQ 108 t).en = true ∧ tstate t = tgGUARD ∧ rd R.TAG_TSTAT_FIELD t = 1 ∧
      t.tag.enableWait = some ⟨n, 0⟩) ∧
    ((getQ 108 s).en = true → tstate s ≠ tgFAULT → s.tag.testWait = none → Yields (.tagEnable n 0 0) s fun t =>
      t.tag.on = false ∧ (getQ 108 t).en = false ∧ tstate t = tgOFF ∧ rd R.TAG_TSTAT_FIELD t = 0 ∧ t.tag.card = none)) ∧
  (∀ (n : Fin 8) (s : State), TagServed n s → s.tag.testWait = none → tstate s ≠ tgWRITING →
    Yields (.tagTest n 0 0) s fun t => tstate t = tgTEST ∧ rd R.TAG_TSTAT_FIELD t = 0 ∧ t.tag.card = none ∧
      t.tag.testWait = some ⟨n, 0⟩) ∧
  (∀ (i r : Bool) (n : Fin 8) (w0 : Nat) (s : State), s.tag.testWait = some ⟨n, w0⟩ →
    Yields (.tagTestEnd i r) s fun t => t.tag.testWait = none ∧ (n ≠ 0 → Completed n 0x1B w0 0 stOK s t) ∧
      if s.tag.on = true then tstate t = tgGUARD ∧ rd R.TAG_TSTAT_FIELD t = 1 else tstate t = tgOFF) ∧
  (∀ (n : Fin 8) (w0 : W24) (p : Fin 8) (cs : List Cont) (c : Card) (s : State), TagServed n s → te15Up s = true →
    flag R.GV_VSTAT_DRBGF s = false → Names w0 cs 2 c → profileOk p s = true → seenOf c.uid c.typeB s = none →
    (∀ j ∈ s.tag.journal, ¬ (j.uid = c.uid ∧ j.typeB = c.typeB)) →
    tstate s = tgPOLL ∨ tstate s = tgOPEN ∨ tstate s = tgSECURED →
    Yields (.tagAuth n w0 (w24 p) cs (some c)) s fun t => t.tag.card = some (c, p.val) ∧
      t.tag.rate = min c.maxRate (rd R.TAG_TCFG_MAXRATE.eff s) ∧
      if c.authOk = true ∧ (cardK p c.uid s).isSome = true then tstate t = tgSECURED ∧ Answered n 0x1C w0.toNat 0 stOK s t
      else tstate t = tgOPEN ∧ Answered n 0x1C w0.toNat 0 stDENIED s t ∧
        rd R.TAG_TERR_AUTHFAIL t = satInc R.TAG_TERR_AUTHFAIL.wid (rd R.TAG_TERR_AUTHFAIL s)) ∧
  (∀ (n : Fin 8) (w0 : W24) (cs : List Cont) (c : Card) (p : Nat) k i nm (s : State), TagServed n s → te15Up s = true →
    Names w0 cs 2 c → Secured c p k s → currentRec k c = some (i, nm) →
    Yields (.tagCreditRead n w0 0 cs) s fun t =>
      let r := cardRec c i
      t.tag.card = some (if nm then c else { c with ptr := mkPtr k c.uid (recCnt r) i }, p) ∧
      (⟨c.uid, c.typeB, recCnt r, p⟩ : LastRead) ∈ t.tag.reads ∧
      Enters (qn (8 + n)) (mkMsg 0x9D w0.toNat ((r.getD 4 0).toNat % 4 * 256) ::
        (amountConts (leNat ((r.drop 8).take 8)) (recCnt r)).map contMsg) s t) ∧
  (∀ (n : Fin 8) (w0 w1 : W24) (cs : List Cont) (reach : Fin 4) (c : Card) (p : Nat) k i nm r (s : State), TagServed n s →
    te15Up s = true → Names w0 cs 4 c → w1 = 1 ∨ w1 = 2 → fld (cs.getD 3 (0, 0)).1 23 16 = 0 → (cs.getD 3 (0, 0)).2 = 0 →
    Secured c p k s → currentRec k c = some (i, nm) →
    s.tag.reads.find? (fun x => x.uid == c.uid && x.typeB == c.typeB) = some r → r.profile = p → r.cnt = recCnt (cardRec c i) →
    wiping s = false → s.tag.journal.length < 32 → (∀ j ∈ s.tag.journal, ¬ (j.uid = c.uid ∧ j.typeB = c.typeB)) →
    Yields (.tagCreditWrite n w0 w1 cs reach) s fun t =>
      let new := mkRec k c.uid ((r.cnt + 1) % 2 ^ 32) w1.toNat ((cs.getD 2 (0, 0)).1.toNat + (cs.getD 2 (0, 0)).2.toNat * 2 ^ 24 +
        fld (cs.getD 3 (0, 0)).1 15 0 * 2 ^ 48)
      if reach = 3 then
        t.tag.card = some (cardWrite k (1 - i) new c, p) ∧ t.tag.journal = s.tag.journal ∧
          (n ≠ 0 → Answered n 0x1E w0.toNat 0 stOK s t)
      else t.tag.card = none ∧
        t.tag.journal = s.tag.journal ++ [⟨c.uid, c.typeB, r.cnt, new, p, decide (reach = 2)⟩] ∧
        (n ≠ 0 → Answered n 0x1E w0.toNat 256 stOK s t)) ∧
  (∀ (n : Fin 8) (w0 : W24) (cs : List Cont) (c : Card) (p : Nat) (s : State), TagServed n s → Names w0 cs 2 c →
    s.tag.card = some (c, p) →
    Yields (.tagRelease n w0 0 cs) s fun t => t.tag.card = none ∧ tstate t = tgPOLL ∧ t.tag.journal = s.tag.journal ∧
      Answered n 0x1F w0.toNat 0 stOK s t) ∧
  (∀ (k : Fin 32) (tok : List Byte) (s : State), Open 110 s → te15Up s = true →
    flag R.GV_VSTAT_DRBGF s = false → s.vault.dirOk = true → isScrapped s = false → slotFor k 4 5 s = true →
    Yields (.tagStep k tok) s fun t => t.tag = s.tag ∧ ∃ bs : List Byte, bs.length = 16 ∧
      Enters 111 (mkMsg 0xB9 k.val 0 :: (bytesToConts 3 bs).map contMsg) s t)

/-- R394 to R411: an accepted authorisation spends its counter and loads a key or an anchor, changes the lifecycle state
or clears the tamper state; working keys are generated, opened and used; a tamper event erases what it must. Model's
choices in it: log entries 3, 4, 20, 33 and 119. -/
def Obligations.VaultRequestsAct : Prop :=
  (∀ (n : Fin 8) (key : List Byte) (s : State), VaultServed n s → flag R.GV_VSTAT_TAMPER s = false →
    s.vault.keys.length = 32 → s.vault.vers.length = 32 →
    let a := vaultAuth s
    let k := keyParams a.params
    AuthOk a 1 1 s → a.plen = 16 + keyLen k.alg → 3 ≤ k.slot → k.slot < 32 → s.vault.vers.getD k.slot 0 < k.ver →
    attrAllows k.attr k.alg = true → slotFor 2 2 4 s = true → keyOf k s = some key → scalarOk k.alg key = true →
    Yields (.vaultKeyLoad n 0 0) s fun t =>
      t.vault.keys.getD k.slot [] = key ∧ t.vault.vers.getD k.slot 0 = k.ver ∧ rd (R.GV_SLOT_VALID k.slot) t = 1 ∧
      rd (R.GV_SLOT_ATTR k.slot) t = k.attr ∧ rd (R.GV_SLOT_ALG k.slot) t = k.alg ∧ rd (R.GV_SLOT_OWNER k.slot) t = k.owner ∧
      (⟨k.slot, key, k.attr, k.alg, k.owner, k.ver⟩ : StoredKey) ∈ t.vault.stored ∧ rd (R.GV_ANCCNT_CNT 1) t = a.counter ∧
      Answered n 0x3A 0 (k.slot * 256) stOK s t) ∧
  (∀ (n : Fin 8) (s : State), VaultServed n s → flag R.GV_VSTAT_TAMPER s = false →
    s.vault.keys.length = 32 → s.vault.vers.length = 32 →
    let a := vaultAuth s
    let k := keyParams a.params
    AuthOk a 1 1 s → k.attr = 0 → a.plen = 8 → 3 ≤ k.slot → k.slot < 32 → s.vault.vers.getD k.slot 0 < k.ver →
    Yields (.vaultKeyLoad n 0 0) s fun t =>
      t.vault.keys.getD k.slot [] = [] ∧ rd (R.GV_SLOT_VALID k.slot) t = 0 ∧ (∀ e ∈ t.vault.stored, e.slot ≠ k.slot) ∧
      rd (R.GV_ANCCNT_CNT 1) t = a.counter ∧ Answered n 0x3A 0 (k.slot * 256) stOK s t) ∧
  (∀ (n : Fin 8) (s : State), VaultServed n s → s.vault.anchors.length = 8 →
    let a := vaultAuth s
    let i := (a.params.getD 0 0).toNat
    let c := (a.params.getD 1 0).toNat
    AuthOk a 2 (if i = 1 ∧ lifeState s = 0 then 0 else 1) s → a.plen = (if c = 5 then 72 else 104) →
    anchorBad a.params s = false → (isSealed s = true → i ≠ 2 ∧ i ≠ 3) →
    Yields (.vaultAnchorLoad n 0 0) s fun t =>
      rd (R.GV_ANCINFO_LOADED i) t = 1 ∧ rd (R.GV_ANCINFO_CURVE i) t = c ∧ t.vault.anchors.getD i [] = a.params.drop 8 ∧
      rd (R.GV_ANCCNT_CNT i) t = leNat ((a.params.drop 4).take 4) ∧ Answered n 0x3B 0 (i * 256) stOK s t) ∧
  (∀ (n : Fin 8) (x : Nat) (s : State), VaultServed n s → lifeBusy s = false →
    let a := vaultAuth s
    lifeAnchor (lifeFrom a) (lifeTo a) = some x → AuthOk a 3 x s → a.plen = 4 → a.params.getD 2 0 = 0 → a.params.getD 3 0 = 0 →
    lifeFrom a = lifeState s → lifeFurther (lifeTo a) s = true →
    Yields (.lifeChange n 0 0) s fun t =>
      lifeState t = lifeTo a ∧ wiping t = true ∧ rd R.LIFE_EPOCH_E t = (rd R.LIFE_EPOCH_E s + 1) % 2 ^ 32 ∧
      t.vault.stored = [] ∧ (∀ k : Fin 32, 3 ≤ k.val → rd (R.GV_SLOT_VALID k) t = 0) ∧
      t.vault.life = some (n.val, 0, lifeFrom a)) ∧
  (∀ (n : Fin 8) (w0 fr : Nat) (s : State), wiping s = true → s.vault.life = some (n.val, w0, fr) →
    flag R.BAR_FREEZE_FRZ s = false →
    Yields .lifeWipeDone s fun t =>
      wiping t = false ∧ t.vault.life = none ∧ t.tag.journal = [] ∧
      (∀ x, 0x080000 ≤ x ∧ x < 0x0D0000 ∨ 0x0D0000 ≤ x ∧ x < 0x100000 ∨ 0x1000000 ≤ x ∧ x < 0x2000000 → mramRd t x = 0) ∧
      Completed n 0x3C w0 (lifeState s * 256) stOK s t) ∧
  (∀ (n : Fin 8) (s : State), VaultServed n s → AuthOk (vaultAuth s) 4 1 s → (vaultAuth s).plen = 0 →
    Yields (.tamperClear n 0 0) s fun t =>
      rd R.GV_VSTAT_TAMPER t = 0 ∧ rd R.LIFE_EPOCH_E t = (rd R.LIFE_EPOCH_E s + 1) % 2 ^ 32 ∧ t.vault.stored = [] ∧
      t.vault.seed.length = 32 ∧ rd (R.GV_ANCCNT_CNT 1) t = (vaultAuth s).counter ∧ Answered n 0x3D 0 0 stOK s t) ∧
  (∀ (n : Fin 8) (w1 : W24) (s : State), VaultServed n s → fld w1 23 14 = 0 → attrAllows (fld w1 2 0) (fld w1 5 3) = true →
    slotFor (fld w1 13 9) 3 5 s = true →
    Yields (.vaultGenerate n 0 w1) s fun t => (∃ key : List Byte, key.length = keyLen (fld w1 5 3) ∧
        t.mram = SMap.putN 0 s.mram 0x0A0000 (Config.kwpWrap (s.vault.keys.getD (fld w1 13 9) [])
          ([BitVec.ofNat 8 (fld w1 2 0), BitVec.ofNat 8 (fld w1 5 3), BitVec.ofNat 8 (fld w1 8 6), 0] ++
            beBytes 4 (rd R.LIFE_EPOCH_E s) ++ key))) ∧
      t.vault = s.vault ∧ Answered n 0x3E 0 ((keyLen (fld w1 5 3) + 16) / 8 * 256) stOK s t) ∧
  (∀ (body : List Byte) (s : State), VaultInner s → flag R.GV_VSTAT_DRBGF s = false → slotFor 0 5 1 s = true →
    Yields (.signReading body) s fun t => t.vault = s.vault ∧
      Enters 113 (mkMsg 0xA4 0 0 :: (bytesToConts 11 (beBytes 64 (Config.ecdsaSign256 (s.vault.keys.getD 0 [])
        (Config.sha256 (body.take 160)) (Config.free 256 s.freeCtr)).toNat)).map contMsg) s t) ∧
  (∀ (auth : List Byte) (s : State), VaultInner s → isScrapped s = false →
    let a := parseAuth auth
    a.purpose = 0x10 ∨ a.purpose = 0x11 ∨ a.purpose = 0x20 → AuthOk a a.purpose (if a.purpose = 0x20 then 5 else 3) s →
    servicePlen a.purpose a.plen = true →
    Yields (.verifyAuth auth) s fun t => rd (R.GV_ANCCNT_CNT a.anchor) t = a.counter ∧
      Enters 113 (mkMsg 0xA5 0 0 :: (bytesToConts 6 (beBytes 32 (Config.sha256 a.params).toNat)).map contMsg) s t) ∧
  (∀ (k : Fin 4) (key : TempKey) (s : State), VaultInner s → flag R.GV_VSTAT_DRBGF s = false → isScrapped s = false → wiping s = false →
    blobOpen s = some key →
    Yields (.blobLoad (w24 k) 0) s fun t => t.vault = { s.vault with temps := s.vault.temps.set k key } ∧
      t.mram = s.mram ∧ Enters 113 [mkMsg 0xB6 k 0] s t) ∧
  (∀ (r : Fin 8) (s : State), VaultInner s → isScrapped s = false → 1 ≤ r.val → r.val ≤ 5 →
    (manifestOk r 0x080000 s = true → Yields (.verifyImage (w24 (r + 8)) 0) s fun t =>
      t.upd = s.upd ∧ Enters 113 [mkMsg 0xB7 (r + 8) 0] s t) ∧
    (manifestOk r (mfAt r (slotOf r s)) s = true → imageOk r (fun _ => decide (4 ≤ r.val)) s = true →
      Yields (.verifyImage (w24 r) 0) s fun t => (4 ≤ r.val → s.upd.bad.length = 5 → t.upd.bad[r.val - 1]? = some false) ∧
        Enters 113 [mkMsg 0xB7 r 0] s t)) ∧
  (∀ (src : Fin 4) (s : State), lifeState s ≠ 0 → isScrapped s = false → (src.val = 2 → flag R.LIFE_TCFG_COVEREN s = true) →
    (src.val = 3 → s.pwr.down = false) →
    Yields (.tamperEvent src) s fun t =>
      rd R.GV_VSTAT_TAMPER t = 1 ∧ t.vault.seed = [] ∧ t.vault.stored = [] ∧
      t.vault.temps = List.replicate 4 ⟨[], 0, 0, 0⟩ ∧ (∀ k : Fin 32, 3 ≤ k.val → rd (R.GV_SLOT_VALID k) t = 0) ∧
      rd R.GV_TAMPST_COUNT t = satInc R.GV_TAMPST_COUNT.wid (rd R.GV_TAMPST_COUNT s)) ∧
  (∀ s : State, Yields .drbgHealthFail s fun t => rd R.GV_VSTAT_DRBGF t = 1 ∧ t.vault = s.vault) ∧
  (∀ s : State, Yields .sourceTest s fun t => rd R.GV_VSTAT_DRBGF t = 0 ∧ t.vault = s.vault ∧ t.qs = s.qs) ∧
  (∀ (u : Fin 4) (v : W32) (s : State), hostGate true (0x1B000000 + u.val * 0x100) s = none →
    flag (R.CHK_CKCFG_EN u) s = false ∨ v.toNat % 2 = 0 →
    Yields (.ckLoad u v) s fun t => rd R.PWR_HSTAT_LAST t = 0 ∧
      rd (R.CHK_CKCFG_EN u) t = v.toNat % 2 ∧ rd (R.CHK_CKCFG_WIDTH u) t = bits v.toNat 6 1 ∧
      rd (R.CHK_CKCFG_SRC u) t = bits v.toNat 11 10 ∧ rd (R.CHK_CKCFG_SEL u) t = bits v.toNat 22 16 ∧
      (v.getLsbD 23 = true → bits v.toNat 11 10 ≠ 2 →
        ckVal u t = rd (R.CHK_CKINITLO_I u) t + 2 ^ 32 * rd (R.CHK_CKINITHI_I u) t ∧ rd (R.CHK_CKCNT_N u) t = 0)) ∧
  (∀ (u : Fin 4) (v : W32) (s : State), flag (R.CHK_CKCFG_EN u) s = true → rd (R.CHK_CKCFG_SRC u) s = 0 →
    rd (R.CHK_CKCFG_WIDTH u) s < 64 →
    (hostGate true (0x1B000030 + u.val * 0x100) s = none → Yields (.ckdata u v) s (Fed u (leBytes 4 v.toNat) s)) ∧
    (hostGate true (0x1B000034 + u.val * 0x100) s = none →
      Yields (.ckdatab u v) s (Fed u [BitVec.ofNat 8 v.toNat] s))) ∧
  (∀ (u : Fin 4) (s : State),
    (hostGate false (0x1B000018 + u.val * 0x100) s = none → Yields (.ckvalloRead u) s fun t =>
      t.pwr.out = [BitVec.ofNat 32 (rd (R.CHK_CKVALLO_V u) s)] ∧ rd R.PWR_HSTAT_LAST t = 0) ∧
    (hostGate false (0x1B000020 + u.val * 0x100) s = none → Yields (.ckresloRead u) s fun t =>
      t.pwr.out = [BitVec.ofNat 32 (ckRes u s)] ∧ rd R.PWR_HSTAT_LAST t = 0))

namespace Sys2Proof.Claims
open Sys2Proof.Machine

/-! ### Update and recorder -/

/-- An update request of the host that TE0 may take (R438). -/
def UpdServed (n : Fin 8) (s : State) : Prop := Served n s ∧ isScrapped s = false ∧ wiping s = false

/-- A region number. -/
def Region (r : Nat) : Prop := 1 ≤ r ∧ r ≤ 5

/-- R433: TE0 has begun the fallback of region `r` for this cause. -/
def FallsBack (r cause : Nat) (t : State) : Prop :=
  t.upd.fbWait.testBit r = true ∧ rd (R.UPD_RSTAT_CAUSE (r - 1)) t = cause

/-- R425, R437: the state of region `r` as update control in MRAM keeps it. -/
def keptState (r : Nat) (s : State) : Nat := rd (R.UPD_RSTAT_STATE (r - 1)).eff s

/-- R490: a full reset holds the part down, with its cause for the next start. -/
def HeldDown (cause : Nat) (t : State) : Prop := t.pwr.down = true ∧ t.pwr.cause = cause ∧ t.upd.act = none

/-- R453, R520: an accepted entry of this log goes in line at once. -/
def WritesFreely (s : State) : Prop := flag R.BAR_FREEZE_FRZ s = false ∧ s.bar.legalBad = false ∧ s.bar.generalBad = false

/-- R444, R446: the entry of a trigger: its class, source, outlet and words, with the time of its acceptance. -/
def EntryOf (src c outlet : Nat) (data : List Nat) (s : State) (e : LogEntry) : Prop :=
  e.cls = c ∧ e.source = logSource src ∧ e.outlet = outlet ∧ e.data = data ∧ e.tsec = clkSec s % 2 ^ 48 ∧ e.tns = clkNs s ∧
    e.clk = clkStatus s

/-- R447: the event words of a trigger's continuations. -/
def wordsOf (cs : List Cont) : List Nat := cs.map fun c => c.1.toNat + c.2.toNat * 2 ^ 24

/-- R447: a trigger whose form is right. -/
def TriggerFits (c o : Nat) (cs : List Cont) (w0 w1 : W24) : Prop :=
  fld w0 6 0 = c ∧ fld w0 11 8 = o ∧ fld w0 15 12 = cs.length ∧ fld w0 7 7 = 0 ∧ fld w0 23 16 = 0 ∧ w1 = 0 ∧ cs.length ≤ 12 ∧
    (∀ x ∈ cs, x.2.toNat < 256)

end Sys2Proof.Claims

/-- R425 to R437: a manifest opens a region, blocks are journalled and written in order, an activation puts images in
trial at the next start, a confirmation or a fallback ends the trial. Model's choices in it: log entries 9, 48, 49,
50, 51, 74 and 88. -/
def Obligations.UpdatesRunTheirStages : Prop :=
  (∀ (n r : Fin 8) (s : State), UpdServed n s → te15Up s = true → Open 112 s → Region r →
    manifestOk r 0x080000 s = true → manifestZeros 0x080000 s = true →
    mfMinfmt 0x080000 s ≤ rd R.UPD_SETSTAT_FMT s → ustate r s = 0 → rd (R.UPD_RVER_V (r - 1)) s < mfVer 0x080000 s →
    Yields (.updBegin n (w24 r) 0) s fun t =>
      ustate r t = 1 ∧ rd (R.UPD_RSTAT_NEXT (r - 1)) t = 0 ∧ rd (R.UPD_RSTAT_NBLK (r - 1)) t = mfNblk 0x080000 s ∧
      rd (R.UPD_RJNL_J (r - 1)) t = 0 ∧ rd (R.UPD_RPVER_V (r - 1)) t = mfVer 0x080000 s ∧
      mramRdN t (mfAt r (1 - slotOf r s)) (mfLen r 0x080000 s) = mramRdN s 0x080000 (mfLen r 0x080000 s) ∧
      Answered n 0x0A r (mfNblk 0x080000 s * 256) stOK s t) ∧
  (∀ (n r : Fin 8) (a : Fin 16) (b : Nat) (s : State), UpdServed n s → Region r → b < 248 → rd R.UPD_SETSTAT_AREA s ≤ 1 →
    ustate r s = 1 → rd (R.UPD_RSTAT_NEXT (r - 1)) s = b →
    digestOk (mramRdN s (0x088000 + a * 4096) 4096) (mfAt r (1 - slotOf r s)) b s = true →
    Yields (.updBlock n (w24 (r + a * 16)) (w24 b)) s fun t =>
      mramRdN t (blockAt r b s) 4096 = mramRdN s (0x088000 + a * 4096) 4096 ∧
      (rd (R.UPD_RJNL_J (r - 1)) s ≤ b → mramRdN t (laneBase r + b * 4096) 4096 = mramRdN s (blockAt r b s) 4096 ∧
        rd (R.UPD_RJNL_J (r - 1)) t = b + 1) ∧
      rd (R.UPD_RSTAT_NEXT (r - 1)) t = b + 1 ∧
      ustate r t = (if b + 1 = rd (R.UPD_RSTAT_NBLK (r - 1)) s then 2 else 1) ∧
      (n ≠ 0 → Answered n 0x0B (r + a * 16) ((b + 1) * 256) stOK s t)) ∧
  (∀ (n : Fin 8) (w0 : W24) (s : State), UpdServed n s → fld w0 0 0 = 0 → fld w0 23 6 = 0 → w0 ≠ 0 →
    (∀ r ∈ maskRegions w0.toNat, ustate r s = 2) → (∀ o ∈ outlets, inSession o s = false) →
    Yields (.updActivate n w0 0) s fun t => t.upd.act = some w0.toNat ∧ t.mram = s.mram ∧ Answered n 0x0D w0.toNat 0 stOK s t) ∧
  (∀ (m : Nat) (s : State), te0Up s = true → s.upd.act = some m → activationAcked s = true →
    s.upd.slot.length = 5 →
    Yields .activationRestart s fun t => HeldDown 3 t ∧
      ∀ r ∈ maskRegions m, slotOf r t = 1 - slotOf r s ∧ keptState r t = if s.upd.fbWait.testBit r then 4 else 3) ∧
  (∀ s : State, te0Up s = true → s.upd.act = none → s.upd.fbWait ≠ 0 → (∀ o ∈ outlets, inSession o s = false) →
    Yields .activationRestart s fun t => HeldDown 3 t ∧ t.upd.slot = s.upd.slot ∧
      ∀ r ∈ maskRegions s.upd.fbWait, keptState r t = 4) ∧
  (∀ (n r : Fin 8) (s : State), UpdServed n s → Region r →
    (ustate r s = 1 ∨ ustate r s = 2 → rd R.UPD_SETSTAT_AREA s ≤ 1 → rd (R.UPD_RJNL_J (r - 1)) s ≤ regMax r →
      Yields (.updFallback n (w24 r) 0) s fun t => ustate r t = 0 ∧ rd (R.UPD_RJNL_J (r - 1)) t = 0 ∧
        rd R.UPD_UPDCNT_FB t = satInc 16 (rd R.UPD_UPDCNT_FB s) ∧
        (∀ b, b < rd (R.UPD_RJNL_J (r - 1)) s → mramRdN t (blockAt r b s) 4096 = mramRdN s (laneBase r + b * 4096) 4096) ∧
        (n ≠ 0 → Answered n 0x0E r 0 stOK s t)) ∧
    (ustate r s = 3 → s.upd.fbWait.testBit r = false → Yields (.updFallback n (w24 r) 0) s (FallsBack r 1))) ∧
  (∀ (r : Fin 8) (s : State), Region r → te0Up s = true → ustate r s = 3 → s.upd.fbWait.testBit r = false →
    (∀ e ∈ regEngines r, running e s = true) →
    (r.val = 3 → pairDuplex 9 s = true ∧ pairDuplex 11 s = true ∧ s.bill.live.all id = true) →
    (r.val ≤ 3 → rd R.UPD_SETSTAT_MIGR s = 0 ∨ rd R.UPD_SETSTAT_MIGR s = 2) →
    Yields (.updConfirm (BitVec.ofNat 32 (2 ^ r.val))) s fun t => ustate r t = 0 ∧
      rd R.UPD_UPDCNT_UPD t = satInc 16 (rd R.UPD_UPDCNT_UPD s) ∧ rd (R.UPD_RJNL_J (r - 1)) t = 0 ∧
      (∀ i, i < 0x4000 → mramRd t (mfAt r (1 - slotOf r s) + i) = 0) ∧
      (r.val ≤ 3 → rd R.UPD_SETSTAT_MIGR s = 2 → rd R.UPD_SETSTAT_MIGR t = 0 ∧
        rd R.UPD_SETSTAT_AREA t = (1 - rd R.UPD_SETSTAT_AREA s) ∧
        rd R.UPD_SETSTAT_FMT t = mfSetfmt (mfAt r (slotOf r s)) s % 2 ^ 16)) ∧
  (∀ (r : Fin 8) (s : State), Region r → te0Up s = true → ustate r s = 3 → s.upd.fbWait.testBit r = false →
    Yields (.updReqfb (BitVec.ofNat 32 (2 ^ (r.val + 8)))) s fun t =>
      FallsBack r 2 t ∧ rd (R.UPD_RSTAT_REQFB (r - 1)) t = 1) ∧
  (∀ (r : Fin 5) (s : State), te0Up s = true → ustate (r.val + 1) s = 3 → s.upd.fbWait.testBit (r.val + 1) = false →
    Yields (.trialWindowExpiry r) s (FallsBack (r.val + 1) 3)) ∧
  (∀ (r : Fin 3) (c : Bool) (s : State), te0Up s = true → ustate (r.val + 1) s = 3 → rd R.UPD_SETSTAT_AREA s ≤ 1 →
    rd R.UPD_SETSTAT_MIGR s < 2 →
    rd R.UPD_SETSTAT_FMT s < mfSetfmt (mfAt (r.val + 1) (slotOf (r.val + 1) s)) s →
    Yields (.settingsMigration r c) s fun t => rd R.UPD_SETSTAT_MIGR t = (if c then 2 else 3) ∧
      (let old := rd R.UPD_SETSTAT_AREA s
       let new := (Config.migrated (mfSetfmt (mfAt (r.val + 1) (slotOf (r.val + 1) s)) s)
         (mramRdN s (areaBase old) 0x3C000)).take 0x3C000
       if c then mramRdN t (areaBase (1 - old)) new.length = new
       else ∀ i, i < 0x3C000 → mramRd t (areaBase (1 - old) + i) = 0) ∧
      (c = false → s.upd.fbWait.testBit (r.val + 1) = false → FallsBack (r.val + 1) 5 t)) ∧
  (∀ s : State, engState 0 s = 2 → s.pwr.stuck = false →
    Yields .loaderStart s fun t => engState 0 t = 3 ∧ t.pwr.pfLatch = false ∧
      (recovery s = false → (∀ r ∈ regions, keptState r s % 8 ≠ 3 ∧ keptState r s % 8 ≠ 4) →
        recovery t = !(imageOk 1 (fun _ => true) (showUpd s) && imageOk 2 (planBlock (showUpd s)) (showUpd s)) ∧
        ∀ r ∈ regions, ustate r t = keptState r s % 8) ∧
      (recovery s = false → recovery t = true → ∀ e : Eid, e ≠ 0 → engState e s = 2 → engState e t = 0))

/-- R444 to R455, R520: a trigger is accepted with its time and words, waits while a freeze is on, and is written to its
log in order; entries are read by number; a log is cleared under authorisation and begins with CLEARED. Model's
choices in it: log entries 52 and 120. -/
def Obligations.RecorderKeepsItsLogs : Prop :=
  (∀ (src : Byte) (c o : Nat) (w0 w1 : W24) (cs : List Cont) (s : State), Open 116 s → TriggerFits c o cs w0 w1 →
    reservedCls c = false → (legalCls c = true ∨ (classRec c s).en = true) →
    Yields (.logTrigger src w0 w1 cs) s fun t =>
      rd (R.BAR_CLASS_COUNT c) t = satInc (R.BAR_CLASS_COUNT c).wid (rd (R.BAR_CLASS_COUNT c) s) ∧ t.mram = s.mram ∧
      (WritesFreely s → ∃ e, EntryOf src.toNat c o (wordsOf cs) s e ∧ t.bar.queued = s.bar.queued ++ [e] ∧
        t.bar.held = s.bar.held) ∧
      (flag R.BAR_FREEZE_FRZ s = true → s.bar.held.length < 64 → ∃ e, EntryOf src.toNat c o (wordsOf cs) s e ∧ e.held = true ∧
        t.bar.held = s.bar.held ++ [e] ∧ t.bar.queued = s.bar.queued)) ∧
  (∀ (src : Byte) (w0 w1 : W24) (cs : List Cont) (s : State), Open 116 s → reservedCls (fld w0 6 0) = true ∨ w1 ≠ 0 →
    Yields (.logTrigger src w0 w1 cs) s fun t => rd R.BAR_HOLD_DISC t = satInc R.BAR_HOLD_DISC.wid (rd R.BAR_HOLD_DISC s) ∧
      t.bar = s.bar) ∧
  (∀ (e : LogEntry) (s : State), flag R.BAR_FREEZE_FRZ s = false → saveAhead s = false →
    nextEntry (writable s.bar.queued s) = some e →
    (legalCls e.cls = true → isScrapped s = false → flag R.BAR_LSTAT_FULL s = false → s.bar.legal.length < 2047 →
      Yields .logEntryWrite s fun t => t.bar.legal = s.bar.legal ++ [(s.bar.pd0Legal + 1, e)] ∧
        t.bar.general = s.bar.general ∧ rd R.BAR_LSTAT_COUNT t = s.bar.legal.length + 1 ∧
        (if s.bar.legal.length + 1 = 1920 then rd R.BAR_LSTAT_NEAR t = 1 else t.bar.queued = s.bar.queued.erase e)) ∧
    (legalCls e.cls = false →
      Yields .logEntryWrite s fun t => t.bar.queued = s.bar.queued.erase e ∧ t.bar.legal = s.bar.legal ∧
        t.bar.general = (if 8192 ≤ s.bar.general.length then s.bar.general.drop 1 else s.bar.general) ++
          [(s.bar.pd0General + 1, e)])) ∧
  (∀ (g : Bool) (k : Nat) (w1 : W24) (hi : Nat) (s : State), Open 118 s → isScrapped s = false →
    (if g then s.bar.generalBad else s.bar.legalBad) = false → 1 ≤ k → k ≤ 16 → hi < 256 →
    Yields (.logRead (w24 (g.toNat + 2 * k)) w1 [(w24 hi, 0)]) s fun t => t.bar = s.bar ∧
      let es := ((if g then s.bar.general else s.bar.legal).filter fun e => decide (w1.toNat + hi * 2 ^ 24 ≤ e.1)).take k
      Enters 119 (es.flatMap logEntryMsgs ++ [mkMsg 0x96 (g.toNat + 2 * k) (es.length * 256)]) s t) ∧
  (∀ (n : Fin 8) (m : Nat) (s : State), Served n s → te15Up s = true → isScrapped s = false → wiping s = false →
    WritesFreely s →
    let a := vaultAuth s
    AuthOk a 0x20 5 s → a.plen = 12 → a.params.take 4 = [BitVec.ofNat 8 m, 0, 0, 0] → 1 ≤ m → m ≤ 3 →
    (m.testBit 0 = true → leNat ((a.params.drop 4).take 4) = s.bar.pd0Legal) →
    (m.testBit 1 = true → leNat ((a.params.drop 8).take 4) = s.bar.pd0General) →
    Yields (.logClear n 0 0) s fun t => rd (R.GV_ANCCNT_CNT 5) t = a.counter ∧
      (if m.testBit 0 then (∃ e, e.cls = 1 ∧ e.data.take 3 = [s.bar.pd0Legal, s.bar.legal.length, a.counter] ∧
          t.bar.legal = [(s.bar.pd0Legal + 1, e)]) ∧ rd R.BAR_LSTAT_FULL t = 0 ∧ rd R.BAR_LSTAT_NEAR t = 0
        else t.bar.legal = s.bar.legal) ∧
      (if m.testBit 1 then ∃ e, e.cls = 1 ∧ e.data.take 3 = [s.bar.pd0General, s.bar.general.length, a.counter] ∧
          t.bar.general = [(s.bar.pd0General + 1, e)]
        else t.bar.general = s.bar.general) ∧ (n ≠ 0 → Answered n 0x17 0 0 stOK s t)) ∧
  (∀ (n : Fin 8) (m : Nat) (s : State), Served n s → te15Up s = true → isScrapped s = false → s.bar.legalBad = false →
    s.bar.generalBad = false →
    let a := vaultAuth s
    AuthOk a 0x20 5 s → a.plen = 12 → a.params.take 4 = [BitVec.ofNat 8 m, 0, 0, 0] → 1 ≤ m → m ≤ 3 →
    (m.testBit 0 = true ∧ leNat ((a.params.drop 4).take 4) ≠ s.bar.pd0Legal) ∨
      (m.testBit 1 = true ∧ leNat ((a.params.drop 8).take 4) ≠ s.bar.pd0General) →
    Yields (.logClear n 0 0) s fun t => rd (R.GV_ANCCNT_CNT 5) t = rd (R.GV_ANCCNT_CNT 5) s ∧ t.vault = s.vault ∧
      t.bar = s.bar ∧ Answered n 0x17 0 0 stSTALE s t) ∧
  (∀ (v : W32) (s : State), hostGate true 0x1D000018 s = none →
    Yields (.freezeOn v) s fun t => rd R.BAR_FREEZE_FRZMAX t = bits v.toNat 9 4 ∧ rd R.PWR_HSTAT_LAST t = 0 ∧
      t.bar.legal = s.bar.legal ∧ t.bar.general = s.bar.general ∧
      (flag R.BAR_FREEZE_FRZ s = true → rd R.BAR_FREEZE_FRZ t = 1 ∧ t.bar = s.bar) ∧
      (flag R.BAR_FREEZE_FRZ s = false → s.bar.held.length + s.bar.queued.length ≤ 64 → rd R.BAR_FREEZE_FRZ t = 1 ∧
        t.bar.held = s.bar.held ++ s.bar.queued.map (fun e => { e with held := true }) ∧ t.bar.queued = [] ∧
        t.bar.lost = 0)) ∧
  (∀ (v : W32) (s : State), hostGate true 0x1D000018 s = none → flag R.BAR_FREEZE_FRZ s = true →
    s.bar.legalBad = false → s.bar.generalBad = false →
    Yields (.freezeOff v) s fun t => rd R.BAR_FREEZE_FRZ t = 0 ∧ rd R.BAR_FREEZE_FCAUSE t = 1 ∧ t.bar.held = [] ∧
      (s.bar.lost = 0 → t.bar.queued = s.bar.queued ++ s.bar.held) ∧
      (s.bar.lost ≠ 0 → ∃ e, e.cls = 0x29 ∧ e.data = [s.bar.lost] ∧ t.bar.queued = s.bar.queued ++ s.bar.held ++ [e]) ∧
      rd R.PWR_HSTAT_LAST t = 0) ∧
  (∀ s : State, flag R.BAR_FREEZE_FRZ s = true → s.bar.legalBad = false → s.bar.generalBad = false →
    Yields .freezeTimeout s fun t => rd R.BAR_FREEZE_FRZ t = 0 ∧ rd R.BAR_FREEZE_FCAUSE t = 3 ∧ t.bar.held = [] ∧
      s.bar.queued ++ s.bar.held <+: t.bar.queued) ∧
  (∀ (g : Bool) (s : State), flag R.BAR_FREEZE_FRZ s = false → (if g then s.bar.legalBad else s.bar.generalBad) = false →
    Yields (.headerRebuild g) s fun t => t.bar.legalBad = false ∧ t.bar.generalBad = false ∧ t.bar.held = [] ∧
      s.bar.queued ++ s.bar.held <+: t.bar.queued ∧ (g = false → rd R.BAR_LSTAT_LDROP t = 0xFFFF))

namespace Sys2Proof.Claims
open Sys2Proof.Machine

/-! ### Display, load switches, power and the host port -/

/-- R459: the display runs. -/
def LcdOn (s : State) : Prop := flag R.LCD_LCFG_EN s = true ∧ pdOn 9 s = true

/-- R465: the legal rows checked at a frame start. -/
def curCrc (s : State) : Nat := legalCrc (frontRows s)

/-- R476: the host may act on load switch `c`. -/
def LsFree (c : Fin 16) (s : State) : Prop := hostGate true (0x1F000004 + c.val * 0x100) s = none ∧ lsBudget c s = false

/-- R34: load switch `c` may switch itself on: a comfort channel only up to 125 °C at the junction. -/
abbrev Cool (c : Fin 16) (s : State) : Prop := lsComfort c s = true → junction s ≤ 165

/-- R471: channel `c` has latched off with this cause. -/
def Latched (c cause : Nat) (t : State) : Prop := lsState c t = 3 ∧ rd (R.LSW_LSSTAT_CAUSE c) t = cause

/-- R491: what stands in MRAM, PD0 and the fuses is as before; the remaining time of a password lock is written. -/
def Kept (s t : State) : Prop :=
  (s.fold.lock = none → t.mram = s.mram) ∧ t.bar.legal = s.bar.legal ∧ t.bar.general = s.bar.general ∧ t.vault.stored = s.vault.stored ∧
    t.vault.anchors = s.vault.anchors ∧ t.tag.journal = s.tag.journal ∧ t.net.bkNs = s.net.bkNs ∧ lifeState t = lifeState s

/-- An MRAM word address of the host-data partition, `n` words long (R422). -/
def HostData (off n : Nat) : Prop := 0x1000000 ≤ off ∧ off + 4 * n ≤ 0x2000000

/-- The host port is open to the MRAM window. -/
def PortOpen (s : State) : Prop := s.pwr.stuck = false ∧ isScrapped s = false

end Sys2Proof.Claims

/-- R459 to R480: a page is built, tagged, checked and swapped in only where the check value agrees; a wrong or overdue
page blanks the legal field; the load switches switch, latch, retry, shed and test as their tables say. Model's
choices in it: log entries 3, 53 and 54. -/
def Obligations.DisplayAndLoadSwitchesAct : Prop :=
  (∀ s : State, LcdOn s → te0Up s = true → s.upd.bad.getD 2 false = false →
    Yields .pageDwell s fun t => (t.lcd.page, t.lcd.outlet) = nextPage s ∧ t.lcd.built = true ∧ t.lcd.sec = s.bill.lsec ∧
      t.lcd.dueAt = some (s.lcd.dueAt.getD s.now) ∧ t.lcd.back = (if (nextPage s).1 < 2 then
        energyRows (nextPage s).1 (billedShown (nextPage s).2 s) else softRows (nextPage s).1 s)) ∧
  (∀ (p : Fin 5) (o : Fin 8) (s : State), te0Up s = true →
    Yields (.lcdTagWrite p o) s fun t => rd R.LCD_TAG_SEC t = s.lcd.sec % 2 ^ 16 ∧ rd R.LCD_TAG_PAGE t = p ∧
      rd R.LCD_TAG_OUTLET t = o ∧ t.lcd.tagged = true ∧ t.lcd.exp = none ∧
      ∀ e ∈ (if p.val < 2 ∧ 4 ≤ o.val then [11, 12] else [9, 10]), (getEng (en e) t).evHw = true) ∧
  (∀ s : State, s.lcd.tagged = true → s.lcd.exp = none →
    pairUp (checkPair (rd R.LCD_TAG_PAGE s) (rd R.LCD_TAG_OUTLET s)) s = true →
    Yields .lcdExpWrite s fun t => t.regs = s.regs ∧ match expCrc s with
      | some c => t.lcd.exp = some c ∧ t.lcd.tagged = true
      | none => t.lcd.exp = none ∧ t.lcd.tagged = false) ∧
  (∀ s : State, s.lcd.tagged = true → s.lcd.exp = none →
    Yields .lcdTagTimeout s fun t => t.lcd = { s.lcd with tagged := false } ∧ t.regs = s.regs) ∧
  (∀ (s : State) c r0 r1 r2 r3, LcdOn s → te0Up s = true → warned s = false → s.lcd.tagged = true → s.lcd.exp = some c →
    s.lcd.back = [r0, r1, r2, r3] → (∀ r ∈ s.lcd.back, r < 2 ^ 24) →
    Yields .lcdFrameStart s fun t => t.lcd.tagged = false ∧
      if legalCrc s.lcd.back = c then frontRows t = s.lcd.back ∧ t.lcd.back = frontRows s ∧ rd R.LCD_VERCRC_VER t = c ∧
        rd R.LCD_VERCRC_CUR t = c ∧ rd R.LCD_LSTAT_BLANK t = 0 ∧ rd R.LCD_LSTAT_PAGE t = rd R.LCD_TAG_PAGE s % 8 ∧ t.lcd.dueAt = none
      else frontRows t = frontRows s ∧ rd R.LCD_LSTAT_BLANK t = 1 ∧ t.lcd.exp = none) ∧
  (∀ s : State, LcdOn s → s.lcd.exp = none →
    Yields .lcdFrameStart s fun t => frontRows t = frontRows s ∧ rd R.LCD_VERCRC_CUR t = curCrc s % 2 ^ 16 ∧
      (curCrc s ≠ rd R.LCD_VERCRC_VER s → rd R.LCD_LSTAT_BLANK t = 1) ∧
      (∀ d, s.lcd.dueAt = some d → max d s.lcd.swapAt + 5000000 ≤ s.now →
        rd R.LCD_LSTAT_BLANK t = 1 ∧ rd R.LCD_LSTAT_CAUSE t = 3) ∧
      (curCrc s = rd R.LCD_VERCRC_VER s → s.lcd.dueAt = none → rd R.LCD_LSTAT_BLANK t = rd R.LCD_LSTAT_BLANK s)) ∧
  (∀ (c : Fin 16) (v : W32) (s : State), LsFree c s → v.toNat % 8 = 1 → lsState c s ≠ 3 →
    Yields (.lsOn c v) s fun t => rd R.PWR_HSTAT_LAST t = 0 ∧ rd (R.LSW_LSCTL_ON c) t = 1 ∧
      (lsState c s = 0 → (getLs c s).testing = false → lsState c t = 1 ∧ rd (R.LSW_LSSTAT_EXT c) t = 0)) ∧
  (∀ (c : Fin 16) (v : W32) (s : State), hostGate true (0x1F000004 + c.val * 0x100) s = none → v.toNat % 8 = 0 → lsIsOn c s = true →
    Yields (.lsOn c v) s fun t => rd R.PWR_HSTAT_LAST t = 0 ∧ rd (R.LSW_LSCTL_ON c) t = 0 ∧ lsState c t = 0) ∧
  (∀ (c : Fin 16) (v : W32) (s : State), LsFree c s → v.getLsbD 1 = true →
    Yields (.lsClear c v) s fun t => rd R.PWR_HSTAT_LAST t = 0 ∧ rd (R.LSW_LSCTL_ON c) t = 0 ∧ lsState c t = 0 ∧
      (getLs c t).due = false) ∧
  (∀ (c : Fin 16) (v : W32) (s : State), LsFree c s → v.toNat % 8 = 4 → lsState c s ≠ 3 → flag (R.LSW_LSCTL_ON c) s = false →
    lsTestBarred c s = false →
    Yields (.lsTest c v) s fun t => rd R.PWR_HSTAT_LAST t = 0 ∧ (getLs c t).testing = true ∧ rd (R.LSW_LSTEST_DONE c) t = 0) ∧
  (∀ (c : Fin 16) (o g v r : Bool) (s : State), (getLs c s).testing = true →
    Yields (.lsTestEnd c o g v r) s fun t => (getLs c t).testing = false ∧ rd (R.LSW_LSTEST_DONE c) t = 1 ∧
      rd (R.LSW_LSTEST_PASS c) t = (if o = false ∧ g = false ∧ v = false ∧ r = true then 1 else 0) ∧
      rd (R.LSW_LSTEST_OPEN c) t = o.toNat ∧ rd (R.LSW_LSTEST_SGND c) t = g.toNat ∧ rd (R.LSW_LSTEST_SVLS c) t = v.toNat ∧
      (flag (R.LSW_LSCTL_ON c) s = true → lsState c s = 0 → lsState c t = 1)) ∧
  (∀ (c : Fin 16) (i : BitVec 14) (s : State), lsIsOn c s = true →
    Yields (.lsShortCircuit c i) s fun t => Latched c 1 t ∧ rd (R.LSW_LSMEAS_I c) t = i.toNat ∧
      rd (R.LSW_LSCNT_SC c) t = satInc (R.LSW_LSCNT_SC c).wid (rd (R.LSW_LSCNT_SC c) s) ∧
      ((getLs c t).due = true ↔ (lsRetries c s).length < rd (R.LSW_LSCFG_RETRY c) s)) ∧
  (∀ (c : Fin 16) (i : BitVec 14) (s : State),
    ((getLs c s).testing = false → lsState c s = 2 → 250 * (rd (R.LSW_LSCFG_OCTHR c) s + 1) < i.toNat →
      Yields (.lsOvercurrent c i) s (Latched c 2)) ∧
    ((getLs c s).testing = false → lsState c s = 1 →
      Yields (.lsOvercurrent c i) s fun t => lsState c t = 1 ∧ t.lsw = s.lsw) ∧
    ((getLs c s).testing = true → lsState c s ≠ 3 → 500 < i.toNat → Yields (.lsOvercurrent c i) s fun t =>
      Latched c 2 t ∧ (getLs c t).testing = false ∧ rd (R.LSW_LSTEST_DONE c) t = 1 ∧
        rd (R.LSW_LSTEST_PASS c) t = rd (R.LSW_LSTEST_PASS c) s)) ∧
  (∀ (c : Fin 16) (temp : Byte) (s : State), 205 ≤ temp.toNat → pdOn 10 s = true → lsState c s ≠ 3 →
    Yields (.lsThermal c temp) s (Latched c 3)) ∧
  (∀ (v : BitVec 16) (s : State), Yields (.lsUndervoltage v) s fun t => rd R.LSW_GVLS_V t = v.toNat ∧
    ∀ c : Fin 16, if lsIsOn c s = true ∧ v.toNat < 8500 then Latched c 7 t else lsState c t = lsState c s) ∧
  (∀ (v : BitVec 16) (s : State), Yields (.vlsDroop v) s fun t =>
    rd R.LSW_GVLS_DROOPS t = satInc R.LSW_GVLS_DROOPS.wid (rd R.LSW_GVLS_DROOPS s) ∧
    ∀ c : Fin 16, lsState c t = lsState c s ∧ (lsState c s = 1 → flag (R.LSW_LSSTAT_EXT c) t = true)) ∧
  (∀ (c : Fin 16) (s : State), lsState c s = 1 →
    Yields (.blankEnd c) s fun t => lsState c t = 2 ∧ t.lsw = s.lsw ∧ t.qs = s.qs) ∧
  (∀ (c : Fin 16) (i : BitVec 14) (s : State), lsState c s = 2 → flag (R.LSW_LSCFG_OLEN c) s = true →
    Yields (.openLoad c i) s fun t => lsState c t = 2 ∧ rd (R.LSW_LSMEAS_I c) t = i.toNat ∧
      (i.toNat < 5 * (rd (R.LSW_LSCFG_OLTHR c) s + 1) → flag (R.LSW_LSSTAT_OL c) t = true) ∧
      (5 * (rd (R.LSW_LSCFG_OLTHR c) s + 1) < i.toNat → flag (R.LSW_LSSTAT_OL c) t = false)) ∧
  (∀ (c : Fin 16) (s : State), lsState c s = 3 → (getLs c s).due = true → flag (R.LSW_LSCTL_ON c) s = true →
    (Cool c s → lsShed s = true → Yields (.lsRetry c) s fun t => (getLs c t).ready = true ∧ lsState c t = 3) ∧
    (Cool c s → lsShed s = false → Yields (.lsRetry c) s fun t => lsState c t = 1 ∧ (getLs c t).due = false ∧
      (getLs c t).retries = s.now :: lsRetries c s) ∧
    (¬ Cool c s → exec (.lsRetry c) s = .next s)) ∧
  (∀ (i : BitVec 16) (p : BitVec 12) (s : State), 2400 < i.toNat ∨ 4000 < p.toNat →
    Yields (.groupShed i p) s fun t => lsShed t = true ∧ rd R.LSW_GSTAT_ISUM t = i.toNat ∧ rd R.LSW_GSTAT_PDISS t = p.toNat ∧
      ∀ c : Fin 16, lsIsOn c s = true → (∀ d : Fin 16, c < d → lsIsOn d s = true → lsComfort d s = false ∧ lsComfort c s = true) →
        (lsComfort c s = false → ∀ d : Fin 16, lsIsOn d s = true → lsComfort d s = false) → Latched c 4 t) ∧
  (∀ (i : BitVec 16) (p : BitVec 12) (s : State), i.toNat ≤ 2400 → p.toNat ≤ 4000 → lsShed s = true →
    Yields (.groupShed i p) s fun t => lsShed t = false ∧
      ∀ c : Fin 16, (getLs c s).ready = true → (getLs c s).due = true → flag (R.LSW_LSCTL_ON c) s = true → lsState c s = 3 →
        lsState c t = if Cool c s then 1 else 3)

/-- R21, R34 to R37, R143, R422, R483 to R512: domains and core modes change under their conditions; a power-fail
warning, an over-temperature and the resets act at once; a start leads into the wipe; the host port reads and writes.
Model's choices in it: log entries 9, 55, 56, 58, 59, 60, 61, 62 and 109. -/
def Obligations.PowerResetsAndHostPortAct : Prop :=
  (∀ (n : Fin 8) (d : Nat) (s : State), Served n s → isScrapped s = false → 2 ≤ d → d ≤ 10 →
    (rd R.PWR_PDSTAT_SFLT s).testBit d = false → s.pwr.doms = [] → warned s = false →
    (pdOn d s = false → Yields (.pwrDomain n 0 (w24 (d + 16))) s fun t => t.pwr.doms = [(d, true, n.val, 0)] ∧ pdOn d t = false) ∧
    (pdOn d s = true → mayOff d s = true → Yields (.pwrDomain n 0 (w24 d)) s fun t => pdOn d t = false ∧
      (d = 9 → Answered n 0x0F 0 0 stOK s t)) ∧
    (pdOn d s = true → Yields (.pwrDomain n 0 (w24 (d + 16))) s fun t => t.pwr = s.pwr ∧ Answered n 0x0F 0 0 stOK s t)) ∧
  (∀ (n : Fin 8) (d : Fin 12) (s : State), s.pwr.doms = [(d.val, true, n.val, 0)] →
    Yields (.domainPowerUp d) s fun t => pdOn d t = true ∧ t.pwr.doms = [] ∧ (∀ k, k ≠ d.val → k < 12 → pdOn k t = pdOn k s) ∧
      Completed n 0x0F 0 0 stOK s t) ∧
  (∀ (d : Fin 12) (f : Bool) (s : State), Yields (.domainSupplyFault d f) s fun t =>
    (rd R.PWR_PDSTAT_SFLT t).testBit d = f ∧ rd R.PWR_PDSTAT_ON t = rd R.PWR_PDSTAT_ON s) ∧
  (∀ (n : Fin 8) (m : Nat) (s : State), Served n s → isScrapped s = false → m < 3 → m ≠ rd R.PWR_CORE_MODE s →
    s.pwr.core = none → flag R.PWR_CORE_CHG s = false → warned s = false →
    (m < rd R.PWR_CORE_MODE s → overLimits m s = false) →
    Yields (.pwrCore n 0 (w24 m)) s fun t => rd R.PWR_CORE_TARGET t = m ∧ rd R.PWR_CORE_VSEL t = [1, 2, 4].getD m 0 ∧
      rd R.PWR_CORE_CHG t = 1 ∧ rd R.PWR_CORE_MODE t = rd R.PWR_CORE_MODE s ∧ t.pwr.core = some (n.val, 0)) ∧
  (∀ (n : Fin 8) (s : State), flag R.PWR_CORE_CHG s = true → te0Up s = true → s.pwr.core = some (n.val, 0) →
    Yields .vcokConfirm s (fun t => rd R.PWR_CORE_MODE t = rd R.PWR_CORE_TARGET s % 4 ∧ rd R.PWR_CORE_CHG t = 0 ∧
      rd R.PWR_CORE_VCOK t = 1 ∧ t.pwr.core = none ∧ Completed n 0x3F 0 0 stOK s t) ∧
    Yields .coreChangeTimeout s (fun t => rd R.PWR_CORE_MODE t = rd R.PWR_CORE_MODE s ∧
      rd R.PWR_CORE_TARGET t = rd R.PWR_CORE_MODE s % 4 ∧ rd R.PWR_CORE_CHG t = 0 ∧ t.pwr.core = none ∧
      Completed n 0x3F 0 0 stFAULT s t)) ∧
  (∀ s : State, flag R.PWR_CORE_CHG s = true → te0Up s = false →
    Yields .vcokConfirm s (fun t => rd R.PWR_CORE_MODE t = rd R.PWR_CORE_TARGET s % 4 ∧ rd R.PWR_CORE_CHG t = 0 ∧
      t.pwr = s.pwr ∧ t.qs = s.qs) ∧
    Yields .coreChangeTimeout s (fun t => rd R.PWR_CORE_MODE t = rd R.PWR_CORE_MODE s ∧ rd R.PWR_CORE_CHG t = 0 ∧
      t.pwr = s.pwr)) ∧
  (∀ s : State, flag R.PWR_CORE_CHG s = false → s.pwr.down = false →
    Yields .vcokLost s fun t => rd R.PWR_CORE_VCOK t = 0 ∧ rd R.PWR_CORE_MODE t = rd R.PWR_CORE_MODE s) ∧
  (∀ (pin vsys : Bool) (s : State), s.pwr.down = false → s.pwr.stuck = false → warned s = false → pin = true ∨ vsys = true →
    Yields (.powerFailWarning pin vsys) s fun t => rd R.PWR_PFWST_WARN t = 1 ∧ rd R.PWR_PFWST_SRCPIN t = pin.toNat ∧
      rd R.PWR_PFWST_SRCVSYS t = vsys.toNat ∧ rd R.PWR_PFWSEC_S t = clkSec s % 2 ^ 32 ∧
      rd R.PWR_PFWST_PFCNT t = satInc R.PWR_PFWST_PFCNT.wid (rd R.PWR_PFWST_PFCNT s) ∧ t.pwr.pfLatch = true ∧
      t.net.ebyp = false ∧ rd R.TAG_TSTAT_TXOFF t = 1 ∧ rd R.TAG_TSTAT_FIELD t = 0 ∧
      (∀ o : Fin 8, rd (R.PLM_STAT_TXOFF o) t = 1) ∧ flag R.BAR_FREEZE_FRZ t = false ∧
      (pdOn 10 s = true → ∀ c : Fin 16, lsState c t = 3)) ∧
  (∀ s : State, Yields .powerOnReset s fun t => HeldDown 0 t ∧ Kept s t ∧ rd R.FLT_IDX_N t = 0) ∧
  (∀ s : State, Yields .pinReset s fun t => HeldDown 1 t ∧ Kept s t ∧ rd R.FLT_IDX_N t = 0) ∧
  (∀ s : State, s.pwr.down = false → s.pwr.stuck = false →
    (warned s = true → Yields .brownOutRestart s fun t => HeldDown 2 t ∧ Kept s t ∧ rd R.FLT_IDX_N t = rd R.FLT_IDX_N s ∧
      ∀ o : Fin 8, rd (R.OUT_SESS_COUNT o) t = rd (R.OUT_SESS_COUNT o) s) ∧
    Yields .overTemperatureReset s fun t => HeldDown 4 t ∧ Kept s t ∧ rd R.FLT_IDX_N t = rd R.FLT_IDX_N s ∧
      (∀ o : Fin 8, rd (R.OUT_SESS_COUNT o) t = rd (R.OUT_SESS_COUNT o) s) ∧ t.pwr.held = true) ∧
  (∀ (hi : Bool) (c a p : Byte) (s : State), s.pwr.down = true →
    Yields (if hi then .junctionAbove135 c a p else .junctionAbove125 c a p) s fun t =>
      t.pwr.held = (s.pwr.held && decide (180 ≤ max c.toNat (max a.toNat p.toNat))) ∧ t.pwr.down = true ∧ t.regs = s.regs) ∧
  (∀ (p : Fin 8) (s : State), s.pwr.held = true → exec (.start p) s = .next s) ∧
  (∀ (p : Fin 8) (s : State), s.pwr.down = true → s.pwr.held = false →
    Yields (.start p) s fun t => t.pwr.down = false ∧ t.pwr.wipe = some .full ∧ rd R.PWR_RSTCAUSE_CAUSE t = s.pwr.cause % 16 ∧
      rd R.PWR_PDSTAT_ON t = 0xFFF ∧ rd R.SWD_SSTAT_POS t = p ∧ (∀ e : Eid, engState e t = 1) ∧
      t.clock = (s.net.bkNs + (s.now - s.net.bkAt) * 1000) * 2 ^ 40 % (2 ^ 48 * 1000000000 * 2 ^ 40)) ∧
  (∀ (hi : Bool) (c a p : Byte) (s : State), s.pwr.down = false →
    Yields (if hi then .junctionAbove135 c a p else .junctionAbove125 c a p) s fun t =>
      rd R.PWR_TEMP_CDIE t = c.toNat ∧ rd R.PWR_TEMP_ADIE t = a.toNat ∧ rd R.PWR_TEMP_PDIE t = p.toNat ∧
      (165 < max c.toNat (max a.toNat p.toNat) → pdOn 10 s = true →
        ∀ k : Fin 16, lsComfort k s = true → lsState k t = 3) ∧
      (175 < max c.toNat (max a.toNat p.toNat) → rd R.TAG_TSTAT_TXOFF t = 1 ∧ (∀ o : Fin 8, rd (R.PLM_STAT_TXOFF o) t = 1) ∧
        t.pwr.hot = true) ∧
      (max c.toNat (max a.toNat p.toNat) ≤ 165 → t.lsw = s.lsw)) ∧
  (∀ (a : W32) (n : Nat) (s : State), Yields (.read a n false) s fun t =>
    t.pwr.out = List.replicate n 0 ∧ rd R.PWR_HSTAT_LAST t = stBUDGET ∧ t.qs = s.qs ∧ t.mram = s.mram) ∧
  (∀ (off n : Nat) (s : State), PortOpen s → HostData off n →
    Yields (.read (BitVec.ofNat 32 (0x40000000 + off)) n true) s fun t => rd R.PWR_HSTAT_LAST t = 0 ∧ t.mram = s.mram ∧
      t.pwr.out = (List.range n).map fun i => BitVec.ofNat 32 (leNat (mramRdN s (off + 4 * i) 4))) ∧
  (∀ (off : Nat) (ws : List W32) (s : State), PortOpen s → HostData off ws.length →
    Yields (.write (BitVec.ofNat 32 (0x40000000 + off)) ws) s fun t => rd R.PWR_HSTAT_LAST t = 0 ∧
      mramRdN t off (4 * ws.length) = ws.flatMap (fun w => leBytes 4 w.toNat) ∧
      ∀ x, x < off ∨ off + 4 * ws.length ≤ x → mramRd t x = mramRd s x) ∧
  (∀ (off : BitVec 25) (v : W32) (s : State), PortOpen s →
    (mramWritable off.toNat = true → mramWritable (off.toNat + 3) = true → Yields (.mramWindowWrite off v) s fun t =>
      rd R.PWR_HSTAT_LAST t = 0 ∧ t.mram = SMap.putN 0 s.mram off.toNat (leBytes 4 v.toNat)) ∧
    (mramWritable off.toNat = false → Yields (.mramWindowWrite off v) s fun t =>
      rd R.PWR_HSTAT_LAST t = stDENIED ∧ t.mram = s.mram)) ∧
  (∀ (a v : W32) (s : State), exec (.write a [v]) s = exec (.registerWrite a v) s) ∧
  (∀ (v : W32) (s : State), hostGate true 0x1E000004 s = none →
    Yields (.registerWrite 0x1E000004 v) s fun t => rd R.PWR_HSTAT_LAST t = 0 ∧ rd R.LCD_LSEL_MASK t = bits v.toNat 7 0 ∧
      rd R.LCD_LSEL_EXPEN t = bits v.toNat 15 8 ∧ t.qs = s.qs ∧ t.mram = s.mram) ∧
  (∀ (v : W32) (s : State), hostGate true 0x1E000000 s = none → locked s = true → v.toNat % 2 ≠ rd R.LCD_LCFG_EN s →
    Yields (.registerWrite 0x1E000000 v) s fun t => rd R.PWR_HSTAT_LAST t = stSEALED ∧ rd R.LCD_LCFG_EN t = rd R.LCD_LCFG_EN s ∧
      rd R.LCD_LCFG_DWELL t = rd R.LCD_LCFG_DWELL s) ∧
  (∀ s : State, Yields .status s fun t => t.pwr.out = [BitVec.ofNat 32 (rd R.PWR_HSTAT_LAST s + b2n (hirq s) * 2 ^ 8)] ∧
    rd R.PWR_HSTAT_LAST t = 0 ∧ t.qs = s.qs) ∧
  (∀ s : State, Yields .portReset s fun t => rd R.PWR_HCFG_WIDTH t = 0 ∧ rd R.PWR_HCFG_DUMMY t = 8 ∧ rd R.PWR_HCFG_IRQEN t = 0 ∧
    ∀ q : Qid, if hostConsumes q s = true then (getQ q t).ent = (getQ q s).dlv ++ (getQ q s).ent ∧ (getQ q t).dlv = []
      else getQ q t = getQ q s) ∧
  (∀ (cmd : Byte) (s : State), cmd ≠ 0x0B → cmd ≠ 0x02 → cmd ≠ 0x05 → cmd ≠ 0x99 →
    Yields (.hostPortOtherCommand cmd) s fun t => rd R.PWR_HSTAT_LAST t = stDENIED ∧ t.qs = s.qs ∧ t.mram = s.mram)

/-- R12, R97, R347, R445, R488, R490, R512: right after reset every register field reads the reset value of its register
table, of which some are written out; the queues are empty, nothing is logged, the clock has not been stepped, every
engine is UNLOADED and every outlet out of service; the MRAM list is in canonical form. Model's choices in it: log
entry 65. -/
def Obligations.ResetLeavesStatedValues : Prop :=
  (∀ f : Fld, rd f State.reset = f.rst) ∧
  [R.PWR_WDT_TOUT, R.PWR_HCFG_DUMMY, R.PWR_CORE_MODE, R.PTP_CLKCFG_SELMODE, R.PTP_CLKCFG_RATEMAX, R.PTP_CLKCFG_HOLDTIME,
    R.PTP_VALIDLIM_NS, R.PTP_SWLIM_NS, R.SWD_SSTAT_BYPASS, R.SWD_SCFG_LOSST, R.TAG_TCFG_IDRV, R.TAG_TCFG_MAXRATE,
    R.LCD_LSEL_MASK, R.LCD_LCFG_FRATE, R.LIFE_TCFG_COVEREN, R.BAR_FREEZE_FRZMAX].map (fun f => rd f State.reset) =
    [0x32, 8, 1, 2, 0x64, 0x3C, 0x3E8, 0xF4240, 1, 0x32, 0xF, 3, 0xFF, 0x40, 1, 0xA] ∧
  (∀ q : Qid, (getQ q State.reset).ent = [] ∧ (getQ q State.reset).dlv = [] ∧ (getQ q State.reset).en = false) ∧
  State.reset.pending = [] ∧ State.reset.bar.legal = [] ∧ State.reset.bar.general = [] ∧ clkStatus State.reset = 0 ∧
  flag R.PTP_CLKSTAT_STEPPED State.reset = false ∧ (∀ e : Eid, engState e State.reset = 0) ∧
  (∀ o : Fin 8, ostate o State.reset = 0) ∧ State.reset.pwr.down = true ∧ memoryWf State.reset = true

/-- The block never stops, and the MRAM list keeps its canonical form: from every state in which the list is canonical,
whatever command is in front, the step answers a next state in which it is canonical again. Model's choices in it: log
entries 1 and 7. -/
def Obligations.EveryStepAnswersAndKeepsMemoryCanonical : Prop :=
  ∀ s : State, memoryWf s = true → ∃ t, step s = .next t ∧ memoryWf t = true
end

