-- ==== Sys2Proof/Laws/Store.lean ====
section
/-!
SUPPORT. The laws of the sparse maps: read after write, and the canonical form that every write keeps.
-/
namespace Sys2Proof.Machine

variable {α : Type}

theorem SMap.get_drop_same (d : α) (m : SMap α) (a : Nat) : SMap.get d (SMap.drop m a) a = d := by
  induction m with
  | nil => rfl
  | cons e m ih =>
    by_cases h : e.1 = a
    · simpa [SMap.drop, h] using ih
    · simp only [SMap.drop, List.filter_cons, h, ne_eq, not_false_eq_true, decide_true, if_true, SMap.get, if_neg (Ne.symm h)]
      exact ih

theorem SMap.get_drop_ne (d : α) (m : SMap α) {a b : Nat} (h : b ≠ a) :
    SMap.get d (SMap.drop m a) b = SMap.get d m b := by
  induction m with
  | nil => rfl
  | cons e m ih =>
    by_cases h1 : e.1 = a
    · have hb : ¬b = e.1 := by rw [h1]; exact h
      simp only [SMap.drop, List.filter_cons, h1, ne_eq, not_true_eq_false, decide_false, SMap.get] at ih ⊢
      simp only [Bool.false_eq_true, if_false, if_neg h]
      exact ih
    · simp only [SMap.drop, List.filter_cons, h1, ne_eq, not_false_eq_true, decide_true, if_true, SMap.get] at ih ⊢
      rw [ih]

theorem SMap.get_ins_same (d : α) (m : SMap α) (a : Nat) (v : α) (h : ∀ e ∈ m, e.1 ≠ a) :
    SMap.get d (SMap.ins m a v) a = v := by
  induction m with
  | nil => simp [SMap.ins, SMap.get]
  | cons e m ih =>
    have he : ¬a = e.1 := fun x => h e (by simp) x.symm
    simp only [SMap.ins]
    split
    · simp [SMap.get]
    · rw [SMap.get, if_neg he]
      exact ih fun e' h' => h e' (by simp [h'])

theorem SMap.get_ins_ne (d : α) (m : SMap α) {a b : Nat} (v : α) (h : b ≠ a) :
    SMap.get d (SMap.ins m a v) b = SMap.get d m b := by
  induction m with
  | nil => simp [SMap.ins, SMap.get, h]
  | cons e m ih =>
    simp only [SMap.ins]
    split
    · simp [SMap.get, h]
    · rw [SMap.get, SMap.get, ih]

theorem SMap.not_mem_drop (m : SMap α) (a : Nat) : ∀ e ∈ SMap.drop m a, e.1 ≠ a := by
  intro e he
  simpa [SMap.drop] using (List.mem_filter.1 he).2

/-- A read after a write to the same key gives the value written. -/
@[simp] theorem SMap.get_put_same [DecidableEq α] (d : α) (m : SMap α) (a : Nat) (v : α) : SMap.get d (SMap.put d m a v) a = v := by
  unfold SMap.put
  split
  · rename_i h; rw [SMap.get_drop_same, h]
  · exact SMap.get_ins_same d _ a v (SMap.not_mem_drop m a)

/-- A write leaves every other key alone. -/
theorem SMap.get_put_ne [DecidableEq α] (d d' : α) (m : SMap α) {a b : Nat} (v : α) (h : b ≠ a) :
    SMap.get d (SMap.put d' m a v) b = SMap.get d m b := by
  unfold SMap.put
  split
  · exact SMap.get_drop_ne d m h
  · rw [SMap.get_ins_ne d _ v h, SMap.get_drop_ne d m h]

/-! ### The canonical form -/

theorem SMap.rising_cons {e : Nat × α} {m : SMap α} :
    SMap.rising (e :: m) = true ↔ (∀ x ∈ m, e.1 < x.1) ∧ SMap.rising m = true := by
  simp [SMap.rising]

theorem SMap.rising_filter (p : Nat × α → Bool) {m : SMap α} (h : SMap.rising m = true) :
    SMap.rising (m.filter p) = true := by
  induction m with
  | nil => rfl
  | cons e m ih =>
    obtain ⟨h1, h2⟩ := SMap.rising_cons.1 h
    rw [List.filter_cons]
    split
    · exact SMap.rising_cons.2 ⟨fun x hx => h1 x (List.mem_filter.1 hx).1, ih h2⟩
    · exact ih h2

theorem SMap.mem_ins {m : SMap α} {a : Nat} {v : α} {x : Nat × α} (h : x ∈ SMap.ins m a v) : x = (a, v) ∨ x ∈ m := by
  induction m with
  | nil => simpa [SMap.ins] using h
  | cons e m ih =>
    simp only [SMap.ins] at h
    split at h
    · simpa using h
    · rcases List.mem_cons.1 h with h | h
      · exact .inr (by simp [h])
      · rcases ih h with h | h
        · exact .inl h
        · exact .inr (by simp [h])

theorem SMap.rising_ins {m : SMap α} {a : Nat} {v : α} (h : SMap.rising m = true) (hn : ∀ e ∈ m, e.1 ≠ a) :
    SMap.rising (SMap.ins m a v) = true := by
  induction m with
  | nil => rfl
  | cons e m ih =>
    obtain ⟨h1, h2⟩ := SMap.rising_cons.1 h
    simp only [SMap.ins]
    split
    · rename_i hlt
      refine SMap.rising_cons.2 ⟨fun x hx => ?_, h⟩
      rcases List.mem_cons.1 hx with hx | hx
      · rw [hx]; exact hlt
      · exact lt_trans hlt (h1 x hx)
    · rename_i hge
      have hne : e.1 ≠ a := hn e (by simp)
      refine SMap.rising_cons.2 ⟨fun x hx => ?_, ih h2 fun e' h' => hn e' (by simp [h'])⟩
      rcases SMap.mem_ins hx with hx | hx
      · rw [hx]; show e.1 < a; omega
      · exact h1 x hx

theorem SMap.wf_iff [DecidableEq α] {d : α} {m : SMap α} :
    SMap.wf d m = true ↔ SMap.rising m = true ∧ ∀ e ∈ m, e.2 ≠ d := by
  simp [SMap.wf]

theorem SMap.wf_nil [DecidableEq α] (d : α) : SMap.wf d ([] : SMap α) = true := rfl

theorem SMap.wf_filter [DecidableEq α] (d : α) (p : Nat × α → Bool) {m : SMap α} (h : SMap.wf d m = true) :
    SMap.wf d (m.filter p) = true := by
  rw [SMap.wf_iff] at h ⊢
  exact ⟨SMap.rising_filter p h.1, fun e he => h.2 e (List.mem_filter.1 he).1⟩

/-- One write keeps the canonical form. -/
theorem SMap.wf_put [DecidableEq α] {d : α} {m : SMap α} (a : Nat) (v : α) (h : SMap.wf d m = true) :
    SMap.wf d (SMap.put d m a v) = true := by
  unfold SMap.put
  have hd : SMap.wf d (SMap.drop m a) = true := SMap.wf_filter d _ h
  split
  · exact hd
  · rename_i hv
    rw [SMap.wf_iff] at hd ⊢
    refine ⟨SMap.rising_ins hd.1 (SMap.not_mem_drop m a), fun e he => ?_⟩
    rcases SMap.mem_ins he with he | he
    · rw [he]; exact hv
    · exact hd.2 e he

theorem SMap.cells_wf [DecidableEq α] (d : α) (vs : List α) : ∀ a : Nat, SMap.wf d (SMap.cells d a vs) = true ∧
    ∀ e ∈ SMap.cells d a vs, a ≤ e.1 ∧ e.1 < a + vs.length := by
  induction vs with
  | nil => intro a; exact ⟨rfl, by simp [SMap.cells]⟩
  | cons v vs ih =>
    intro a
    obtain ⟨hw, hb⟩ := ih (a + 1)
    simp only [SMap.cells]
    split
    · refine ⟨hw, fun e he => ?_⟩
      have := hb e he
      simp only [List.length_cons]; omega
    · rename_i hv
      rw [SMap.wf_iff] at hw
      refine ⟨SMap.wf_iff.2 ⟨SMap.rising_cons.2 ⟨fun x hx => ?_, hw.1⟩, fun e he => ?_⟩, fun e he => ?_⟩
      · have := hb x hx; show a < x.1; omega
      · rcases List.mem_cons.1 he with he | he
        · rw [he]; exact hv
        · exact hw.2 e he
      · rcases List.mem_cons.1 he with he | he
        · rw [he]; simp
        · have := hb e he
          simp only [List.length_cons]; omega

theorem SMap.rising_append {m n : SMap α} (hm : SMap.rising m = true) (hn : SMap.rising n = true)
    (h : ∀ x ∈ m, ∀ y ∈ n, x.1 < y.1) : SMap.rising (m ++ n) = true := by
  induction m with
  | nil => exact hn
  | cons e m ih =>
    obtain ⟨h1, h2⟩ := SMap.rising_cons.1 hm
    refine SMap.rising_cons.2 ⟨fun x hx => ?_, ih h2 fun x hx => h x (by simp [hx])⟩
    rcases List.mem_append.1 hx with hx | hx
    · exact h1 x hx
    · exact h e (by simp) x hx

/-- A write of a run of cells keeps the canonical form. -/
theorem SMap.wf_putN [DecidableEq α] {d : α} {m : SMap α} (a : Nat) (vs : List α) (h : SMap.wf d m = true) :
    SMap.wf d (SMap.putN d m a vs) = true := by
  have h1 := SMap.wf_filter d (fun e => decide (e.1 < a)) h
  have h3 := SMap.wf_filter d (fun e => decide (a + vs.length ≤ e.1)) h
  obtain ⟨h2, hb⟩ := SMap.cells_wf d vs a
  rw [SMap.wf_iff] at h1 h2 h3 ⊢
  have lo : ∀ x ∈ m.filter (fun e => decide (e.1 < a)), x.1 < a := fun x hx => by simpa using (List.mem_filter.1 hx).2
  have hi : ∀ y ∈ m.filter (fun e => decide (a + vs.length ≤ e.1)), a + vs.length ≤ y.1 := fun y hy => by
    simpa using (List.mem_filter.1 hy).2
  have inner : SMap.rising (m.filter (fun e => decide (e.1 < a)) ++ SMap.cells d a vs) = true :=
    SMap.rising_append h1.1 h2.1 fun x hx y hy => lt_of_lt_of_le (lo x hx) (hb y hy).1
  refine ⟨SMap.rising_append inner h3.1 fun x hx y hy => ?_, fun e he => ?_⟩
  · have := hi y hy
    rcases List.mem_append.1 hx with hx | hx
    · have := lo x hx; omega
    · have := (hb x hx).2; omega
  · rcases List.mem_append.1 he with he | he
    · rcases List.mem_append.1 he with he | he
      · exact h1.2 e he
      · exact h2.2 e he
    · exact h3.2 e he

/-- Clearing a range keeps the canonical form. -/
theorem SMap.wf_clearRange [DecidableEq α] {d : α} {m : SMap α} (a n : Nat) (h : SMap.wf d m = true) :
    SMap.wf d (SMap.clearRange m a n) = true := SMap.wf_filter d _ h

theorem SMap.get_filter (d : α) (m : SMap α) (p : Nat → Bool) (b : Nat) :
    SMap.get d (m.filter fun e => p e.1) b = if p b then SMap.get d m b else d := by
  induction m with
  | nil => simp [SMap.get]
  | cons e m ih =>
    rw [List.filter_cons]
    by_cases hb : b = e.1
    · subst hb
      by_cases hp : p e.1 = true
      · simp [SMap.get, hp]
      · simp only [hp] at ih ⊢
        simpa using ih
    · by_cases hp : p e.1 = true
      · simp only [hp, if_true, SMap.get, if_neg hb, ih]
      · simp only [hp, SMap.get, if_neg hb]
        exact ih

/-- A cleared range reads as the default. -/
theorem SMap.get_clearRange (d : α) (m : SMap α) (a n b : Nat) :
    SMap.get d (SMap.clearRange m a n) b = if b < a ∨ a + n ≤ b then SMap.get d m b else d := by
  simp only [SMap.clearRange, SMap.get_filter d m (fun k => decide (k < a ∨ a + n ≤ k)) b, decide_eq_true_eq]

end Sys2Proof.Machine
end

