-- ==== Sys2Proof/Laws/State.lean ====
section
/-!
SUPPORT. One lemma per field of State and per basic update: what the update leaves as it was, and what a read gives
after a write.
-/
namespace Sys2Proof.Machine

/-! ### wr -/

@[simp] theorem wr_pending (f : Fld) (v : Nat) (s : State) : (wr f v s).pending = s.pending := rfl
@[simp] theorem wr_now (f : Fld) (v : Nat) (s : State) : (wr f v s).now = s.now := rfl
@[simp] theorem wr_freeCtr (f : Fld) (v : Nat) (s : State) : (wr f v s).freeCtr = s.freeCtr := rfl
@[simp] theorem wr_mram (f : Fld) (v : Nat) (s : State) : (wr f v s).mram = s.mram := rfl
@[simp] theorem wr_engs (f : Fld) (v : Nat) (s : State) : (wr f v s).engs = s.engs := rfl
@[simp] theorem wr_qs (f : Fld) (v : Nat) (s : State) : (wr f v s).qs = s.qs := rfl
@[simp] theorem wr_spare (f : Fld) (v : Nat) (s : State) : (wr f v s).spare = s.spare := rfl
@[simp] theorem wr_owed (f : Fld) (v : Nat) (s : State) : (wr f v s).owed = s.owed := rfl
@[simp] theorem wr_clock (f : Fld) (v : Nat) (s : State) : (wr f v s).clock = s.clock := rfl
@[simp] theorem wr_bar (f : Fld) (v : Nat) (s : State) : (wr f v s).bar = s.bar := rfl
@[simp] theorem wr_samp (f : Fld) (v : Nat) (s : State) : (wr f v s).samp = s.samp := rfl
@[simp] theorem wr_meters (f : Fld) (v : Nat) (s : State) : (wr f v s).meters = s.meters := rfl
@[simp] theorem wr_supply (f : Fld) (v : Nat) (s : State) : (wr f v s).supply = s.supply := rfl
@[simp] theorem wr_pairs (f : Fld) (v : Nat) (s : State) : (wr f v s).pairs = s.pairs := rfl
@[simp] theorem wr_calAct (f : Fld) (v : Nat) (s : State) : (wr f v s).calAct = s.calAct := rfl
@[simp] theorem wr_calPend (f : Fld) (v : Nat) (s : State) : (wr f v s).calPend = s.calPend := rfl
@[simp] theorem wr_vault (f : Fld) (v : Nat) (s : State) : (wr f v s).vault = s.vault := rfl
@[simp] theorem wr_bill (f : Fld) (v : Nat) (s : State) : (wr f v s).bill = s.bill := rfl
@[simp] theorem wr_upd (f : Fld) (v : Nat) (s : State) : (wr f v s).upd = s.upd := rfl
@[simp] theorem wr_net (f : Fld) (v : Nat) (s : State) : (wr f v s).net = s.net := rfl
@[simp] theorem wr_outs (f : Fld) (v : Nat) (s : State) : (wr f v s).outs = s.outs := rfl
@[simp] theorem wr_fold (f : Fld) (v : Nat) (s : State) : (wr f v s).fold = s.fold := rfl
@[simp] theorem wr_plm (f : Fld) (v : Nat) (s : State) : (wr f v s).plm = s.plm := rfl
@[simp] theorem wr_tag (f : Fld) (v : Nat) (s : State) : (wr f v s).tag = s.tag := rfl
@[simp] theorem wr_pwr (f : Fld) (v : Nat) (s : State) : (wr f v s).pwr = s.pwr := rfl
@[simp] theorem wr_lcd (f : Fld) (v : Nat) (s : State) : (wr f v s).lcd = s.lcd := rfl
@[simp] theorem wr_lsw (f : Fld) (v : Nat) (s : State) : (wr f v s).lsw = s.lsw := rfl
@[simp] theorem getQ_wr (k : Qid) (f : Fld) (v : Nat) (s : State) : getQ k (wr f v s) = getQ k s := rfl
@[simp] theorem getEng_wr (k : Eid) (f : Fld) (v : Nat) (s : State) : getEng k (wr f v s) = getEng k s := rfl

/-! ### setEng -/

@[simp] theorem setEng_pending (e : Eid) (x : Eng) (s : State) : (setEng e x s).pending = s.pending := rfl
@[simp] theorem setEng_now (e : Eid) (x : Eng) (s : State) : (setEng e x s).now = s.now := rfl
@[simp] theorem setEng_freeCtr (e : Eid) (x : Eng) (s : State) : (setEng e x s).freeCtr = s.freeCtr := rfl
@[simp] theorem setEng_regs (e : Eid) (x : Eng) (s : State) : (setEng e x s).regs = s.regs := rfl
@[simp] theorem setEng_mram (e : Eid) (x : Eng) (s : State) : (setEng e x s).mram = s.mram := rfl
@[simp] theorem setEng_qs (e : Eid) (x : Eng) (s : State) : (setEng e x s).qs = s.qs := rfl
@[simp] theorem setEng_spare (e : Eid) (x : Eng) (s : State) : (setEng e x s).spare = s.spare := rfl
@[simp] theorem setEng_owed (e : Eid) (x : Eng) (s : State) : (setEng e x s).owed = s.owed := rfl
@[simp] theorem setEng_clock (e : Eid) (x : Eng) (s : State) : (setEng e x s).clock = s.clock := rfl
@[simp] theorem setEng_bar (e : Eid) (x : Eng) (s : State) : (setEng e x s).bar = s.bar := rfl
@[simp] theorem setEng_samp (e : Eid) (x : Eng) (s : State) : (setEng e x s).samp = s.samp := rfl
@[simp] theorem setEng_meters (e : Eid) (x : Eng) (s : State) : (setEng e x s).meters = s.meters := rfl
@[simp] theorem setEng_supply (e : Eid) (x : Eng) (s : State) : (setEng e x s).supply = s.supply := rfl
@[simp] theorem setEng_pairs (e : Eid) (x : Eng) (s : State) : (setEng e x s).pairs = s.pairs := rfl
@[simp] theorem setEng_calAct (e : Eid) (x : Eng) (s : State) : (setEng e x s).calAct = s.calAct := rfl
@[simp] theorem setEng_calPend (e : Eid) (x : Eng) (s : State) : (setEng e x s).calPend = s.calPend := rfl
@[simp] theorem setEng_vault (e : Eid) (x : Eng) (s : State) : (setEng e x s).vault = s.vault := rfl
@[simp] theorem setEng_bill (e : Eid) (x : Eng) (s : State) : (setEng e x s).bill = s.bill := rfl
@[simp] theorem setEng_upd (e : Eid) (x : Eng) (s : State) : (setEng e x s).upd = s.upd := rfl
@[simp] theorem setEng_net (e : Eid) (x : Eng) (s : State) : (setEng e x s).net = s.net := rfl
@[simp] theorem setEng_outs (e : Eid) (x : Eng) (s : State) : (setEng e x s).outs = s.outs := rfl
@[simp] theorem setEng_fold (e : Eid) (x : Eng) (s : State) : (setEng e x s).fold = s.fold := rfl
@[simp] theorem setEng_plm (e : Eid) (x : Eng) (s : State) : (setEng e x s).plm = s.plm := rfl
@[simp] theorem setEng_tag (e : Eid) (x : Eng) (s : State) : (setEng e x s).tag = s.tag := rfl
@[simp] theorem setEng_pwr (e : Eid) (x : Eng) (s : State) : (setEng e x s).pwr = s.pwr := rfl
@[simp] theorem setEng_lcd (e : Eid) (x : Eng) (s : State) : (setEng e x s).lcd = s.lcd := rfl
@[simp] theorem setEng_lsw (e : Eid) (x : Eng) (s : State) : (setEng e x s).lsw = s.lsw := rfl
@[simp] theorem rd_setEng (g : Fld) (e : Eid) (x : Eng) (s : State) : rd g (setEng e x s) = rd g s := rfl
@[simp] theorem getQ_setEng (k : Qid) (e : Eid) (x : Eng) (s : State) : getQ k (setEng e x s) = getQ k s := rfl

/-! ### modEng -/

@[simp] theorem modEng_pending (e : Eid) (f : Eng → Eng) (s : State) : (modEng e f s).pending = s.pending := rfl
@[simp] theorem modEng_now (e : Eid) (f : Eng → Eng) (s : State) : (modEng e f s).now = s.now := rfl
@[simp] theorem modEng_freeCtr (e : Eid) (f : Eng → Eng) (s : State) : (modEng e f s).freeCtr = s.freeCtr := rfl
@[simp] theorem modEng_regs (e : Eid) (f : Eng → Eng) (s : State) : (modEng e f s).regs = s.regs := rfl
@[simp] theorem modEng_mram (e : Eid) (f : Eng → Eng) (s : State) : (modEng e f s).mram = s.mram := rfl
@[simp] theorem modEng_qs (e : Eid) (f : Eng → Eng) (s : State) : (modEng e f s).qs = s.qs := rfl
@[simp] theorem modEng_spare (e : Eid) (f : Eng → Eng) (s : State) : (modEng e f s).spare = s.spare := rfl
@[simp] theorem modEng_owed (e : Eid) (f : Eng → Eng) (s : State) : (modEng e f s).owed = s.owed := rfl
@[simp] theorem modEng_clock (e : Eid) (f : Eng → Eng) (s : State) : (modEng e f s).clock = s.clock := rfl
@[simp] theorem modEng_bar (e : Eid) (f : Eng → Eng) (s : State) : (modEng e f s).bar = s.bar := rfl
@[simp] theorem modEng_samp (e : Eid) (f : Eng → Eng) (s : State) : (modEng e f s).samp = s.samp := rfl
@[simp] theorem modEng_meters (e : Eid) (f : Eng → Eng) (s : State) : (modEng e f s).meters = s.meters := rfl
@[simp] theorem modEng_supply (e : Eid) (f : Eng → Eng) (s : State) : (modEng e f s).supply = s.supply := rfl
@[simp] theorem modEng_pairs (e : Eid) (f : Eng → Eng) (s : State) : (modEng e f s).pairs = s.pairs := rfl
@[simp] theorem modEng_calAct (e : Eid) (f : Eng → Eng) (s : State) : (modEng e f s).calAct = s.calAct := rfl
@[simp] theorem modEng_calPend (e : Eid) (f : Eng → Eng) (s : State) : (modEng e f s).calPend = s.calPend := rfl
@[simp] theorem modEng_vault (e : Eid) (f : Eng → Eng) (s : State) : (modEng e f s).vault = s.vault := rfl
@[simp] theorem modEng_bill (e : Eid) (f : Eng → Eng) (s : State) : (modEng e f s).bill = s.bill := rfl
@[simp] theorem modEng_upd (e : Eid) (f : Eng → Eng) (s : State) : (modEng e f s).upd = s.upd := rfl
@[simp] theorem modEng_net (e : Eid) (f : Eng → Eng) (s : State) : (modEng e f s).net = s.net := rfl
@[simp] theorem modEng_outs (e : Eid) (f : Eng → Eng) (s : State) : (modEng e f s).outs = s.outs := rfl
@[simp] theorem modEng_fold (e : Eid) (f : Eng → Eng) (s : State) : (modEng e f s).fold = s.fold := rfl
@[simp] theorem modEng_plm (e : Eid) (f : Eng → Eng) (s : State) : (modEng e f s).plm = s.plm := rfl
@[simp] theorem modEng_tag (e : Eid) (f : Eng → Eng) (s : State) : (modEng e f s).tag = s.tag := rfl
@[simp] theorem modEng_pwr (e : Eid) (f : Eng → Eng) (s : State) : (modEng e f s).pwr = s.pwr := rfl
@[simp] theorem modEng_lcd (e : Eid) (f : Eng → Eng) (s : State) : (modEng e f s).lcd = s.lcd := rfl
@[simp] theorem modEng_lsw (e : Eid) (f : Eng → Eng) (s : State) : (modEng e f s).lsw = s.lsw := rfl
@[simp] theorem rd_modEng (g : Fld) (e : Eid) (f : Eng → Eng) (s : State) : rd g (modEng e f s) = rd g s := rfl
@[simp] theorem getQ_modEng (k : Qid) (e : Eid) (f : Eng → Eng) (s : State) : getQ k (modEng e f s) = getQ k s := rfl

/-! ### setQ -/

@[simp] theorem setQ_pending (q : Qid) (x : Queue) (s : State) : (setQ q x s).pending = s.pending := rfl
@[simp] theorem setQ_now (q : Qid) (x : Queue) (s : State) : (setQ q x s).now = s.now := rfl
@[simp] theorem setQ_freeCtr (q : Qid) (x : Queue) (s : State) : (setQ q x s).freeCtr = s.freeCtr := rfl
@[simp] theorem setQ_regs (q : Qid) (x : Queue) (s : State) : (setQ q x s).regs = s.regs := rfl
@[simp] theorem setQ_mram (q : Qid) (x : Queue) (s : State) : (setQ q x s).mram = s.mram := rfl
@[simp] theorem setQ_engs (q : Qid) (x : Queue) (s : State) : (setQ q x s).engs = s.engs := rfl
@[simp] theorem setQ_spare (q : Qid) (x : Queue) (s : State) : (setQ q x s).spare = s.spare := rfl
@[simp] theorem setQ_owed (q : Qid) (x : Queue) (s : State) : (setQ q x s).owed = s.owed := rfl
@[simp] theorem setQ_clock (q : Qid) (x : Queue) (s : State) : (setQ q x s).clock = s.clock := rfl
@[simp] theorem setQ_bar (q : Qid) (x : Queue) (s : State) : (setQ q x s).bar = s.bar := rfl
@[simp] theorem setQ_samp (q : Qid) (x : Queue) (s : State) : (setQ q x s).samp = s.samp := rfl
@[simp] theorem setQ_meters (q : Qid) (x : Queue) (s : State) : (setQ q x s).meters = s.meters := rfl
@[simp] theorem setQ_supply (q : Qid) (x : Queue) (s : State) : (setQ q x s).supply = s.supply := rfl
@[simp] theorem setQ_pairs (q : Qid) (x : Queue) (s : State) : (setQ q x s).pairs = s.pairs := rfl
@[simp] theorem setQ_calAct (q : Qid) (x : Queue) (s : State) : (setQ q x s).calAct = s.calAct := rfl
@[simp] theorem setQ_calPend (q : Qid) (x : Queue) (s : State) : (setQ q x s).calPend = s.calPend := rfl
@[simp] theorem setQ_vault (q : Qid) (x : Queue) (s : State) : (setQ q x s).vault = s.vault := rfl
@[simp] theorem setQ_bill (q : Qid) (x : Queue) (s : State) : (setQ q x s).bill = s.bill := rfl
@[simp] theorem setQ_upd (q : Qid) (x : Queue) (s : State) : (setQ q x s).upd = s.upd := rfl
@[simp] theorem setQ_net (q : Qid) (x : Queue) (s : State) : (setQ q x s).net = s.net := rfl
@[simp] theorem setQ_outs (q : Qid) (x : Queue) (s : State) : (setQ q x s).outs = s.outs := rfl
@[simp] theorem setQ_fold (q : Qid) (x : Queue) (s : State) : (setQ q x s).fold = s.fold := rfl
@[simp] theorem setQ_plm (q : Qid) (x : Queue) (s : State) : (setQ q x s).plm = s.plm := rfl
@[simp] theorem setQ_tag (q : Qid) (x : Queue) (s : State) : (setQ q x s).tag = s.tag := rfl
@[simp] theorem setQ_pwr (q : Qid) (x : Queue) (s : State) : (setQ q x s).pwr = s.pwr := rfl
@[simp] theorem setQ_lcd (q : Qid) (x : Queue) (s : State) : (setQ q x s).lcd = s.lcd := rfl
@[simp] theorem setQ_lsw (q : Qid) (x : Queue) (s : State) : (setQ q x s).lsw = s.lsw := rfl
@[simp] theorem rd_setQ (g : Fld) (q : Qid) (x : Queue) (s : State) : rd g (setQ q x s) = rd g s := rfl
@[simp] theorem getEng_setQ (k : Eid) (q : Qid) (x : Queue) (s : State) : getEng k (setQ q x s) = getEng k s := rfl

/-! ### modQ -/

@[simp] theorem modQ_pending (q : Qid) (f : Queue → Queue) (s : State) : (modQ q f s).pending = s.pending := rfl
@[simp] theorem modQ_now (q : Qid) (f : Queue → Queue) (s : State) : (modQ q f s).now = s.now := rfl
@[simp] theorem modQ_freeCtr (q : Qid) (f : Queue → Queue) (s : State) : (modQ q f s).freeCtr = s.freeCtr := rfl
@[simp] theorem modQ_regs (q : Qid) (f : Queue → Queue) (s : State) : (modQ q f s).regs = s.regs := rfl
@[simp] theorem modQ_mram (q : Qid) (f : Queue → Queue) (s : State) : (modQ q f s).mram = s.mram := rfl
@[simp] theorem modQ_engs (q : Qid) (f : Queue → Queue) (s : State) : (modQ q f s).engs = s.engs := rfl
@[simp] theorem modQ_spare (q : Qid) (f : Queue → Queue) (s : State) : (modQ q f s).spare = s.spare := rfl
@[simp] theorem modQ_owed (q : Qid) (f : Queue → Queue) (s : State) : (modQ q f s).owed = s.owed := rfl
@[simp] theorem modQ_clock (q : Qid) (f : Queue → Queue) (s : State) : (modQ q f s).clock = s.clock := rfl
@[simp] theorem modQ_bar (q : Qid) (f : Queue → Queue) (s : State) : (modQ q f s).bar = s.bar := rfl
@[simp] theorem modQ_samp (q : Qid) (f : Queue → Queue) (s : State) : (modQ q f s).samp = s.samp := rfl
@[simp] theorem modQ_meters (q : Qid) (f : Queue → Queue) (s : State) : (modQ q f s).meters = s.meters := rfl
@[simp] theorem modQ_supply (q : Qid) (f : Queue → Queue) (s : State) : (modQ q f s).supply = s.supply := rfl
@[simp] theorem modQ_pairs (q : Qid) (f : Queue → Queue) (s : State) : (modQ q f s).pairs = s.pairs := rfl
@[simp] theorem modQ_calAct (q : Qid) (f : Queue → Queue) (s : State) : (modQ q f s).calAct = s.calAct := rfl
@[simp] theorem modQ_calPend (q : Qid) (f : Queue → Queue) (s : State) : (modQ q f s).calPend = s.calPend := rfl
@[simp] theorem modQ_vault (q : Qid) (f : Queue → Queue) (s : State) : (modQ q f s).vault = s.vault := rfl
@[simp] theorem modQ_bill (q : Qid) (f : Queue → Queue) (s : State) : (modQ q f s).bill = s.bill := rfl
@[simp] theorem modQ_upd (q : Qid) (f : Queue → Queue) (s : State) : (modQ q f s).upd = s.upd := rfl
@[simp] theorem modQ_net (q : Qid) (f : Queue → Queue) (s : State) : (modQ q f s).net = s.net := rfl
@[simp] theorem modQ_outs (q : Qid) (f : Queue → Queue) (s : State) : (modQ q f s).outs = s.outs := rfl
@[simp] theorem modQ_fold (q : Qid) (f : Queue → Queue) (s : State) : (modQ q f s).fold = s.fold := rfl
@[simp] theorem modQ_plm (q : Qid) (f : Queue → Queue) (s : State) : (modQ q f s).plm = s.plm := rfl
@[simp] theorem modQ_tag (q : Qid) (f : Queue → Queue) (s : State) : (modQ q f s).tag = s.tag := rfl
@[simp] theorem modQ_pwr (q : Qid) (f : Queue → Queue) (s : State) : (modQ q f s).pwr = s.pwr := rfl
@[simp] theorem modQ_lcd (q : Qid) (f : Queue → Queue) (s : State) : (modQ q f s).lcd = s.lcd := rfl
@[simp] theorem modQ_lsw (q : Qid) (f : Queue → Queue) (s : State) : (modQ q f s).lsw = s.lsw := rfl
@[simp] theorem rd_modQ (g : Fld) (q : Qid) (f : Queue → Queue) (s : State) : rd g (modQ q f s) = rd g s := rfl
@[simp] theorem getEng_modQ (k : Eid) (q : Qid) (f : Queue → Queue) (s : State) : getEng k (modQ q f s) = getEng k s := rfl

/-! ### modBar -/

@[simp] theorem modBar_pending (f : Bar → Bar) (s : State) : (modBar f s).pending = s.pending := rfl
@[simp] theorem modBar_now (f : Bar → Bar) (s : State) : (modBar f s).now = s.now := rfl
@[simp] theorem modBar_freeCtr (f : Bar → Bar) (s : State) : (modBar f s).freeCtr = s.freeCtr := rfl
@[simp] theorem modBar_regs (f : Bar → Bar) (s : State) : (modBar f s).regs = s.regs := rfl
@[simp] theorem modBar_mram (f : Bar → Bar) (s : State) : (modBar f s).mram = s.mram := rfl
@[simp] theorem modBar_engs (f : Bar → Bar) (s : State) : (modBar f s).engs = s.engs := rfl
@[simp] theorem modBar_qs (f : Bar → Bar) (s : State) : (modBar f s).qs = s.qs := rfl
@[simp] theorem modBar_spare (f : Bar → Bar) (s : State) : (modBar f s).spare = s.spare := rfl
@[simp] theorem modBar_owed (f : Bar → Bar) (s : State) : (modBar f s).owed = s.owed := rfl
@[simp] theorem modBar_clock (f : Bar → Bar) (s : State) : (modBar f s).clock = s.clock := rfl
@[simp] theorem modBar_samp (f : Bar → Bar) (s : State) : (modBar f s).samp = s.samp := rfl
@[simp] theorem modBar_meters (f : Bar → Bar) (s : State) : (modBar f s).meters = s.meters := rfl
@[simp] theorem modBar_supply (f : Bar → Bar) (s : State) : (modBar f s).supply = s.supply := rfl
@[simp] theorem modBar_pairs (f : Bar → Bar) (s : State) : (modBar f s).pairs = s.pairs := rfl
@[simp] theorem modBar_calAct (f : Bar → Bar) (s : State) : (modBar f s).calAct = s.calAct := rfl
@[simp] theorem modBar_calPend (f : Bar → Bar) (s : State) : (modBar f s).calPend = s.calPend := rfl
@[simp] theorem modBar_vault (f : Bar → Bar) (s : State) : (modBar f s).vault = s.vault := rfl
@[simp] theorem modBar_bill (f : Bar → Bar) (s : State) : (modBar f s).bill = s.bill := rfl
@[simp] theorem modBar_upd (f : Bar → Bar) (s : State) : (modBar f s).upd = s.upd := rfl
@[simp] theorem modBar_net (f : Bar → Bar) (s : State) : (modBar f s).net = s.net := rfl
@[simp] theorem modBar_outs (f : Bar → Bar) (s : State) : (modBar f s).outs = s.outs := rfl
@[simp] theorem modBar_fold (f : Bar → Bar) (s : State) : (modBar f s).fold = s.fold := rfl
@[simp] theorem modBar_plm (f : Bar → Bar) (s : State) : (modBar f s).plm = s.plm := rfl
@[simp] theorem modBar_tag (f : Bar → Bar) (s : State) : (modBar f s).tag = s.tag := rfl
@[simp] theorem modBar_pwr (f : Bar → Bar) (s : State) : (modBar f s).pwr = s.pwr := rfl
@[simp] theorem modBar_lcd (f : Bar → Bar) (s : State) : (modBar f s).lcd = s.lcd := rfl
@[simp] theorem modBar_lsw (f : Bar → Bar) (s : State) : (modBar f s).lsw = s.lsw := rfl
@[simp] theorem rd_modBar (g : Fld) (f : Bar → Bar) (s : State) : rd g (modBar f s) = rd g s := rfl
@[simp] theorem getQ_modBar (k : Qid) (f : Bar → Bar) (s : State) : getQ k (modBar f s) = getQ k s := rfl
@[simp] theorem getEng_modBar (k : Eid) (f : Bar → Bar) (s : State) : getEng k (modBar f s) = getEng k s := rfl

/-! ### mramWr -/

@[simp] theorem mramWr_pending (a : Nat) (bs : List Byte) (s : State) : (mramWr a bs s).pending = s.pending := rfl
@[simp] theorem mramWr_now (a : Nat) (bs : List Byte) (s : State) : (mramWr a bs s).now = s.now := rfl
@[simp] theorem mramWr_freeCtr (a : Nat) (bs : List Byte) (s : State) : (mramWr a bs s).freeCtr = s.freeCtr := rfl
@[simp] theorem mramWr_regs (a : Nat) (bs : List Byte) (s : State) : (mramWr a bs s).regs = s.regs := rfl
@[simp] theorem mramWr_engs (a : Nat) (bs : List Byte) (s : State) : (mramWr a bs s).engs = s.engs := rfl
@[simp] theorem mramWr_qs (a : Nat) (bs : List Byte) (s : State) : (mramWr a bs s).qs = s.qs := rfl
@[simp] theorem mramWr_spare (a : Nat) (bs : List Byte) (s : State) : (mramWr a bs s).spare = s.spare := rfl
@[simp] theorem mramWr_owed (a : Nat) (bs : List Byte) (s : State) : (mramWr a bs s).owed = s.owed := rfl
@[simp] theorem mramWr_clock (a : Nat) (bs : List Byte) (s : State) : (mramWr a bs s).clock = s.clock := rfl
@[simp] theorem mramWr_bar (a : Nat) (bs : List Byte) (s : State) : (mramWr a bs s).bar = s.bar := rfl
@[simp] theorem mramWr_samp (a : Nat) (bs : List Byte) (s : State) : (mramWr a bs s).samp = s.samp := rfl
@[simp] theorem mramWr_meters (a : Nat) (bs : List Byte) (s : State) : (mramWr a bs s).meters = s.meters := rfl
@[simp] theorem mramWr_supply (a : Nat) (bs : List Byte) (s : State) : (mramWr a bs s).supply = s.supply := rfl
@[simp] theorem mramWr_pairs (a : Nat) (bs : List Byte) (s : State) : (mramWr a bs s).pairs = s.pairs := rfl
@[simp] theorem mramWr_calAct (a : Nat) (bs : List Byte) (s : State) : (mramWr a bs s).calAct = s.calAct := rfl
@[simp] theorem mramWr_calPend (a : Nat) (bs : List Byte) (s : State) : (mramWr a bs s).calPend = s.calPend := rfl
@[simp] theorem mramWr_vault (a : Nat) (bs : List Byte) (s : State) : (mramWr a bs s).vault = s.vault := rfl
@[simp] theorem mramWr_bill (a : Nat) (bs : List Byte) (s : State) : (mramWr a bs s).bill = s.bill := rfl
@[simp] theorem mramWr_upd (a : Nat) (bs : List Byte) (s : State) : (mramWr a bs s).upd = s.upd := rfl
@[simp] theorem mramWr_net (a : Nat) (bs : List Byte) (s : State) : (mramWr a bs s).net = s.net := rfl
@[simp] theorem mramWr_outs (a : Nat) (bs : List Byte) (s : State) : (mramWr a bs s).outs = s.outs := rfl
@[simp] theorem mramWr_fold (a : Nat) (bs : List Byte) (s : State) : (mramWr a bs s).fold = s.fold := rfl
@[simp] theorem mramWr_plm (a : Nat) (bs : List Byte) (s : State) : (mramWr a bs s).plm = s.plm := rfl
@[simp] theorem mramWr_tag (a : Nat) (bs : List Byte) (s : State) : (mramWr a bs s).tag = s.tag := rfl
@[simp] theorem mramWr_pwr (a : Nat) (bs : List Byte) (s : State) : (mramWr a bs s).pwr = s.pwr := rfl
@[simp] theorem mramWr_lcd (a : Nat) (bs : List Byte) (s : State) : (mramWr a bs s).lcd = s.lcd := rfl
@[simp] theorem mramWr_lsw (a : Nat) (bs : List Byte) (s : State) : (mramWr a bs s).lsw = s.lsw := rfl
@[simp] theorem rd_mramWr (g : Fld) (a : Nat) (bs : List Byte) (s : State) : rd g (mramWr a bs s) = rd g s := rfl
@[simp] theorem getQ_mramWr (k : Qid) (a : Nat) (bs : List Byte) (s : State) : getQ k (mramWr a bs s) = getQ k s := rfl
@[simp] theorem getEng_mramWr (k : Eid) (a : Nat) (bs : List Byte) (s : State) : getEng k (mramWr a bs s) = getEng k s := rfl

/-! ### nextFree -/

@[simp] theorem nextFree_pending (s : State) : (nextFree s).pending = s.pending := rfl
@[simp] theorem nextFree_now (s : State) : (nextFree s).now = s.now := rfl
@[simp] theorem nextFree_regs (s : State) : (nextFree s).regs = s.regs := rfl
@[simp] theorem nextFree_mram (s : State) : (nextFree s).mram = s.mram := rfl
@[simp] theorem nextFree_engs (s : State) : (nextFree s).engs = s.engs := rfl
@[simp] theorem nextFree_qs (s : State) : (nextFree s).qs = s.qs := rfl
@[simp] theorem nextFree_spare (s : State) : (nextFree s).spare = s.spare := rfl
@[simp] theorem nextFree_owed (s : State) : (nextFree s).owed = s.owed := rfl
@[simp] theorem nextFree_clock (s : State) : (nextFree s).clock = s.clock := rfl
@[simp] theorem nextFree_bar (s : State) : (nextFree s).bar = s.bar := rfl
@[simp] theorem nextFree_samp (s : State) : (nextFree s).samp = s.samp := rfl
@[simp] theorem nextFree_meters (s : State) : (nextFree s).meters = s.meters := rfl
@[simp] theorem nextFree_supply (s : State) : (nextFree s).supply = s.supply := rfl
@[simp] theorem nextFree_pairs (s : State) : (nextFree s).pairs = s.pairs := rfl
@[simp] theorem nextFree_calAct (s : State) : (nextFree s).calAct = s.calAct := rfl
@[simp] theorem nextFree_calPend (s : State) : (nextFree s).calPend = s.calPend := rfl
@[simp] theorem nextFree_vault (s : State) : (nextFree s).vault = s.vault := rfl
@[simp] theorem nextFree_bill (s : State) : (nextFree s).bill = s.bill := rfl
@[simp] theorem nextFree_upd (s : State) : (nextFree s).upd = s.upd := rfl
@[simp] theorem nextFree_net (s : State) : (nextFree s).net = s.net := rfl
@[simp] theorem nextFree_outs (s : State) : (nextFree s).outs = s.outs := rfl
@[simp] theorem nextFree_fold (s : State) : (nextFree s).fold = s.fold := rfl
@[simp] theorem nextFree_plm (s : State) : (nextFree s).plm = s.plm := rfl
@[simp] theorem nextFree_tag (s : State) : (nextFree s).tag = s.tag := rfl
@[simp] theorem nextFree_pwr (s : State) : (nextFree s).pwr = s.pwr := rfl
@[simp] theorem nextFree_lcd (s : State) : (nextFree s).lcd = s.lcd := rfl
@[simp] theorem nextFree_lsw (s : State) : (nextFree s).lsw = s.lsw := rfl
@[simp] theorem rd_nextFree (g : Fld) (s : State) : rd g (nextFree s) = rd g s := rfl
@[simp] theorem getQ_nextFree (k : Qid) (s : State) : getQ k (nextFree s) = getQ k s := rfl
@[simp] theorem getEng_nextFree (k : Eid) (s : State) : getEng k (nextFree s) = getEng k s := rfl

/-! ### modNet -/

@[simp] theorem modNet_pending (f : Net → Net) (s : State) : (modNet f s).pending = s.pending := rfl
@[simp] theorem modNet_now (f : Net → Net) (s : State) : (modNet f s).now = s.now := rfl
@[simp] theorem modNet_freeCtr (f : Net → Net) (s : State) : (modNet f s).freeCtr = s.freeCtr := rfl
@[simp] theorem modNet_regs (f : Net → Net) (s : State) : (modNet f s).regs = s.regs := rfl
@[simp] theorem modNet_mram (f : Net → Net) (s : State) : (modNet f s).mram = s.mram := rfl
@[simp] theorem modNet_engs (f : Net → Net) (s : State) : (modNet f s).engs = s.engs := rfl
@[simp] theorem modNet_qs (f : Net → Net) (s : State) : (modNet f s).qs = s.qs := rfl
@[simp] theorem modNet_spare (f : Net → Net) (s : State) : (modNet f s).spare = s.spare := rfl
@[simp] theorem modNet_owed (f : Net → Net) (s : State) : (modNet f s).owed = s.owed := rfl
@[simp] theorem modNet_clock (f : Net → Net) (s : State) : (modNet f s).clock = s.clock := rfl
@[simp] theorem modNet_bar (f : Net → Net) (s : State) : (modNet f s).bar = s.bar := rfl
@[simp] theorem modNet_samp (f : Net → Net) (s : State) : (modNet f s).samp = s.samp := rfl
@[simp] theorem modNet_meters (f : Net → Net) (s : State) : (modNet f s).meters = s.meters := rfl
@[simp] theorem modNet_supply (f : Net → Net) (s : State) : (modNet f s).supply = s.supply := rfl
@[simp] theorem modNet_pairs (f : Net → Net) (s : State) : (modNet f s).pairs = s.pairs := rfl
@[simp] theorem modNet_calAct (f : Net → Net) (s : State) : (modNet f s).calAct = s.calAct := rfl
@[simp] theorem modNet_calPend (f : Net → Net) (s : State) : (modNet f s).calPend = s.calPend := rfl
@[simp] theorem modNet_vault (f : Net → Net) (s : State) : (modNet f s).vault = s.vault := rfl
@[simp] theorem modNet_bill (f : Net → Net) (s : State) : (modNet f s).bill = s.bill := rfl
@[simp] theorem modNet_upd (f : Net → Net) (s : State) : (modNet f s).upd = s.upd := rfl
@[simp] theorem modNet_outs (f : Net → Net) (s : State) : (modNet f s).outs = s.outs := rfl
@[simp] theorem modNet_fold (f : Net → Net) (s : State) : (modNet f s).fold = s.fold := rfl
@[simp] theorem modNet_plm (f : Net → Net) (s : State) : (modNet f s).plm = s.plm := rfl
@[simp] theorem modNet_tag (f : Net → Net) (s : State) : (modNet f s).tag = s.tag := rfl
@[simp] theorem modNet_pwr (f : Net → Net) (s : State) : (modNet f s).pwr = s.pwr := rfl
@[simp] theorem modNet_lcd (f : Net → Net) (s : State) : (modNet f s).lcd = s.lcd := rfl
@[simp] theorem modNet_lsw (f : Net → Net) (s : State) : (modNet f s).lsw = s.lsw := rfl
@[simp] theorem rd_modNet (g : Fld) (f : Net → Net) (s : State) : rd g (modNet f s) = rd g s := rfl
@[simp] theorem getQ_modNet (k : Qid) (f : Net → Net) (s : State) : getQ k (modNet f s) = getQ k s := rfl
@[simp] theorem getEng_modNet (k : Eid) (f : Net → Net) (s : State) : getEng k (modNet f s) = getEng k s := rfl

/-! ### modFold -/

@[simp] theorem modFold_pending (f : Fold → Fold) (s : State) : (modFold f s).pending = s.pending := rfl
@[simp] theorem modFold_now (f : Fold → Fold) (s : State) : (modFold f s).now = s.now := rfl
@[simp] theorem modFold_freeCtr (f : Fold → Fold) (s : State) : (modFold f s).freeCtr = s.freeCtr := rfl
@[simp] theorem modFold_regs (f : Fold → Fold) (s : State) : (modFold f s).regs = s.regs := rfl
@[simp] theorem modFold_mram (f : Fold → Fold) (s : State) : (modFold f s).mram = s.mram := rfl
@[simp] theorem modFold_engs (f : Fold → Fold) (s : State) : (modFold f s).engs = s.engs := rfl
@[simp] theorem modFold_qs (f : Fold → Fold) (s : State) : (modFold f s).qs = s.qs := rfl
@[simp] theorem modFold_spare (f : Fold → Fold) (s : State) : (modFold f s).spare = s.spare := rfl
@[simp] theorem modFold_owed (f : Fold → Fold) (s : State) : (modFold f s).owed = s.owed := rfl
@[simp] theorem modFold_clock (f : Fold → Fold) (s : State) : (modFold f s).clock = s.clock := rfl
@[simp] theorem modFold_bar (f : Fold → Fold) (s : State) : (modFold f s).bar = s.bar := rfl
@[simp] theorem modFold_samp (f : Fold → Fold) (s : State) : (modFold f s).samp = s.samp := rfl
@[simp] theorem modFold_meters (f : Fold → Fold) (s : State) : (modFold f s).meters = s.meters := rfl
@[simp] theorem modFold_supply (f : Fold → Fold) (s : State) : (modFold f s).supply = s.supply := rfl
@[simp] theorem modFold_pairs (f : Fold → Fold) (s : State) : (modFold f s).pairs = s.pairs := rfl
@[simp] theorem modFold_calAct (f : Fold → Fold) (s : State) : (modFold f s).calAct = s.calAct := rfl
@[simp] theorem modFold_calPend (f : Fold → Fold) (s : State) : (modFold f s).calPend = s.calPend := rfl
@[simp] theorem modFold_vault (f : Fold → Fold) (s : State) : (modFold f s).vault = s.vault := rfl
@[simp] theorem modFold_bill (f : Fold → Fold) (s : State) : (modFold f s).bill = s.bill := rfl
@[simp] theorem modFold_upd (f : Fold → Fold) (s : State) : (modFold f s).upd = s.upd := rfl
@[simp] theorem modFold_net (f : Fold → Fold) (s : State) : (modFold f s).net = s.net := rfl
@[simp] theorem modFold_outs (f : Fold → Fold) (s : State) : (modFold f s).outs = s.outs := rfl
@[simp] theorem modFold_plm (f : Fold → Fold) (s : State) : (modFold f s).plm = s.plm := rfl
@[simp] theorem modFold_tag (f : Fold → Fold) (s : State) : (modFold f s).tag = s.tag := rfl
@[simp] theorem modFold_pwr (f : Fold → Fold) (s : State) : (modFold f s).pwr = s.pwr := rfl
@[simp] theorem modFold_lcd (f : Fold → Fold) (s : State) : (modFold f s).lcd = s.lcd := rfl
@[simp] theorem modFold_lsw (f : Fold → Fold) (s : State) : (modFold f s).lsw = s.lsw := rfl
@[simp] theorem rd_modFold (g : Fld) (f : Fold → Fold) (s : State) : rd g (modFold f s) = rd g s := rfl
@[simp] theorem getQ_modFold (k : Qid) (f : Fold → Fold) (s : State) : getQ k (modFold f s) = getQ k s := rfl
@[simp] theorem getEng_modFold (k : Eid) (f : Fold → Fold) (s : State) : getEng k (modFold f s) = getEng k s := rfl

/-! ### modFo -/

@[simp] theorem modFo_pending (o : Nat) (f : FoldOut → FoldOut) (s : State) : (modFo o f s).pending = s.pending := rfl
@[simp] theorem modFo_now (o : Nat) (f : FoldOut → FoldOut) (s : State) : (modFo o f s).now = s.now := rfl
@[simp] theorem modFo_freeCtr (o : Nat) (f : FoldOut → FoldOut) (s : State) : (modFo o f s).freeCtr = s.freeCtr := rfl
@[simp] theorem modFo_regs (o : Nat) (f : FoldOut → FoldOut) (s : State) : (modFo o f s).regs = s.regs := rfl
@[simp] theorem modFo_mram (o : Nat) (f : FoldOut → FoldOut) (s : State) : (modFo o f s).mram = s.mram := rfl
@[simp] theorem modFo_engs (o : Nat) (f : FoldOut → FoldOut) (s : State) : (modFo o f s).engs = s.engs := rfl
@[simp] theorem modFo_qs (o : Nat) (f : FoldOut → FoldOut) (s : State) : (modFo o f s).qs = s.qs := rfl
@[simp] theorem modFo_spare (o : Nat) (f : FoldOut → FoldOut) (s : State) : (modFo o f s).spare = s.spare := rfl
@[simp] theorem modFo_owed (o : Nat) (f : FoldOut → FoldOut) (s : State) : (modFo o f s).owed = s.owed := rfl
@[simp] theorem modFo_clock (o : Nat) (f : FoldOut → FoldOut) (s : State) : (modFo o f s).clock = s.clock := rfl
@[simp] theorem modFo_bar (o : Nat) (f : FoldOut → FoldOut) (s : State) : (modFo o f s).bar = s.bar := rfl
@[simp] theorem modFo_samp (o : Nat) (f : FoldOut → FoldOut) (s : State) : (modFo o f s).samp = s.samp := rfl
@[simp] theorem modFo_meters (o : Nat) (f : FoldOut → FoldOut) (s : State) : (modFo o f s).meters = s.meters := rfl
@[simp] theorem modFo_supply (o : Nat) (f : FoldOut → FoldOut) (s : State) : (modFo o f s).supply = s.supply := rfl
@[simp] theorem modFo_pairs (o : Nat) (f : FoldOut → FoldOut) (s : State) : (modFo o f s).pairs = s.pairs := rfl
@[simp] theorem modFo_calAct (o : Nat) (f : FoldOut → FoldOut) (s : State) : (modFo o f s).calAct = s.calAct := rfl
@[simp] theorem modFo_calPend (o : Nat) (f : FoldOut → FoldOut) (s : State) : (modFo o f s).calPend = s.calPend := rfl
@[simp] theorem modFo_vault (o : Nat) (f : FoldOut → FoldOut) (s : State) : (modFo o f s).vault = s.vault := rfl
@[simp] theorem modFo_bill (o : Nat) (f : FoldOut → FoldOut) (s : State) : (modFo o f s).bill = s.bill := rfl
@[simp] theorem modFo_upd (o : Nat) (f : FoldOut → FoldOut) (s : State) : (modFo o f s).upd = s.upd := rfl
@[simp] theorem modFo_net (o : Nat) (f : FoldOut → FoldOut) (s : State) : (modFo o f s).net = s.net := rfl
@[simp] theorem modFo_outs (o : Nat) (f : FoldOut → FoldOut) (s : State) : (modFo o f s).outs = s.outs := rfl
@[simp] theorem modFo_plm (o : Nat) (f : FoldOut → FoldOut) (s : State) : (modFo o f s).plm = s.plm := rfl
@[simp] theorem modFo_tag (o : Nat) (f : FoldOut → FoldOut) (s : State) : (modFo o f s).tag = s.tag := rfl
@[simp] theorem modFo_pwr (o : Nat) (f : FoldOut → FoldOut) (s : State) : (modFo o f s).pwr = s.pwr := rfl
@[simp] theorem modFo_lcd (o : Nat) (f : FoldOut → FoldOut) (s : State) : (modFo o f s).lcd = s.lcd := rfl
@[simp] theorem modFo_lsw (o : Nat) (f : FoldOut → FoldOut) (s : State) : (modFo o f s).lsw = s.lsw := rfl
@[simp] theorem rd_modFo (g : Fld) (o : Nat) (f : FoldOut → FoldOut) (s : State) : rd g (modFo o f s) = rd g s := rfl
@[simp] theorem getQ_modFo (k : Qid) (o : Nat) (f : FoldOut → FoldOut) (s : State) : getQ k (modFo o f s) = getQ k s := rfl
@[simp] theorem getEng_modFo (k : Eid) (o : Nat) (f : FoldOut → FoldOut) (s : State) : getEng k (modFo o f s) = getEng k s := rfl

/-! ### setMt -/

@[simp] theorem setMt_pending (o : Nat) (m : Meter) (s : State) : (setMt o m s).pending = s.pending := rfl
@[simp] theorem setMt_now (o : Nat) (m : Meter) (s : State) : (setMt o m s).now = s.now := rfl
@[simp] theorem setMt_freeCtr (o : Nat) (m : Meter) (s : State) : (setMt o m s).freeCtr = s.freeCtr := rfl
@[simp] theorem setMt_regs (o : Nat) (m : Meter) (s : State) : (setMt o m s).regs = s.regs := rfl
@[simp] theorem setMt_mram (o : Nat) (m : Meter) (s : State) : (setMt o m s).mram = s.mram := rfl
@[simp] theorem setMt_engs (o : Nat) (m : Meter) (s : State) : (setMt o m s).engs = s.engs := rfl
@[simp] theorem setMt_qs (o : Nat) (m : Meter) (s : State) : (setMt o m s).qs = s.qs := rfl
@[simp] theorem setMt_spare (o : Nat) (m : Meter) (s : State) : (setMt o m s).spare = s.spare := rfl
@[simp] theorem setMt_owed (o : Nat) (m : Meter) (s : State) : (setMt o m s).owed = s.owed := rfl
@[simp] theorem setMt_clock (o : Nat) (m : Meter) (s : State) : (setMt o m s).clock = s.clock := rfl
@[simp] theorem setMt_bar (o : Nat) (m : Meter) (s : State) : (setMt o m s).bar = s.bar := rfl
@[simp] theorem setMt_samp (o : Nat) (m : Meter) (s : State) : (setMt o m s).samp = s.samp := rfl
@[simp] theorem setMt_supply (o : Nat) (m : Meter) (s : State) : (setMt o m s).supply = s.supply := rfl
@[simp] theorem setMt_pairs (o : Nat) (m : Meter) (s : State) : (setMt o m s).pairs = s.pairs := rfl
@[simp] theorem setMt_calAct (o : Nat) (m : Meter) (s : State) : (setMt o m s).calAct = s.calAct := rfl
@[simp] theorem setMt_calPend (o : Nat) (m : Meter) (s : State) : (setMt o m s).calPend = s.calPend := rfl
@[simp] theorem setMt_vault (o : Nat) (m : Meter) (s : State) : (setMt o m s).vault = s.vault := rfl
@[simp] theorem setMt_bill (o : Nat) (m : Meter) (s : State) : (setMt o m s).bill = s.bill := rfl
@[simp] theorem setMt_upd (o : Nat) (m : Meter) (s : State) : (setMt o m s).upd = s.upd := rfl
@[simp] theorem setMt_net (o : Nat) (m : Meter) (s : State) : (setMt o m s).net = s.net := rfl
@[simp] theorem setMt_outs (o : Nat) (m : Meter) (s : State) : (setMt o m s).outs = s.outs := rfl
@[simp] theorem setMt_fold (o : Nat) (m : Meter) (s : State) : (setMt o m s).fold = s.fold := rfl
@[simp] theorem setMt_plm (o : Nat) (m : Meter) (s : State) : (setMt o m s).plm = s.plm := rfl
@[simp] theorem setMt_tag (o : Nat) (m : Meter) (s : State) : (setMt o m s).tag = s.tag := rfl
@[simp] theorem setMt_pwr (o : Nat) (m : Meter) (s : State) : (setMt o m s).pwr = s.pwr := rfl
@[simp] theorem setMt_lcd (o : Nat) (m : Meter) (s : State) : (setMt o m s).lcd = s.lcd := rfl
@[simp] theorem setMt_lsw (o : Nat) (m : Meter) (s : State) : (setMt o m s).lsw = s.lsw := rfl
@[simp] theorem rd_setMt (g : Fld) (o : Nat) (m : Meter) (s : State) : rd g (setMt o m s) = rd g s := rfl
@[simp] theorem getQ_setMt (k : Qid) (o : Nat) (m : Meter) (s : State) : getQ k (setMt o m s) = getQ k s := rfl
@[simp] theorem getEng_setMt (k : Eid) (o : Nat) (m : Meter) (s : State) : getEng k (setMt o m s) = getEng k s := rfl

/-! ### setOs -/

@[simp] theorem setOs_pending (o : Nat) (x : OutSt) (s : State) : (setOs o x s).pending = s.pending := rfl
@[simp] theorem setOs_now (o : Nat) (x : OutSt) (s : State) : (setOs o x s).now = s.now := rfl
@[simp] theorem setOs_freeCtr (o : Nat) (x : OutSt) (s : State) : (setOs o x s).freeCtr = s.freeCtr := rfl
@[simp] theorem setOs_regs (o : Nat) (x : OutSt) (s : State) : (setOs o x s).regs = s.regs := rfl
@[simp] theorem setOs_mram (o : Nat) (x : OutSt) (s : State) : (setOs o x s).mram = s.mram := rfl
@[simp] theorem setOs_engs (o : Nat) (x : OutSt) (s : State) : (setOs o x s).engs = s.engs := rfl
@[simp] theorem setOs_qs (o : Nat) (x : OutSt) (s : State) : (setOs o x s).qs = s.qs := rfl
@[simp] theorem setOs_spare (o : Nat) (x : OutSt) (s : State) : (setOs o x s).spare = s.spare := rfl
@[simp] theorem setOs_owed (o : Nat) (x : OutSt) (s : State) : (setOs o x s).owed = s.owed := rfl
@[simp] theorem setOs_clock (o : Nat) (x : OutSt) (s : State) : (setOs o x s).clock = s.clock := rfl
@[simp] theorem setOs_bar (o : Nat) (x : OutSt) (s : State) : (setOs o x s).bar = s.bar := rfl
@[simp] theorem setOs_samp (o : Nat) (x : OutSt) (s : State) : (setOs o x s).samp = s.samp := rfl
@[simp] theorem setOs_meters (o : Nat) (x : OutSt) (s : State) : (setOs o x s).meters = s.meters := rfl
@[simp] theorem setOs_supply (o : Nat) (x : OutSt) (s : State) : (setOs o x s).supply = s.supply := rfl
@[simp] theorem setOs_pairs (o : Nat) (x : OutSt) (s : State) : (setOs o x s).pairs = s.pairs := rfl
@[simp] theorem setOs_calAct (o : Nat) (x : OutSt) (s : State) : (setOs o x s).calAct = s.calAct := rfl
@[simp] theorem setOs_calPend (o : Nat) (x : OutSt) (s : State) : (setOs o x s).calPend = s.calPend := rfl
@[simp] theorem setOs_vault (o : Nat) (x : OutSt) (s : State) : (setOs o x s).vault = s.vault := rfl
@[simp] theorem setOs_bill (o : Nat) (x : OutSt) (s : State) : (setOs o x s).bill = s.bill := rfl
@[simp] theorem setOs_upd (o : Nat) (x : OutSt) (s : State) : (setOs o x s).upd = s.upd := rfl
@[simp] theorem setOs_net (o : Nat) (x : OutSt) (s : State) : (setOs o x s).net = s.net := rfl
@[simp] theorem setOs_fold (o : Nat) (x : OutSt) (s : State) : (setOs o x s).fold = s.fold := rfl
@[simp] theorem setOs_plm (o : Nat) (x : OutSt) (s : State) : (setOs o x s).plm = s.plm := rfl
@[simp] theorem setOs_tag (o : Nat) (x : OutSt) (s : State) : (setOs o x s).tag = s.tag := rfl
@[simp] theorem setOs_pwr (o : Nat) (x : OutSt) (s : State) : (setOs o x s).pwr = s.pwr := rfl
@[simp] theorem setOs_lcd (o : Nat) (x : OutSt) (s : State) : (setOs o x s).lcd = s.lcd := rfl
@[simp] theorem setOs_lsw (o : Nat) (x : OutSt) (s : State) : (setOs o x s).lsw = s.lsw := rfl
@[simp] theorem rd_setOs (g : Fld) (o : Nat) (x : OutSt) (s : State) : rd g (setOs o x s) = rd g s := rfl
@[simp] theorem getQ_setOs (k : Qid) (o : Nat) (x : OutSt) (s : State) : getQ k (setOs o x s) = getQ k s := rfl
@[simp] theorem getEng_setOs (k : Eid) (o : Nat) (x : OutSt) (s : State) : getEng k (setOs o x s) = getEng k s := rfl

/-! ### modPlm -/

@[simp] theorem modPlm_pending (o : Nat) (f : Plm → Plm) (s : State) : (modPlm o f s).pending = s.pending := rfl
@[simp] theorem modPlm_now (o : Nat) (f : Plm → Plm) (s : State) : (modPlm o f s).now = s.now := rfl
@[simp] theorem modPlm_freeCtr (o : Nat) (f : Plm → Plm) (s : State) : (modPlm o f s).freeCtr = s.freeCtr := rfl
@[simp] theorem modPlm_regs (o : Nat) (f : Plm → Plm) (s : State) : (modPlm o f s).regs = s.regs := rfl
@[simp] theorem modPlm_mram (o : Nat) (f : Plm → Plm) (s : State) : (modPlm o f s).mram = s.mram := rfl
@[simp] theorem modPlm_engs (o : Nat) (f : Plm → Plm) (s : State) : (modPlm o f s).engs = s.engs := rfl
@[simp] theorem modPlm_qs (o : Nat) (f : Plm → Plm) (s : State) : (modPlm o f s).qs = s.qs := rfl
@[simp] theorem modPlm_spare (o : Nat) (f : Plm → Plm) (s : State) : (modPlm o f s).spare = s.spare := rfl
@[simp] theorem modPlm_owed (o : Nat) (f : Plm → Plm) (s : State) : (modPlm o f s).owed = s.owed := rfl
@[simp] theorem modPlm_clock (o : Nat) (f : Plm → Plm) (s : State) : (modPlm o f s).clock = s.clock := rfl
@[simp] theorem modPlm_bar (o : Nat) (f : Plm → Plm) (s : State) : (modPlm o f s).bar = s.bar := rfl
@[simp] theorem modPlm_samp (o : Nat) (f : Plm → Plm) (s : State) : (modPlm o f s).samp = s.samp := rfl
@[simp] theorem modPlm_meters (o : Nat) (f : Plm → Plm) (s : State) : (modPlm o f s).meters = s.meters := rfl
@[simp] theorem modPlm_supply (o : Nat) (f : Plm → Plm) (s : State) : (modPlm o f s).supply = s.supply := rfl
@[simp] theorem modPlm_pairs (o : Nat) (f : Plm → Plm) (s : State) : (modPlm o f s).pairs = s.pairs := rfl
@[simp] theorem modPlm_calAct (o : Nat) (f : Plm → Plm) (s : State) : (modPlm o f s).calAct = s.calAct := rfl
@[simp] theorem modPlm_calPend (o : Nat) (f : Plm → Plm) (s : State) : (modPlm o f s).calPend = s.calPend := rfl
@[simp] theorem modPlm_vault (o : Nat) (f : Plm → Plm) (s : State) : (modPlm o f s).vault = s.vault := rfl
@[simp] theorem modPlm_bill (o : Nat) (f : Plm → Plm) (s : State) : (modPlm o f s).bill = s.bill := rfl
@[simp] theorem modPlm_upd (o : Nat) (f : Plm → Plm) (s : State) : (modPlm o f s).upd = s.upd := rfl
@[simp] theorem modPlm_net (o : Nat) (f : Plm → Plm) (s : State) : (modPlm o f s).net = s.net := rfl
@[simp] theorem modPlm_outs (o : Nat) (f : Plm → Plm) (s : State) : (modPlm o f s).outs = s.outs := rfl
@[simp] theorem modPlm_fold (o : Nat) (f : Plm → Plm) (s : State) : (modPlm o f s).fold = s.fold := rfl
@[simp] theorem modPlm_tag (o : Nat) (f : Plm → Plm) (s : State) : (modPlm o f s).tag = s.tag := rfl
@[simp] theorem modPlm_pwr (o : Nat) (f : Plm → Plm) (s : State) : (modPlm o f s).pwr = s.pwr := rfl
@[simp] theorem modPlm_lcd (o : Nat) (f : Plm → Plm) (s : State) : (modPlm o f s).lcd = s.lcd := rfl
@[simp] theorem modPlm_lsw (o : Nat) (f : Plm → Plm) (s : State) : (modPlm o f s).lsw = s.lsw := rfl
@[simp] theorem rd_modPlm (g : Fld) (o : Nat) (f : Plm → Plm) (s : State) : rd g (modPlm o f s) = rd g s := rfl
@[simp] theorem getQ_modPlm (k : Qid) (o : Nat) (f : Plm → Plm) (s : State) : getQ k (modPlm o f s) = getQ k s := rfl
@[simp] theorem getEng_modPlm (k : Eid) (o : Nat) (f : Plm → Plm) (s : State) : getEng k (modPlm o f s) = getEng k s := rfl

/-! ### modTag -/

@[simp] theorem modTag_pending (f : TagSt → TagSt) (s : State) : (modTag f s).pending = s.pending := rfl
@[simp] theorem modTag_now (f : TagSt → TagSt) (s : State) : (modTag f s).now = s.now := rfl
@[simp] theorem modTag_freeCtr (f : TagSt → TagSt) (s : State) : (modTag f s).freeCtr = s.freeCtr := rfl
@[simp] theorem modTag_regs (f : TagSt → TagSt) (s : State) : (modTag f s).regs = s.regs := rfl
@[simp] theorem modTag_mram (f : TagSt → TagSt) (s : State) : (modTag f s).mram = s.mram := rfl
@[simp] theorem modTag_engs (f : TagSt → TagSt) (s : State) : (modTag f s).engs = s.engs := rfl
@[simp] theorem modTag_qs (f : TagSt → TagSt) (s : State) : (modTag f s).qs = s.qs := rfl
@[simp] theorem modTag_spare (f : TagSt → TagSt) (s : State) : (modTag f s).spare = s.spare := rfl
@[simp] theorem modTag_owed (f : TagSt → TagSt) (s : State) : (modTag f s).owed = s.owed := rfl
@[simp] theorem modTag_clock (f : TagSt → TagSt) (s : State) : (modTag f s).clock = s.clock := rfl
@[simp] theorem modTag_bar (f : TagSt → TagSt) (s : State) : (modTag f s).bar = s.bar := rfl
@[simp] theorem modTag_samp (f : TagSt → TagSt) (s : State) : (modTag f s).samp = s.samp := rfl
@[simp] theorem modTag_meters (f : TagSt → TagSt) (s : State) : (modTag f s).meters = s.meters := rfl
@[simp] theorem modTag_supply (f : TagSt → TagSt) (s : State) : (modTag f s).supply = s.supply := rfl
@[simp] theorem modTag_pairs (f : TagSt → TagSt) (s : State) : (modTag f s).pairs = s.pairs := rfl
@[simp] theorem modTag_calAct (f : TagSt → TagSt) (s : State) : (modTag f s).calAct = s.calAct := rfl
@[simp] theorem modTag_calPend (f : TagSt → TagSt) (s : State) : (modTag f s).calPend = s.calPend := rfl
@[simp] theorem modTag_vault (f : TagSt → TagSt) (s : State) : (modTag f s).vault = s.vault := rfl
@[simp] theorem modTag_bill (f : TagSt → TagSt) (s : State) : (modTag f s).bill = s.bill := rfl
@[simp] theorem modTag_upd (f : TagSt → TagSt) (s : State) : (modTag f s).upd = s.upd := rfl
@[simp] theorem modTag_net (f : TagSt → TagSt) (s : State) : (modTag f s).net = s.net := rfl
@[simp] theorem modTag_outs (f : TagSt → TagSt) (s : State) : (modTag f s).outs = s.outs := rfl
@[simp] theorem modTag_fold (f : TagSt → TagSt) (s : State) : (modTag f s).fold = s.fold := rfl
@[simp] theorem modTag_plm (f : TagSt → TagSt) (s : State) : (modTag f s).plm = s.plm := rfl
@[simp] theorem modTag_pwr (f : TagSt → TagSt) (s : State) : (modTag f s).pwr = s.pwr := rfl
@[simp] theorem modTag_lcd (f : TagSt → TagSt) (s : State) : (modTag f s).lcd = s.lcd := rfl
@[simp] theorem modTag_lsw (f : TagSt → TagSt) (s : State) : (modTag f s).lsw = s.lsw := rfl
@[simp] theorem rd_modTag (g : Fld) (f : TagSt → TagSt) (s : State) : rd g (modTag f s) = rd g s := rfl
@[simp] theorem getQ_modTag (k : Qid) (f : TagSt → TagSt) (s : State) : getQ k (modTag f s) = getQ k s := rfl
@[simp] theorem getEng_modTag (k : Eid) (f : TagSt → TagSt) (s : State) : getEng k (modTag f s) = getEng k s := rfl

/-! ### modPwr -/

@[simp] theorem modPwr_pending (f : Pwr → Pwr) (s : State) : (modPwr f s).pending = s.pending := rfl
@[simp] theorem modPwr_now (f : Pwr → Pwr) (s : State) : (modPwr f s).now = s.now := rfl
@[simp] theorem modPwr_freeCtr (f : Pwr → Pwr) (s : State) : (modPwr f s).freeCtr = s.freeCtr := rfl
@[simp] theorem modPwr_regs (f : Pwr → Pwr) (s : State) : (modPwr f s).regs = s.regs := rfl
@[simp] theorem modPwr_mram (f : Pwr → Pwr) (s : State) : (modPwr f s).mram = s.mram := rfl
@[simp] theorem modPwr_engs (f : Pwr → Pwr) (s : State) : (modPwr f s).engs = s.engs := rfl
@[simp] theorem modPwr_qs (f : Pwr → Pwr) (s : State) : (modPwr f s).qs = s.qs := rfl
@[simp] theorem modPwr_spare (f : Pwr → Pwr) (s : State) : (modPwr f s).spare = s.spare := rfl
@[simp] theorem modPwr_owed (f : Pwr → Pwr) (s : State) : (modPwr f s).owed = s.owed := rfl
@[simp] theorem modPwr_clock (f : Pwr → Pwr) (s : State) : (modPwr f s).clock = s.clock := rfl
@[simp] theorem modPwr_bar (f : Pwr → Pwr) (s : State) : (modPwr f s).bar = s.bar := rfl
@[simp] theorem modPwr_samp (f : Pwr → Pwr) (s : State) : (modPwr f s).samp = s.samp := rfl
@[simp] theorem modPwr_meters (f : Pwr → Pwr) (s : State) : (modPwr f s).meters = s.meters := rfl
@[simp] theorem modPwr_supply (f : Pwr → Pwr) (s : State) : (modPwr f s).supply = s.supply := rfl
@[simp] theorem modPwr_pairs (f : Pwr → Pwr) (s : State) : (modPwr f s).pairs = s.pairs := rfl
@[simp] theorem modPwr_calAct (f : Pwr → Pwr) (s : State) : (modPwr f s).calAct = s.calAct := rfl
@[simp] theorem modPwr_calPend (f : Pwr → Pwr) (s : State) : (modPwr f s).calPend = s.calPend := rfl
@[simp] theorem modPwr_vault (f : Pwr → Pwr) (s : State) : (modPwr f s).vault = s.vault := rfl
@[simp] theorem modPwr_bill (f : Pwr → Pwr) (s : State) : (modPwr f s).bill = s.bill := rfl
@[simp] theorem modPwr_upd (f : Pwr → Pwr) (s : State) : (modPwr f s).upd = s.upd := rfl
@[simp] theorem modPwr_net (f : Pwr → Pwr) (s : State) : (modPwr f s).net = s.net := rfl
@[simp] theorem modPwr_outs (f : Pwr → Pwr) (s : State) : (modPwr f s).outs = s.outs := rfl
@[simp] theorem modPwr_fold (f : Pwr → Pwr) (s : State) : (modPwr f s).fold = s.fold := rfl
@[simp] theorem modPwr_plm (f : Pwr → Pwr) (s : State) : (modPwr f s).plm = s.plm := rfl
@[simp] theorem modPwr_tag (f : Pwr → Pwr) (s : State) : (modPwr f s).tag = s.tag := rfl
@[simp] theorem modPwr_lcd (f : Pwr → Pwr) (s : State) : (modPwr f s).lcd = s.lcd := rfl
@[simp] theorem modPwr_lsw (f : Pwr → Pwr) (s : State) : (modPwr f s).lsw = s.lsw := rfl
@[simp] theorem rd_modPwr (g : Fld) (f : Pwr → Pwr) (s : State) : rd g (modPwr f s) = rd g s := rfl
@[simp] theorem getQ_modPwr (k : Qid) (f : Pwr → Pwr) (s : State) : getQ k (modPwr f s) = getQ k s := rfl
@[simp] theorem getEng_modPwr (k : Eid) (f : Pwr → Pwr) (s : State) : getEng k (modPwr f s) = getEng k s := rfl

/-! ### modLcd -/

@[simp] theorem modLcd_pending (f : Lcd → Lcd) (s : State) : (modLcd f s).pending = s.pending := rfl
@[simp] theorem modLcd_now (f : Lcd → Lcd) (s : State) : (modLcd f s).now = s.now := rfl
@[simp] theorem modLcd_freeCtr (f : Lcd → Lcd) (s : State) : (modLcd f s).freeCtr = s.freeCtr := rfl
@[simp] theorem modLcd_regs (f : Lcd → Lcd) (s : State) : (modLcd f s).regs = s.regs := rfl
@[simp] theorem modLcd_mram (f : Lcd → Lcd) (s : State) : (modLcd f s).mram = s.mram := rfl
@[simp] theorem modLcd_engs (f : Lcd → Lcd) (s : State) : (modLcd f s).engs = s.engs := rfl
@[simp] theorem modLcd_qs (f : Lcd → Lcd) (s : State) : (modLcd f s).qs = s.qs := rfl
@[simp] theorem modLcd_spare (f : Lcd → Lcd) (s : State) : (modLcd f s).spare = s.spare := rfl
@[simp] theorem modLcd_owed (f : Lcd → Lcd) (s : State) : (modLcd f s).owed = s.owed := rfl
@[simp] theorem modLcd_clock (f : Lcd → Lcd) (s : State) : (modLcd f s).clock = s.clock := rfl
@[simp] theorem modLcd_bar (f : Lcd → Lcd) (s : State) : (modLcd f s).bar = s.bar := rfl
@[simp] theorem modLcd_samp (f : Lcd → Lcd) (s : State) : (modLcd f s).samp = s.samp := rfl
@[simp] theorem modLcd_meters (f : Lcd → Lcd) (s : State) : (modLcd f s).meters = s.meters := rfl
@[simp] theorem modLcd_supply (f : Lcd → Lcd) (s : State) : (modLcd f s).supply = s.supply := rfl
@[simp] theorem modLcd_pairs (f : Lcd → Lcd) (s : State) : (modLcd f s).pairs = s.pairs := rfl
@[simp] theorem modLcd_calAct (f : Lcd → Lcd) (s : State) : (modLcd f s).calAct = s.calAct := rfl
@[simp] theorem modLcd_calPend (f : Lcd → Lcd) (s : State) : (modLcd f s).calPend = s.calPend := rfl
@[simp] theorem modLcd_vault (f : Lcd → Lcd) (s : State) : (modLcd f s).vault = s.vault := rfl
@[simp] theorem modLcd_bill (f : Lcd → Lcd) (s : State) : (modLcd f s).bill = s.bill := rfl
@[simp] theorem modLcd_upd (f : Lcd → Lcd) (s : State) : (modLcd f s).upd = s.upd := rfl
@[simp] theorem modLcd_net (f : Lcd → Lcd) (s : State) : (modLcd f s).net = s.net := rfl
@[simp] theorem modLcd_outs (f : Lcd → Lcd) (s : State) : (modLcd f s).outs = s.outs := rfl
@[simp] theorem modLcd_fold (f : Lcd → Lcd) (s : State) : (modLcd f s).fold = s.fold := rfl
@[simp] theorem modLcd_plm (f : Lcd → Lcd) (s : State) : (modLcd f s).plm = s.plm := rfl
@[simp] theorem modLcd_tag (f : Lcd → Lcd) (s : State) : (modLcd f s).tag = s.tag := rfl
@[simp] theorem modLcd_pwr (f : Lcd → Lcd) (s : State) : (modLcd f s).pwr = s.pwr := rfl
@[simp] theorem modLcd_lsw (f : Lcd → Lcd) (s : State) : (modLcd f s).lsw = s.lsw := rfl
@[simp] theorem rd_modLcd (g : Fld) (f : Lcd → Lcd) (s : State) : rd g (modLcd f s) = rd g s := rfl
@[simp] theorem getQ_modLcd (k : Qid) (f : Lcd → Lcd) (s : State) : getQ k (modLcd f s) = getQ k s := rfl
@[simp] theorem getEng_modLcd (k : Eid) (f : Lcd → Lcd) (s : State) : getEng k (modLcd f s) = getEng k s := rfl

/-! ### modLs -/

@[simp] theorem modLs_pending (c : Nat) (f : LsChan → LsChan) (s : State) : (modLs c f s).pending = s.pending := rfl
@[simp] theorem modLs_now (c : Nat) (f : LsChan → LsChan) (s : State) : (modLs c f s).now = s.now := rfl
@[simp] theorem modLs_freeCtr (c : Nat) (f : LsChan → LsChan) (s : State) : (modLs c f s).freeCtr = s.freeCtr := rfl
@[simp] theorem modLs_regs (c : Nat) (f : LsChan → LsChan) (s : State) : (modLs c f s).regs = s.regs := rfl
@[simp] theorem modLs_mram (c : Nat) (f : LsChan → LsChan) (s : State) : (modLs c f s).mram = s.mram := rfl
@[simp] theorem modLs_engs (c : Nat) (f : LsChan → LsChan) (s : State) : (modLs c f s).engs = s.engs := rfl
@[simp] theorem modLs_qs (c : Nat) (f : LsChan → LsChan) (s : State) : (modLs c f s).qs = s.qs := rfl
@[simp] theorem modLs_spare (c : Nat) (f : LsChan → LsChan) (s : State) : (modLs c f s).spare = s.spare := rfl
@[simp] theorem modLs_owed (c : Nat) (f : LsChan → LsChan) (s : State) : (modLs c f s).owed = s.owed := rfl
@[simp] theorem modLs_clock (c : Nat) (f : LsChan → LsChan) (s : State) : (modLs c f s).clock = s.clock := rfl
@[simp] theorem modLs_bar (c : Nat) (f : LsChan → LsChan) (s : State) : (modLs c f s).bar = s.bar := rfl
@[simp] theorem modLs_samp (c : Nat) (f : LsChan → LsChan) (s : State) : (modLs c f s).samp = s.samp := rfl
@[simp] theorem modLs_meters (c : Nat) (f : LsChan → LsChan) (s : State) : (modLs c f s).meters = s.meters := rfl
@[simp] theorem modLs_supply (c : Nat) (f : LsChan → LsChan) (s : State) : (modLs c f s).supply = s.supply := rfl
@[simp] theorem modLs_pairs (c : Nat) (f : LsChan → LsChan) (s : State) : (modLs c f s).pairs = s.pairs := rfl
@[simp] theorem modLs_calAct (c : Nat) (f : LsChan → LsChan) (s : State) : (modLs c f s).calAct = s.calAct := rfl
@[simp] theorem modLs_calPend (c : Nat) (f : LsChan → LsChan) (s : State) : (modLs c f s).calPend = s.calPend := rfl
@[simp] theorem modLs_vault (c : Nat) (f : LsChan → LsChan) (s : State) : (modLs c f s).vault = s.vault := rfl
@[simp] theorem modLs_bill (c : Nat) (f : LsChan → LsChan) (s : State) : (modLs c f s).bill = s.bill := rfl
@[simp] theorem modLs_upd (c : Nat) (f : LsChan → LsChan) (s : State) : (modLs c f s).upd = s.upd := rfl
@[simp] theorem modLs_net (c : Nat) (f : LsChan → LsChan) (s : State) : (modLs c f s).net = s.net := rfl
@[simp] theorem modLs_outs (c : Nat) (f : LsChan → LsChan) (s : State) : (modLs c f s).outs = s.outs := rfl
@[simp] theorem modLs_fold (c : Nat) (f : LsChan → LsChan) (s : State) : (modLs c f s).fold = s.fold := rfl
@[simp] theorem modLs_plm (c : Nat) (f : LsChan → LsChan) (s : State) : (modLs c f s).plm = s.plm := rfl
@[simp] theorem modLs_tag (c : Nat) (f : LsChan → LsChan) (s : State) : (modLs c f s).tag = s.tag := rfl
@[simp] theorem modLs_pwr (c : Nat) (f : LsChan → LsChan) (s : State) : (modLs c f s).pwr = s.pwr := rfl
@[simp] theorem modLs_lcd (c : Nat) (f : LsChan → LsChan) (s : State) : (modLs c f s).lcd = s.lcd := rfl
@[simp] theorem rd_modLs (g : Fld) (c : Nat) (f : LsChan → LsChan) (s : State) : rd g (modLs c f s) = rd g s := rfl
@[simp] theorem getQ_modLs (k : Qid) (c : Nat) (f : LsChan → LsChan) (s : State) : getQ k (modLs c f s) = getQ k s := rfl
@[simp] theorem getEng_modLs (k : Eid) (c : Nat) (f : LsChan → LsChan) (s : State) : getEng k (modLs c f s) = getEng k s := rfl

/-! ### modV -/

@[simp] theorem modV_pending (f : Vault → Vault) (s : State) : (modV f s).pending = s.pending := rfl
@[simp] theorem modV_now (f : Vault → Vault) (s : State) : (modV f s).now = s.now := rfl
@[simp] theorem modV_freeCtr (f : Vault → Vault) (s : State) : (modV f s).freeCtr = s.freeCtr := rfl
@[simp] theorem modV_regs (f : Vault → Vault) (s : State) : (modV f s).regs = s.regs := rfl
@[simp] theorem modV_mram (f : Vault → Vault) (s : State) : (modV f s).mram = s.mram := rfl
@[simp] theorem modV_engs (f : Vault → Vault) (s : State) : (modV f s).engs = s.engs := rfl
@[simp] theorem modV_qs (f : Vault → Vault) (s : State) : (modV f s).qs = s.qs := rfl
@[simp] theorem modV_spare (f : Vault → Vault) (s : State) : (modV f s).spare = s.spare := rfl
@[simp] theorem modV_owed (f : Vault → Vault) (s : State) : (modV f s).owed = s.owed := rfl
@[simp] theorem modV_clock (f : Vault → Vault) (s : State) : (modV f s).clock = s.clock := rfl
@[simp] theorem modV_bar (f : Vault → Vault) (s : State) : (modV f s).bar = s.bar := rfl
@[simp] theorem modV_samp (f : Vault → Vault) (s : State) : (modV f s).samp = s.samp := rfl
@[simp] theorem modV_meters (f : Vault → Vault) (s : State) : (modV f s).meters = s.meters := rfl
@[simp] theorem modV_supply (f : Vault → Vault) (s : State) : (modV f s).supply = s.supply := rfl
@[simp] theorem modV_pairs (f : Vault → Vault) (s : State) : (modV f s).pairs = s.pairs := rfl
@[simp] theorem modV_calAct (f : Vault → Vault) (s : State) : (modV f s).calAct = s.calAct := rfl
@[simp] theorem modV_calPend (f : Vault → Vault) (s : State) : (modV f s).calPend = s.calPend := rfl
@[simp] theorem modV_bill (f : Vault → Vault) (s : State) : (modV f s).bill = s.bill := rfl
@[simp] theorem modV_upd (f : Vault → Vault) (s : State) : (modV f s).upd = s.upd := rfl
@[simp] theorem modV_net (f : Vault → Vault) (s : State) : (modV f s).net = s.net := rfl
@[simp] theorem modV_outs (f : Vault → Vault) (s : State) : (modV f s).outs = s.outs := rfl
@[simp] theorem modV_fold (f : Vault → Vault) (s : State) : (modV f s).fold = s.fold := rfl
@[simp] theorem modV_plm (f : Vault → Vault) (s : State) : (modV f s).plm = s.plm := rfl
@[simp] theorem modV_tag (f : Vault → Vault) (s : State) : (modV f s).tag = s.tag := rfl
@[simp] theorem modV_pwr (f : Vault → Vault) (s : State) : (modV f s).pwr = s.pwr := rfl
@[simp] theorem modV_lcd (f : Vault → Vault) (s : State) : (modV f s).lcd = s.lcd := rfl
@[simp] theorem modV_lsw (f : Vault → Vault) (s : State) : (modV f s).lsw = s.lsw := rfl
@[simp] theorem rd_modV (g : Fld) (f : Vault → Vault) (s : State) : rd g (modV f s) = rd g s := rfl
@[simp] theorem getQ_modV (k : Qid) (f : Vault → Vault) (s : State) : getQ k (modV f s) = getQ k s := rfl
@[simp] theorem getEng_modV (k : Eid) (f : Vault → Vault) (s : State) : getEng k (modV f s) = getEng k s := rfl

/-! ### modUpd -/

@[simp] theorem modUpd_pending (f : Upd → Upd) (s : State) : (modUpd f s).pending = s.pending := rfl
@[simp] theorem modUpd_now (f : Upd → Upd) (s : State) : (modUpd f s).now = s.now := rfl
@[simp] theorem modUpd_freeCtr (f : Upd → Upd) (s : State) : (modUpd f s).freeCtr = s.freeCtr := rfl
@[simp] theorem modUpd_regs (f : Upd → Upd) (s : State) : (modUpd f s).regs = s.regs := rfl
@[simp] theorem modUpd_mram (f : Upd → Upd) (s : State) : (modUpd f s).mram = s.mram := rfl
@[simp] theorem modUpd_engs (f : Upd → Upd) (s : State) : (modUpd f s).engs = s.engs := rfl
@[simp] theorem modUpd_qs (f : Upd → Upd) (s : State) : (modUpd f s).qs = s.qs := rfl
@[simp] theorem modUpd_spare (f : Upd → Upd) (s : State) : (modUpd f s).spare = s.spare := rfl
@[simp] theorem modUpd_owed (f : Upd → Upd) (s : State) : (modUpd f s).owed = s.owed := rfl
@[simp] theorem modUpd_clock (f : Upd → Upd) (s : State) : (modUpd f s).clock = s.clock := rfl
@[simp] theorem modUpd_bar (f : Upd → Upd) (s : State) : (modUpd f s).bar = s.bar := rfl
@[simp] theorem modUpd_samp (f : Upd → Upd) (s : State) : (modUpd f s).samp = s.samp := rfl
@[simp] theorem modUpd_meters (f : Upd → Upd) (s : State) : (modUpd f s).meters = s.meters := rfl
@[simp] theorem modUpd_supply (f : Upd → Upd) (s : State) : (modUpd f s).supply = s.supply := rfl
@[simp] theorem modUpd_pairs (f : Upd → Upd) (s : State) : (modUpd f s).pairs = s.pairs := rfl
@[simp] theorem modUpd_calAct (f : Upd → Upd) (s : State) : (modUpd f s).calAct = s.calAct := rfl
@[simp] theorem modUpd_calPend (f : Upd → Upd) (s : State) : (modUpd f s).calPend = s.calPend := rfl
@[simp] theorem modUpd_vault (f : Upd → Upd) (s : State) : (modUpd f s).vault = s.vault := rfl
@[simp] theorem modUpd_bill (f : Upd → Upd) (s : State) : (modUpd f s).bill = s.bill := rfl
@[simp] theorem modUpd_net (f : Upd → Upd) (s : State) : (modUpd f s).net = s.net := rfl
@[simp] theorem modUpd_outs (f : Upd → Upd) (s : State) : (modUpd f s).outs = s.outs := rfl
@[simp] theorem modUpd_fold (f : Upd → Upd) (s : State) : (modUpd f s).fold = s.fold := rfl
@[simp] theorem modUpd_plm (f : Upd → Upd) (s : State) : (modUpd f s).plm = s.plm := rfl
@[simp] theorem modUpd_tag (f : Upd → Upd) (s : State) : (modUpd f s).tag = s.tag := rfl
@[simp] theorem modUpd_pwr (f : Upd → Upd) (s : State) : (modUpd f s).pwr = s.pwr := rfl
@[simp] theorem modUpd_lcd (f : Upd → Upd) (s : State) : (modUpd f s).lcd = s.lcd := rfl
@[simp] theorem modUpd_lsw (f : Upd → Upd) (s : State) : (modUpd f s).lsw = s.lsw := rfl
@[simp] theorem rd_modUpd (g : Fld) (f : Upd → Upd) (s : State) : rd g (modUpd f s) = rd g s := rfl
@[simp] theorem getQ_modUpd (k : Qid) (f : Upd → Upd) (s : State) : getQ k (modUpd f s) = getQ k s := rfl
@[simp] theorem getEng_modUpd (k : Eid) (f : Upd → Upd) (s : State) : getEng k (modUpd f s) = getEng k s := rfl

/-! ### modBill -/

@[simp] theorem modBill_pending (f : Bill → Bill) (s : State) : (modBill f s).pending = s.pending := rfl
@[simp] theorem modBill_now (f : Bill → Bill) (s : State) : (modBill f s).now = s.now := rfl
@[simp] theorem modBill_freeCtr (f : Bill → Bill) (s : State) : (modBill f s).freeCtr = s.freeCtr := rfl
@[simp] theorem modBill_regs (f : Bill → Bill) (s : State) : (modBill f s).regs = s.regs := rfl
@[simp] theorem modBill_mram (f : Bill → Bill) (s : State) : (modBill f s).mram = s.mram := rfl
@[simp] theorem modBill_engs (f : Bill → Bill) (s : State) : (modBill f s).engs = s.engs := rfl
@[simp] theorem modBill_qs (f : Bill → Bill) (s : State) : (modBill f s).qs = s.qs := rfl
@[simp] theorem modBill_spare (f : Bill → Bill) (s : State) : (modBill f s).spare = s.spare := rfl
@[simp] theorem modBill_owed (f : Bill → Bill) (s : State) : (modBill f s).owed = s.owed := rfl
@[simp] theorem modBill_clock (f : Bill → Bill) (s : State) : (modBill f s).clock = s.clock := rfl
@[simp] theorem modBill_bar (f : Bill → Bill) (s : State) : (modBill f s).bar = s.bar := rfl
@[simp] theorem modBill_samp (f : Bill → Bill) (s : State) : (modBill f s).samp = s.samp := rfl
@[simp] theorem modBill_meters (f : Bill → Bill) (s : State) : (modBill f s).meters = s.meters := rfl
@[simp] theorem modBill_supply (f : Bill → Bill) (s : State) : (modBill f s).supply = s.supply := rfl
@[simp] theorem modBill_pairs (f : Bill → Bill) (s : State) : (modBill f s).pairs = s.pairs := rfl
@[simp] theorem modBill_calAct (f : Bill → Bill) (s : State) : (modBill f s).calAct = s.calAct := rfl
@[simp] theorem modBill_calPend (f : Bill → Bill) (s : State) : (modBill f s).calPend = s.calPend := rfl
@[simp] theorem modBill_vault (f : Bill → Bill) (s : State) : (modBill f s).vault = s.vault := rfl
@[simp] theorem modBill_upd (f : Bill → Bill) (s : State) : (modBill f s).upd = s.upd := rfl
@[simp] theorem modBill_net (f : Bill → Bill) (s : State) : (modBill f s).net = s.net := rfl
@[simp] theorem modBill_outs (f : Bill → Bill) (s : State) : (modBill f s).outs = s.outs := rfl
@[simp] theorem modBill_fold (f : Bill → Bill) (s : State) : (modBill f s).fold = s.fold := rfl
@[simp] theorem modBill_plm (f : Bill → Bill) (s : State) : (modBill f s).plm = s.plm := rfl
@[simp] theorem modBill_tag (f : Bill → Bill) (s : State) : (modBill f s).tag = s.tag := rfl
@[simp] theorem modBill_pwr (f : Bill → Bill) (s : State) : (modBill f s).pwr = s.pwr := rfl
@[simp] theorem modBill_lcd (f : Bill → Bill) (s : State) : (modBill f s).lcd = s.lcd := rfl
@[simp] theorem modBill_lsw (f : Bill → Bill) (s : State) : (modBill f s).lsw = s.lsw := rfl
@[simp] theorem rd_modBill (g : Fld) (f : Bill → Bill) (s : State) : rd g (modBill f s) = rd g s := rfl
@[simp] theorem getQ_modBill (k : Qid) (f : Bill → Bill) (s : State) : getQ k (modBill f s) = getQ k s := rfl
@[simp] theorem getEng_modBill (k : Eid) (f : Bill → Bill) (s : State) : getEng k (modBill f s) = getEng k s := rfl

/-! ### Read after write -/

@[simp] theorem vget_vset_same {α : Type} {n : Nat} (v : Vector α n) (i : Fin n) (x : α) : vget (vset v i x) i = x := by
  simp [vget, vset]

theorem vget_vset_ne {α : Type} {n : Nat} (v : Vector α n) {i j : Fin n} (x : α) (h : j ≠ i) :
    vget (vset v i x) j = vget v j := by
  have h' : i.val ≠ j.val := fun e => h (Fin.ext e.symm)
  simp only [vget, vset]
  exact Vector.getElem_set_ne i.isLt j.isLt h'

/-- A register field reads what was written, cut to its width. -/
@[simp] theorem rd_wr_same (f : Fld) (v : Nat) (s : State) : rd f (wr f v s) = v % 2 ^ f.wid := by
  simp [rd, wr]

/-- A write of one field leaves every other field alone. -/
theorem rd_wr_ne {f g : Fld} (v : Nat) (s : State) (h : g.key ≠ f.key) : rd g (wr f v s) = rd g s := by
  simp only [rd, wr]
  exact SMap.get_put_ne _ _ _ _ h

@[simp] theorem getEng_setEng_same (e : Eid) (x : Eng) (s : State) : getEng e (setEng e x s) = x := by
  simp [getEng, setEng]

theorem getEng_setEng_ne {e k : Eid} (x : Eng) (s : State) (h : k ≠ e) : getEng k (setEng e x s) = getEng k s := by
  simp only [getEng, setEng]
  exact vget_vset_ne _ _ h

@[simp] theorem getQ_setQ_same (q : Qid) (x : Queue) (s : State) : getQ q (setQ q x s) = x := by
  simp [getQ, setQ]

theorem getQ_setQ_ne {q k : Qid} (x : Queue) (s : State) (h : k ≠ q) : getQ k (setQ q x s) = getQ k s := by
  simp only [getQ, setQ]
  exact vget_vset_ne _ _ h

/-! ### The memory keeps its canonical form -/

/-- The MRAM is in its canonical form. -/
theorem memWf_reset : SMap.wf 0 State.reset.mram = true := rfl

theorem memWf_mramWr (a : Nat) (bs : List Byte) (s : State) (h : SMap.wf 0 s.mram = true) :
    SMap.wf 0 (mramWr a bs s).mram = true := SMap.wf_putN a bs h

theorem memWf_zeroMram (a n : Nat) (s : State) (h : SMap.wf 0 s.mram = true) :
    SMap.wf 0 (zeroMram a n s).mram = true := SMap.wf_clearRange a n h

theorem memWf_clearManifest (r k : Nat) (s : State) (h : SMap.wf 0 s.mram = true) :
    SMap.wf 0 (clearManifest r k s).mram = true := SMap.wf_clearRange _ _ h

end Sys2Proof.Machine
end

