-- ==== Sys2Proof/Laws/Frame.lean ====
section
/-!
SUPPORT. Everything a queue operation can change, and everything the recorder can change, said once for every shared
operation: queues and the registers of QM and of the check-value units; with the recorder, its own state and
registers too.
-/
namespace Sys2Proof.Machine

theorem QueueOnly.refl (s : State) : QueueOnly s s := ⟨rfl, fun _ _ _ _ => rfl⟩

theorem QueueOnly.trans {s t u : State} (h : QueueOnly s t) (k : QueueOnly t u) : QueueOnly s u := by
  refine ⟨?_, fun g l a b => (k.2 g l a b).trans (h.2 g l a b)⟩
  have h1 := h.1
  have k1 := k.1
  cases s; cases t; cases u
  simp only [State.mk.injEq] at h1 k1 ⊢
  simp_all

theorem LogOnly.refl (s : State) : LogOnly s s := ⟨rfl, fun _ _ _ _ _ => rfl⟩

theorem LogOnly.trans {s t u : State} (h : LogOnly s t) (k : LogOnly t u) : LogOnly s u := by
  refine ⟨?_, fun g l a b c => (k.2 g l a b c).trans (h.2 g l a b c)⟩
  have h1 := h.1
  have k1 := k.1
  cases s; cases t; cases u
  simp only [State.mk.injEq] at h1 k1 ⊢
  simp_all

theorem QueueOnly.log {s t : State} (h : QueueOnly s t) : LogOnly s t := by
  refine ⟨?_, fun g l a b _ => h.2 g l a b⟩
  have h1 := h.1
  cases s; cases t
  simp only [State.mk.injEq] at h1 ⊢
  simp_all

/-- A write of a register of another block. -/
theorem rd_wr_block {f g : Fld} (v : Nat) (s : State) (hl : f.lsb < 32) (hg : g.lsb < 32) (h : g.block ≠ f.block) :
    rd g (wr f v s) = rd g s := by
  apply rd_wr_ne
  intro hk
  have h1 : g.addr * 32 + g.lsb = f.addr * 32 + f.lsb := hk
  have h2 : g.addr = f.addr := by omega
  exact h (by rw [Fld.block, Fld.block, h2])

/-- A write of a QWDCNT counter, or of a register of the check-value units. -/
theorem QueueOnly.wr {f : Fld} (v : Nat) (s : State) (hl : f.lsb < 32) (hb : f.isQCount = true ∨ f.block = 0x1B) :
    QueueOnly s (wr f v s) := by
  refine ⟨rfl, fun g l a b => ?_⟩
  rcases hb with h | h
  · refine rd_wr_ne v s fun hk => ?_
    have h1 : g.addr * 32 + g.lsb = f.addr * 32 + f.lsb := hk
    have h2 : g.addr = f.addr := by omega
    have h3 : g.isQCount = f.isQCount := by simp only [Fld.isQCount, h2]
    rw [a, h] at h3
    exact Bool.false_ne_true h3
  · exact rd_wr_block v s hl l (by rw [h]; exact b)

theorem QueueOnly.modQ (q : Qid) (f : Queue → Queue) (s : State) : QueueOnly s (modQ q f s) := ⟨rfl, fun _ _ _ _ => rfl⟩

theorem QueueOnly.setQ (q : Qid) (x : Queue) (s : State) : QueueOnly s (setQ q x s) := ⟨rfl, fun _ _ _ _ => rfl⟩

theorem QueueOnly.forEach {α : Type} (l : List α) (f : α → State → State) (h : ∀ a ∈ l, ∀ s, QueueOnly s (f a s)) (s : State) :
    QueueOnly s (forEach l f s) := by
  induction l generalizing s with
  | nil => exact QueueOnly.refl s
  | cons a l ih => exact (h a (by simp) s).trans (ih (fun b hb => h b (by simp [hb])) (f a s))

theorem LogOnly.forEach {α : Type} (l : List α) (f : α → State → State) (h : ∀ a ∈ l, ∀ s, LogOnly s (f a s)) (s : State) :
    LogOnly s (forEach l f s) := by
  induction l generalizing s with
  | nil => exact LogOnly.refl s
  | cons a l ih => exact (h a (by simp) s).trans (ih (fun b hb => h b (by simp [hb])) (f a s))

theorem ck_block {u : Nat} (hu : u < 4) (k : Nat) (hk : k < 0x100) : (0x1B000000 + u * 0x100 + k) / 2 ^ 24 = 0x1B := by
  omega

theorem queueOnly_ckFeed {u : Nat} (hu : u < 4) (bs : List Byte) (s : State) : QueueOnly s (ckFeed u bs s) := by
  unfold ckFeed ckSetVal
  have b1 : (R.CHK_CKVALLO_V u).block = 0x1B := by simp only [Fld.block, R.CHK_CKVALLO_V]; omega
  have b2 : (R.CHK_CKVALHI_V u).block = 0x1B := by simp only [Fld.block, R.CHK_CKVALHI_V]; omega
  have b3 : (R.CHK_CKCNT_N u).block = 0x1B := by simp only [Fld.block, R.CHK_CKCNT_N]; omega
  exact ((QueueOnly.wr _ s (Nat.le_of_ble_eq_true rfl) (.inr b1)).trans (QueueOnly.wr _ _ (Nat.le_of_ble_eq_true rfl) (.inr b2))).trans
    (QueueOnly.wr _ _ (Nat.le_of_ble_eq_true rfl) (.inr b3))

theorem queueOnly_ckQueue (q : Nat) (seq : Byte) (m : Msg) (s : State) : QueueOnly s (ckQueue q seq m s) := by
  have one : ∀ u ∈ [0, 1, 2, 3], ∀ s, QueueOnly s (ckQueueOne q seq m s u) := by
    intro u hu s
    have hu4 : u < 4 := by simp at hu; omega
    unfold ckQueueOne
    split
    · dsimp only
      split
      · exact queueOnly_ckFeed hu4 _ s
      · split
        · exact queueOnly_ckFeed hu4 _ s
        · exact QueueOnly.refl s
    · exact QueueOnly.refl s
  exact QueueOnly.forEach [0, 1, 2, 3] (fun u s => ckQueueOne q seq m s u) one s

theorem queueOnly_enterNow (q : Nat) (m : Msg) (s : State) : QueueOnly s (enterNow q m s) :=
  (queueOnly_ckQueue q _ m s).trans (QueueOnly.modQ _ _ _)

theorem queueOnly_drainLate (q : Nat) (l : List Msg) (s : State) : QueueOnly s (drainLate q l s) := by
  induction l generalizing s with
  | nil => exact QueueOnly.modQ _ _ _
  | cons m l ih =>
    unfold drainLate
    split
    · exact QueueOnly.modQ _ _ _
    · exact (queueOnly_enterNow q m s).trans (ih _)

theorem queueOnly_settle (q : Nat) (s : State) : QueueOnly s (settle q s) := queueOnly_drainLate q _ s

theorem queueOnly_putQ (q : Nat) (m : Msg) (s : State) : QueueOnly s (putQ q m s) := by
  unfold putQ
  split
  · exact QueueOnly.refl s
  · split
    · exact queueOnly_enterNow q m s
    · exact QueueOnly.modQ _ _ _

theorem queueOnly_corrected (q : Nat) (es : List (Byte × Msg)) (s : State) : QueueOnly s (corrected q es s) := by
  unfold corrected
  dsimp only
  split
  · exact QueueOnly.refl s
  · exact (QueueOnly.modQ _ _ s).trans (QueueOnly.wr _ _ (by decide) (.inl rfl))

theorem queueOnly_takeN (q k : Nat) (s : State) : QueueOnly s (takeN q k s) :=
  ((queueOnly_corrected q _ s).trans (QueueOnly.setQ _ _ _)).trans (queueOnly_settle q _)

theorem queueOnly_passQ (q : Nat) (ms : List Msg) (s : State) : QueueOnly s (passQ q ms s) := by
  unfold passQ
  split
  · exact (QueueOnly.forEach _ _ (fun m _ s => queueOnly_enterNow q m s) s).trans (queueOnly_takeN q _ _)
  · exact QueueOnly.refl s

theorem queueOnly_drainQ (q : Nat) (ms : List Msg) (s : State) : QueueOnly s (drainQ q ms s) :=
  ((QueueOnly.modQ _ _ _).trans (QueueOnly.forEach _ _ (fun m _ s => queueOnly_enterNow q m s) _)).trans
    (queueOnly_takeN q _ _)

/-! ### The completions in their order (R98) -/

theorem QueueOnly.owed (l : List Owed) (s : State) : QueueOnly s { s with owed := l } := ⟨rfl, fun _ _ _ _ => rfl⟩

theorem queueOnly_owe (c own t w0 : Nat) (s : State) : QueueOnly s (owe c own t w0 s) := QueueOnly.owed _ s

theorem queueOnly_oweVia (f : Nat) (v : Option Nat) (now : Bool) (s : State) : QueueOnly s (oweVia f v now s) :=
  QueueOnly.owed _ s

theorem queueOnly_oweTaken (f c t w0 : Nat) (s : State) : QueueOnly s (oweTaken f c t w0 s) := by
  unfold oweTaken
  split
  · exact QueueOnly.owed _ s
  · exact QueueOnly.refl s

theorem queueOnly_releaseOwed (kept l : List Owed) (s : State) : QueueOnly s (releaseOwed kept l s) := by
  induction l generalizing kept s with
  | nil => exact QueueOnly.owed _ s
  | cons x l ih =>
    unfold releaseOwed
    split
    · exact ih _ s
    · split
      · exact ih _ s
      · refine QueueOnly.trans ?_ (ih _ _)
        split
        · exact (queueOnly_passQ _ _ s).trans (QueueOnly.forEach _ _ (fun m _ s => queueOnly_putQ _ m s) _)
        · exact QueueOnly.forEach _ _ (fun m _ s => queueOnly_putQ _ m s) s

theorem queueOnly_settleOwed (s : State) : QueueOnly s (settleOwed s) := queueOnly_releaseOwed _ _ s

theorem queueOnly_completeAs (now : Bool) (q t w0 w1 status : Nat) (cs : List Cont) (s : State) :
    QueueOnly s (completeAs now q t w0 w1 status cs s) :=
  (QueueOnly.owed _ s).trans (queueOnly_settleOwed _)

theorem queueOnly_completeWith (q t w0 w1 status : Nat) (cs : List Cont) (s : State) :
    QueueOnly s (completeWith q t w0 w1 status cs s) := queueOnly_completeAs false q t w0 w1 status cs s

theorem queueOnly_complete (q t w0 w1 status : Nat) (s : State) : QueueOnly s (complete q t w0 w1 status s) :=
  queueOnly_completeWith q t w0 w1 status [] s

theorem queueOnly_reply (n : Fin 8) (t w0 w1 status : Nat) (s : State) : QueueOnly s (reply n t w0 w1 status s) :=
  queueOnly_completeAs true _ t w0 w1 status [] s

theorem queueOnly_withdraw (q o typ w0 : Nat) (seq : Option Byte) (s : State) : QueueOnly s (withdraw q o typ w0 seq s) := by
  unfold withdraw
  split
  · exact queueOnly_complete _ _ _ _ _ s
  · split
    · exact queueOnly_putQ _ _ s
    · exact QueueOnly.refl s

theorem isQCount_qwdcnt {q : Nat} (hq : q < 128) : (R.QM_QWDCNT_COUNT q).isQCount = true := by
  rw [Fld.isQCount, Bool.or_eq_true]
  exact .inl (decide_eq_true (by simp only [R.QM_QWDCNT_COUNT]; omega))

theorem queueOnly_pushDisabled {q : Nat} (hq : q < 128) (o : Nat) (m : Msg) (s : State) :
    QueueOnly s (pushDisabled q o m s) := by
  unfold pushDisabled
  split
  · exact queueOnly_withdraw _ _ _ _ _ s
  · split
    · exact QueueOnly.wr _ s (Nat.le_of_ble_eq_true rfl) (.inl (isQCount_qwdcnt hq))
    · exact QueueOnly.refl s

theorem queueOnly_pushQ {q : Nat} (hq : q < 128) (o : Nat) (m : Msg) (s : State) : QueueOnly s (pushQ q o m s) := by
  unfold pushQ
  split
  · exact queueOnly_putQ q m s
  · exact queueOnly_pushDisabled hq o m s

theorem queueOnly_pushAll {q : Nat} (hq : q < 128) (o : Nat) (m : Msg) (cs : List Cont) (s : State) :
    QueueOnly s (pushAll q o m cs s) := by
  unfold pushAll
  split
  · exact QueueOnly.forEach _ _ (fun m _ s => queueOnly_putQ q m s) s
  · exact queueOnly_pushDisabled hq o m s

theorem queueOnly_arrive (q : Nat) (ms : List Msg) (s : State) : QueueOnly s (arrive q ms s) := by
  unfold arrive
  split
  · exact queueOnly_takeN q _ s
  · exact queueOnly_passQ q ms s

theorem queueOnly_forward (q : Nat) (dest : Msg → Nat) (ms : List Msg) (s : State) : QueueOnly s (forward q dest ms s) :=
  (queueOnly_drainQ q ms s).trans (QueueOnly.forEach _ _ (fun m _ s => queueOnly_putQ _ m s) _)

theorem queueOnly_relay {q : Nat} (hq : q < 128) (o : Nat) (dest : Msg → Nat) (m : Msg) (cs : List Cont) (s : State) :
    QueueOnly s (relay q o dest m cs s) := by
  unfold relay
  split
  · exact queueOnly_forward q dest _ s
  · exact queueOnly_pushAll hq o m cs s

theorem queueOnly_pushWait (q : Nat) (ms : List Msg) (s : State) : QueueOnly s (pushWait q ms s) := by
  unfold pushWait
  split
  · exact QueueOnly.refl s
  · exact QueueOnly.forEach _ _ (fun m _ s => queueOnly_putQ q m s) s

theorem queueOnly_endStream (q : Nat) (dest : Msg → Nat) (s : State) : QueueOnly s (endStream q dest s) := by
  unfold endStream
  split
  · exact queueOnly_forward q dest _ s
  · exact queueOnly_putQ q _ s

theorem queueOnly_transit (q o t : Nat) (w0 w1 : W24) (s : State) : QueueOnly s (transit q o t w0 w1 s) := by
  unfold transit
  split
  · exact (queueOnly_passQ q _ s).trans (queueOnly_passQ _ _ _)
  · exact queueOnly_passQ q _ s

theorem queueOnly_withdrawEntered (q o : Nat) (l : List (Byte × Msg)) (s : State) :
    QueueOnly s (withdrawEntered q o l s) := by
  induction l generalizing s with
  | nil => exact QueueOnly.refl s
  | cons e l ih =>
    unfold withdrawEntered
    refine QueueOnly.trans ?_ (ih _)
    split
    · exact queueOnly_withdraw _ _ _ _ _ s
    · exact QueueOnly.refl s

theorem queueOnly_whenS (c : Bool) (f : State → State) (h : ∀ s, QueueOnly s (f s)) (s : State) : QueueOnly s (whenS c f s) := by
  unfold whenS
  split
  · exact h s
  · exact QueueOnly.refl s

theorem queueOnly_withdrawLate (q o : Nat) (ms : List Msg) (s : State) : QueueOnly s (withdrawLate q o ms s) :=
  QueueOnly.forEach _ _ (fun _ _ s => queueOnly_withdraw _ _ _ _ _ s) s

theorem queueOnly_disableQ (q o : Nat) (stream : Bool) (s : State) : QueueOnly s (disableQ q o stream s) := by
  unfold disableQ
  dsimp only
  split
  · exact QueueOnly.refl s
  · exact ((((queueOnly_withdrawEntered q o _ s).trans (queueOnly_withdrawLate q o _ _)).trans (QueueOnly.modQ _ _ _)).trans
      (queueOnly_whenS stream _ (fun s => queueOnly_putQ q _ s) _)).trans (QueueOnly.modQ _ _ _)

theorem queueOnly_enableQ (q cap : Nat) (s : State) : QueueOnly s (enableQ q cap s) := QueueOnly.modQ _ _ _

theorem queueOnly_refuseHeads (n : Nat) (l : List Msg) (s : State) : QueueOnly s (refuseHeads n l s) := by
  induction l generalizing s with
  | nil => exact QueueOnly.refl s
  | cons m l ih =>
    unfold refuseHeads
    split
    · refine (queueOnly_takeN n 1 s).trans (QueueOnly.trans ?_ (ih _))
      split
      · exact (queueOnly_owe _ _ _ _ _).trans (queueOnly_completeAs _ _ _ _ _ _ _ _)
      · exact QueueOnly.refl _
    · exact QueueOnly.refl s

/-- What TE0 does before a request reaches its head: messages that no host request is are taken off (log entry 103). -/
theorem queueOnly_lookAtHead (n : Nat) (s : State) : QueueOnly s (lookAtHead n s) := by
  unfold lookAtHead
  split
  · exact queueOnly_refuseHeads n _ s
  · exact QueueOnly.refl s

/-! ### The recorder -/

theorem LogOnly.wr {f : Fld} (v : Nat) (s : State) (hl : f.lsb < 32) (hb : f.block = 0x1D) : LogOnly s (wr f v s) :=
  ⟨rfl, fun g l _ _ c => rd_wr_block v s hl l (by rw [hb]; exact c)⟩

theorem LogOnly.modBar (f : Bar → Bar) (s : State) : LogOnly s (modBar f s) := ⟨rfl, fun _ _ _ _ _ => rfl⟩

theorem logOnly_queueEntry (e : LogEntry) (s : State) : LogOnly s (queueEntry e s) := LogOnly.modBar _ s

theorem logOnly_toHostVia {q : Nat} (hq : q < 128) (m : Msg) (s : State) : LogOnly s (toHostVia q m s) :=
  (queueOnly_relay hq 0 _ m [] s).log

theorem logOnly_logStatus (kind count : Nat) (s : State) : LogOnly s (logStatus kind count s) :=
  logOnly_toHostVia (by decide) _ s

theorem logOnly_releaseHeld (s : State) : LogOnly s (releaseHeld s) :=
  (LogOnly.modBar _ s).trans (LogOnly.wr (f := R.BAR_FREEZE_HELD) _ _ (by decide) rfl)

theorem logOnly_freezeEnd (cause : Nat) (s : State) : LogOnly s (freezeEnd cause s) := by
  have h : ∀ s : State, LogOnly s (wrs [(R.BAR_FREEZE_FRZ, 0), (R.BAR_FREEZE_FCAUSE, cause)] s) :=
    fun s => (LogOnly.wr (f := R.BAR_FREEZE_FRZ) _ s (by decide) rfl).trans (LogOnly.wr (f := R.BAR_FREEZE_FCAUSE) _ _ (by decide) rfl)
  unfold freezeEnd
  split
  · exact LogOnly.refl s
  · dsimp only
    split
    · exact ((h s).trans (logOnly_releaseHeld _)).trans (LogOnly.modBar _ _)
    · exact ((((h s).trans (logOnly_releaseHeld _)).trans (LogOnly.modBar _ _)).trans (logOnly_queueEntry _ _)).trans (logOnly_logStatus _ _ _)

theorem logOnly_holdEntry (e : LogEntry) (s : State) : LogOnly s (holdEntry e s) := by
  unfold holdEntry
  split
  · exact (LogOnly.modBar _ s).trans (LogOnly.wr _ _ (by decide) rfl)
  · split
    · exact (logOnly_freezeEnd 2 s).trans (logOnly_queueEntry e _)
    · exact (LogOnly.wr (f := R.BAR_HOLD_HOLDOVF) _ s (by decide) rfl).trans (LogOnly.modBar _ _)

theorem logOnly_acceptTrigger (src : Nat) {c : Nat} (hc : c < 256) (outlet : Nat) (data : List Nat) (s : State) :
    LogOnly s (acceptTrigger src c outlet data s) := by
  have h : LogOnly s (incSat (R.BAR_CLASS_COUNT c) s) :=
    LogOnly.wr _ s (Nat.le_of_ble_eq_true rfl) (by simp only [Fld.block, R.BAR_CLASS_COUNT]; omega)
  unfold acceptTrigger
  dsimp only
  split
  · exact h
  · split
    · exact h.trans (logOnly_holdEntry _ _)
    · exact h.trans (logOnly_queueEntry _ _)

/-- A record of the part's own changes nothing but the queues and the recorder. -/
theorem logOnly_logEvent (src : Nat) {c : Nat} (hc : c < 256) (outlet : Nat) (data : List Nat) (s : State) :
    LogOnly s (logEvent src c outlet data s) :=
  (queueOnly_whenS _ _ (fun s => queueOnly_passQ 116 _ s) s).log.trans (logOnly_acceptTrigger src hc outlet data _)

theorem logOnly_logFault (legal : Bool) (code eng q detail : Nat) (s : State) :
    LogOnly s (logFault legal code eng q detail s) := by
  cases legal <;> exact logOnly_logEvent _ (by decide) _ _ s

theorem logOnly_logEngine (e kind exc : Nat) (s : State) : LogOnly s (logEngine e kind exc s) :=
  logOnly_logEvent _ (by decide) _ _ s

theorem logOnly_logFold (o kind cause w1 : Nat) (s : State) : LogOnly s (logFold o kind cause w1 s) :=
  logOnly_logEvent _ (by decide) _ _ s

theorem logOnly_logSlack (s : State) : LogOnly s (logSlack s) := logOnly_logEvent _ (by decide) _ _ s

end Sys2Proof.Machine
end

