-- ==== Sys2Proof/Laws/Issue.lean ====
section
/-!
SUPPORT. What issuing a Treltor instruction can do, said once: where every issuing member's instruction goes through
with the same effect beyond the engines, the engines are replaced and that effect follows; where every member raises
an exception of the program outside a handler, every member enters its handler.
-/
namespace Sys2Proof.Machine

/-- The engines of the listed members replaced. -/
def setEngs (ms : List Nat) (f : Nat → Eng) (s : State) : State := ms.foldl (fun t m => setEng (en m) (f m) t) s

theorem setEngs_cons (m : Nat) (ms : List Nat) (f : Nat → Eng) (s : State) :
    setEngs (m :: ms) f s = setEngs ms f (setEng (en m) (f m) s) := rfl

theorem setEngs_regs (ms : List Nat) (f : Nat → Eng) (s : State) : (setEngs ms f s).regs = s.regs := by
  induction ms generalizing s with
  | nil => rfl
  | cons m ms ih => rw [setEngs_cons, ih, setEng_regs]

/-- An engine issues alone, with its peer, or not at all. -/
theorem issuers_length (e : Nat) (s : State) : (issuers e s).length ≤ 2 := by
  unfold issuers
  split
  · exact (List.length_filter_le _ _).trans (by simp)
  · split <;> simp

/-- The member whose effect the part takes is one of those that issue. -/
theorem effOwner_mem (e : Nat) (rs : Nat → Except Raise Act) (s : State) (h : issuers e s ≠ []) :
    effOwner e ((issuers e s).map fun m => (m, rs m)) s ∈ issuers e s := by
  have two : ∀ a b : Nat, ∀ l : List Nat, issuers e s = a :: b :: l →
      isPaired e = true ∧ a = pairLow e ∧ b = pairLow e + 1 ∧ l = [] := by
    intro a b l hl
    unfold issuers at hl
    split at hl
    · rename_i hp
      by_cases h1 : running (pairLow e) s = true <;> by_cases h2 : running (pairLow e + 1) s = true <;>
        simp [List.filter, h1, h2] at hl
      exact ⟨hp, hl.1.symm, hl.2.1.symm, hl.2.2⟩
    · split at hl <;> simp at hl
  cases hl : issuers e s with
  | nil => exact absurd hl h
  | cons a l =>
    cases l with
    | nil => simp [effOwner]
    | cons b l =>
      obtain ⟨hp, rfl, rfl, rfl⟩ := two a b l hl
      simp only [effOwner, List.map_cons, hp, if_true, activeOf]
      split <;> simp

/-- Only pushes and stores are kept for the next acknowledgement point. -/
theorem trackEff_same (e : Nat) (standby : Bool) {f : Eff} (s : State) (hp : ∀ q m, f ≠ .push q m) (hs : ∀ a v, f ≠ .store a v) :
    trackEff e standby f s = s := by
  cases f with
  | push q m => exact absurd rfl (hp q m)
  | store a v => exact absurd rfl (hs a v)
  | _ => rfl

theorem trackAll_same (e act : Nat) (ms : List Nat) (f : Nat → Eng) {eff : Eff} (s : State) (hp : ∀ q m, eff ≠ .push q m)
    (hs : ∀ a v, eff ≠ .store a v) : trackAll e act (ms.map fun m => (m, (f m, eff))) s = s := by
  unfold trackAll
  split
  · induction ms with
    | nil => rfl
    | cons m ms ih =>
      show forEach (ms.map fun m => (m, (f m, eff))) _ (trackEff e (m != act) eff s) = s
      rw [trackEff_same e _ s hp hs]; exact ih
  · rfl

theorem commitAll_passed (e : Nat) (ms : List Nat) (f : Nat → Eng) (eff : Eff) (s : State)
    (h : effOwner e (ms.map fun m => (m, (.ok (f m, eff) : Except Raise Act))) s ∈ ms) :
    commitAll e (ms.map fun m => (m, (.ok (f m, eff) : Except Raise Act))) s =
      trackAll e (effOwner e (ms.map fun m => (m, (.ok (f m, eff) : Except Raise Act))) s)
        (ms.map fun m => (m, (f m, eff))) (applyEff e eff (setEngs ms f s)) := by
  have hp : ∀ l : List Nat, passed (l.map fun m => (m, (.ok (f m, eff) : Except Raise Act))) =
      l.map fun m => (m, (f m, eff)) := by
    intro l
    induction l with
    | nil => rfl
    | cons m l ih =>
      simp only [passed, List.map_cons, List.filterMap_cons] at ih ⊢
      rw [ih]
  have hr : raised (ms.map fun m => (m, (.ok (f m, eff) : Except Raise Act))) = [] := by
    simp [raised]
  have hs : forEach (ms.map fun m => (m, (f m, eff))) (fun r s => setEng (en r.1) r.2.1 s) s = setEngs ms f s := by
    simp [forEach, setEngs, List.foldl_map]
  have hx : ∀ (alone : Bool) (t : State), takeExceptions e alone [] t = t := fun _ _ => rfl
  have ho : ∀ a ∈ ms, ownEff e a (ms.map fun m => (m, (f m, eff))) [] = some eff := by
    intro a ha
    unfold ownEff
    split
    · rename_i r hf
      obtain ⟨m, -, rfl⟩ := List.mem_map.1 (List.mem_of_find?_eq_some hf)
      rfl
    · rename_i hn
      exact absurd (List.find?_eq_none.1 hn (a, (f a, eff)) (List.mem_map.2 ⟨a, ha, rfl⟩)) (by simp)
  unfold commitAll
  simp only [hp, hr, hs, hx, ho _ h]

/-- Every member able, not blocked, and through: the engines are replaced, the one effect follows, and of a duplex pair
what both have pushed and stored is kept beside. -/
theorem issue_passed (e : Eid) (bad : Bool) (g : Guard) (rs : Reads) (body : Body) (s : State) (f : Nat → Eng) (eff : Eff)
    (hne : issuers e s ≠ []) (hb : ∀ m ∈ issuers e s, (getEng (en m) s).blocked = .no)
    (hr : ∀ m ∈ issuers e s, runOne bad g rs body m s = .ok (f m, eff)) :
    issue e bad g rs body s =
      trackAll e (effOwner e ((issuers e s).map fun m => (m, (.ok (f m, eff) : Except Raise Act))) s)
        ((issuers e s).map fun m => (m, (f m, eff))) (applyEff e eff (setEngs (issuers e s) f s)) := by
  have h1 : (issuers e s).isEmpty = false := by simpa using hne
  have h2 : ((issuers e s).any fun m => (getEng (en m) s).blocked != .no) = false := by
    rw [List.any_eq_false]; intro m hm; simp [hb m hm]
  have h3 : ((issuers e s).map fun m => (m, runOne bad g rs body m s)) =
      (issuers e s).map fun m => (m, (.ok (f m, eff) : Except Raise Act)) :=
    List.map_congr_left fun m hm => by rw [hr m hm]
  unfold issue
  simp only [h1, h2, Bool.or_self, Bool.false_eq_true, if_false, h3]
  exact commitAll_passed e _ f eff s (effOwner_mem e _ s hne)

/-- The same where the effect is neither a push nor a store. -/
theorem issue_alone (e : Eid) (bad : Bool) (g : Guard) (rs : Reads) (body : Body) (s : State) (f : Nat → Eng) (eff : Eff)
    (hne : issuers e s ≠ []) (hb : ∀ m ∈ issuers e s, (getEng (en m) s).blocked = .no)
    (hr : ∀ m ∈ issuers e s, runOne bad g rs body m s = .ok (f m, eff))
    (hp : ∀ q m, eff ≠ .push q m) (hs : ∀ a v, eff ≠ .store a v) :
    issue e bad g rs body s = applyEff e eff (setEngs (issuers e s) f s) := by
  rw [issue_passed e bad g rs body s f eff hne hb hr, trackAll_same _ _ _ _ _ hp hs]

end Sys2Proof.Machine
end

