-- ==== Sys2Proof/Laws/Request.lean ====
section
/-!
SUPPORT. How a request goes: where the conditions of its queue and of its consumer hold it is taken and has its effect;
on a disabled queue it completes WITHDRAWN.
-/
namespace Sys2Proof.Machine

/-- A host request that TE0 takes (R92, R103). -/
theorem hostReq_served {n : Fin 8} {t : Nat} {w0 w1 : W24} {cs : List Cont} {ready : Bool} (k : State → State) {s : State}
    (hen : (getQ (qn n) s).en = true) (hq : canTake n (reqMsgs t w0 w1 cs) s = true) (hup : te0Up s = true)
    (hact : s.upd.act = none) (hrec : recovery s = false ∨ loaderServes t = true) (hbill : billingWaits s = false)
    (hr : ready = true) :
    hostReq n t w0 w1 cs ready k s = k (owe (8 + n) n t w0.toNat (arrive n (reqMsgs t w0 w1 cs) s)) := by
  unfold hostReq
  rcases hrec with h | h <;> simp [hen, hq, hup, hact, hbill, hr, h]

/-- A host request on a disabled queue (R111). -/
theorem hostReq_disabled {n : Fin 8} {t : Nat} {w0 w1 : W24} {cs : List Cont} {ready : Bool} (k : State → State) {s : State}
    (hen : (getQ (qn n) s).en = false) :
    hostReq n t w0 w1 cs ready k s = withdraw n 0 t w0.toNat none s := by
  simp [hostReq, hen]

/-- A host request behind others waits in its queue (R103), once TE0 has looked at what stands at the head. -/
theorem hostReq_behind {n : Fin 8} {t : Nat} {w0 w1 : W24} {cs : List Cont} {ready : Bool} (k : State → State) {s : State}
    (hen : (getQ (qn n) s).en = true) (hq : canTake n (reqMsgs t w0 w1 cs) s = false)
    (hl : canTake n (reqMsgs t w0 w1 cs) (lookAtHead n s) = false) :
    hostReq n t w0 w1 cs ready k s = pushWait n (reqMsgs t w0 w1 cs) (lookAtHead n s) := by
  simp [hostReq, hen, hq, hl]

/-- A request that its consumer takes. -/
theorem takeReq_served {q o t w0 c : Nat} {ms : List Msg} {ready : Bool} (k : State → State) {s : State}
    (hen : (getQ (qn q) s).en = true) (hq : canTake q ms s = true) (hr : ready = true) (hc : complQ q o = some c) :
    takeReq q o t w0 ms ready k s = k (owe c q t w0 (arrive q ms s)) := by
  simp [takeReq, hen, hq, hr, hc]

/-- A request pushed into a disabled queue (R111). -/
theorem takeReq_disabled {q o t w0 : Nat} {ms : List Msg} {ready : Bool} (k : State → State) {s : State}
    (hen : (getQ (qn q) s).en = false) : takeReq q o t w0 ms ready k s = withdraw q o t w0 none s := by
  simp [takeReq, hen]

/-- A host request that TE0 has taken and its owner on queue `f` carries out at once. -/
theorem forwardReq_served {f o : Nat} {n : Fin 8} {t : Nat} {w0 w1 : W24} {cs : List Cont} {ready : Bool}
    (k : State → State) {s : State} (hen : (getQ (qn f) s).en = true) (hq : clearQ f s = true) (hr : ready = true) :
    forwardReq f o n t w0 w1 cs ready k s =
      k (passQ f (reqMsgs t w0 w1 cs) (oweVia f (complQ f o) true s)) := by
  simp [forwardReq, hen, hq, hr]

end Sys2Proof.Machine
end

