-- ==== Sys2Proof/Tests/Slice0.lean ====
section
/-!
SUPPORT. Tests of the model: words written out from the encoding tables of the spec, the spec's worked examples, and
for each obligation with hypotheses a state and operands that meet them (the theorems witness_…).
-/
set_option maxRecDepth 100000
set_option Elab.async false

namespace Sys2Proof.Tests
open Sys2Proof.Machine Sys2Proof.Claims

/-! ### A part that has started -/

/-- The registers after the start: every domain on, every engine running, the standby members standing by. -/
def upRegs : SMap Nat :=
  let s := wrs [(R.PWR_PDSTAT_ON, 0xFFF), (R.PWR_CORE_VCOK, 1)] State.reset
  ([0, 1, 2, 3, 4, 5, 6, 7, 8, 9, 11, 13, 15].foldl (fun s e => setEngState e 3 s)
    ([10, 12, 14].foldl (fun s e => setEngState e 6 s) s)).regs

/-- The part after its start: its queues as the shipped plan gives them. -/
def up : State := { State.reset with
  regs := upRegs
  qs := Vector.ofFn fun q => if shippedCap q = 0 then Queue.reset else Queue.enable (shippedCap q) Queue.reset
  bill := { Bill.reset with loaded := true, resumed := true }
  pwr := { Pwr.reset with down := false } }

/-- `s` with bytes placed in its MRAM. -/
def placed (base : Nat) (bs : List Byte) (s : State) : State := { s with mram := bs.zipIdx.map fun b => (base + b.2, b.1) }

/-- A bare part with engine 3 running as `f` makes it: small enough to step an instruction on. -/
def eng3 (f : Eng → Eng) : State := setEng 3 (f (getEng 3 State.reset)) (setEngState 3 3 State.reset)

/-- The engine 3 after an instruction. -/
def ran (i : Instr) (s : State) : Eng :=
  match exec i s with
  | .next t => getEng 3 t
  | _ => getEng 3 s

/-- Engine 3 with G1 and G2 set. -/
def two (a b : W24) : Eng → Eng := fun x => { x with g := vset (vset x.g 1 a) 2 b }

/-! ### Words written out from the encoding tables (R54 to R61) -/

/-- A word from its major opcode, fields D, A and B, and bits [13:0]. -/
def word (major d a b low : Nat) : Nat := major * 2 ^ 26 + d * 2 ^ 22 + a * 2 ^ 18 + b * 2 ^ 14 + low

theorem test_decode_alu : [word 0 1 2 3 0x01, word 0 1 2 0 0x3807, word 0 2 3 4 0x1A, word 0 5 1 0 0x20, word 0 1 2 3 0x0101].map
    (decodeTreltor 3) = [some (.add 3 ⟨false, 0⟩ 1 2 3), some (.neg 3 ⟨true, 3⟩ 1 2), some (.cmpltu 3 ⟨false, 0⟩ 2 3 4),
      some (.movgx 3 ⟨false, 0⟩ 5 1), none] := by decide +kernel
theorem test_decode_alui : [word 4 1 2 0 0x3FFF, word 4 1 2 1 0x3FFF, word 4 1 2 4 31, word 4 1 2 4 32, word 4 1 2 9 0x3FF,
    word 4 1 2 15 0].map (decodeTreltor 3) = [some (.addi 3 1 2 0x3FFF), some (.andi 3 1 2 0x3FFF), some (.shli 3 1 2 31), none,
      some (.insh 3 1 2 0x3FF), none] := by decide +kernel
theorem test_decode_mac : [word 1 1 2 3 0x00, word 1 4 1 0 0x10, word 1 4 1 2 0x18, word 1 2 2 3 0x00].map (decodeTreltor 3) =
    [some (.mpy 3 ⟨false, 0⟩ 1 2 3), some (.movah 3 ⟨false, 0⟩ 4 1), some (.mpyr 3 ⟨false, 0⟩ 4 1 2), none] := by decide +kernel
theorem test_decode_mem : [word 8 1 9 0 0x3FFF, word 8 5 2 1 4, word 8 2 9 2 1, word 8 2 10 2 1, word 8 1 1 4 0].map
    (decodeTreltor 3) = [some (.ld 3 1 true 1 0x3FFF), some (.st 3 5 false 2 4), some (.ldx 3 2 true 1 1), none, none] := by
  decide +kernel
theorem test_decode_transfer : [0x10 * 2 ^ 26 + 7 * 2 ^ 22 + 0x3FFFFF, 0x11 * 2 ^ 26 + 0x123, 0x12 * 2 ^ 26 + 0x3FFFFFF,
    0x10 * 2 ^ 26 + 15 * 2 ^ 22].map (decodeTreltor 3) =
    [some (.b 3 7 0x3FFFFF), some (.call 3 0x123), some (.jmp 3 0x3FFFFFF), none] := by decide +kernel
theorem test_decode_queue : [word 0x18 1 2 3 (64 * 128), word 0x18 1 2 3 (8 * 128 + 0x10), word 0x18 1 2 2 (8 * 128 + 0x10),
    word 0x18 1 2 3 (127 * 128 + 0x5C), word 0x18 0 0 0 0x60].map (decodeTreltor 3) =
    [some (.qpush 3 64 1 2 3), some (.qpop 3 8 1 2 3), none, some (.qpopn 3 127 1 2 3 3), some (.fence 3)] := by decide +kernel
theorem test_decode_sys : [word 0x1F 4 0 0 0x04, word 0x1F 1 2 0 0x06, word 0x1F 5 0 9 0x08, 0xFFFFFFFF].map (decodeTreltor 3) =
    [some (.trap 3 ⟨false, 0⟩ 4), some (.wait 3 ⟨false, 0⟩ 1 2), some (.mrs 3 ⟨false, 0⟩ 5 9), none] := by decide +kernel
theorem test_encode_agrees : (Instr.qpopn 3 127 1 2 3 3).wf = true ∧
    encodeTreltor (.qpopn 3 127 1 2 3 3) = some (word 0x18 1 2 3 (127 * 128 + 0x5C)) ∧
    encodeTreltor (.ldx 3 2 true 1 1) = some (word 8 2 9 2 1) := by decide +kernel

/-! ### Well-formedness: an ill-formed term for each check -/

theorem test_wf_ldx_post_same : (Instr.ldx 3 2 true 2 1).wf = false ∧ (Instr.ldx 3 2 false 2 1).wf = true := by decide
theorem test_wf_branch_cond_15 : (Instr.b 3 15 4).wf = false ∧ (Instr.b 3 14 4).wf = true := by decide
theorem test_wf_pop_repeats : (Instr.qpop 3 8 1 2 1).wf = false ∧ (Instr.qpeek 3 8 1 1 2).wf = false ∧
    (Instr.qpopn 3 8 2 1 1 3).wf = false ∧ (Instr.qpop 3 8 1 2 3).wf = true := by decide
theorem test_wf_image_too_long (ws : List W32) (h : 0x20000 < ws.length) : (Instr.engineLoad 3 ws 0).wf = false :=
  decide_eq_false (Nat.not_le.mpr h)

/-! ### Steps of single instructions, with results worked out by hand from the spec -/

/-- R63: 0x7FFFFF + 1 saturates, and wraps where MODE.OVF is 1; V and SV are set, no carry. -/
theorem test_add_overflow : let x := ran (.add 3 always 0 1 2) (eng3 (two 0x7FFFFF 1))
    x.gr 0 = 0x7FFFFF ∧ x.status = 0x18 ∧ x.pc = 1 ∧
    (ran (.add 3 always 0 1 2) (eng3 fun x => { two 0x7FFFFF 1 x with mode := 4 })).gr 0 = 0x800000 := by decide +kernel
/-- R64: C of a subtraction is the borrow. -/
theorem test_sub_borrow : (ran (.sub 3 always 1 1 2) (eng3 (two 1 2))).status = 0x06 ∧
    (ran (.sub 3 always 1 1 2) (eng3 (two 1 2))).gr 1 = 0xFFFFFF := by decide +kernel
/-- The worked example of R65: 0xFFFFFF + 0 + 1 carries on and keeps the chained Z. -/
theorem test_addc_chain : let x := ran (.addc 3 always 1 1 2) (eng3 fun x => { two 0xFFFFFF 0 x with status := 4 })
    x.gr 1 = 0 ∧ x.status = 4 := by decide +kernel
/-- The worked example of rounding and fitting, half way cases under the three modes. -/
theorem test_mpyr_rounds : ([0, 1, 2].map fun m => [3, 5, 0xFFFFFB].map fun b =>
    (ran (.mpyr 3 always 0 1 2) (eng3 fun x => { two 0x400000 b x with mode := m })).gr 0) =
    [[1, 2, 0xFFFFFD], [2, 2, 0xFFFFFE], [2, 3, 0xFFFFFE]] := by decide +kernel
/-- MPY of −1 by −1 is exact in an accumulator. -/
theorem test_mpy_minus_one : (ran (.mpy 3 always 1 1 2) (eng3 (two 0x800000 0x800000))).ar 1 = 0x800000000000 := by
  decide +kernel
/-- R58: NORM of 0 is 23; a shift by 24 gives 0; SAR gives the sign. -/
theorem test_norm_shift : (ran (.norm 3 always 0 1) (eng3 (two 0 0))).gr 0 = 23 ∧
    (ran (.shl 3 always 0 1 2) (eng3 (two 1 24))).gr 0 = 0 ∧
    (ran (.sar 3 always 0 1 2) (eng3 (two 0x800000 31))).gr 0 = 0xFFFFFF := by decide +kernel
/-- R57: a guard that fails only moves PC on. -/
theorem test_guard_fails : let x := ran (.mov 3 ⟨true, 0⟩ 0 1) (eng3 (two 7 0))
    x.gr 0 = 0 ∧ x.pc = 1 ∧ x.cyc = 1 := by decide +kernel
/-- R60: post-modify uses the old address and wraps at 2^20. -/
theorem test_ld_post : let x := ran (.ld 3 0 true 1 0x3FFF) (eng3 fun x => { x with dmem := [(0, 0x123456)] })
    x.gr 0 = 0x123456 ∧ x.xr 1 = 0xFFFFF := by decide +kernel
/-- R61, R75: RET on an empty return stack raises STACK (5). -/
theorem test_ret_empty : let x := ran (.ret 3 always) (eng3 id)
    x.exc = true ∧ x.pc.toNat = x.vbase.toNat + 4 * x.ecode.toNat ∧ x.epc = 0 := by decide +kernel
/-- R75: TRAP 7 saves the following PC, ECODE 9 and the trap number. -/
theorem test_trap : let x := ran (.trap 3 always 7) (eng3 id)
    x.epc = 1 ∧ x.ecode = 0x000709 ∧ x.status = 0x20 := by decide +kernel

/-! ### Worked examples of the other chapters -/

/-- Switching context in the middle of a record (R416). -/
theorem test_crc8_context : crcFeed crc8Param 0 0x31 = 0x97 ∧ crcFeed crc8Param 0x97 0x32 = 0x72 ∧
    crc8 [0x31, 0x32] = 0x72 := by decide +kernel
theorem test_crc32_values : safeCrc [0x31, 0x32, 0x33, 0x34, 0x35, 0x36, 0x37, 0x38, 0x39] = 0x1697D06A ∧
    crc32 [0x31, 0x32, 0x33, 0x34, 0x35, 0x36, 0x37, 0x38, 0x39] = 0xCBF43926 := by decide +kernel
/-- The wrap is exact: the fifth comb delivers 2^25, which enters HB1 as 2^30. -/
theorem test_comb_wrap : ([376992, 10424128, 75287520, 40883840, 124325664].foldl (fun (r : List Nat × Nat) x => combs x r.1)
    ([0, 0, 0, 0, 0], 0)).2 = 33554432 ∧ cicToQ31 33554432 = 0x40000000 := by decide +kernel
/-- The day of 1,936,547,551 is 2031-05-14. -/
theorem test_civil : civil 22413 = (2031, 5, 14) ∧ civil 0 = (1970, 1, 1) ∧ (22413 + 3) % 7 = 2 := by decide +kernel
/-- R245: 32 A is a duty of 53.30 %. -/
theorem test_duty : dutyOf 320 = 1066 ∧ dutyOf 800 = 1920 ∧ dutyOf 60 = 200 := by decide +kernel
/-- The digits of a reading: outlet 3, A+ of 12,345,678,901 µWh, clock VALID. -/
theorem test_digits : energyRows 0 ⟨3, 0, 12345678901 * 2 ^ 32, 0, 0x2000⟩ = [0x3F5BE3, 0x1CFE82, 0x0EEA62, 0x047141] := by
  decide +kernel

/-! ### Witnesses: Treltor instructions -/

/-- Engine 3 with P1 set and word 5 of its data memory written. -/
def guarded : State := eng3 fun x => { x with p := vset x.p 1 true, dmem := [(5, 9)], x := vset x.x 2 5 }

theorem ready3 : Ready 3 always guarded ∧ Ready 3 ⟨false, 1⟩ guarded ∧ Ready 3 ⟨true, 2⟩ guarded ∧ issuers 3 guarded = [3] := by
  unfold Ready Able; decide +kernel
/-- Both members of the metering pair issue an instruction of engine 9. -/
theorem ready9 : let s := setEngState 9 3 (setEngState 10 3 State.reset)
    Ready 9 always s ∧ issuers 9 s = [9, 10] := by unfold Ready Able; decide +kernel
theorem plainly3 (f : Eng → Eng) : ∀ m ∈ issuers 3 guarded, ∃ y, plainly f m guarded (fetched m guarded) = some (y, .none) :=
  fun _ _ => ⟨_, rfl⟩

theorem witness_ModeGovernedArithmeticFits : (∃ d v c, governed (.add 3 ⟨false, 1⟩ 0 1 2) = some (3, ⟨false, 1⟩, d, v, c)) ∧
    (∃ d v c, governed (.shlsi 9 0 1 31) = some (9, always, d, v, c)) ∧ Ready 3 ⟨false, 1⟩ guarded :=
  ⟨⟨_, _, _, rfl⟩, ⟨_, _, _, rfl⟩, ready3.2.1⟩
theorem witness_MultiwordChainWraps : (∃ d v c ch, chain (.subb 3 ⟨true, 2⟩ 0 1 2) = some (3, ⟨true, 2⟩, d, v, c, ch)) ∧
    Ready 3 ⟨true, 2⟩ guarded := ⟨⟨_, _, _, _, rfl⟩, ready3.2.2.1⟩
theorem witness_MovesLogicAndShiftsSetZN : (∃ d v, zn (.insh 3 0 1 0x3FF) = some (3, always, d, v)) ∧ Ready 3 always guarded :=
  ⟨⟨_, _, rfl⟩, ready3.1⟩
theorem witness_ComparesAndAddressesKeepFlags : (∃ f, flagless (.cmplt 3 ⟨false, 1⟩ 0 1 2) = some (3, ⟨false, 1⟩, f)) ∧
    Ready 3 ⟨false, 1⟩ guarded := ⟨⟨_, rfl⟩, ready3.2.1⟩
theorem witness_AccumulatorArithmeticFits : (∃ d v, accumulate (.shla 3 always 1 2) = some (3, always, d, v)) ∧
    Ready 3 always guarded := ⟨⟨_, _, rfl⟩, ready3.1⟩
theorem witness_AccumulatorMovesKeepOtherParts : (∃ d v, moveIn (.putag 3 always 1 2) = some (3, always, d, v)) ∧
    Ready 3 always guarded := ⟨⟨_, _, rfl⟩, ready3.1⟩
theorem witness_RoundedMovesFollowMode : (∃ d v k, rounding (.mpyr 3 always 1 2 3) = some (3, always, d, v, k)) ∧
    Ready 3 always guarded := ⟨⟨_, _, _, rfl⟩, ready3.1⟩

/-- The members' effect `f` in `s` is `eff`. -/
def does (e : Eid) (f : Effect) (eff : Eff) (s : State) : Bool :=
  (issuers e s).all fun m => match f m s (fetched m s) with
    | some (_, x) => decide (x = eff)
    | none => false

theorem witness_LoadsReadDataMemory : Ready 3 always guarded ∧
    (∃ f, loads (.ld 3 1 true 2 0x3FFF) = some (3, f) ∧ does 3 f .none guarded = true) ∧
    (∃ f, loads (.ldx 3 2 false 2 0) = some (3, f) ∧ does 3 f .none guarded = true) :=
  ⟨ready3.1, ⟨_, rfl, by decide +kernel⟩, ⟨_, rfl, by decide +kernel⟩⟩
theorem witness_StoresWriteOneDataWord : (∃ v, stores (.stx 3 1 false 2 1) = some (3, false, 2, 1, v)) ∧
    Ready 3 always guarded ∧
    ∀ m ∈ issuers 3 guarded, dataOk m (ea false 2 1 (fetched m guarded)) (fetched m guarded) = true :=
  ⟨⟨_, rfl⟩, ready3.1, by decide +kernel⟩
/-- A call with a return stack one short of full, a taken branch backwards, and RTE inside a handler. -/
theorem witness_ControlTransfersSetPc :
    (let s := eng3 fun x => { x with rstack := List.replicate 15 0 }
     Ready 3 always s ∧ ∃ f, transfers (.call 3 0) = some (3, always, f) ∧ does 3 f .none s = true) ∧
    (let s := eng3 fun x => { x with pc := 9, status := 1 }
     Ready 3 always s ∧ ∃ f, transfers (.b 3 7 0x3FFFF6) = some (3, always, f) ∧ does 3 f .none s = true) ∧
    (let s := eng3 fun x => { x with status := 0x20, epc := 7 }
     Ready 3 always s ∧ ∃ f, transfers (.rte 3 always) = some (3, always, f) ∧ does 3 f .none s = true) := by
  unfold Ready Able
  exact ⟨⟨by decide +kernel, _, rfl, by decide +kernel⟩, ⟨by decide +kernel, _, rfl, by decide +kernel⟩,
    ⟨by decide +kernel, _, rfl, by decide +kernel⟩⟩
theorem witness_TrapAndInvalidWordEnterHandlers : Ready 3 always guarded ∧
    (∀ m ∈ issuers 3 guarded, (getEng (en m) guarded).exc = false) ∧ decodeTreltor 3 (0xFFFFFFFF : W32).toNat = none :=
  ⟨ready3.1, by decide +kernel, by decide +kernel⟩
/-- WAIT for nothing, MRS of STATUS, MSR of MODE, HALT on an outlet engine, and FENCE. -/
theorem witness_SystemInstructionsComplete : Ready 3 always guarded ∧
    (∃ f, system (.wait 3 always 1 2) = some (3, always, f) ∧ does 3 f .ack guarded = true) ∧
    (∃ f, system (.mrs 3 always 1 0) = some (3, always, f) ∧ does 3 f .none guarded = true) ∧
    (∃ f, system (.msr 3 always 1 0) = some (3, always, f) ∧ does 3 f .none guarded = true) ∧
    (∃ f, system (.halt 3 always) = some (3, always, f) ∧ does 3 f .halt guarded = true) :=
  ⟨ready3.1, ⟨_, rfl, by decide +kernel⟩, ⟨_, rfl, by decide +kernel⟩, ⟨_, rfl, by decide +kernel⟩, ⟨_, rfl, by decide +kernel⟩⟩

/-- Engine 3 between its request queue, with one message, and its reply queue. -/
def queued : State :=
  let s := modQ 74 (fun x => { x with en := true, cap := 64 }) guarded
  modQ 66 (fun x => { x with en := true, cap := 64, ent := [(7, ⟨1, 2, 3⟩)] }) s

theorem ready_queued : Ready 3 always queued := by unfold Ready Able; decide +kernel

theorem witness_QueueInstructionsComplete : Ready 3 always queued ∧
    (∃ f, queueOps (.qpush 3 74 1 2 3) = some (3, f) ∧ does 3 f (.push 74 ⟨0, 0, 0⟩) queued = true) ∧
    (∃ f, queueOps (.qpushn 3 74 1 2 3 1) = some (3, f) ∧
      does 3 f .none (modQ 74 (fun x => { x with cap := 0 }) queued) = true) ∧
    (∃ f, queueOps (.qpop 3 66 1 2 3) = some (3, f) ∧ does 3 f (.pop 66) queued = true) ∧
    (∃ f, queueOps (.qpopn 3 66 1 2 3 1) = some (3, f) ∧
      does 3 f .none (modQ 66 (fun x => { x with ent := [] }) queued) = true) ∧
    (∃ f, queueOps (.qstat 3 74 1) = some (3, f) ∧ does 3 f .none queued = true) :=
  ⟨ready_queued, ⟨_, rfl, by decide +kernel⟩, ⟨_, rfl, by decide +kernel⟩, ⟨_, rfl, by decide +kernel⟩,
    ⟨_, rfl, by decide +kernel⟩, ⟨_, rfl, by decide +kernel⟩⟩

/-- The members' effect of an instruction that waits, which is not fetched again. -/
def goesOn (e : Eid) (f : Effect) (eff : Eff) (s : State) : Bool :=
  (issuers e s).all fun m => match f m s (getEng (en m) s) with
    | some (_, x) => decide (x = eff)
    | none => false
/-- `queued` with engine 3 waiting. -/
def waiting (b : Blocked) : State := setEng 3 { getEng 3 queued with blocked := b, qwlim := 5 } queued

theorem witness_BlockedInstructionsGoOn : issuers 3 (waiting (.pop 66 1 2 3)) ≠ [] ∧
    (∃ f, resumes (.blockedQueueOpComplete 3) = some (3, f) ∧ goesOn 3 f (.pop 66) (waiting (.pop 66 1 2 3)) = true) ∧
    (∃ f, resumes (.waitWake 3) = some (3, f) ∧ goesOn 3 f .ack (waiting (.wait 1 2)) = true) ∧
    ((getEng 3 (waiting (.wait 1 2))).blocked = .wait 1 2 ∧ (getEng 3 (waiting (.wait 1 2))).gr 2 = 0 ∧ isPaired 3 = false) ∧
    (∀ m ∈ issuers 3 (waiting (.pop 66 1 2 3)), (getEng (en m) (waiting (.pop 66 1 2 3))).blocked = .pop 66 1 2 3 ∧
      engConsumes m 66 (waiting (.pop 66 1 2 3)) = true) ∧
    (∀ m ∈ issuers 3 (waiting (.push 74 1 2 3)), (getEng (en m) (waiting (.push 74 1 2 3))).qwlim ≠ 0 ∧
      (getEng (en m) (waiting (.push 74 1 2 3))).exc = false ∧ waitsForQueue (getEng (en m) (waiting (.push 74 1 2 3))) = true) :=
  ⟨by decide +kernel, ⟨_, rfl, by decide +kernel⟩, ⟨_, rfl, by decide +kernel⟩, by decide +kernel, by decide +kernel, by decide +kernel⟩

/-! ### Witnesses: the fabric and the engines -/

theorem up_served (n : Fin 8) : Served n up := by revert n; unfold Served; decide +kernel
theorem up_te0 : te0Up up = true ∧ Awake up := by unfold Awake; decide +kernel

theorem witness_StepRunsFrontCommand : { State.reset with pending := [Instr.fence 3] }.pending = Instr.fence 3 :: [] := rfl
theorem witness_IdleStepAdvancesClock : State.reset.pending = [] ∧ (State.reset.now + 1) % 1000000 ≠ 0 := by decide +kernel
theorem witness_DecodeInvertsEncode : (Instr.jmp 3 0x3FFFFFF).wf = true ∧ encodeTreltor (.jmp 3 0x3FFFFFF) = some 0x4BFFFFFF ∧
    issuer (.jmp 3 0x3FFFFFF) = some 3 := by decide +kernel
theorem witness_EncodeInvertsDecode : (0x4BFFFFFF : Nat) < 2 ^ 32 ∧ decodeTreltor 3 0x4BFFFFFF = some (.jmp 3 0x3FFFFFF) := by
  decide +kernel

theorem witness_HostQueueAccessesMoveMessages :
    (hostGate true (qreg 0 0x14) up = none ∧ hostProduces 0 up = true ∧ (getQ 0 up).en = true ∧ 16 ∉ (getQ 0 up).cut ∧ (getQ 0 up).late = [] ∧
      (getQ 0 up).full = false) ∧
    (let s := modQ 8 (fun x => { x with ent := [(3, ⟨1, 2, 3⟩)] }) up
     hostGate false (qreg 8 0x1C) s = none ∧ hostConsumes 8 s = true ∧ (getQ 8 s).ent = (3, ⟨1, 2, 3⟩) :: [] ∧
      (getQ 8 s).dlv.length < 128) ∧
    (let s := modQ 8 (fun x => { x with dlv := [(3, ⟨1, 2, 3⟩), (4, ⟨1, 2, 3⟩)] }) up
     hostGate true (qreg 8 0x20) s = none ∧ hostConsumes 8 s = true ∧
      (getQ 8 s).dlv.findIdx? (fun e => e.1 == BitVec.ofNat 8 (4 : W32).toNat) = some 1) ∧
    (hostGate true 0x10000010 up = none ∧ hostConsumes ((8 : W32).toNat % 128) up = true) := by decide +kernel

theorem witness_QueueManagerEventsAct :
    (hostGate true 0x10000004 up = none ∧ (1 : W32).toNat % 2 = 1) ∧
    hostGate true (0x1000400C + (10 : Fin 11).val * 0x10) up = none ∧
    (let s := modQ 8 (fun x => { x with late := [⟨1, 2, 3⟩] }) up
     (getQ 8 s).late = ⟨1, 2, 3⟩ :: [] ∧ (getQ 8 s).full = false) ∧
    (let s := modQ 8 (fun x => { x with ent := [(3, ⟨1, 2, 3⟩)] }) up
     (getQ 8 s).dlv = [] ∧ (getQ 8 s).ent[0]? = some (3, ⟨1, 2, 3⟩)) ∧
    (getQ 8 (modQ 8 (fun x => { x with dlv := [(3, ⟨1, 2, 3⟩)] }) up)).dlv[0]? = some (3, ⟨1, 2, 3⟩) ∧
    (let s := modQ 74 (fun x => { x with stg := [(3, ⟨1, 2, 3⟩)] }) up
     (getQ 74 s).dlv = [] ∧ (getQ 74 s).ent = [] ∧ (getQ 74 s).stg[0]? = some (3, ⟨1, 2, 3⟩)) := by decide +kernel

/-- `up` with engine `e` in state `v`. -/
def engIs (e v : Nat) (f : Eng → Eng) : State := setEng (en e) (f (getEng (en e) up)) (setEngState e v up)

theorem witness_EngineReloadsWipeAndLoad :
    (let s := engIs 15 5 id; te0Up s = true ∧ (getEng 15 s).final = false ∧ engState 15 s = 5) ∧
    (let s := engIs 8 4 id; te0Up s = true ∧ (getEng 8 s).final = false ∧ engState 8 s = 4) ∧
    (let s := placed (mfAt 2 0 + 65) [1] (engIs 8 2 id)
     te0Up s = true ∧ engState 8 s = 2 ∧ loadTurn 8 s = true ∧ sectOk 8 s = true ∧
       (sectFor (engRegion 8) 8 s).map (fun q => q.2.2) = some (0 : W32).toNat) ∧
    (te0Up up = true ∧ engState 1 up = 3 ∧ outOfService 0 up = true) ∧
    (let s := engIs 8 2 fun x => { x with loadOk := true }
     te0Up s = true ∧ engState 8 s = 2 ∧ startHeld 8 s = false ∧ (getEng 8 s).loadOk = true ∧
      (getQ (qn (79 + 8)) s).ent = [] ∧ (getQ (qn (95 + 8)) s).ent = []) ∧
    (let s := engIs 15 2 fun x => { x with loadOk := false, loadTries := 1 }
     te0Up s = true ∧ engState 15 s = 2 ∧ isPaired 15 = false ∧ startHeld 15 s = false ∧ (getEng 15 s).loadOk = false) ∧
    (let s := engIs 9 2 fun x => { x with loadOk := true }
     te0Up s = true ∧ engState 9 s = 2 ∧ isPaired 9 = true ∧ startHeld 9 s = false ∧ (getEng 9 s).loadOk = true) := by
  decide +kernel

theorem witness_WipeEndsAndEnginesLoad : engState 3 (engIs 3 1 id) = 1 ∧ wipeRuns 3 (engIs 3 1 id) = false ∧
    { up with pwr := { up.pwr with wipe := some .supervisor } }.pwr.wipe = some .supervisor := by decide +kernel

theorem witness_SupervisorResetsRestartEngines : Awake up ∧ te0Up up = true ∧
    (let s := { up with now := 100000, pwr := { up.pwr with wdtAt := some 0 } }
     Awake s ∧ ∀ t, s.pwr.wdtAt = some t → t + rd R.PWR_WDT_TOUT s * 1000 ≤ s.now) := by
  refine ⟨up_te0.2, up_te0.1, ?_, ?_⟩
  · unfold Awake; decide +kernel
  · intro t h; cases h; decide +kernel

theorem witness_PairMembersFailAndTakeOver :
    (let s := engIs 10 3 id; running 9 s = true ∧ running (peer 9) s = true) ∧
    (let s := setEngState 9 5 up
     pairUp (pairLo 0) s = false ∧ engState (pairLo 0 + true.toNat) s = 6 ∧ engState (pairLo 0 + (!true).toNat) s ≠ 6) ∧
    (isPaired 14 = true ∧ running 14 (engIs 14 3 id) = true) ∧
    ((running (pairLo 1) up || running (pairLo 1 + 1) up) = true ∧
      ((getPair 1 up).faults.filter fun t => decide (up.now < t + 60000000)).length < 2) := by unfold peer; decide +kernel

theorem witness_StoppedMemberRejoins :
    (let s := engIs 10 5 id
     isPaired 10 = true ∧ te0Up s = true ∧ engState 10 s = 5 ∧ (getEng 10 s).final = false ∧ engState (peer 10) s = 3 ∧ standbyReload (pairIdx 10) s = none) ∧
    (let s := modPair (pairIdx 10) (fun x => { x with swept := true }) (engIs 10 2 id)
     isPaired 10 = true ∧ engState 10 s = 2 ∧ engState (peer 10) s = 3 ∧ (getPair (pairIdx 10) s).swept = true ∧
      chkOf (getEng (en (peer 10)) s).dmem = (getEng (en (peer 10)) s).chk) := by unfold peer; decide +kernel

/-! ### Witnesses: sampling, decimation and energy -/

/-- `up` with channel `c` of outlet `o` enabled, its fields written, and changed. -/
def chan (o c : Nat) (fs : List (Fld × Nat)) (f : Chan → Chan) : State :=
  modCh o c f (wrs fs (wr (R.FLT_CHCFG_EN o c) 1 (wr (R.FLT_CHSTAT_SLOTA o c) 1 { up with samp := { up.samp with started := true } })))

/-- What a sampling request asks for, without the change. -/
def accepted (s : State) (i : Instr) : Option (Fin 8 × Nat × W24 × Bool) :=
  (asked s i).map fun x => (x.1, x.2.1, x.2.2.1, x.2.2.2.1)

theorem witness_SamplingRequestsWaitForTheirFrame :
    (let s := chan 7 13 [] id
     accepted s (.setPreset 7 0x7D 1) = some (7, 0x18, 0x7D, true) ∧ Owned 7 0x7D s ∧
      flag (R.FLT_CHSTAT_FLT (reqOutlet 0x7D) (reqChan 0x7D)) s = false ∧
      (getCh (reqOutlet 0x7D) (reqChan 0x7D) s).chg = .none ∧ (getCh (reqOutlet 0x7D) (reqChan 0x7D) s).testOn = false) ∧
    accepted (chan 0 0 [] id) (.setResponse 0 0 0x9F) = some (0, 0x10, 0, true) ∧
    accepted (chan 8 0 [] id) (.setRate 0 0x80 6) = some (0, 0x11, 0x80, true) ∧
    accepted (chan 0 2 [] id) (.setCompanion 0 2 1) = some (0, 0x12, 2, true) ∧
    accepted up (.setDetect 0 2 0x100 0 0) = some (0, 0x13, 2, true) ∧
    accepted up (.setEnable 0 2 1) = some (0, 0x14, 2, true) ∧
    accepted up (.setSplice 0 7 3) = some (0, 0x15, 7, true) := by
  unfold Owned Served Open
  refine ⟨?_, ?_, ?_, ?_, ?_, ?_, ?_⟩ <;> decide +kernel

/-- A slot with a line of `k` inputs. -/
def aSlot (k : Nat) : Slot := ⟨List.replicate k 0, 0, 0, 0⟩

theorem witness_PendingChangesTakeEffect :
    (let s := chan 0 2 [(R.FLT_CHSTAT_SLOTB 0 2, 2), (R.FLT_CHSTAT_RESPB 0 2, 1)] fun x => { x with chg := .resp 1, slotB := aSlot 129 }
     govern 0 2 = 2 ∧ (getCh 0 2 s).chg = .resp 1 ∧ ShadowIs 0 2 1 1 s ∧ shadowFull 0 2 1 s = true) ∧
    (let s := chan 8 3 [(R.FLT_CHSTAT_XFREM 8 3, 0)] fun x => { x with chg := .xfade 15 4 }
     govern 8 3 = 3 ∧ (getCh 8 3 s).chg = .xfade 15 4 ∧ rd (R.FLT_CHSTAT_XFREM 8 3) s = 0 ∧ rd (R.FLT_CHSTAT_SLOTA 8 3) s = 1) ∧
    (let s := chan 0 4 [(R.FLT_IDX_N, 63)] fun x => { x with chg := .rate 6, tails := List.replicate 6 ⟨List.replicate 31 0, 0, false⟩ }
     (getCh 0 4 s).chg = .rate 6 ∧ tailReady 0 4 6 (nextIdx s) s = true) ∧
    (let s := chan 0 13 [(R.FLT_IDX_N, 7), (R.FLT_CHSTAT_SLOTB 0 13, 2), (R.FLT_CHSTAT_RESPB 0 13, 11)] fun x =>
       { x with chg := .preset 2, slotB := aSlot 65, tails := List.replicate 6 ⟨List.replicate 31 0, 0, false⟩ }
     (getCh 0 13 s).chg = .preset 2 ∧ ShadowIs 0 13 11 1 s ∧ shadowFull 0 13 11 s = true ∧
       tailReady 0 13 3 (nextIdx s) s = true ∧ atFast 0 13 s = false) := by unfold ShadowIs; decide +kernel

theorem witness_FramesAreNumberedAndTimed : pdOn 4 State.reset = false ∧ pdOn 4 up = true := by decide +kernel

theorem witness_ModulatorEventsAreCounted :
    (let s := chan 8 3 [] id
     chOn 8 3 s = true ∧ (getCh 8 3 s).fed < 511 ∧ (getCh 8 3 s).rst = 0 ∧ (getCh 8 3 s).nErr = 0 ∧
      rd (R.FLT_MODCNT_CODEERR 8 3) s < 255) ∧
    (let s := chan 0 13 [(R.FLT_MODCNT_RSTCNT 0 13, 254)] fun x => { x with run := 255, ext := -2 }
     chOn 0 13 s = true ∧ (getCh 0 13 s).run = 255 ∧ (getCh 0 13 s).ext = -2 ∧ (getCh 0 13 s).fed < 511 ∧
      (getCh 0 13 s).rst = 0 ∧ (getCh 0 13 s).nRst = 0 ∧ rd (R.FLT_MODCNT_RSTCNT 0 13) s < 255) ∧
    (let s := chan 0 12 [(R.FLT_CHCFG_PRESET 0 12, 1), (R.FLT_CHSTAT_RESPA 0 12, 12)] fun x => { x with fed := 256 }
     (3 : Fin 4) ≠ 0 ∧ s.samp.started = true ∧ chOn 0 12 s = true ∧ atFast 0 12 s = true ∧ (getCh 0 12 s).chg ≠ .preset 1 ∧
      (getCh 0 12 s).fed = 128 * ((3 : Fin 4).val - 1) ∧
      (getCh 0 12 (feedChan 0 12 (128 * (3 : Fin 4).val) (List.replicate 128 0) s)).outs.length = 1) := by decide +kernel

theorem witness_NarrowingCarriesTheResidue : (2 ^ 23 - 1 : Nat) < 2 ^ 23 ∧ (narrow (2 ^ 54 - 2 ^ 23) (2 ^ 23 - 1)).2.2 = false ∧
    (narrow (2 ^ 54 - 1) 1).2.2 = true := by decide +kernel

theorem witness_BlocksWindowsAndDeadlinesEnd :
    4096 ≤ (getCh 0 7 (chan 0 7 [] fun x => { x with blk := 4096 })).blk ∧
    (getCh 8 3 (chan 8 3 [] fun x => { x with wfull := true, wn := 5 })).wfull = true ∧
    rd (R.QM_SLKMISS_COUNT 10) up < 2 ^ (R.QM_SLKMISS_COUNT 10).wid - 1 := by decide +kernel

/-- `up` with outlet `o` metering as type 1, restored. -/
def meter (o : Nat) (f : Meter → Meter) (s : State) : State :=
  modMt o (fun m => f { m with restored := true }) (wr (R.MET_OCFG_TYPE o).eff 1 s)


/-- Outlet 7 before its RESTORE, and with a frame of its stream waiting. -/
def restoring : State := modBo 7 (fun b => { b with regs := List.replicate 8 5 }) (meter 7 (fun m => { m with restored := false }) up)
def aFrame : List (Byte × Msg) := [(0, mkMsg 0x60 0xFFFFFF 8000000), (1, contMsg (1, 0)), (2, contMsg (2, 0))]
def framed : State := modQ 39 (fun x => { x with ent := aFrame }) (meter 7 (fun m => { m with bandInit := true }) up)

theorem witness_MeteringFramesAreBilledAfterRestore :
    (te0Up restoring = true ∧ restoring.bill.resumed = true ∧ billingWaits restoring = false ∧ restoring.bill.unsaved = false ∧
      pairUp (pairOf 7) restoring = true ∧ metType 7 restoring ≠ 0 ∧ (getMt 7 restoring).restored = false) ∧
    (pairUp (pairOf 7) framed = true ∧ metType 7 framed ≠ 0 ∧ (getMt 7 framed).restored = true ∧
      (getMt 7 framed).bandInit = true ∧ (getMt 7 framed).cal = none ∧ framed.supply.cal = none ∧
      (getQ (qn (32 + 7)) framed).late = [] ∧
      ((parseFrame (getMt 7 framed).lastN ((getQ (qn (32 + 7)) framed).ent.map Prod.snd)).map fun x =>
        ((x.1.map fun f => f.c.isSome), x.2)) = some (some true, 3)) ∧
    (pairUp (pairOf 0) up = true ∧ metType 0 up = 0) := by decide +kernel

theorem witness_BucketsAndCommitsLoseNoEnergy : (∃ b0 b1 b2, Meter.reset.b = [b0, b1, b2]) ∧
    (∃ r0 r1 r2 r3, Meter.reset.resA = [r0, r1, r2, r3]) ∧ (∃ n0 n1 n2, Meter.reset.noload = [n0, n1, n2]) ∧
    (∃ p0 p1 p2, (⟨[0, 0, 0], [0, 0, 0], [-1, 0, 1], [0, 0, 0], 0, false, false⟩ : FrameVals).p = [p0, p1, p2]) ∧
    ∃ r0 r1 r2 r3 r4 r5 r6 r7, Meter.reset.regs = [r0, r1, r2, r3, r4, r5, r6, r7] :=
  ⟨⟨_, _, _, rfl⟩, ⟨_, _, _, _, rfl⟩, ⟨_, _, _, rfl⟩, ⟨_, _, _, rfl⟩, ⟨_, _, _, _, _, _, _, _, rfl⟩⟩

/-- The first readings at −20.1 °C and 100 °C (bands 0 and 7), and one just past the hysteresis of band 2. -/
theorem witness_TemperatureBandsFollowReadings :
    (pairUp (pairOf 7) up = true ∧ (getMt 7 up).bandInit = false ∧ flag (R.MET_OCFG_FEN 7).eff up = false ∧
      ¬ (((-201 : BitVec 16)).toInt < -400) ∧ (1000 : BitVec 16).toInt = 1000) ∧
    (let s := modMt 7 (fun m => { m with bandInit := true }) (wr (R.MET_TEMP_BAND 7) 2 up)
     pairUp (pairOf 7) s = true ∧ (getMt 7 s).bandInit = true ∧ rd (R.MET_TEMP_BAND 7) s = 2) ∧
    (let s := modMt 7 (fun m => { m with commitSince := true }) (wrs [(R.MET_TEMP_PEND 7, 1), (R.MET_TEMP_TBAND 7, 7)] up)
     pairUp (pairOf 7) s = true ∧ bandDue 7 (s.clock / 2 ^ 24) s = true) := by decide +kernel

/-- `up` with a closed 100 ms interval of outlet `o`, and with a closed second of it, or one that the clock has passed. -/
def living (o : Nat) : State := meter o (fun m => { m with lvDone := { LiveSum.reset with n := 800, sumP := 1 } }) up
def oldSecond : Summ := ⟨5, 3, [1, 2, 3, 4, 5, 6, 7, 2 ^ 96 - 1], 0, 0, 0⟩
def dueNow : State := meter 7 (fun m => { m with due := [oldSecond] }) up
def secPast : State := meter 7 (fun m => { m with sec := some 5, regs := oldSecond.regs }) { up with clock := 6 * 1000000000 * 2 ^ 40 }

theorem witness_LiveValuesAndSummariesReport :
    (pairUp (pairOf 0) (living 0) = true ∧ metType 0 (living 0) ≠ 0 ∧ (getMt 0 (living 0)).lvDone.n ≠ 0 ∧
      outActive 0 (living 0) = true ∧ (getOs 0 (living 0)).ramp = none ∧ ostate 0 (living 0) ≠ 5) ∧
    (let s := modOs 7 (fun x => { x with nOver := 48, nExp := 18 }) (wr (R.OUT_STATE_OSTATE 7) 5 (living 7))
     pairUp (pairOf 7) s = true ∧ metType 7 s ≠ 0 ∧ (getMt 7 s).lvDone.n ≠ 0 ∧ outActive 7 s = true ∧ (getOs 7 s).ramp = none ∧
       ostate 7 s = 5 ∧ (getOs 7 s).nOver < 49 ∧ (getOs 7 s).nExp < 19) ∧
    (let s := setEngState 8 2 (living 7)
     pairUp (pairOf 7) s = true ∧ metType 7 s ≠ 0 ∧ (getMt 7 s).lvDone.n ≠ 0 ∧ outActive 7 s = false ∧
       (getQ (qn (56 + 7)) s).en = true ∧ (getQ (qn (56 + 7)) s).late = [] ∧ (getQ (qn (56 + 7)) s).used + 3 ≤ (getQ (qn (56 + 7)) s).cap) ∧
    ((7 : Fin 8) ≠ 0 ∧ metType 7 up = 0) ∧
    (pairUp (pairOf 7) dueNow = true ∧ metType 7 dueNow ≠ 0 ∧ (getMt 7 dueNow).restored = true ∧
      (getMt 7 dueNow).due = [oldSecond] ∧ oldSecond.regs.length = 8) ∧
    (pairUp (pairOf 7) secPast = true ∧ metType 7 secPast ≠ 0 ∧ (getMt 7 secPast).restored = true ∧ (getMt 7 secPast).due = [] ∧
      (getMt 7 secPast).sec = some 5 ∧ 5 < clkSec secPast ∧ frameWaits 7 5 secPast = false ∧ (getMt 7 secPast).regs.length = 8) := by
  refine ⟨?_, ?_, ?_, ?_, ?_, ?_⟩ <;> decide +kernel

/-- `up` with both metering pairs in duplex; channel 4 of outlet 0 to be tested; and two tests whose last affected frame
has gone. -/
def duplex : State := setEngState 10 3 (setEngState 12 3 up)
def toTest : State := wr (R.FLT_CHCFG_EN 0 4) 1 duplex
def tested8 : State := chan 8 0 [] fun x => { x with testOn := true, testN := 7, ageTest := 100000 }
def tested7 : State := chan 7 7 [(R.FLT_SPLR_R 7 7, 2 ^ 32 - 1)] fun x =>
  { x with testOn := true, testN := 7, ageTest := 100000, tHL := 1000, tLL := 900 }

theorem witness_CalibrationAndTestRequestsAct :
    (Owned 0 0 up ∧ locked up = false ∧ flag (R.FLT_CHSTAT_FLT (reqOutlet 0) (reqChan 0)) up = false ∧ applicable (reqOutlet 0) up ∧
      (getMt (reqOutlet 0) up).cal = none ∧ reqOutlet 0 < 8) ∧
    (Owned 0 0x80 up ∧ locked up = false ∧ flag (R.FLT_CHSTAT_FLT 8 0) up = false ∧ up.supply.cal = none ∧ reqOutlet 0x80 = 8) ∧
    (let s := toTest
     let o := reqOutlet 4
     let c := reqChan 4
     Owned 7 4 s ∧ flag (R.FLT_CHSTAT_FLT o c) s = false ∧ fld (1000 : W24) 23 10 = 0 ∧ fld (1000 : W24) 9 0 = 1000 ∧ c < 8 ∧
      flag (R.FLT_CHCFG_EN o c) s = true ∧ pairDuplex (chanOwner o c) s = true ∧ chanBusy o c s = false ∧
      testBudget o c s + 1000 ≤ 1000 ∧ testCount s < limTests (limitMode s) ∧
      (∀ d ∈ chansOf o, (getCh o d s).testOn = false)) ∧
    ((getCh 8 0 tested8).testOn = true ∧ (getCh 8 0 tested8).testN = (7 : Fin 8) ∧ testPast 8 0 tested8 = true) ∧
    ((getCh 7 7 tested7).testOn = true ∧ (getCh 7 7 tested7).testN = (7 : Fin 8) ∧ testPast 7 7 tested7 = true ∧
      isCurrent 7 7 = true ∧ OwesOnly 7 0x21 (getCh 7 7 tested7).testW tested7 ∧ (getQ (qn (8 + 7)) tested7).en = true ∧
      (getQ (qn (8 + 7)) tested7).late = [] ∧ (getQ (qn (8 + 7)) tested7).used + 2 ≤ (getQ (qn (8 + 7)) tested7).cap) ∧
    (let s := duplex
     let p := fld (1 : W24) 0 0
     Served 0 s ∧ fld (1 : W24) 23 1 = 0 ∧ Open (ownerQ (pairLo p)) s ∧ pairServes (pairLo p) s = true ∧
      pairDuplex (pairLo p) s = true ∧ isScrapped s = false ∧ (getPair p s).req = none ∧
      ∀ o ∈ pairOutlets p ++ (if p = 0 then [8] else []), ∀ c ∈ chansOf o, c < 12 → (getCh o c s).testOn = false) := by
  unfold Owned applicable Served Open OwesOnly
  refine ⟨?_, ?_, ?_, ?_, ⟨?_, ?_, ?_, ?_, ⟨?_, Or.inl ?_⟩, ?_⟩, ?_⟩ <;> decide +kernel

/-! ### Witnesses: billing -/

/-- The twenty messages of a summary of outlet `o`. -/
def summary (typ o : Nat) (u : Summ) : List (Byte × Msg) :=
  (mkMsg typ o u.sec :: (summConts u).map contMsg).map fun m => (0, m)
/-- A summary of second 5 that a queue holds. -/
def fives (typ : Nat) (fl : Nat) : State := modQ 50 (fun x => { x with ent := summary typ 3 ⟨5, fl, List.replicate 8 1, 0, 7999, 0⟩ }) up

theorem witness_BillingAppliesSavesAndRestarts :
    (billingUp (fives 0x50 1) = true ∧ nextSecond 0x50 (fives 0x50 1) = some 5 ∧ fresh 0x50 5 (fives 0x50 1) ≠ [] ∧
      ((fresh 0x50 5 (fives 0x50 1)).map SumIn.o).Nodup ∧ (fives 0x50 1).bill.clkWait = [] ∧ (fives 0x50 1).bill.unsaved = false) ∧
    (let s := { fives 0x50 0 with bill := { (fives 0x50 0).bill with lastFrame := [some 7999, none] } }
     billingUp s = true ∧ nextSecond 0x50 s = some 5 ∧ fresh 0x50 5 s = [] ∧ s.bill.unsaved = false) ∧
    (let s := wr R.PWR_PFWST_WARN 1 (fives 0x52 1)
     billingUp s = true ∧ warned s = true ∧ nextSecond 0x50 s = none ∧ s.bill.unsaved = false ∧ nextSecond 0x52 s = some 5 ∧
      fresh 0x52 5 s ≠ [] ∧ ((fresh 0x52 5 s).map SumIn.o).Nodup ∧ nextSecond 0x52 (applyPartial 5 s) = none) ∧
    (rd R.BIL_SAVESEQ_SEQ up + 1 < 2 ^ 32 ∧ (slotBytes (rd R.BIL_SAVESEQ_SEQ up + 1) 0 up).length = 3648) := by
  unfold fresh
  refine ⟨?_, ?_, ?_, ?_⟩ <;> decide +kernel

/-- A billing partition whose slot 1 is valid: the CRC-32 of four bytes FF and then only zeros is 0xFFFF_FFFF, for the
four bytes clear the register and zeros leave it at 0. -/
def withSlot : State := { up with
  bill := Bill.reset
  mram := [(393216 + 4096, 0xFF), (393216 + 4097, 0xFF), (393216 + 4098, 0xFF), (393216 + 4099, 0xFF),
    (393216 + 7744, 0xFF), (393216 + 7745, 0xFF), (393216 + 7746, 0xFF), (393216 + 7747, 0xFF)] }

theorem getN_append (m : SMap Byte) (j k : Nat) : ∀ a, SMap.getN 0 m a (j + k) = SMap.getN 0 m a j ++ SMap.getN 0 m (a + j) k := by
  induction j with
  | zero => intro a; simp [SMap.getN]
  | succ j ih =>
    intro a
    rw [show j + 1 + k = (j + k) + 1 by omega, SMap.getN, SMap.getN, ih, List.cons_append, Nat.add_right_comm a 1 j, ← Nat.add_assoc]
theorem getN_unlisted (m : SMap Byte) (n : Nat) : ∀ a, (∀ b, a ≤ b → b < a + n → SMap.get 0 m b = 0) →
    SMap.getN 0 m a n = List.replicate n 0 := by
  induction n with
  | zero => intro a _; rfl
  | succ n ih => intro a h; rw [SMap.getN, h a (by omega) (by omega), ih _ fun b h1 h2 => h b (by omega) (by omega)]; rfl
theorem slot_bytes : mramRdN withSlot (slotBase + 1 * 4096) 3652 = List.replicate 4 0xFF ++ List.replicate 3644 0 ++ List.replicate 4 0xFF := by
  rw [mramRdN, show 3652 = 4 + 3644 + 4 from rfl, getN_append, getN_append]
  rw [getN_unlisted _ 3644]
  · rfl
  · intro b h1 h2
    simp only [slotBase] at h1 h2
    simp only [withSlot, SMap.get]
    repeat' split
    all_goals first | rfl | omega
theorem zeros_keep_crc (n : Nat) : (List.replicate n (0 : Byte)).foldl (crcFeed romCrcParam) 0 = 0 := by
  induction n with
  | zero => rfl
  | succ n ih => rw [List.replicate_succ, List.foldl_cons, show crcFeed romCrcParam 0 0 = 0 by decide +kernel, ih]
theorem slot_crc : crc32 (List.replicate 4 0xFF ++ List.replicate 3644 0) = 0xFFFFFFFF := by
  rw [crc32, crcOf, List.foldl_append, show (List.replicate 4 (0xFF : Byte)).foldl (crcFeed romCrcParam) romCrcParam.init = 0 by decide +kernel,
    zeros_keep_crc]
  decide +kernel
theorem slot_valid : (readSlot 1 withSlot).isSome = true := by
  have h : (List.replicate 4 (0xFF : Byte) ++ List.replicate 3644 0).length = 3648 := by simp
  unfold readSlot
  simp only [slot_bytes]
  rw [← h, List.drop_left, List.take_left, slot_crc, if_pos ⟨by decide +kernel, by simp⟩]
  rfl
theorem insertSlot_ne_nil (x : List Byte) (l : List (List Byte)) : validSlots.insertSlot x l ≠ [] := by
  cases l with
  | nil => simp [validSlots.insertSlot]
  | cons y ys => rw [validSlots.insertSlot]; split <;> simp
theorem validSlots_of_readSlot {i : Nat} {s : State} (hi : i < 8) (h : (readSlot i s).isSome = true) :
    ∃ a rest, validSlots s = a :: rest := by
  obtain ⟨b, hb⟩ := Option.isSome_iff_exists.mp h
  have hm : b ∈ (List.range 8).filterMap fun i => readSlot i s := List.mem_filterMap.mpr ⟨i, List.mem_range.mpr hi, hb⟩
  refine List.exists_cons_of_ne_nil ?_
  unfold validSlots
  cases hl : (List.range 8).filterMap fun i => readSlot i s with
  | nil => rw [hl] at hm; cases hm
  | cons x xs => exact insertSlot_ne_nil _ _
/-- After a full reset there is a valid slot to resume from. -/
theorem witness_BillingRestart : te0Up withSlot = true ∧ recovery withSlot = false ∧ withSlot.upd.bad.getD 2 false = false ∧
    withSlot.bill.resumed = false ∧ withSlot.bill.loaded = false ∧ ∃ a rest, validSlots withSlot = a :: rest :=
  ⟨by decide +kernel, by decide +kernel, by decide +kernel, rfl, rfl, validSlots_of_readSlot (by decide) slot_valid⟩

/-! What rests on a signature, a MAC or a key the spec gives no values of is met where the one check of R1's
cryptography that the model leaves opaque succeeds: these witnesses take that check as their hypothesis. -/

/-- An authorisation of R398 for this part, from its head to its parameters. -/
def authBytes (purpose anchor counter : Nat) (params : List Byte) : List Byte :=
  [1, BitVec.ofNat 8 purpose, BitVec.ofNat 8 anchor, 0] ++ leBytes 4 counter ++ devIdBytes ++ leBytes 2 params.length ++
    List.replicate 6 0 ++ params

/-- `up` with anchor 3 loaded and a tariff authorisation staged. -/
def tariff (purpose : Nat) : State := placed 0x0B0000 (authBytes purpose 3 1 []) (wr (R.GV_ANCINFO_LOADED 3) 1 up)
/-- The signature of the staged authorisation verifies. -/
def tariffVerifies (p : Nat) : Prop :=
  anchorVerifies (tariffAuth (tariff p)).anchor (tariffAuth (tariff p)).signed (tariffAuth (tariff p)).rest (tariff p) = true

theorem tariff_devid (p : Nat) : (tariffAuth (tariff p)).devid = devIdBytes := by rfl

theorem tariff_passes10 (h : tariffVerifies 0x10) : authDenied (tariffAuth (tariff 0x10)) 0x10
    ((tariffAuth (tariff 0x10)).plen == 4 * fld (0 : W24) 0 0) ((tariffAuth (tariff 0x10)).anchor == 3) (tariff 0x10) = false := by
  unfold authDenied; rw [show _ = true from h, tariff_devid, bne_self_eq_false]; decide +kernel
theorem tariff_passes11 (h : tariffVerifies 0x11) : authDenied (tariffAuth (tariff 0x11)) 0x11
    ((tariffAuth (tariff 0x11)).plen == 0) ((tariffAuth (tariff 0x11)).anchor == 3) (tariff 0x11) = false := by
  unfold authDenied; rw [show _ = true from h, tariff_devid, bne_self_eq_false]; decide +kernel

/-- A calendar with one season and the same one-entry day profile every day. -/
def plainCal : List Byte :=
  [1, 0, 0, 0, 1, 0, 0, 0] ++ List.replicate 6 0 ++ [1, 28] ++ List.replicate 48 0 ++ [1, 1, 0, 0] ++ List.replicate 76 0 ++
    ((List.replicate 16 ((1 : Byte) :: List.replicate 31 0)).flatten) ++ List.replicate 640 0
def withCal : State := { wr (R.GV_ANCINFO_LOADED 3) 1 up with
  mram := (plainCal.zipIdx.filter fun b => b.1 != 0).map fun b => (0x0B0000 + b.2, b.1) }

theorem calendar_read : mramRdN withCal 0x0B0000 1296 = plainCal := by decide +kernel
theorem calendar_passes (h : anchorVerifies 3 (calSigned plainCal) (plainCal.drop 1232) withCal = true) :
    calBad (mramRdN withCal 0x0B0000 1296) withCal = false := by
  rw [calendar_read]; unfold calBad; rw [h]; decide +kernel

/-- `up` with outlet 7 metering, the signing key in slot 0, and its session as given. -/
def billed (op : Bool) : State :=
  modBo 7 (fun b => { b with sess := { b.sess with op := op } })
    (wrs [(R.GV_SLOT_VALID 0, 1), (R.GV_SLOT_ATTR 0, 5), (R.GV_SLOT_OWNER 0, 1), ((R.MET_OCFG_TYPE 7).eff, 1)] up)

/-- The same with the first second of the session still to come, and with 63 readings waiting. -/
def unborn : State := modBo 7 (fun b => { b with sess := { b.sess with wait := some (1, 7) } }) (billed true)
def crowded : State := { billed false with bill := { (billed false).bill with rdWait := List.replicate 63 1 } }

theorem witness_BillingRequestsAct :
    (let s := crowded
     BillServed 7 s ∧ canSign s = true ∧ pairStopped (pairOf 7) s = false ∧ s.bill.rdWait.length < 64 ∧ metType 7 s ≠ 0 ∧
      isScrapped s = false ∧ fld (0x27 : W24) 3 0 = 7 ∧ fld (0x27 : W24) 23 6 = 0 ∧ fld (0x27 : W24) 5 4 = 2 ∧
      (readingBody 7 0 (fld (0x27 : W24) 5 4) (s.bill.counter + 1) s).length = 160) ∧
    (let s := wr R.LIFE_LSTATE_STATE 4 (billed false)
     BillServed 7 s ∧ canSign s = true ∧ isScrapped s = true ∧ wiping s = false ∧ s.bill.rdWait.length < 64 ∧
      (readingBody 7 0 0 (s.bill.counter + 1) s).length = 160) ∧
    (let s := billed false
     BillServed 7 s ∧ flag R.GV_VSTAT_DRBGF s = false ∧ leNat (((contsToBytes (List.replicate 4 (0, 0))).drop 16).take 2) = 0 ∧
      metType 7 s ≠ 0 ∧ (getBo 7 s).sess.op = false ∧ pairStopped (pairOf 7) s = false ∧ isScrapped s = false) ∧
    (let s := billed true
     BillServed 0 s ∧ canSign s = true ∧ metType 7 s ≠ 0 ∧ (getBo 7 s).sess.op = true ∧ (getBo 7 s).sess.closeWait = none ∧
      pairStopped (pairOf 7) s = false ∧ isScrapped s = false ∧ (getBo 7 s).sess.wait = none) ∧
    (let s := unborn
     BillServed 0 s ∧ canSign s = true ∧ metType 7 s ≠ 0 ∧ (getBo 7 s).sess.op = true ∧ (getBo 7 s).sess.closeWait = none ∧
      pairStopped (pairOf 7) s = false ∧ isScrapped s = false ∧ (getBo 7 s).sess.wait = some (1, 7)) ∧
    (BillServed 0 withCal ∧ isScrapped withCal = false ∧ wiping withCal = false ∧ withCal.calAct = [] ∧ withCal.calPend = []) ∧
    (let s := tariff 0x10
     BillServed 0 s ∧ vaultFault false s = false ∧ authStale (tariffAuth s) s = false ∧ isScrapped s = false ∧ wiping s = false) ∧
    (let s := tariff 0x11
     BillServed 0 s ∧ vaultFault false s = false ∧ authStale (tariffAuth s) s = false ∧ isScrapped s = false ∧ wiping s = false) := by
  unfold BillServed Served
  refine ⟨?_, ?_, ?_, ?_, ?_, ?_, ?_, ?_⟩ <;> decide +kernel

/-! ### Witnesses: outlet sessions -/

/-- `up` with outlet `o` of type 1 in state `st` with pilot `p`, and more registers written. -/
def outletAt (o st p : Nat) (fs : List (Fld × Nat)) : State :=
  wrs fs (wrs [((R.MET_OCFG_TYPE o).eff, 1), ((R.OUT_OCFG_CONN o).eff, 1), (R.OUT_STATE_OSTATE o, st), (R.OUT_STATE_PILOT o, p)] up)

/-- Three periods of PWM whose plateaus read 12.00 V, 9.00 V or 0.00 V high, and −12.00 V low. -/
def periods (v : Int) : Plateaus := ⟨BitVec.ofInt 16 v, BitVec.ofInt 16 (-1200)⟩

/-- Three such periods show A, B and E at the bounds of their bands, in PWM with the widest low plateau that is judged. -/
theorem periods_show : let s := outletAt 7 2 1 [(R.OUT_DUTY_MODE 7, 0), (R.OUT_DUTY_D 7, 1960)]
    ThreeShow 7 0 (periods 1200) (periods 1071) (periods 1200) s ∧ ThreeShow 7 1 (periods 900) (periods 771) (periods 1029) s ∧
      ThreeShow 7 4 (periods 0) (periods 129) (periods (-129)) s ∧ LowJudged 7 s ∧ InBand 2 471 ∧ InBand 3 171 := by
  intro s
  have m : Measured 7 s := by unfold Measured; decide +kernel
  have l : LowJudged 7 s := by unfold LowJudged; decide +kernel
  refine ⟨⟨m, ?_⟩, ⟨m, ?_⟩, ⟨m, ?_⟩, l, by unfold InBand; decide, by unfold InBand; decide⟩ <;>
    (intro k hk; fin_cases hk <;> exact ⟨by unfold InBand; decide +kernel, fun _ _ _ => by decide⟩)
theorem witness_PilotAndProximityDriveTheOutlet :
    (let s := outletAt 7 2 1 []
     outActive 7 s = true ∧ flag (R.OUT_DUTY_GENF 7) s = false ∧ ppFault 7 s = false ∧ pilotOf 7 s ≠ 0 ∧ Quiet 7 s ∧ ostate 7 s = 2) ∧
    (let s := outletAt 7 5 2 []
     outActive 7 s = true ∧ flag (R.OUT_DUTY_GENF 7) s = false ∧ ppFault 7 s = false ∧ pilotOf 7 s ≠ 0 ∧ Quiet 7 s ∧ ostate 7 s = 5) ∧
    (let s := outletAt 0 8 1 []; outActive 0 s = true ∧ pilotOf 0 s ≠ 4 ∧ Quiet 0 s ∧ ostate 0 s ∈ [1, 2, 3, 6, 8]) ∧
    (let s := wr (R.OUT_OCFG_CONN 0).eff 0 up
     socket 0 s = true ∧ (0xFFF : BitVec 16).toNat < 2 ^ (R.OUT_PP_R 0).wid ∧ ppRow 680 = ppRow 681 ∧ ppRow 680 ≠ ppRow 100) ∧
    pdOn 5 up = true ∧
    (let s := outletAt 0 1 1 []
     pdOn 5 s = true ∧ outActive 0 s = true ∧ flag (R.OUT_DUTY_GENF 0) s = false ∧ Quiet 0 s ∧ (getOs 0 s).limit = none ∧
      ppValid 0 s = true ∧ 1 ≤ pilotOf 0 s ∧ pilotOf 0 s ≤ 3 ∧ ostate 0 s = 1) := by
  unfold Quiet
  refine ⟨?_, ?_, ?_, ?_, ?_, ?_⟩ <;> decide +kernel

/-- The outlet's other configurations: of a DC outlet, and valid ones written and not yet applied. -/
def dcAt (o st : Nat) : State := outletAt o st 1 [((R.OUT_OCFG_CONN o).eff, 2)]
def cfgAt (o : Nat) : State := outletAt o 0 0 [(R.OUT_ILIM_I o, 60), (R.OUT_HOLD_DUTY o, 160), (R.OUT_HOLD_WIN o, 10)]

theorem witness_OutletRequestsAct :
    (∀ st ∈ [0, 1, 2, 3, 4, 5, 6, 8, 9], let s := outletAt 7 st 1 []
     OutServed 0 7 s ∧ Quiet 7 s ∧ ostate 7 s = st ∧ pilotOf 7 s = 1 ∧ ppFault 7 s = false ∧ pairStopped (pairOf 7) s = false ∧
      outPowered 7 s = true) ∧
    (∀ p ∈ [3, 4], let s := modOs 7 (fun x => { x with check := some ⟨0, 7⟩ }) (outletAt 7 9 p [])
     outActive 7 s = true ∧ (getOs 7 s).check = some ⟨0, 7⟩ ∧ (getOs 7 s).leave = none ∧ ostate 7 s = 9) ∧
    (let s := outletAt 7 2 1 [((R.OUT_OCFG_HLC 7).eff, 2)]
     OutServed 0 7 s ∧ pairStopped (pairOf 7) s = false ∧ Quiet 7 s ∧ ostate 7 s = 2 ∧ pilotOf 7 s = 1 ∧ ppFault 7 s = false ∧
      hlcOf 7 s = 2 ∧ (getOs 7 s).slac ≠ 1) ∧
    (let s := outletAt 0 5 2 []
     OutServed 7 0 s ∧ (800 : W24).toNat ≤ 800 ∧ (getOs 0 s).limit = none) ∧
    (OutServed 7 0 (cfgAt 0) ∧ outOfService 0 (cfgAt 0) = true ∧ outCfgBad 0 (cfgAt 0) = false) ∧
    (∀ st ∈ [3, 6], let s := dcAt 0 st
     OutServed 7 0 s ∧ pairStopped (pairOf 0) s = false ∧ Quiet 0 s ∧ isDC 0 s = true ∧ ppFault 0 s = false ∧ ostate 0 s = st ∧
      pilotOf 0 s = 1) := by
  unfold OutServed Served Quiet Open
  refine ⟨?_, ?_, ?_, ?_, ?_, ?_⟩ <;> decide +kernel

/-- An outlet in a hold, as `f` makes it. -/
def heldAt (o st p : Nat) (f : FoldOut → FoldOut) : State := modFo o f (outletAt o st p [(R.OUT_STATE_HOLD o, 1)])

theorem witness_RampDownsAndHoldsRun :
    (∀ st ∈ [3, 4, 5, 6], let s := outletAt 7 st 2 []
     Open (64 + 7) s ∧ outActive 7 s = true ∧ (12 : Fin 19).val ∈ [1, 2, 6, 7, 8, 9, 11, 12] ∧ Quiet 7 s ∧ ostate 7 s = st) ∧
    (let s := modOs 0 (fun x => { x with ramp := some ⟨8, 1, false, false, false⟩ }) (outletAt 0 7 2 [])
     held 0 s = false ∧ outActive 0 s = true ∧ (getOs 0 s).ramp = some ⟨8, 1, false, false, false⟩) ∧
    (let s := heldAt 0 5 2 fun x => { x with hold := 2 }
     held 0 s = true ∧ foldUp s = true ∧ (getFo 0 s).hold = 2) ∧
    (let s := outletAt 0 2 2 [((R.OUT_OCFG_HLC 0).eff, 1)]
     outActive 0 s = true ∧ ostate 0 s = 2 ∧ (getOs 0 s).slac = 0 ∧ hlcOf 0 s ≠ 0) ∧
    (∀ k ∈ [0, 3], let s := heldAt 0 5 2 fun x => { x with hold := 1, kst := k }
     foldUp s = true ∧ held 0 s = true ∧ (getFo 0 s).hold = 1 ∧ shut 0 s = false ∧ outUp 0 s = true ∧
      (getFo 0 s).hold ≠ 2 ∧ (getFo 0 s).hold ≠ 3) ∧
    (let s := heldAt 7 5 2 fun x => { x with hold := 1, kst := 2 }
     foldUp s = true ∧ held 7 s = true ∧ (getFo 7 s).hold = 1 ∧ shut 7 s = true ∧ notOpen 7 s = true ∧ kindOf 7 s ≠ 3 ∧
      2 ≤ pilotAs 7 (pilotOf 7 s) s) := by
  unfold Quiet Open
  refine ⟨?_, ?_, ?_, ?_, ?_, ?_⟩ <;> decide +kernel

/-! ### Witnesses: the modems -/

/-- `up` with modem 7 in state `m`, and with a frame on its line. -/
def modem (m : Nat) (f : Plm → Plm) : State := modPlm 7 f (wr (R.PLM_STAT_MSTATE 7) m up)
def onAir (m : Nat) (f : TxFrame) : State := { modem m id with plm := { (modem m id).plm with frames := [f] } }
/-- A shortest frame of 60 bytes in ten continuations. -/
def tens : List Cont := List.replicate 10 (0, 0)
/-- A data frame of modem 7 as it is taken, one short of the limit of resends, and an attempt short of the last. -/
def aData : TxFrame := { modem := 7, mme := false, w0 := 7, bytes := [], done := none }
def aResend : TxFrame := { aData with named := rd (R.PLM_BLANK_BLIM 7).eff up - 2 }
def aSilent : TxFrame := { aData with silent := rd (R.PLM_TXCFG_RETRY 7).eff up - 1 }
/-- Reception of good PBs, of one that fails, and with a symbol of more than 768 zeroed samples. -/
def goodRx : LineRx := ⟨[], [true]⟩
def badRx : LineRx := ⟨[List.replicate 769 65535], [true, false]⟩

theorem marked_symbol : Marked 7 (List.replicate 769 65535) (wr (R.PLM_BLANK_EN 7).eff 1 (modem 3 id)) := by
  unfold Marked
  exact ⟨by decide +kernel, by rw [List.countP_replicate, if_pos (by decide +kernel)]; decide⟩

theorem witness_ModemFramesMove :
    (let s := modem 3 id
     Open 104 s ∧ held4 (fld (7 : W24) 2 0) s < 4 ∧ goingOff (fld (7 : W24) 2 0) s = false ∧
      fld (7 : W24) 23 5 = 0 ∧ frameFits 60 tens = true ∧ txOff (fld (7 : W24) 2 0) s = false ∧ mstate (fld (7 : W24) 2 0) s = 3 ∧
      NoneDone s) ∧
    (Finishes 7 aData [some 0] true (onAir 3 aData) 0 ∧ Finishes 7 aSilent [none] false (onAir 3 aSilent) 1 ∧
      (onAir 3 aSilent).plm.frames = aSilent :: [] ∧ aSilent.modem = 7 ∧ aSilent.mme = false ∧ aSilent.cut = none ∧
      NoneDone (onAir 3 aSilent) ∧ NoneWaits (onAir 3 aSilent) ∧ goingOff 7 (onAir 3 aSilent) = false) ∧
    (∃ k, 0 < k ∧ rd (R.PLM_BLANK_BLIM 7).eff (onAir 3 aResend) ≤ aResend.named + k) ∧
    (let s := onAir 3 aResend
     s.plm.frames = aResend :: [] ∧ aResend.modem = 7 ∧ aResend.cut = none ∧ NoneDone s ∧ NoneWaits s ∧ goingOff 7 s = false ∧
      aResend.named + 1 < rd (R.PLM_BLANK_BLIM 7).eff s) ∧
    (mstate 7 (modem 3 id) = 3 ∧ goodRx.pbs.all id = true ∧ badRx.pbs.all id = false ∧ List.replicate 769 65535 ∈ badRx.syms) ∧
    (let s := modem 2 id
     let w : W24 := 7 + 8 + 44 * 16
     ModemAsked 7 w s ∧ held4 7 s < 4 ∧ fld w 23 15 = 0 ∧ frameFits 60 tens = true ∧
      txOff 7 s = false ∧ mstate 7 s = 2 ∧ NoneDone s ∧ fld w 3 3 = 1 ∧ 8 ≤ fld w 14 4 ∧ fld w 14 4 + 16 ≤ fld (60 : W24) 10 0) ∧
    (let s := modem 3 id
     mstate 7 s = 3 ∧ goodRx.pbs ≠ [] ∧ outUp 7 s = true ∧ (getQ (qn (96 + 7)) s).en = true ∧ (getQ (qn (96 + 7)) s).ent = [] ∧
      (getQ (qn (96 + 7)) s).late = []) ∧
    (∀ m ∈ [1, 2], let s := modem m id
     ModemAsked 7 7 s ∧ fld (7 : W24) 23 3 = 0 ∧ fld (0x011F : W24) 4 0 ≠ 0 ∧ fld (0x011F : W24) 7 5 = 0 ∧ fld (0x011F : W24) 15 8 ≠ 0 ∧
      fld (0x011F : W24) 23 16 = 0 ∧ mstate 7 s = m ∧ (getPlm 7 s).atten = none) ∧
    (getPlm 7 (modem 1 fun x => { x with atten := some ⟨7, 5, 31, 30, List.replicate 58 (0, 0)⟩ })).atten =
      some ⟨7, 5, 31, 30, List.replicate 58 (0, 0)⟩ := by
  unfold ModemAsked NoneDone NoneWaits Open Finishes
  refine ⟨?_, ⟨Or.inl ?_, Or.inr (Or.inl ?_), ?_⟩, ⟨2, ?_⟩, ?_, ?_, ?_, ?_, ?_, ?_⟩ <;> decide +kernel

/-- `up` with modem 7 LINKED as the one that sends the beacons, its reference crossing zero every 10 ms (in 2^−16 ns), and
with a reference whose crossings have ended. -/
def beaconing (t : Option Int) (cr : List (Nat × Int)) : State :=
  let s := modFold (fun F => { F with cross := [cr, [], []] }) (wr (R.PLM_BCN_CCO 7).eff 1
    (modem 3 fun x => { x with last := some 5, period := some 40, next := 3 }))
  { s with plm := { s.plm with refs := [⟨8, some 1000, t⟩, PlmRef.reset, PlmRef.reset] } }

theorem witness_ModemLinksChangeState :
    (∀ m ∈ [1, 2, 3], let s := modem m id
     ModemAsked 7 7 s ∧ mstate 7 s = m ∧ (getPlm 7 s).join = none ∧ fld (7 : W24) 23 3 = 0) ∧
    (let s := wrs [(R.OUT_STATE_OSTATE 7, 2)] (modem 2 fun x => { x with join := some 7, staged := List.replicate 16 1 })
     (getPlm 7 s).join = some 7 ∧ mstate 7 s = 2 ∧ (getPlm 7 s).join ≠ none ∧ ostate 7 s = 2 ∧ (getOs 7 s).slac = 0) ∧
    (mstate 7 { modem 3 id with now := 1999999 } = 3 ∧ 1999999 < (getPlm 7 (modem 3 id)).heard + 2000000 ∧
      (getPlm 7 (modem 3 id)).heard + 2000000 ≤ 2000000) ∧
    (mstate 7 (modem 4 id) ≠ 0 ∧ mstate 7 (modem 4 id) ≠ 5 ∧ goingOff 7 (modem 4 id) = false) ∧
    (let s := beaconing (some (10000000 * 65536)) [(0, 5)]
     mstate 7 s = 3 ∧ flag (R.PLM_BCN_CCO 7).eff s = true ∧ txOff 7 s = false ∧ flag (R.PLM_STAT_NOSYNC 7) s = false ∧
      crossings (rd (R.PLM_BCN_REF 7).eff s) s ≠ [] ∧
      (s.plm.refs.getD (rd (R.PLM_BCN_REF 7).eff s) PlmRef.reset).tz = some 1000 ∧
      (s.plm.refs.getD (rd (R.PLM_BCN_REF 7).eff s) PlmRef.reset).t = some (10000000 * 65536) ∧
      (getPlm 7 s).anchor ≤ (s.plm.refs.getD (rd (R.PLM_BCN_REF 7).eff s) PlmRef.reset).n) ∧
    (let s := wr (R.PLM_BCN_CCO 7).eff 0 (modem 3 fun x => { x with last := some (-5) })
     mstate 7 s = 3 ∧ flag (R.PLM_BCN_CCO 7).eff s = false ∧ (getPlm 7 s).last = some (-5)) ∧
    (let s := beaconing none []
     mstate 7 s = 3 ∧ flag (R.PLM_BCN_CCO 7).eff s = true ∧ txOff 7 s = false ∧ flag (R.PLM_STAT_NOSYNC 7) s = false ∧
      crossings (rd (R.PLM_BCN_REF 7).eff s) s = [] ∧ (getPlm 7 s).last = some 5 ∧ (getPlm 7 s).period = some 40) ∧
    (let s := modem 1 id
     PlmServed 0 7 s ∧ mstate 7 s = 1 ∧ inSession 7 s = false ∧ plmCfgBad 7 s = false ∧ ostate 7 s ≠ 2 ∧ (getPlm 7 s).test = none ∧
      goingOff 7 s = false ∧ held4 7 s = 0) ∧
    (PlmServed 0 7 up ∧ mstate 7 up = 0 ∧ pdOn 6 up = true ∧ rd R.PLM_GSTAT_COUNT up < limModems (limitMode up) ∧
      goingOff 7 up = false) ∧
    (PlmServed 0 7 (onAir 3 aData) ∧ mstate 7 (onAir 3 aData) ≠ 0 ∧ sending 7 (onAir 3 aData) = some aData ∧ aData.cut = none) ∧
    (let s := modem 4 fun x => { x with test := some (0, 7) }
     (getPlm 7 s).test = some ((0 : Fin 8).val, 7) ∧ mstate 7 s = 4) := by
  unfold ModemAsked PlmServed Served Open
  refine ⟨?_, ?_, ?_, ?_, ?_, ?_, ?_, ?_, ?_, ?_, ?_⟩ <;> decide +kernel

/-! ### Witnesses: the Fold -/

/-- The block of R301 of an outlet of a kind, every field at its least value, and the block of a connection of a kind
that covers outlet 7. -/
def outBlock (kind : Byte) : List Byte :=
  [kind, 0, 30, 0, 150, 0, 100, 0, 1, 0, 1, 0, 10, 0, 50, 0, 20, 0, 20, 0, 100, 0, 100, 0, 0xF4, 1, 100, 0, 1, 0, 0, 0]
def connBlock (kind : Byte) : List Byte := [kind, 0, 0x80, 0, 0, 0, 0, 0, 5, 0, 2, 0, 12, 0, 0, 0]
/-- A record: the action on doors, outlets 0 to 6 of kind 0, outlet 7 and connection 0 as given. -/
def safetyRecord (doors kind conn : Byte) : List Byte :=
  [1, 0, 0x14, 2, 0, 0, 0, 0, doors, 0, 50, 0, 0, 0, 0, 0] ++ (List.replicate 7 (outBlock 0)).flatten ++ outBlock kind ++
    (if conn = 0 then List.replicate 16 0 else connBlock conn) ++ List.replicate 240 0

/-- `up` with both members of the Fold running, its channels closed, and a record in effect. -/
def folded (doors kind conn : Byte) (f : Fold → Fold) (fs : List (Fld × Nat)) : State :=
  modFold (fun F => f { F with record := safetyRecord doors kind conn })
    (wrs fs (wrs [(R.FOLD_FSTAT_ESTA, 1), (R.FOLD_FSTAT_ESTB, 1), (R.FOLD_FSTAT_DOORA, 1), (R.FOLD_FSTAT_DOORB, 1)]
      (setEngState 14 3 up)))

/-- Outlet 7 with a contactor state and everything a close of R311 asks for. -/
def sound (k : Nat) : State :=
  modFo 7 (fun x => { x with kst := k, seen := true, tap := List.replicate 160 (List.replicate 4 (some (0, 0))) })
    (folded 0 1 0 id [(R.FLT_CHCFG_EN 7 0, 1), (R.FLT_CHCFG_EN 7 12, 1), (R.FOLD_KSTAT_RCTOK 7, 1), (R.OUT_STATE_PILOT 7, 2),
      (R.FOLD_KSTAT_KFB 7, 1)])

/-- Outlet 7 closed, its engine held off. -/
def closedHeld : State := wrs [(R.FOLD_KSTAT_KA 7, 1), (R.FOLD_KSTAT_KB 7, 1), (R.OUT_STATE_HOLD 7, 1)] (sound 2)
/-- The Fold with one channel of a stop, or of a door, open. -/
def oneStop : State := folded 0 0 0 id [(R.FOLD_FSTAT_ESTA, 0)]
def oneDoor : State := folded 2 0 0 id [(R.FOLD_FSTAT_DOORB, 0)]

theorem witness_StopsDoorsAndWindowsOpenContactors :
    (foldUp (folded 0 0 0 id []) = true ∧ AllOpen (folded 0 0 0 id []) ∧ (folded 0 0 0 id []).fold.estop = false) ∧
    (foldUp oneStop = true ∧ flag R.FOLD_FSTAT_ESTA oneStop ≠ flag R.FOLD_FSTAT_ESTB oneStop) ∧
    (foldUp (folded 1 0 0 id []) = true ∧ doorAct (folded 1 0 0 id []) = 1) ∧
    (let s := folded 2 0 0 id []
     foldUp s = true ∧ doorAct s = 2 ∧ AllOpen s ∧ flag R.FOLD_FSTAT_DOORA s = true ∧ flag R.FOLD_FSTAT_DOORB s = true) ∧
    (foldUp oneDoor = true ∧ flag R.FOLD_FSTAT_DOORA oneDoor ≠ flag R.FOLD_FSTAT_DOORB oneDoor ∧ oneDoor.fold.doorDisc = false ∧
      AllOpen oneDoor) ∧
    (let s := closedHeld
     shut 7 s = true ∧ (getFo 7 s).close = none ∧ (getFo 7 s).hold = 0 ∧ outActive 7 s = false ∧ (getFo 7 s).trip = none ∧
      energised 7 s = true) := by
  unfold AllOpen
  refine ⟨?_, ?_, ?_, ?_, ?_, ?_⟩ <;> decide +kernel

/-- A safety frame of number 16 without payload, under its check value (worked out with another program), and the same
frame with the check value spoilt. -/
def frame16 (last : Byte) : List Byte := [16, 0, 0, 0, 0, 0, 0, 0, 0xCF, 0x09, 0xE8, last]
def receiving (crcAt : List Nat) : State :=
  modConn 0 (fun x => { x with crcAt := crcAt }) (folded 0 0 2 id [(R.FOLD_SCSTAT_STATE 0, 1), (R.PTP_CLKSTAT_STATUS, 2)])

/-- The Fold with the paths of outlet 7 apart, and the same where a member's data memory has an error. -/
def apart (bad : Nat → List Nat) : State :=
  let s := folded 0 0 0 id [(R.FOLD_KSTAT_KA 7, 1)]
  setEng 14 { getEng 14 s with dErr2 := bad 14 } (setEng 13 { getEng 13 s with dErr2 := bad 13 } s)

theorem witness_FoldMembersAndConnectionsFailSafe :
    (let s := folded 0 0 0 id []
     running (13 + (1 : Fin 2).val) s = true ∧ running (14 - (1 : Fin 2).val) s = true ∧ foldUp s = true) ∧
    (let s := apart fun _ => []
     pairDuplex 13 s = true ∧ flag R.FOLD_FSTAT_ESTA s = true ∧ flag R.FOLD_FSTAT_ESTB s = true ∧
      (∃ o < 8, flag (R.FOLD_KSTAT_KA o) s ≠ flag (R.FOLD_KSTAT_KB o) s) ∧ Sound 13 s ∧ Sound 14 s) ∧
    (¬ Sound 13 (apart fun m => if m = 13 then [5] else []) ∧ Sound 14 (apart fun m => if m = 13 then [5] else [])) ∧
    (Sound 13 (apart fun m => if m = 14 then [5] else []) ∧ ¬ Sound 14 (apart fun m => if m = 14 then [5] else [])) ∧
    (let s := folded 0 0 0 id []
     FoldServed true s ∧ FoldServed false s ∧ (1 : W24).toNat < 2 ∧ s.fold.standby = none ∧ pairDuplex 13 s = true ∧
      ∀ o < 8, maybeShut o s = false) ∧
    (let s := folded 0 0 3 id []; foldUp s = true ∧ s.fold.record ≠ [] ∧ ckind 0 s = 3) ∧
    (let s := folded 0 0 1 id []; foldUp s = true ∧ s.fold.record ≠ [] ∧ ckind 0 s = 1) ∧
    (let s := receiving [0, 0]
     let fr := (frame16 0x46).take (fld (12 : W24) 4 0)
     Open 94 s ∧ Open 91 s ∧ foldUp s = true ∧ s.fold.record ≠ [] ∧ ckind 0 s = 2 ∧ rd (R.FOLD_SCSTAT_STATE 0) s = 1 ∧
      fr.length = 12 + rec1 fr 7 ∧ rec4 fr 8 = frameCheck 0 (fr.take 8) s ∧ rec4 fr 0 + 2 ^ 32 - (getConn 0 s).seq = 2 ^ 32 + 16 ∧
      rec2 fr 4 = clkMs s % 2 ^ 16 ∧ clkStatus s ≠ 0 ∧ s.fold.timeBad = false ∧
      rec4 (frame16 0x47) 8 ≠ frameCheck 0 ((frame16 0x47).take 8) s ∧ AllOpen s ∧
      3 ≤ ((getConn 0 s).crcAt.filter fun t => decide (s.now < t + 10000000)).length + 1) ∧
    (let s := receiving []; foldUp s = true ∧ ckind 0 s = 2 ∧ AllOpen s ∧ rd (R.FOLD_SCSTAT_STATE 0) s = 1) := by
  unfold FoldServed AllOpen Open Sound
  refine ⟨?_, ?_, ?_, ?_, ?_, ?_, ?_, ?_, ?_⟩ <;> decide +kernel

/-- Outlet 7 about to energise at its fire instant, energised and still open, closed for longer than its closing time. -/
def toFire : State := modFo 7 (fun x => { x with close := some ⟨some 5, false, false⟩ }) (sound 1)
def fired : State := wrs [(R.FOLD_KSTAT_KA 7, 1), (R.FOLD_KSTAT_KB 7, 1)]
  (modFo 7 (fun x => { x with close := some ⟨none, false, true⟩ }) (sound 1))
def dropping (n : Nat) : State :=
  { wrs [(R.FOLD_KSTAT_KA 7, 1), (R.FOLD_KSTAT_KB 7, 1)] (modFo 7 (fun x => { x with dropN := n }) (sound 2)) with now := 100000 }
/-- Outlet 7 whose mirror contact reads closed, and whose two paths are off. -/
def stuck (k : Nat) : State := wr (R.FOLD_KSTAT_KFB 7) 0 (sound k)

theorem witness_ContactorsCloseAndOpenUnderConditions :
    (let s := sound 0
     KAsked 7 7 s ∧ (getFo 7 s).close = none ∧ (getFo 7 s).test = 0 ∧ (getFo 7 s).mask = 0 ∧ closeBar 7 none false s = 0 ∧
      s.fold.pd1 = true) ∧
    (let s := folded 0 1 0 id []
     KAsked 7 7 s ∧ (getFo 7 s).close = none ∧ (getFo 7 s).test = 0 ∧ (getFo 7 s).mask = 0 ∧ closeBar 7 none false s ≠ 0 ∧
      closeBar 7 none false s ≠ 6 ∧ (getFo 7 s).kst ≠ 1) ∧
    (let s := sound 0
     KAsked 7 23 s ∧ fld (0 : W24) 23 14 = 0 ∧ closeBar 7 (some (fireOf (0, 0) s)) false s = 0 ∧ s.fold.timeBad = false ∧
      s.clock / 2 ^ 40 ≤ fireOf (0, 0) s) ∧
    ((getFo 7 toFire).close = some ⟨some 5, false, false⟩ ∧ (getFo 7 toFire).kst = 1 ∧ energised 7 toFire = false ∧
      foldUp toFire = true ∧ closeBar 7 none true toFire = 0 ∧ toFire.fold.pd1 = true) ∧
    (foldUp fired = true ∧ kfb 7 fired = true ∧ (getFo 7 fired).kst = 1 ∧ energised 7 fired = true ∧
      (getFo 7 fired).close = some ⟨none, false, true⟩) ∧
    (∀ k ∈ [2, 3], foldUp (stuck k) = true ∧ kfb 7 (stuck k) = false ∧ Dead 7 (stuck k) ∧ (getFo 7 (stuck k)).kst = k ∧
      flag (R.FOLD_KSTAT_WELD 7) (stuck k) = false) ∧
    (∀ n ∈ [0, 2], let s := dropping n
     (getFo 7 s).kst = 2 ∧ kfb 7 s = true ∧ energised 7 s = true ∧ (getFo 7 s).onAt + oRec2 7 16 s * 1000 < s.now ∧
      (getFo 7 s).dropN = n) ∧
    (foldUp (sound 4) = true ∧ (getFo 7 (sound 4)).kst = 4) ∧
    (let s := sound 2
     KAsked 7 7 s ∧ (getFo 7 s).openReq = false ∧ (getFo 7 s).kst = 2 ∧ (getFo 7 s).close = none ∧ s.fold.kq = [] ∧
      fld (0x3FFE : W24) 23 14 = 0 ∧ fld (0x3FFE : W24) 1 0 ≠ 3 ∧ (getFo 7 s).pstWait = false) ∧
    (let s := sound 0
     KAsked 7 7 s ∧ (getFo 7 s).openReq = false ∧ (getFo 7 s).kst = 0 ∧ (getFo 7 s).close = none ∧ s.fold.kq = []) ∧
    (let s := modFo 7 (fun x => { x with deadline := true }) (sound 2)
     foldUp s = true ∧ (getFo 7 s).deadline = true ∧ (getFo 7 s).kst = 2 ∧ (getFo 7 s).close = none) := by
  unfold KAsked Dead Open
  refine ⟨?_, ?_, ?_, ?_, ?_, ?_, ?_, ?_, ?_, ?_, ?_⟩ <;> decide +kernel

/-- The staged record of R302 with its CRC (worked out with another program), after the old password of eight letters. -/
def stagedPw : State :=
  let bs : List Byte := [8, 0x41, 0x41, 0x41, 0x41, 0x41, 0x41, 0x41, 0x41] ++ List.replicate 119 0 ++ safetyRecord 0 0 0 ++
    [0xC1, 0x6B, 0xA5, 0xD0]
  let s := folded 0 0 0 (fun F => { F with salt := List.replicate 16 1,
                                           hash := pwHash (List.replicate 16 1) (List.replicate 8 0x41) }) []
  { s with mram := (bs.zipIdx.filter fun b => b.1 != 0).map fun b => (foldStage + b.2, b.1) }

/-- The right password: the hash kept is that of the staged one. -/
theorem staged_matches : pwMatches stagedPw = true := by
  have h : (stagePw 0 stagedPw).2 = List.replicate 8 0x41 := by decide +kernel
  have n : decide ((stagePw 0 stagedPw).1 ≤ 32) = true := by decide +kernel
  show (decide ((stagePw 0 stagedPw).1 ≤ 32) && pwHash (List.replicate 16 1) (stagePw 0 stagedPw).2 ==
    pwHash (List.replicate 16 1) (List.replicate 8 0x41)) = true
  rw [h, n, beq_self_eq_true, Bool.and_true]
/-- A password too long to be one. -/
theorem long_password_fails : pwMatches (placed foldStage [33] (folded 0 0 0 (fun F => { F with salt := [1] }) [])) = false := by
  have n : decide ((stagePw 0 (placed foldStage [33] (folded 0 0 0 (fun F => { F with salt := [1] }) []))).1 ≤ 32) = false := by
    decide +kernel
  simp only [pwMatches, n, Bool.false_and]

/-- A record staged and not committed, with every contactor open, or one of them opening. -/
def pending (k : Nat) : State :=
  modFo 7 (fun x => { x with kst := k }) (folded 0 0 0 (fun F => { F with salt := [1], staged := [1] }) [(R.FOLD_PENDCRC_CRC, 0xFF000001)])
/-- A commit that waits, with nothing staged since. -/
def deferred : State := folded 0 0 0 (fun F => { F with commit := some ⟨false, 0⟩, commitRec := safetyRecord 0 1 0 }) []
/-- The first password staged, of eight letters. -/
def firstPw : State := placed foldStage (List.replicate 33 0 ++ 8 :: List.replicate 8 0x7E) (folded 0 0 0 id [])

theorem witness_SafetyConfigurationIsGuarded :
    (FoldServed false stagedPw ∧ FoldServed true stagedPw ∧ wiping stagedPw = false ∧ stagedPw.fold.salt ≠ [] ∧
      stagedPw.fold.lock = none) ∧
    (stagedRecord stagedPw = safetyRecord 0 0 0 ++ [0xC1, 0x6B, 0xA5, 0xD0]) ∧
    recordOk (safetyRecord 0 0 0 ++ [0xC1, 0x6B, 0xA5, 0xD0]) = true ∧
    (∀ n ∈ [1, 2], let s := placed foldStage [33] (folded 0 0 0 (fun F => { F with salt := [1], fails := n }) [])
     FoldServed false s ∧ wiping s = false ∧ s.fold.salt ≠ [] ∧ s.fold.lock = none ∧ s.fold.fails = n) ∧
    (∀ k ∈ [0, 3], let s := pending k
     FoldServed false s ∧ s.fold.salt ≠ [] ∧ s.fold.staged ≠ [] ∧ s.fold.commit = none ∧ (k = 0 → AllOpen s) ∧
      (∀ o < 8, shut o s = false) ∧ (k = 3 → (∃ o < 8, (getFo o s).kst ≠ 0)) ∧
      (1 : W24).toNat + (0xFF : Byte).toNat * 2 ^ 24 = rd R.FOLD_PENDCRC_CRC s) ∧
    (deferred.fold.commit = some ⟨false, 0⟩ ∧ foldUp deferred = true ∧ AllOpen deferred) ∧
    (FoldServed false firstPw ∧ wiping firstPw = false ∧ firstPw.fold.salt = [] ∧ firstPw.fold.record.length ≤ 1024 ∧
      (stagePw 0 firstPw).1 = 0 ∧ pwGood (stagePw 1 firstPw) = true) ∧
    (folded 0 0 0 (fun F => { F with lock := some (60, 0) }) []).fold.lock ≠ none ∧
    (let s := sound 0
     FoldServed false s ∧ fld (0x3FF : W24) 23 10 = 0 ∧ (∀ o ∈ maskList (fld (0x3FF : W24) 7 0), outletStuck o s = 0) ∧
      moduleStuck s = 0) ∧
    (let s := modFold (fun F => { F with rcReq := [(⟨false, 0⟩, 0x7F, 0x7F, 0)] }) (sound 0)
     FoldServed true s ∧ fld (0x80 : W24) 23 8 = 0 ∧ AllOpen s ∧ maskList (fld (0x80 : W24) 7 0) ≠ [] ∧
      (∀ e ∈ s.fold.rcReq, ∀ o ∈ maskList (fld (0x80 : W24) 7 0), e.2.2.1.testBit o = false) ∧
      ∀ o ∈ maskList (fld (0x80 : W24) 7 0), kindOf o s ≠ 0) := by
  unfold FoldServed AllOpen Open
  refine ⟨?_, ?_, ?_, ?_, ?_, ?_, ?_, ?_, ?_, ?_⟩ <;> decide +kernel

/-- Outlet 7 with a sample of channel 12 at the head of Q47. -/
def rcMsg : Msg := mkMsg 0x61 1 0x0C
def sampled (f : FoldOut → FoldOut) : State := modFo 7 f (modQ 47 (fun x => { x with ent := [(0, rcMsg)] }) (sound 0))
/-- The window of a self-test just above 7.2 mA, and just below it. -/
def selfTest72 (d : Int) : State := modFo 7 (fun x => { x with test := 1, ring := [2 ^ 53 * 72 / 10 + d] }) (sound 0)
/-- A DC outlet of 200 V full scale whose first conductor reads `v`, and no current in the bridge. -/
def bridge (v : Int) : State :=
  modFold (fun F => { F with record := (safetyRecord 0 3 0).set 250 200 })
    (modFo 7 (fun x => { x with tap := [[some (v, 0), some (0, 0)]] }) (folded 0 3 0 id []))
theorem bridge_current (v : Int) : absR (insMean 7 (bridge v)).2.2 ≤ 1 / 1000000 := by
  have h : (getFo 7 (bridge v)).v13 = [] := by rfl
  simp [insMean, h, meanR, absR]
/-- Half of full scale, 100 V, is a voltage to measure with; none is not. -/
theorem bridge_voltage : 50 ≤ absR ((insMean 7 (bridge 0x400000)).1 - (insMean 7 (bridge 0x400000)).2.1) ∧
    absR ((insMean 7 (bridge 0)).1 - (insMean 7 (bridge 0)).2.1) < 50 := by
  have f (v : Int) : (getFo 7 (bridge v)).tap = [[some (v, 0), some (0, 0)]] := by rfl
  have n (v : Int) : oRec2 7 24 (bridge v) = 500 ∧ oRec2 7 10 (bridge v) = 200 := ⟨by rfl, by rfl⟩
  constructor <;> norm_num [insMean, f, n, List.filterMap, tapNormal, bits, meanR, absR]

theorem witness_ResidualAndInsulationMonitorsJudge :
    (∀ t ∈ [0, 1], let s := sampled fun x => { x with mask := 1, test := t }
     foldUp s = true ∧ kindOf 7 s ≠ 0 ∧ (getQ (qn (40 + 7)) s).ent = (0, rcMsg) :: [] ∧ (getQ (qn (40 + 7)) s).late = [] ∧
      rcMsg.typ = 0x61 ∧ fld rcMsg.w1 3 0 = 12 ∧ bits (msgSample rcMsg).2 10 9 = 0 ∧ (getFo 7 s).test = t ∧ (getFo 7 s).mask ≤ 1) ∧
    (let s := sound 0; foldUp s = true ∧ kindOf 7 s ≠ 0 ∧ (getFo 7 s).kst = 0 ∧ flag (R.FLT_CHCFG_EN 7 12) s = true) ∧
    (∀ d ∈ [1, -1], let s := selfTest72 d
     foldUp s = true ∧ (getFo 7 s).test ≠ 0 ∧ (getFo 7 s).testRc = false ∧ (getFo 7 s).ring ≠ [] ∧
      (72 * (((getFo 7 s).ring.length * 2 ^ 53 : Nat) : Int) ≤ (getFo 7 s).ring.sum * oRec2 7 8 s * 10 ↔ d = 1)) ∧
    (∀ v ∈ [0, 0x400000], let s := bridge v
     foldUp s = true ∧ kindOf 7 s = 3 ∧ (getFo 7 s).insSt % 2 = 0 ∧ (getFo 7 s).calBad = false) := by
  refine ⟨?_, ?_, ?_, ?_⟩ <;> decide +kernel

/-! ### Time, ports and the ring -/

/-- `up` with port A enabled and slot 0 on it. -/
def timed (f : Servo → Servo) (fs : List (Fld × Nat)) : State :=
  modSv 0 f (wrs fs (wrs [(R.PTP_PCFG_EN 0, 1), (R.PTP_SCFG_SRC 0, 1)] up))

/-- The worked example of a seamless move (R350), its first interval: 600 ns at 125 ms. -/
theorem test_servo_example : let t := steer 0 false (600 * 65536) 125000000 (timed (fun v => { v with ri := 12022000 })
      [(R.PTP_SCFG_KP 0, 2), (R.PTP_SCFG_KI 0, 6), (R.PTP_CLKCFG_RATEMAX, 511), (R.PTP_CLKSTAT_STEPPED, 1)])
    (getSv 0 t).ri = 12104463 ∧ rd R.PTP_RATE_RATE t = 13423876 := by decide +kernel

/-- Slot 0 with master 5, its path delay measured (`k`), a two-step Sync that waits and a Delay_Req that is out. -/
def synced (k : Bool) (fs : List (Fld × Nat)) : State := timed (fun v => { v with
  master := some 5, wait := some (5, 1, 0, 125000000), good := 15, delayed := k, dreq := some (9, 0),
  last := some (0, 65536 * (2 ^ 24 - 1)) }) fs
/-- Slot 1 with master 5 on port A, to which slot 0 gives the clock up. -/
def moving : State :=
  modNet (fun n => { n with move := some 1 }) (modSv 1 (fun v => { v with master := some 5, delayed := true })
    (wrs [(R.PTP_PCFG_EN 0, 1), (R.PTP_SCFG_SRC 1, 1), (R.PTP_CLKSTAT_STEPPED, 1), (R.PTP_SWLIM_NS, 100)] up))
/-- A port that measures its peer's delay, with a Pdelay_Req out. -/
def peered : State :=
  modNet (fun n => { n with pdreq := [some (3, -65536 * 2 * (2 ^ 24 - 1)), none] }) (timed id [(R.PTP_SCFG_PDELAY 0, 1)])

theorem witness_ServosSteerTheLocalClock :
    (let s := synced true []
     tracks1588 0 s = true ∧ (getSv 0 s).master = some 5 ∧ s.net.move = none ∧ DelayInHand 0 s ∧
      (getSv 0 s).wait = some (5, 1, 0, 125000000) ∧ flag R.PTP_CLKSTAT_STEPPED s = false ∧ selSlot s = 0 ∧
      15 ≤ (getSv 0 s).good ∧ flag (R.PTP_SCFG_PDELAY 0) s = false ∧ (∀ m ∈ (getSv 0 s).heard, m.at_ + 3000000 ≤ s.now) ∧
      (getSv 0 s).master.isSome = true ∧ (getSv 0 s).dreq = some (9, 0) ∧ (getSv 0 s).last = some (0, 65536 * (2 ^ 24 - 1)) ∧
      (((65536 * (2 ^ 24 - 1) - 0) + (65536 * (2 ^ 24 - 1) - 0 - 0)) / 2 : Int) / 2 ^ 16 = ((2 ^ 24 - 1 : Nat) : Int)) ∧
    (flag R.PTP_CLKSTAT_STEPPED (synced true [(R.PTP_CLKSTAT_STEPPED, 1)]) = true ∧ delayKnown 0 (synced false []) = false ∧
      tracks1588 0 (synced false []) = true ∧ (0 : Fin 2).val = selSlot (synced true []) ∧ (1 : Fin 2).val ≠ selSlot (synced true [])) ∧
    (let s := moving
     tracks1588 1 s = true ∧ (getSv 1 s).master = some 5 ∧ DelayInHand 1 s ∧ s.net.move = some (1 : Fin 2).val ∧ selSlot s ≠ 1 ∧
      flag R.PTP_CLKSTAT_STEPPED s = true ∧ (((100 * 65536 : Int).tdiv (2 ^ 16)).natAbs ≤ rd R.PTP_SWLIM_NS s)) ∧
    (let s := peered
     PortUp (0 : Fin 2).val s ∧ usesPdelay 0 s = true ∧ s.net.pdreq.getD (0 : Fin 2).val none = some (3, -65536 * 2 * (2 ^ 24 - 1)) ∧
      (∀ i : Fin 2, (getSv i s).syncs = []) ∧
      (((ingressStamp (0 : Fin 2).val s - (-65536 * 2 * (2 ^ 24 - 1))) - (0 - 0) - ingressStamp (0 : Fin 2).val s) / 2) / 2 ^ 16 = ((2 ^ 24 - 1 : Nat) : Int)) ∧
    (lockOf 0 (timed id [(R.PTP_SSTAT_LOCK 0, 1)]) = 1 ∧
      (let s := modNet (fun n => { n with rates := [6, 8] }) (timed id [(R.PTP_SSTAT_LOCK 0, 2)])
       lockOf 0 s = 2 ∧ (0 : Fin 2).val = selSlot s ∧ s.net.rates ≠ [] ∧ s.net.rates.sum = 7 * (s.net.rates.length : Int))) ∧
    (let s := { up with net := { up.net with holdOk := true } }; lockOf (selSlot s) s ≠ 2 ∧ s.net.holdOk = true) ∧
    clkStatus (timed id [(R.PTP_CLKSTAT_STATUS, 2)]) = 2 ∧
    (getSv (selSlot up) (timed (fun v => { v with leap := some 38 }) [])).leap = some 38 ∧
    (hostGate true (0x17000100 + (1 : Fin 2).val * 0x40) up = none ∧ hostGate true 0x17000018 up = none ∧
      hostGate false 0x17000000 up = none ∧
      (let s := wrs [(R.PTP_SWLIM_NS, 100), (R.PTP_SOFS_O 1, 101)] up
       hostGate true 0x17000018 s = none ∧ (1 : W32).toNat % 4 ≠ selSlot s ∧ rd R.PTP_SWLIM_NS s < (sofs ((1 : W32).toNat % 4) s).natAbs)) := by
  unfold PortUp DelayInHand
  refine ⟨?_, ?_, ?_, ?_, ?_, ?_, ?_, ?_, ?_⟩ <;> decide +kernel

/-- `up` on the ring at position 2, hearing both lanes. -/
def ringed (f : Net → Net) (fs : List (Fld × Nat)) : State :=
  modNet f (wrs fs (wrs [(R.SWD_SCFG_EN, 1), (R.SWD_SSTAT_BYPASS, 0), (R.SWD_SSTAT_LANEUP, 3), (R.SWD_SSTAT_POS, 2)] up))

theorem ringed_hears : Hears 0 (ringed id []) ∧ Hears 1 (ringed id []) := by unfold Hears; decide +kernel

/-- A port of a two-port transparent bridge with a frame held for it, and with one to send. -/
def aSync : List Byte := [0x01, 0x1B, 0x19, 0, 0, 0] ++ List.replicate 6 0 ++ [0x88, 0xF7, 0, 2, 0, 44] ++ List.replicate 42 0
def bridging (tc : Nat) : State := modNet (fun n => { n with held := [(0, aSync, 5)] }) (timed id [(R.PTP_PCFG_TC 1, tc)])
def sendingF : State := timed id [(R.PTP_HTXPTR_TAIL, 1)]
/-- Frames to this module of each numbered class from position 5, and an acknowledgement from 7. -/
def qmsgF (n : Nat) : List Byte := mkFrame 1 2 5 false false n (List.replicate 8 0xFF)
def safeF (n : Nat) : List Byte := mkFrame 2 2 7 false false n (List.replicate 8 0xFF)
def ackF : List Byte := mkFrame 3 2 7 false false 0 [2, 10]
def keeping : State := setLink true 7 { Link.reset with kept := [⟨9, []⟩, ⟨10, []⟩, ⟨11, []⟩] } (ringed id [])
/-- `up` following position 5 in slot 1, and frames of that leader. -/
def following (k : Bool) : State :=
  ringed (fun n => { n with ringKnown := k }) [(R.SWD_SSTAT_LEADOK, 1), (R.SWD_SSTAT_LEADER, 5), (R.PTP_SCFG_SRC 1, 3)]
def timeF : List Byte := mkFrame 4 0 5 false true 0 [0]
def timexF : List Byte := mkFrame 7 0 5 false true 0 [0, 0, 0, 0, 0, 0, 37, 0]
/-- `up` leading the ring. -/
def leading (sec : Nat) : State := ringed (fun n => { n with ringSec := sec }) [(R.SWD_SSTAT_LEADOK, 1), (R.SWD_SSTAT_LEADER, 2)]

theorem witness_PortsAndRingCarryFrames :
    (PortUp 0 (timed id []) ∧ (List.replicate 2032 (0 : Byte)).length ≤ 2032) ∧
    ((bridging 1).net.held.find? (fun f => f.1 == (0 : Fin 2).val) = some (0, aSync, 5) ∧
      PortUp 0 (bridging 1) ∧ ptpAt aSync = some (14, 0) ∧ fb aSync 14 % 16 = 0 ∧ fb aSync 20 / 2 % 2 = 0 ∧ rd (R.PTP_PCFG_TC (1 - (0 : Fin 2).val)) (bridging 1) = 1 ∧
      rd (R.PTP_PCFG_TC (1 - (0 : Fin 2).val)) (bridging 0) = 0) ∧
    (PortUp 0 sendingF ∧ rd R.PTP_HTXPTR_HEAD sendingF ≠ rd R.PTP_HTXPTR_TAIL sendingF ∧
      fb (SMap.getN 0 sendingF.net.tx (rd R.PTP_HTXPTR_HEAD sendingF * 2048) 2048) 2 % 4 = (0 : Fin 2).val) ∧
    (hostGate true 0x17000034 up = none ∧ hostGate true 0x17000030 up = none ∧ hostGate true (0x17001000 + (1 : Fin 2).val * 0x1000) up = none) ∧
    (let s := ringed id []
     ForMe 1 (qmsgF 0) s ∧ ForMe 1 (qmsgF 1) s ∧ s.net.qlink.length = 8 ∧ (getLink false (fSrc (qmsgF 0)) s).expect = fLseq (qmsgF 0) ∧
      (getLink false (fSrc (qmsgF 1)) s).expect ≠ fLseq (qmsgF 1) ∧ (getQ (qn (24 + fSrc (qmsgF 0))) s).en = true ∧
      (getQ (qn (24 + fSrc (qmsgF 0))) s).late = [] ∧ (getQ (qn (24 + fSrc (qmsgF 0))) s).full = false) ∧
    (let s := ringed id []
     ForMe 2 (safeF 0) s ∧ ForMe 2 (safeF 1) s ∧ s.net.slink.length = 8 ∧ (getLink true (fSrc (safeF 0)) s).expect = fLseq (safeF 0) ∧
      (getLink true (fSrc (safeF 1)) s).expect ≠ fLseq (safeF 1) ∧ (getQ 94 s).en = true ∧
      (getQ 94 s).late = [] ∧ (getQ 94 s).full = false) ∧
    (let s := keeping
     Hears 0 s ∧ ForMe 3 ackF s ∧ s.net.qlink.length = 8 ∧ s.net.slink.length = 8 ∧ fb ackF 4 = 2 ∧ (getQ (qn 93) s).ent = [] ∧
      (getLink true (fSrc ackF) s).kept = [⟨9, []⟩] ++ ⟨10, []⟩ :: [⟨11, []⟩] ∧ 10 = fb ackF 5 ∧ ringOn s = true) ∧
    (∀ q ∈ [16, 17, 18, 19, 20, 21, 22, 23, 93], (getQ (qn q) (ringed id [])).ent = []) ∧
    (let s := ringed (fun n => { n with wrapped := true }) []; Hears 0 s ∧ laneUp 1 s = true ∧ s.net.wrapped = true) ∧
    (let s := ringed id []
     (5 : Fin 8).val ≠ ownPos s ∧ (2 : Fin 8).val = ownPos s ∧ s.net.peers = List.replicate 8 none ∧ flag R.SWD_SCFG_TLEADEN s = false) ∧
    (let s := ringed id [(R.SWD_SSTAT_PRESENT, 0x24)]
     (rd R.SWD_SSTAT_PRESENT s).testBit 5 = true ∧ 5 ≠ ownPos s ∧ s.net.slink.length = 8) ∧
    (let s := following true
     Hears 0 s ∧ frameOk timeF = true ∧ fSrc timeF ≠ ownPos s ∧ fKind timeF = 4 ∧ isLeader s = false ∧ outBroken 0 s = false ∧
      flag R.SWD_SSTAT_LEADOK s = true ∧ rd R.SWD_SSTAT_LEADER s = fSrc timeF ∧ s.net.ringKnown = true ∧ s.net.move = none ∧
      slotSrc 1 s = 3 ∧ slotSrc (1 - (1 : Fin 2).val) s ≠ 3 ∧ (following false).net.ringKnown = false) ∧
    (let s := following false
     Hears 1 s ∧ frameOk timexF = true ∧ fKind timexF = 7 ∧ fBcast timexF = true ∧ fSrc timexF ≠ ownPos s ∧ isLeader s = false ∧
      flag R.SWD_SSTAT_LEADOK s = true ∧ rd R.SWD_SSTAT_LEADER s = fSrc timexF) ∧
    (ringOn (leading 0) = true ∧ isLeader (leading 0) = true ∧ (leading 0).net.ringSec = clkSec (leading 0) ∧
      (leading 1).net.ringSec ≠ clkSec (leading 1) ∧ isLeader (chooseLeader (following true)) = false) ∧
    ((((65535 * 65536 + 9) / 10 * 2 - 0) - (0 - 0) : Int) / 2 * 10 / 2 ^ 16 = ((65535 : Nat) : Int) ∧ hostGate true 0x18000000 up = none) := by
  unfold PortUp ForMe Hears
  refine ⟨?_, ?_, ?_, ?_, ?_, ?_, ?_, ?_, ?_, ?_, ?_, ?_, ?_, ?_, ?_⟩ <;> decide +kernel

/-! ### Witnesses: the reader and the vault -/

/-- `up` with a vault authorisation staged and its anchor loaded. -/
def authAt (purpose anchor : Nat) (params : List Byte) (fs : List (Fld × Nat)) : State :=
  placed 0x0A0000 (authBytes purpose anchor 1 params) (wrs fs (wr (R.GV_ANCINFO_LOADED anchor) 1 up))
/-- The signature of that authorisation verifies. -/
def verifies (anchor : Nat) (s : State) : Prop := anchorVerifies anchor (vaultAuth s).signed (vaultAuth s).rest s = true

/-- KEY_LOAD of an AES-128 key of attribute 2 into slot 31, and its erasure. -/
def keyLoad : State := authAt 1 1 ([31, 2, 1, 7, 1, 0, 0, 0] ++ List.replicate 24 0xA5)
  [(R.GV_SLOT_VALID 2, 1), (R.GV_SLOT_ATTR 2, 2), (R.GV_SLOT_OWNER 2, 4)]
def keyErase : State := authAt 1 1 [3, 0, 0, 0, 1, 0, 0, 0] []
theorem keyLoad_auth (h : verifies 1 keyLoad) : AuthOk (vaultAuth keyLoad) 1 1 keyLoad :=
  ⟨by decide +kernel, by decide +kernel, by decide +kernel, by decide +kernel, by rfl, by decide +kernel, by decide, by decide +kernel, h,
    by decide +kernel⟩
theorem keyErase_auth (h : verifies 1 keyErase) : AuthOk (vaultAuth keyErase) 1 1 keyErase :=
  ⟨by decide +kernel, by decide +kernel, by decide +kernel, by decide +kernel, by rfl, by decide +kernel, by decide, by decide +kernel, h,
    by decide +kernel⟩
theorem keyLoad_key (h : Config.kwpUnwrap (keyLoad.vault.keys.getD 2 []) (keyParams (vaultAuth keyLoad).params).wrapped =
    some (List.replicate 16 1)) : keyOf (keyParams (vaultAuth keyLoad).params) keyLoad = some (List.replicate 16 1) := by
  unfold keyOf; rw [h]; decide +kernel

/-- ANCHOR_LOAD of the generator of P-256 as anchor 4. -/
def anchorLoad : State := authAt 2 1 ([4, 5, 0, 0, 0, 0, 0, 0] ++
  beBytes 32 0x6B17D1F2E12C4247F8BCE6E563A440F277037D812DEB33A0F4A13945D898C296 ++
  beBytes 32 0x4FE342E2FE1A7F9B8EE7EB4A7C0F9E162BCE33576B315ECECBB6406837BF51F5) []
theorem anchorLoad_auth (h : verifies 1 anchorLoad) : AuthOk (vaultAuth anchorLoad) 2 1 anchorLoad :=
  ⟨by decide +kernel, by decide +kernel, by decide +kernel, by decide +kernel, by rfl, by decide +kernel, by decide, by decide +kernel, h,
    by decide +kernel⟩

/-- LIFE_CHANGE from BLANK to PROVISIONED, and TAMPER_CLEAR. -/
def lifeLoad : State := authAt 3 1 [0, 1, 0, 0] []
def clearLoad : State := authAt 4 1 [] [(R.GV_VSTAT_TAMPER, 1)]
theorem lifeLoad_auth (h : verifies 1 lifeLoad) : AuthOk (vaultAuth lifeLoad) 3 1 lifeLoad :=
  ⟨by decide +kernel, by decide +kernel, by decide +kernel, by decide +kernel, by rfl, by decide +kernel, by decide, by decide +kernel, h,
    by decide +kernel⟩
theorem clearLoad_auth (h : verifies 1 clearLoad) : AuthOk (vaultAuth clearLoad) 4 1 clearLoad :=
  ⟨by decide +kernel, by decide +kernel, by decide +kernel, by decide +kernel, by rfl, by decide +kernel, by decide, by decide +kernel, h,
    by decide +kernel⟩

/-- `up` with slot `k` holding a key of an attribute that every party owns. -/
def slotted (k attr : Nat) : State := wrs [(R.GV_SLOT_VALID k, 1), (R.GV_SLOT_ATTR k, attr), (R.GV_SLOT_OWNER k, 7)] up

theorem blob_opens (h : Config.kwpUnwrap ((slotted 0 3).vault.keys.getD 0 []) (mramRdN (slotted 0 3) 0x0A0000 32) =
    some ([4, 1, 1, 0, 0, 0, 0, 0] ++ List.replicate 16 1)) :
    blobTry (mramRdN (slotted 0 3) 0x0A0000 32) (slotted 0 3) 0 = some ⟨List.replicate 16 1, 4, 1, 1⟩ := by
  unfold blobTry; rw [h]; decide +kernel

/-- VERIFY_AUTH of a demand reset. -/
theorem verify_auth (h : anchorVerifies 3 (parseAuth (authBytes 0x11 3 1 [])).signed (parseAuth (authBytes 0x11 3 1 [])).rest
    (wr (R.GV_ANCINFO_LOADED 3) 1 up) = true) :
    AuthOk (parseAuth (authBytes 0x11 3 1 [])) 0x11 3 (wr (R.GV_ANCINFO_LOADED 3) 1 up) :=
  ⟨by decide +kernel, by decide +kernel, by decide +kernel, by decide +kernel, by rfl, by decide +kernel, by decide, by decide +kernel, h,
    by decide +kernel⟩

/-- A manifest of region 1 for any part with one block, in the update staging area. -/
def staged1 : State := placed 0x080000 ([1, 1, 4, 0, 2, 0, 0, 0] ++ List.replicate 16 0 ++ [1, 0]) (wr (R.GV_ANCINFO_LOADED 4) 1 up)
theorem manifest_passes (h : anchorVerifies (regAnchor 1) (mramRdN staged1 0x080000 (256 + 32 * mfNblk 0x080000 staged1))
    (mramRdN staged1 (0x080000 + 256 + 32 * mfNblk 0x080000 staged1) 96) staged1 = true) : manifestOk 1 0x080000 staged1 = true := by
  have f : manifestForm 1 0x080000 staged1 && anchorLoaded (regAnchor 1) staged1 = true := by decide +kernel
  show (manifestForm 1 0x080000 staged1 && anchorLoaded (regAnchor 1) staged1 && anchorVerifies (regAnchor 1)
    (mramRdN staged1 0x080000 (256 + 32 * mfNblk 0x080000 staged1))
    (mramRdN staged1 (0x080000 + 256 + 32 * mfNblk 0x080000 staged1) 96) staged1) = true
  rw [h, Bool.and_true]; exact f

theorem witness_VaultRequestsAct :
    (VaultServed 7 keyLoad ∧ flag R.GV_VSTAT_TAMPER keyLoad = false ∧ keyLoad.vault.keys.length = 32 ∧
      keyLoad.vault.vers.length = 32 ∧ (vaultAuth keyLoad).plen = 16 + keyLen (keyParams (vaultAuth keyLoad).params).alg ∧
      (keyParams (vaultAuth keyLoad).params).slot = 31 ∧ keyLoad.vault.vers.getD 31 0 < (keyParams (vaultAuth keyLoad).params).ver ∧
      attrAllows 2 1 = true ∧ slotFor 2 2 4 keyLoad = true ∧ scalarOk 1 (List.replicate 16 1) = true) ∧
    (VaultServed 7 keyErase ∧ (keyParams (vaultAuth keyErase).params).attr = 0 ∧ (vaultAuth keyErase).plen = 8 ∧
      (keyParams (vaultAuth keyErase).params).slot = 3 ∧ keyErase.vault.vers.getD 3 0 < (keyParams (vaultAuth keyErase).params).ver) ∧
    (VaultServed 7 anchorLoad ∧ anchorLoad.vault.anchors.length = 8 ∧ (vaultAuth anchorLoad).plen = 72 ∧
      anchorBad (vaultAuth anchorLoad).params anchorLoad = false ∧ isSealed anchorLoad = false) ∧
    (VaultServed 7 lifeLoad ∧ lifeBusy lifeLoad = false ∧ lifeAnchor (lifeFrom (vaultAuth lifeLoad)) (lifeTo (vaultAuth lifeLoad)) = some 1 ∧
      (vaultAuth lifeLoad).plen = 4 ∧ (vaultAuth lifeLoad).params.getD 2 0 = 0 ∧ lifeFrom (vaultAuth lifeLoad) = lifeState lifeLoad ∧
      lifeFurther (lifeTo (vaultAuth lifeLoad)) lifeLoad = true) ∧
    (let s := { wr R.LIFE_LSTATE_PEND 1 up with vault := { up.vault with life := some (7, 0, 0) } }
     wiping s = true ∧ s.vault.life = some ((7 : Fin 8).val, 0, 0) ∧ flag R.BAR_FREEZE_FRZ s = false) ∧
    (VaultServed 7 clearLoad ∧ (vaultAuth clearLoad).plen = 0) ∧
    (VaultServed 7 (slotted 31 3) ∧ fld (0x3E0C : W24) 23 14 = 0 ∧ attrAllows (fld (0x3E0C : W24) 2 0) (fld (0x3E0C : W24) 5 3) = true ∧
      slotFor (fld (0x3E0C : W24) 13 9) 3 5 (slotted 31 3) = true) ∧
    (VaultInner up ∧ flag R.GV_VSTAT_DRBGF up = false ∧ slotFor 0 5 1 (slotted 0 5) = true ∧ isScrapped up = false ∧ wiping up = false ∧
      (parseAuth (authBytes 0x11 3 1 [])).purpose = 0x11 ∧ servicePlen 0x11 (parseAuth (authBytes 0x11 3 1 [])).plen = true) ∧
    (let s := wr R.LIFE_LSTATE_STATE 1 up; lifeState s ≠ 0 ∧ s.pwr.down = false) ∧
    (hostGate true (0x1B000000 + (3 : Fin 4).val * 0x100) up = none ∧ flag (R.CHK_CKCFG_EN 3) up = false) ∧
    (let s := wr (R.CHK_CKCFG_EN 3) 1 up
     flag (R.CHK_CKCFG_EN 3) s = true ∧ rd (R.CHK_CKCFG_SRC 3) s = 0 ∧ rd (R.CHK_CKCFG_WIDTH 3) s < 64 ∧
      hostGate true (0x1B000030 + (3 : Fin 4).val * 0x100) s = none ∧ hostGate true (0x1B000034 + (3 : Fin 4).val * 0x100) s = none ∧
      hostGate false (0x1B000018 + (3 : Fin 4).val * 0x100) s = none ∧ hostGate false (0x1B000020 + (3 : Fin 4).val * 0x100) s = none) := by
  unfold VaultServed VaultInner Served Open
  refine ⟨?_, ?_, ?_, ?_, ?_, ?_, ?_, ?_, ?_, ?_, ?_⟩ <;> decide +kernel

/-- A card whose record 1 is current and whose pointer names it, under a key. -/
def creditCard (k : List Byte) : Card := ⟨[1, 2, 3, 4], false, 0, [], mkRec k [1, 2, 3, 4] 7 1 500, mkPtr k [1, 2, 3, 4] 7 1, true, true, 0, 2⟩
theorem card_current (k : List Byte) : currentRec k (creditCard k) = some (1, true) := by
  have p : (mkPtr k [1, 2, 3, 4] 7 1).drop 8 = blockMac k [1, 2, 3, 4] ((mkPtr k [1, 2, 3, 4] 7 1).take 8) := by rfl
  have r : (mkRec k [1, 2, 3, 4] 7 1 500).drop 24 = blockMac k [1, 2, 3, 4] ((mkRec k [1, 2, 3, 4] 7 1 500).take 24) := by rfl
  have pk : ptrOk k [1, 2, 3, 4] (mkPtr k [1, 2, 3, 4] 7 1) = true := by
    unfold ptrOk; rw [p, beq_self_eq_true]; rfl
  have rk : recOk k [1, 2, 3, 4] (mkRec k [1, 2, 3, 4] 7 1 500) = true := by
    unfold recOk; rw [r, beq_self_eq_true]; rfl
  have i : ((mkPtr k [1, 2, 3, 4] 7 1).getD 4 0).toNat = 1 := by rfl
  have c : recCnt (mkRec k [1, 2, 3, 4] 7 1 500) = leNat ((mkPtr k [1, 2, 3, 4] 7 1).take 4) := by rfl
  simp only [currentRec, creditCard, i, cardRec, pk, rk, c, one_ne_zero, beq_self_eq_true, Bool.and_self, if_true,
    if_false]

/-- `up` with the reader in a state, the card held, and DERIVE keys in slot 5. -/
def reader (st : Nat) (c : Option Card) : State :=
  let s := wr R.TAG_TSTAT_STATE st (wr R.TAG_TSTAT_FIELD 1 (modQ 108 (Queue.enable 16) (slotted 5 4)))
  { s with tag := { s.tag with on := true, card := c.map fun c => (c, 2),
                               reads := [⟨[1, 2, 3, 4], false, 7, 2⟩] } }
theorem card_secured (k : List Byte)
    (h : Config.readerProfile (mramRdN (reader tgSECURED (some (creditCard k))) 0x0408000 (56 * 4096)) 2 = some 5)
    (hk : k = Config.cardKey ((reader tgSECURED (some (creditCard k))).vault.keys.getD (5 : Fin 32) []) [1, 2, 3, 4]) :
    Secured (creditCard k) 2 k (reader tgSECURED (some (creditCard k))) := by
  refine ⟨by rfl, rfl, ?_⟩
  have f : slotFor (5 : Fin 32) 4 5 (reader tgSECURED (some (creditCard k))) = true :=
    (show _ = slotFor (5 : Fin 32) 4 5 (reader tgSECURED none) from rfl).trans (by decide +kernel)
  refine ⟨?_, rfl⟩
  have p : readerProf 2 (reader tgSECURED (some (creditCard k))) = some 5 := by unfold readerProf; exact (if_neg Bool.false_ne_true).trans (by rw [h]; rfl)
  unfold cardK
  rw [p]
  exact (if_pos f).trans (congrArg some hk.symm)
theorem profile_there (c : Option Card) (st : Nat)
    (h : Config.readerProfile (mramRdN (reader st c) 0x0408000 (56 * 4096)) 2 = some 5) : profileOk 2 (reader st c) = true := by
  have p : readerProf 2 (reader st c) = some 5 := by unfold readerProf; exact (if_neg Bool.false_ne_true).trans (by rw [h]; rfl)
  unfold profileOk; rw [p]; rfl

/-- The UID of the card in a request, and an amount after it. -/
def named (rest : List Cont) : List Cont := bytesToConts 2 [1, 2, 3, 4] ++ rest

/-- A card that is no longer there was seen before; the reader is in its field reset, or its test. -/
def forgetting : State :=
  { reader tgPOLL none with tag := { (reader tgPOLL none).tag with seen := [⟨[9], false, 0, true, 0⟩, ⟨[8], false, 0, false, 0⟩] } }
def resetting : State := { reader tgOFF none with tag := { (reader tgOFF none).tag with fieldReset := true } }
def selfTesting (on : Bool) : State :=
  { reader tgTEST none with tag := { (reader tgTEST none).tag with testWait := some ⟨7, 0⟩, on := on } }

theorem witness_ReaderServesItsCards :
    (tstate forgetting = tgPOLL ∧ flag R.TAG_TSTAT_FIELD forgetting = true ∧ forgetting.tag.seen.length = 2) ∧
    ((reader tgSECURED (some (creditCard []))).tag.card.isSome = true ∧
      (reader tgSECURED (some (creditCard []))).tag.card = some (creditCard [], 2)) ∧
    (tstate (reader tgGUARD none) = tgGUARD ∧ flag R.TAG_TSTAT_FIELD (reader tgGUARD none) = true) ∧
    (resetting.tag.fieldReset = true ∧ resetting.tag.on = true ∧ flag R.TAG_TSTAT_TXOFF resetting = false) ∧
    (let s := wr R.TAG_TCFG_IDRV 25 (reader tgPOLL none)
     TagServed 7 s ∧ rd R.TAG_TCFG_IDRV s = 25) ∧
    (let s := reader tgPOLL none
     TagServed 7 s ∧ s.tag.testWait = none ∧ tstate s ≠ tgWRITING ∧ tstate s ≠ tgFAULT ∧ s.tag.journal = [] ∧ te15Up s = true ∧
      flag R.GV_VSTAT_DRBGF s = false ∧ (getQ 108 s).en = true ∧ s.tag.enableWait = none ∧
      reqUid 4 (named []) 2 = some ([1, 2, 3, 4], false) ∧ seenOf [1, 2, 3, 4] false s = none) ∧
    (let s := reader tgOFF none
     Served 7 s ∧ clearQ 108 s = true ∧ pdOn 8 s = true ∧ isScrapped s = false ∧ s.tag.enableWait = none ∧ tstate s = tgOFF ∧
      flag R.TAG_TSTAT_TXOFF s = false ∧ 0 < (getQ 108 s).cap) ∧
    (∀ on ∈ [true, false], (selfTesting on).tag.testWait = some ⟨7, 0⟩ ∧ (selfTesting on).tag.on = on) ∧
    (reqUid 4 (named [(500, 0), (0, 0)]) 4 = some ([1, 2, 3, 4], false) ∧
      fld ((named [(500, 0), (0, 0)]).getD 3 (0, 0)).1 23 16 = 0 ∧ ((named [(500, 0), (0, 0)]).getD 3 (0, 0)).2 = 0) ∧
    (let s := reader tgSECURED none
     TagServed 7 s ∧ te15Up s = true ∧ wiping s = false ∧ s.tag.journal.length < 32 ∧
      s.tag.reads.find? (fun x => x.uid == [1, 2, 3, 4] && x.typeB == false) = some ⟨[1, 2, 3, 4], false, 7, 2⟩) ∧
    (Open 110 (slotted 31 4) ∧ te15Up (slotted 31 4) = true ∧ flag R.GV_VSTAT_DRBGF (slotted 31 4) = false ∧
      (slotted 31 4).vault.dirOk = true ∧ isScrapped (slotted 31 4) = false ∧ slotFor (31 : Fin 32) 4 5 (slotted 31 4) = true) := by
  unfold TagServed Served Open
  refine ⟨?_, ⟨rfl, rfl⟩, ?_, ?_, ?_, ?_, ?_, ?_, ?_, ?_, ?_⟩ <;> decide +kernel

/-! ### Witnesses: update and recorder -/

/-- `up` with region `r` in update state `st`, as the registers and update control show it. -/
def regionAt (r st : Nat) (fs : List (Fld × Nat)) : State :=
  wrs fs (wrs [(R.UPD_RSTAT_STATE (r - 1), st), ((R.UPD_RSTAT_STATE (r - 1)).eff, st)] up)
/-- Region 1 in WRITING with the digest of an empty block 0 in its pending manifest. -/
def writing1 : State := placed (mfAt 1 1 + 256) (beBytes 32 (Config.sha256 (List.replicate 4096 0)).toNat) (regionAt 1 1 [])
theorem block_agrees : digestOk (mramRdN writing1 (0x088000 + (15 : Fin 16).val * 4096) 4096) (mfAt 1 1) 0 writing1 = true := by
  have z : mramRdN writing1 (0x088000 + (15 : Fin 16).val * 4096) 4096 = List.replicate 4096 0 := by decide +kernel
  have d : mfDigest (mfAt 1 1) 0 writing1 = beBytes 32 (Config.sha256 (List.replicate 4096 0)).toNat := by rfl
  unfold digestOk; rw [z, d, beq_self_eq_true]

/-- Every member of the pairs running, and region `r` in trial; and a settings migration done. -/
def inTrial (r : Nat) (fs : List (Fld × Nat)) : State :=
  [10, 12].foldl (fun s e => setEngState e 3 s) { regionAt r 3 fs with bill := { up.bill with live := [true, true] } }

theorem witness_UpdatesRunTheirStages :
    (UpdServed 7 staged1 ∧ te15Up staged1 = true ∧ Open 112 staged1 ∧ Region 1 ∧ manifestZeros 0x080000 staged1 = true ∧
      mfMinfmt 0x080000 staged1 ≤ rd R.UPD_SETSTAT_FMT staged1 ∧ ustate 1 staged1 = 0 ∧
      rd (R.UPD_RVER_V (1 - 1)) staged1 < mfVer 0x080000 staged1) ∧
    (UpdServed 7 writing1 ∧ rd R.UPD_SETSTAT_AREA writing1 ≤ 1 ∧ ustate 1 writing1 = 1 ∧ rd (R.UPD_RSTAT_NEXT (1 - 1)) writing1 = 0 ∧
      1 - slotOf 1 writing1 = 1) ∧
    (let s := regionAt 5 2 []
     UpdServed 7 s ∧ fld (0x20 : W24) 0 0 = 0 ∧ fld (0x20 : W24) 23 6 = 0 ∧ (∀ r ∈ maskRegions (0x20 : W24).toNat, ustate r s = 2) ∧
      (∀ o ∈ outlets, inSession o s = false)) ∧
    (let s := { up with upd := { up.upd with act := some 2 } }
     te0Up s = true ∧ s.upd.act = some 2 ∧ activationAcked s = true ∧ s.upd.slot.length = 5) ∧
    (let s := { up with upd := { up.upd with fbWait := 0x20 } }
     te0Up s = true ∧ s.upd.act = none ∧ s.upd.fbWait ≠ 0 ∧ ∀ o ∈ outlets, inSession o s = false) ∧
    (Region 5 ∧ ∀ st ∈ [1, 2, 3], let s := regionAt 5 st [(R.UPD_RJNL_J 4, 56)]
     UpdServed 0 s ∧ ustate 5 s = st ∧ s.upd.fbWait.testBit 5 = false ∧ rd R.UPD_SETSTAT_AREA s ≤ 1 ∧
      rd (R.UPD_RJNL_J (5 - 1)) s ≤ regMax 5) ∧
    (∀ m ∈ [0, 2], let s := inTrial 3 [(R.UPD_SETSTAT_MIGR, m)]
     Region 3 ∧ te0Up s = true ∧ ustate 3 s = 3 ∧ s.upd.fbWait.testBit 3 = false ∧ (∀ e ∈ regEngines 3, running e s = true) ∧
      pairDuplex 9 s = true ∧ pairDuplex 11 s = true ∧ s.bill.live.all id = true ∧ rd R.UPD_SETSTAT_MIGR s = m) ∧
    (let s := placed (mfAt 1 0 + 26) [1] (regionAt 1 3 [])
     te0Up s = true ∧ ustate 1 s = 3 ∧ s.upd.fbWait.testBit 1 = false ∧ rd R.UPD_SETSTAT_AREA s ≤ 1 ∧ rd R.UPD_SETSTAT_MIGR s < 2 ∧
      rd R.UPD_SETSTAT_FMT s < mfSetfmt (mfAt 1 (slotOf 1 s)) s) ∧
    (let s := setEngState 0 2 up
     engState 0 s = 2 ∧ s.pwr.stuck = false ∧ recovery s = false ∧ ∀ r ∈ regions, keptState r s % 8 ≠ 3 ∧ keptState r s % 8 ≠ 4) := by
  unfold UpdServed Served keptState Open Region
  refine ⟨?_, ?_, ?_, ?_, ?_, ?_, ?_, ?_, ?_⟩ <;> decide +kernel

/-- An accepted entry of a class. -/
def entryOf (c : Nat) : LogEntry := ⟨0, 0, 0, c, 0, false, false, false, 15, [], []⟩
def barred (f : Bar → Bar) (fs : List (Fld × Nat)) : State := modBar f (wrs fs up)
/-- LOG_CLEAR of both logs, empty, and one that names a SEQ the legal log has not got. -/
def logClear (seq : Byte) : State := authAt 0x20 5 [3, 0, 0, 0, seq, 0, 0, 0, 0, 0, 0, 0] []
theorem logClear_auth (seq : Byte) (h : verifies 5 (logClear seq)) (hs : seq = 0 ∨ seq = 1) :
    AuthOk (vaultAuth (logClear seq)) 0x20 5 (logClear seq) := by
  rcases hs with rfl | rfl <;>
    exact ⟨by decide +kernel, by decide +kernel, by decide +kernel, by decide +kernel, by rfl, by decide +kernel, by decide,
      by decide +kernel, h, by decide +kernel⟩

theorem trigger_fits : TriggerFits 0x60 15 [(5, 0xFF)] 0x1F60 0 :=
  ⟨by decide, by decide, by decide, by decide, by decide, by decide, by decide, by simp⟩

/-- A freeze that is on, and 64 entries accepted and not written when one begins. -/
def frozen (lost : Nat) : State := barred (fun b => { b with lost := lost, held := [entryOf 1] }) [(R.BAR_FREEZE_FRZ, 1)]
def backlog : State := barred (fun b => { b with queued := List.replicate 63 (entryOf 1), held := [entryOf 1] }) []

theorem witness_RecorderKeepsItsLogs :
    (let s := barred (fun b => { b with classes := SMap.put ⟨false, 0, []⟩ b.classes 0x60 ⟨true, 0, []⟩ }) []
     Open 116 s ∧ TriggerFits 0x60 15 [(5, 0xFF)] 0x1F60 0 ∧ reservedCls 0x60 = false ∧ (classRec 0x60 s).en = true ∧
      WritesFreely s) ∧
    (reservedCls (fld (0x1F : W24) 6 0) = true ∧ flag R.BAR_FREEZE_FRZ (frozen 0) = true ∧ (frozen 0).bar.held.length < 64 ∧
      (frozen 0).bar.lost = 0 ∧ (frozen 1).bar.lost ≠ 0 ∧ (frozen 0).bar.legalBad = false ∧ (frozen 0).bar.generalBad = false) ∧
    (∀ k ∈ [0, 1919], let s := barred (fun b => { b with queued := [entryOf 1], legal := List.replicate k (0, entryOf 1) }) []
     flag R.BAR_FREEZE_FRZ s = false ∧ saveAhead s = false ∧ nextEntry (writable s.bar.queued s) = some (entryOf 1) ∧ legalCls (entryOf 1).cls = true ∧
      isScrapped s = false ∧ flag R.BAR_LSTAT_FULL s = false ∧ s.bar.legal.length = k) ∧
    (let s := barred (fun b => { b with queued := [entryOf 0x60] }) []
     flag R.BAR_FREEZE_FRZ s = false ∧ saveAhead s = false ∧ nextEntry (writable s.bar.queued s) = some (entryOf 0x60) ∧ legalCls (entryOf 0x60).cls = false) ∧
    (Open 118 up ∧ isScrapped up = false ∧ up.bar.generalBad = false ∧ up.bar.legalBad = false) ∧
    (let s := logClear 0
     Served 7 s ∧ te15Up s = true ∧ isScrapped s = false ∧ wiping s = false ∧ WritesFreely s ∧ (vaultAuth s).plen = 12 ∧
      (vaultAuth s).params.take 4 = [BitVec.ofNat 8 3, 0, 0, 0] ∧
      leNat (((vaultAuth s).params.drop 4).take 4) = s.bar.pd0Legal ∧ leNat (((vaultAuth s).params.drop 8).take 4) = s.bar.pd0General) ∧
    (let s := logClear 1
     Served 7 s ∧ te15Up s = true ∧ isScrapped s = false ∧ s.bar.legalBad = false ∧ s.bar.generalBad = false ∧
      (vaultAuth s).plen = 12 ∧ (vaultAuth s).params.take 4 = [BitVec.ofNat 8 3, 0, 0, 0] ∧ (3 : Nat).testBit 0 = true ∧
      leNat (((vaultAuth s).params.drop 4).take 4) ≠ s.bar.pd0Legal) ∧
    (hostGate true 0x1D000018 (frozen 0) = none ∧ hostGate true 0x1D000018 backlog = none ∧ flag R.BAR_FREEZE_FRZ backlog = false ∧
      backlog.bar.held.length + backlog.bar.queued.length = 64) := by
  unfold WritesFreely Served Open
  refine ⟨⟨by decide +kernel, trigger_fits, by decide, by decide +kernel, by decide +kernel⟩, ?_, ?_, ?_, ?_, ?_, ?_, ?_⟩ <;> decide +kernel

/-! ### Witnesses: display, load switches, power and the host port -/

/-- `up` with the display on. -/
def display (f : Lcd → Lcd) (fs : List (Fld × Nat)) : State := { wrs fs (wr R.LCD_LCFG_EN 1 up) with lcd := f Lcd.reset }
/-- `up` with load switch `c` in a state. -/
def switchAt (c st : Nat) (fs : List (Fld × Nat)) (f : LsChan → LsChan) : State :=
  modLs c f (wrs fs (wr (R.LSW_LSSTAT_STATE c) st up))

/-- A tagged page without an expected value; the same with one; and a page that is overdue. -/
def tagged : State := display (fun l => { l with tagged := true }) []
def expected : State := display (fun l => { l with tagged := true, exp := some 0, back := [0, 0, 0, 0xFFFFFF] }) []
def overdue : State := { display (fun l => { l with dueAt := some 0 }) [] with now := 5000000 }
/-- Switch 15 latched off with a retry due, a comfort channel (or not), with the junction at 125 °C or above. -/
def retrying (comfort temp shed : Nat) : State :=
  switchAt 15 3 [(R.LSW_LSCTL_ON 15, 1), (R.LSW_LSCFG_CLASS 15, 1 - comfort), (R.PWR_TEMP_CDIE, temp), (R.LSW_GSTAT_SHED, shed)]
    fun x => { x with due := true, ready := true }

theorem witness_DisplayAndLoadSwitchesAct :
    (LcdOn (display id []) ∧ te0Up (display id []) = true ∧ (display id []).upd.bad.getD 2 false = false ∧
      (display id []).lcd.exp = none) ∧
    (tagged.lcd.tagged = true ∧ tagged.lcd.exp = none ∧ pairUp (checkPair (rd R.LCD_TAG_PAGE tagged) (rd R.LCD_TAG_OUTLET tagged)) tagged = true) ∧
    (LcdOn expected ∧ te0Up expected = true ∧ warned expected = false ∧ expected.lcd.tagged = true ∧ expected.lcd.exp = some 0 ∧
      expected.lcd.back = [0, 0, 0, 0xFFFFFF] ∧ ∀ r ∈ expected.lcd.back, r < 2 ^ 24) ∧
    (LcdOn overdue ∧ overdue.lcd.exp = none ∧ overdue.lcd.dueAt = some 0 ∧ max 0 overdue.lcd.swapAt + 5000000 ≤ overdue.now) ∧
    (LsFree 15 (switchAt 15 0 [] id) ∧ (1 : W32).toNat % 8 = 1 ∧ lsState 15 (switchAt 15 0 [] id) = 0 ∧
      (getLs 15 (switchAt 15 0 [] id)).testing = false ∧ (2 : W32).getLsbD 1 = true ∧ (4 : W32).toNat % 8 = 4 ∧
      flag (R.LSW_LSCTL_ON 15) (switchAt 15 0 [] id) = false ∧ lsTestBarred 15 (switchAt 15 0 [] id) = false) ∧
    (hostGate true (0x1F000004 + (15 : Fin 16).val * 0x100) (switchAt 15 2 [] id) = none ∧ (8 : W32).toNat % 8 = 0 ∧
      lsIsOn 15 (switchAt 15 1 [] id) = true ∧ lsIsOn 15 (switchAt 15 2 [] id) = true ∧ lsState 15 (switchAt 15 1 [] id) = 1 ∧
      (getLs 15 (switchAt 15 1 [] id)).testing = false) ∧
    (let s := switchAt 15 0 [(R.LSW_LSCTL_ON 15, 1)] fun x => { x with testing := true }
     (getLs 15 s).testing = true ∧ flag (R.LSW_LSCTL_ON 15) s = true ∧ lsState 15 s = 0 ∧ 500 < (501 : BitVec 14).toNat) ∧
    (let s := switchAt 15 2 [(R.LSW_LSCFG_OCTHR 15, 0), (R.LSW_LSCFG_OLEN 15, 1)] id
     (getLs 15 s).testing = false ∧ lsState 15 s = 2 ∧ 250 * (rd (R.LSW_LSCFG_OCTHR 15) s + 1) < (251 : BitVec 14).toNat ∧
      flag (R.LSW_LSCFG_OLEN 15) s = true ∧ pdOn 10 s = true ∧ 205 ≤ (205 : Byte).toNat) ∧
    (∀ t ∈ [165, 166], ∀ sh ∈ [0, 1], let s := retrying 1 t sh
     lsState 15 s = 3 ∧ (getLs 15 s).due = true ∧ (getLs 15 s).ready = true ∧ flag (R.LSW_LSCTL_ON 15) s = true ∧
      lsShed s = decide (sh = 1) ∧ (Cool 15 s ↔ t = 165)) ∧
    ((2401 : BitVec 16).toNat > 2400 ∧ (4001 : BitVec 12).toNat > 4000) := by
  unfold LcdOn LsFree
  refine ⟨?_, ?_, ?_, ?_, ?_, ?_, ?_, ?_, ?_, ?_⟩ <;> decide +kernel

/-- A core change that runs, with TE0 up or not; and the part held in reset by its temperature. -/
def changing (e0 : Nat) : State :=
  { setEngState 0 e0 (wr R.PWR_CORE_CHG 1 up) with pwr := { up.pwr with core := if e0 = 3 then some (7, 0) else none } }
def hotReset : State := { State.reset with pwr := { State.reset.pwr with held := true } }

theorem witness_PowerResetsAndHostPortAct :
    (Served 7 up ∧ isScrapped up = false ∧ (rd R.PWR_PDSTAT_SFLT up).testBit 10 = false ∧ up.pwr.doms = [] ∧ warned up = false ∧
      pdOn 9 up = true ∧ mayOff 9 up = true ∧ pdOn 2 up = true) ∧
    (let s := wr R.PWR_PDSTAT_ON 0xFFB up
     Served 7 s ∧ isScrapped s = false ∧ (rd R.PWR_PDSTAT_SFLT s).testBit 2 = false ∧ pdOn 2 s = false ∧ s.pwr.doms = [] ∧ warned s = false) ∧
    { up with pwr := { up.pwr with doms := [(2, true, 7, 0)] } }.pwr.doms = [((2 : Fin 12).val, true, (7 : Fin 8).val, 0)] ∧
    (let s := wr R.PWR_CORE_MODE 2 up
     Served 7 s ∧ 0 ≠ rd R.PWR_CORE_MODE s ∧ s.pwr.core = none ∧ flag R.PWR_CORE_CHG s = false ∧ warned s = false ∧ overLimits 0 s = false) ∧
    (flag R.PWR_CORE_CHG (changing 3) = true ∧ te0Up (changing 3) = true ∧ (changing 3).pwr.core = some ((7 : Fin 8).val, 0)) ∧
    (flag R.PWR_CORE_CHG (changing 1) = true ∧ te0Up (changing 1) = false) ∧
    (flag R.PWR_CORE_CHG up = false ∧ up.pwr.down = false ∧ up.pwr.stuck = false ∧ warned (wr R.PWR_PFWST_WARN 1 up) = true) ∧
    (State.reset.pwr.down = true ∧ State.reset.pwr.held = false ∧ hotReset.pwr.held = true ∧ hotReset.pwr.down = true) ∧
    (PortOpen up ∧ HostData 0x1FFFFFC 1 ∧ HostData 0x1000000 0) ∧
    (mramWritable 0x080000 = true ∧ mramWritable (0x080000 + 3) = true ∧ mramWritable 0x060000 = false) ∧
    (hostGate true 0x1E000004 up = none ∧ hostGate true 0x1E000000 (wr R.LIFE_LSTATE_STATE 2 up) = none ∧
      locked (wr R.LIFE_LSTATE_STATE 2 up) = true ∧ (2 : W32).toNat % 2 ≠ rd R.LCD_LCFG_EN (wr R.LCD_LCFG_EN 1 (wr R.LIFE_LSTATE_STATE 2 up))) ∧
    ((0xFF : Byte) ≠ 0x0B ∧ (0xFF : Byte) ≠ 0x02 ∧ (0xFF : Byte) ≠ 0x05 ∧ (0xFF : Byte) ≠ 0x99) := by
  unfold Served PortOpen HostData
  refine ⟨?_, ?_, ?_, ?_, ?_, ?_, ?_, ?_, ?_, ?_, ?_, ?_⟩ <;> decide +kernel

/-- The memory of the reset state is in canonical form, and stays so. -/
theorem witness_EveryStepAnswersAndKeepsMemoryCanonical : memoryWf State.reset := by decide +kernel

/-! ### Steps of commands of the block -/

/-- R106: after the doorbell TE0 has its event. -/
theorem test_doorbell : (match exec (.doorbell 1) up with | .next t => (getEng 0 t).evBell | _ => false) = true := by decide +kernel
/-- R97: a pushed message takes the number 0 in a fresh queue. -/
theorem test_host_push : (match exec (.qpushh 0 (0x31 * 2 ^ 16)) up with
    | .next t => (getQ 0 t).tail == 1
    | _ => false) = true := by decide +kernel
/-- R34: STATUS answers the status of the last access and sets it OK. -/
theorem test_status : (match exec .status (wr R.PWR_HSTAT_LAST 3 up) with
    | .next t => t.pwr.out == [3] && rd R.PWR_HSTAT_LAST t == 0
    | _ => false) = true := by decide +kernel
/-- R416: a write of CKPOLY while EN is 1 is DENIED. -/
theorem test_ck_locked : (match exec (.registerWrite 0x1B000304 7) (wr (R.CHK_CKCFG_EN 3) 1 up) with
    | .next t => rd R.PWR_HSTAT_LAST t == stDENIED && rd (R.CHK_CKPOLYLO_P 3) t == 0
    | _ => false) = true := by decide +kernel
/-- R297: an opened stop channel drops its path in hardware. -/
theorem test_estop_path : (match exec (.estopChange true false) (wr (R.FOLD_KSTAT_KB 7) 1 up) with
    | .next t => rd (R.FOLD_KSTAT_KB 7) t
    | _ => 1) = 0 := by decide +kernel
/-- R246, R252: state A ends a connection. -/
theorem test_pilot_a : (match exec (.pilotStateChange 7 (periods 1200) (periods 1200) (periods 1200)) (outletAt 7 2 1 []) with
    | .next t => ostate 7 t
    | _ => 0) = 1 := by decide +kernel
end Sys2Proof.Tests
end

section
/-!
What a read gives in the reset state, and the statement of the scope family about it.
-/
namespace Sys2Proof.Machine

/-- A vector of like things made of one value holds it at every index. -/
@[simp] theorem vget_replicate {α : Type} {n : Nat} (x : α) (i : Fin n) : vget (Vector.replicate n x) i = x := by
  simp [vget]

/-- No field is listed at reset, so a read answers the reset value of the field's register table (R12). -/
@[simp] theorem rd_reset (f : Fld) : rd f State.reset = f.rst := rfl

/-- Every queue is as R106 gives it. -/
@[simp] theorem getQ_reset (q : Qid) : getQ q State.reset = Queue.reset := vget_replicate Queue.reset q

/-- A one-bit field is set at reset exactly if its table says so. -/
theorem flag_reset (f : Fld) : flag f State.reset = (f.rst == 1) := by rw [flag, rd_reset]

/-- Settles O59: a read of a field answers its table's value by `rd_reset`, and the values written out are those of
the tables; every queue is the empty one of R106 by `getQ_reset`. -/
theorem resetLeavesStatedValues : Obligations.ResetLeavesStatedValues := by
  unfold Obligations.ResetLeavesStatedValues
  have queues : ∀ q : Qid, (getQ q State.reset).ent = [] ∧ (getQ q State.reset).dlv = [] ∧
      (getQ q State.reset).en = false := fun q => by
    rw [getQ_reset]
    exact ⟨rfl, rfl, rfl⟩
  have unloaded : ∀ e : Eid, engState e State.reset = 0 := fun e => rd_reset (R.QM_ENGSTAT_STATE e)
  have outOfService : ∀ o : Fin 8, ostate o State.reset = 0 := fun o => rd_reset (R.OUT_STATE_OSTATE o)
  refine ⟨rd_reset, ?written, queues, rfl, rfl, rfl, rd_reset R.PTP_CLKSTAT_STATUS, ?notStepped, unloaded,
    outOfService, rfl, memWf_reset⟩
  case written =>
    simp only [rd_reset]
    rfl
  case notStepped =>
    rw [flag_reset]
    rfl

end Sys2Proof.Machine
end

section
/-!
O33: the end of a splice block, of a detector window, and a missed deadline. What one channel's commands can change is
said once (`OnlyChan`), with the writes that stay inside it.
-/
namespace Sys2Proof.Machine
open Sys2Proof.Claims

/-! ### One channel's record and registers -/

@[simp] theorem getCh_setCh_same (o c : Nat) (x : Chan) (s : State) : getCh o c (setCh o c x s) = x := by
  simp [getCh, setCh]

@[simp] theorem getCh_wr (o c : Nat) (f : Fld) (v : Nat) (s : State) : getCh o c (wr f v s) = getCh o c s := rfl
@[simp] theorem rd_setCh (g : Fld) (o c : Nat) (x : Chan) (s : State) : rd g (setCh o c x s) = rd g s := rfl
@[simp] theorem rd_modCh (g : Fld) (o c : Nat) (f : Chan → Chan) (s : State) : rd g (modCh o c f s) = rd g s := rfl
@[simp] theorem getCh_incSat (o c : Nat) (f : Fld) (s : State) : getCh o c (incSat f s) = getCh o c s := rfl

end Sys2Proof.Machine

namespace Sys2Proof.Claims
open Sys2Proof.Machine

theorem OnlyChan.refl (o c : Nat) (s : State) : OnlyChan o c s s :=
  ⟨rfl, rfl, fun _ _ _ => rfl, fun _ _ _ _ _ _ => rfl⟩

theorem OnlyChan.trans {o c : Nat} {s t u : State} (h : OnlyChan o c s t) (k : OnlyChan o c t u) : OnlyChan o c s u := by
  obtain ⟨hs, hsamp, hch, hrd⟩ := h
  obtain ⟨ks, ksamp, kch, krd⟩ := k
  refine ⟨?_, ?_, fun i a b => (kch i a b).trans (hch i a b),
    fun f l q b n a => (krd f l q b n a).trans (hrd f l q b n a)⟩
  · cases s; cases t; cases u
    simp only [State.mk.injEq] at hs ks ⊢
    simp_all
  · rw [← hsamp, ← ksamp]

/-- A write of a register of the channel. -/
theorem OnlyChan.wr {o c : Nat} {f : Fld} (v : Nat) (s : State) (hf : OfChan o c f) (hl : f.lsb < 32) :
    OnlyChan o c s (wr f v s) := by
  refine ⟨rfl, rfl, fun _ _ _ => rfl, fun g gl _ _ gn _ => rd_wr_ne v s fun hk => gn ?_⟩
  have hk' : g.addr * 32 + g.lsb = f.addr * 32 + f.lsb := hk
  have ha : g.addr = f.addr := by omega
  simpa only [OfChan, ha] using hf

theorem OnlyChan.incSat {o c : Nat} {f : Fld} (s : State) (hf : OfChan o c f) (hl : f.lsb < 32) :
    OnlyChan o c s (incSat f s) := OnlyChan.wr _ s hf hl

theorem OnlyChan.setCh (o c : Nat) (x : Chan) (s : State) : OnlyChan o c s (setCh o c x s) :=
  ⟨rfl, rfl, fun _ a _ => vget_vset_ne _ _ a, fun _ _ _ _ _ _ => rfl⟩

end Sys2Proof.Claims

namespace Sys2Proof.Machine
open Sys2Proof.Claims

theorem QueueOnly.samp {s t : State} (h : QueueOnly s t) : t.samp = s.samp := by
  have hs := congrArg State.samp h.1
  exact hs

theorem LogOnly.samp {s t : State} (h : LogOnly s t) : t.samp = s.samp := by
  have hs := congrArg State.samp h.1
  exact hs

theorem LogOnly.now {s t : State} (h : LogOnly s t) : t.now = s.now := by
  have hs := congrArg State.now h.1
  exact hs

theorem QueueOnly.onlyChan {s t : State} (h : QueueOnly s t) (o c : Nat) : OnlyChan o c s t := by
  have hs : t.samp = s.samp := h.samp
  refine ⟨?_, by rw [hs], fun _ _ _ => by rw [hs], fun f l q b _ _ => h.2 f l q b⟩
  have h1 := h.1
  cases s; cases t
  simp only [State.mk.injEq] at h1 ⊢
  simp_all

theorem QueueOnly.getCh {s t : State} (h : QueueOnly s t) (o c : Nat) : getCh o c t = getCh o c s := by
  have hs : t.samp = s.samp := h.samp
  rw [Machine.getCh, hs, Machine.getCh]

theorem LogOnly.getCh {s t : State} (h : LogOnly s t) (o c : Nat) : Machine.getCh o c t = Machine.getCh o c s := by
  have hs : t.samp = s.samp := h.samp
  rw [Machine.getCh, hs, Machine.getCh]

/-- The fields of a channel's page of the register table lie within R158's 256 bytes. -/
theorem ofChan_page {o c : Nat} {f : Fld} (h : f.addr / 0x100 = 0x110000 + o * 0x10 + c) : OfChan o c f := .inl h

/-- No count of the queue fabric stands above the queues' registers. -/
theorem isQCount_above_queues {f : Fld} (h : 0x10003000 ≤ f.addr) : f.isQCount = false := by
  simp only [Fld.isQCount, Bool.or_eq_false_iff, decide_eq_false_iff_not, beq_eq_false_iff_ne]
  omega

/-- A saturating counter below its end counts on, and one at its end stays. -/
theorem rd_incSat_same (f : Fld) (s : State) : rd f (incSat f s) = min (rd f s + 1) (2 ^ f.wid - 1) := by
  have hw : 0 < 2 ^ f.wid := Nat.two_pow_pos _
  rw [incSat, rd_wr_same, satInc]
  split <;> rw [Nat.mod_eq_of_lt (by omega)] <;> omega


/-! ### The end of a splice block (R134) -/

/-- The last step of a splice block: its sums start afresh with the count `n` of converged blocks, which RCONV shows. -/
def restartSplice (o c n : Nat) (s : State) : State :=
  wrB (R.FLT_SPLSTAT_RCONV o c) (decide (4 ≤ n))
    (setCh o c { getCh o c s with shl := 0, sll := 0, spk := 0, blk := 0, conv := n } s)

/-- The ratio a block's sums give. -/
def spliceEstimate (x : Chan) : Int := x.shl * 2 ^ 32 / x.sll

/-- R134: the estimate is accepted. -/
def SpliceGood (rb : Int) : Prop := 0x0F0F0F0F ≤ rb ∧ rb ≤ 0x11111111

/-- The count of converged blocks after an accepted estimate. -/
def spliceConv (x : Chan) (r : Nat) : Nat := if (spliceEstimate x - r).natAbs ≤ 0x1000 then x.conv + 1 else 0

theorem doSpliceBlock_few {o c : Nat} {s : State} (hb : 4096 ≤ (getCh o c s).blk) (hk : (getCh o c s).spk < 1024) :
    doSpliceBlock o c s = restartSplice o c (getCh o c s).conv s := by
  have enough : decide (1024 ≤ (getCh o c s).spk) = false := decide_eq_false (Nat.not_le.2 hk)
  simp only [doSpliceBlock, restartSplice, if_neg (Nat.not_lt.2 hb), enough, Bool.false_and, Bool.false_eq_true, if_false]

theorem doSpliceBlock_good {o c : Nat} {s : State} (hb : 4096 ≤ (getCh o c s).blk) (hk : 1024 ≤ (getCh o c s).spk)
    (hg : SpliceGood (spliceEstimate (getCh o c s))) :
    doSpliceBlock o c s =
      restartSplice o c (spliceConv (getCh o c s) (rd (R.FLT_SPLR_R o c) s))
        (wr (R.FLT_SPLR_R o c)
          ((rd (R.FLT_SPLR_R o c) s : Int) + (spliceEstimate (getCh o c s) - rd (R.FLT_SPLR_R o c) s) / 16).toNat s) := by
  have enough : decide (1024 ≤ (getCh o c s).spk) = true := decide_eq_true hk
  simp only [SpliceGood, spliceEstimate] at hg
  simp only [doSpliceBlock, restartSplice, spliceConv, spliceEstimate, if_neg (Nat.not_lt.2 hb), enough, decide_eq_true hg,
    Bool.and_self, Bool.not_true, Bool.and_false, Bool.false_eq_true, if_true, if_false, getCh_wr]
  rfl

theorem doSpliceBlock_rejected {o c : Nat} {s : State} (hb : 4096 ≤ (getCh o c s).blk) (hk : 1024 ≤ (getCh o c s).spk)
    (hg : ¬ SpliceGood (spliceEstimate (getCh o c s))) :
    doSpliceBlock o c s = restartSplice o c 0 (incSat (R.FLT_SPLSTAT_REJ o c) s) := by
  have enough : decide (1024 ≤ (getCh o c s).spk) = true := decide_eq_true hk
  simp only [SpliceGood, spliceEstimate] at hg
  simp only [doSpliceBlock, restartSplice, if_neg (Nat.not_lt.2 hb), enough, decide_eq_false hg, Bool.and_false, Bool.not_false,
    Bool.and_self, Bool.false_eq_true, if_true, if_false, getCh_incSat]

theorem getCh_restartSplice (o c n : Nat) (s : State) :
    getCh o c (restartSplice o c n s) = { getCh o c s with shl := 0, sll := 0, spk := 0, blk := 0, conv := n } := by
  rw [restartSplice, wrB, getCh_wr, getCh_setCh_same]

theorem rd_restartSplice {o c n : Nat} {f : Fld} (s : State) (h : f.key ≠ (R.FLT_SPLSTAT_RCONV o c).key) :
    rd f (restartSplice o c n s) = rd f s := by
  rw [restartSplice, wrB, rd_wr_ne _ _ h, rd_setCh]


theorem onlyChan_restartSplice (o c n : Nat) (s : State) : OnlyChan o c s (restartSplice o c n s) :=
  (OnlyChan.setCh o c _ s).trans (OnlyChan.wr _ _ (ofChan_page (by simp only [R.FLT_SPLSTAT_RCONV]; omega)) (Nat.le_of_ble_eq_true rfl))

theorem rd_splr_restartSplice (o c n : Nat) (s : State) :
    rd (R.FLT_SPLR_R o c) (restartSplice o c n s) = rd (R.FLT_SPLR_R o c) s :=
  rd_restartSplice s (by simp only [Fld.key, R.FLT_SPLR_R, R.FLT_SPLSTAT_RCONV]; omega)

theorem rd_rej_restartSplice (o c n : Nat) (s : State) :
    rd (R.FLT_SPLSTAT_REJ o c) (restartSplice o c n s) = rd (R.FLT_SPLSTAT_REJ o c) s :=
  rd_restartSplice s (by simp only [Fld.key, R.FLT_SPLSTAT_REJ, R.FLT_SPLSTAT_RCONV]; omega)

/-- However the block ends, it ends with cleared sums and changes only its channel. -/
theorem doSpliceBlock_restarts {o c : Nat} {s : State} (hb : 4096 ≤ (getCh o c s).blk) :
    ∃ n u, doSpliceBlock o c s = restartSplice o c n u ∧ OnlyChan o c s u := by
  by_cases hk : 1024 ≤ (getCh o c s).spk
  · by_cases hg : SpliceGood (spliceEstimate (getCh o c s))
    · exact ⟨_, _, doSpliceBlock_good hb hk hg,
        OnlyChan.wr _ s (ofChan_page (by simp only [R.FLT_SPLR_R]; omega)) (Nat.le_of_ble_eq_true rfl)⟩
    · exact ⟨_, _, doSpliceBlock_rejected hb hk hg,
        OnlyChan.incSat s (ofChan_page (by simp only [R.FLT_SPLSTAT_REJ]; omega)) (Nat.le_of_ble_eq_true rfl)⟩
  · exact ⟨_, _, doSpliceBlock_few hb (Nat.not_le.1 hk), OnlyChan.refl o c s⟩

/-! ### The end of a detector window (R150) -/

/-- The results of a window are written together, and the next window starts. -/
def windowResults (o c n : Nat) (s : State) : State :=
  let ch := getCh o c s
  setCh o c { ch with wn := 0, sumsq := 0, pkmax := 0, pkmin := 0, pkSeen := false, wfull := false }
    (wrs [(R.FLT_PKMAX_X o c, toU 24 ch.pkmax), (R.FLT_PKMIN_X o c, toU 24 ch.pkmin),
      (R.FLT_RMS_X o c, Nat.sqrt (ch.sumsq / ch.wn)), (R.FLT_ENV_X o c, ch.env / 256), (R.FLT_DETIDX_N o c, n)] s)

/-- The reports of a window go into queues and change nothing else. -/
theorem endWindow_reports (o c n : Nat) (ho : o ≤ 8) (s : State) : QueueOnly (windowResults o c n s) (endWindow o c n s) := by
  have hq : ∀ q ∈ streamQs o c, q < 128 := by
    intro q hq
    unfold streamQs at hq
    split at hq
    · simp only [List.mem_cons, List.not_mem_nil, or_false] at hq; omega
    · split at hq <;> simp only [List.mem_singleton] at hq <;> omega
  unfold endWindow
  dsimp only
  split
  · exact QueueOnly.forEach _ _ (fun q h s => QueueOnly.forEach _ _ (fun m _ s => queueOnly_pushQ (hq q h) o m s) s) _
  · exact QueueOnly.refl _

theorem onlyChan_windowResults (o c n : Nat) (s : State) : OnlyChan o c s (windowResults o c n s) := by
  have page : ∀ {f : Fld} (v : Nat) (s : State), f.addr / 0x100 = 0x110000 + o * 0x10 + c → f.lsb < 32 →
      OnlyChan o c s (wr f v s) := fun v s h l => OnlyChan.wr v s (ofChan_page h) l
  refine OnlyChan.trans ?_ (OnlyChan.setCh o c _ _)
  refine ((((page _ s ?_ ?_).trans (page _ _ ?_ ?_)).trans (page _ _ ?_ ?_)).trans (page _ _ ?_ ?_)).trans (page _ _ ?_ ?_)
  all_goals simp only [R.FLT_PKMAX_X, R.FLT_PKMIN_X, R.FLT_RMS_X, R.FLT_ENV_X, R.FLT_DETIDX_N]; omega

/-- What the registers of the channel read once the results stand. -/
theorem rd_windowResults (o c n : Nat) (s : State) :
    let x := getCh o c s
    let t := windowResults o c n s
    rd (R.FLT_PKMAX_X o c) t = toU 24 x.pkmax ∧ rd (R.FLT_PKMIN_X o c) t = toU 24 x.pkmin ∧
      rd (R.FLT_RMS_X o c) t = Nat.sqrt (x.sumsq / x.wn) % 2 ^ 24 ∧ rd (R.FLT_ENV_X o c) t = x.env / 256 % 2 ^ 24 ∧
      rd (R.FLT_DETIDX_N o c) t = n % 2 ^ 24 := by
  have cut : ∀ v : Int, toU 24 v % 2 ^ 24 = toU 24 v := fun v => Nat.mod_eq_of_lt (BitVec.isLt _)
  simp only [windowResults, rd_setCh, wrs, List.foldl_cons, List.foldl_nil]
  refine ⟨?_, ?_, ?_, ?_, rd_wr_same _ _ _⟩
  · rw [rd_wr_ne, rd_wr_ne, rd_wr_ne, rd_wr_ne, rd_wr_same]
    · exact cut _
    all_goals simp only [Fld.key, R.FLT_PKMAX_X, R.FLT_PKMIN_X, R.FLT_RMS_X, R.FLT_ENV_X, R.FLT_DETIDX_N]; omega
  · rw [rd_wr_ne, rd_wr_ne, rd_wr_ne, rd_wr_same]
    · exact cut _
    all_goals simp only [Fld.key, R.FLT_PKMIN_X, R.FLT_RMS_X, R.FLT_ENV_X, R.FLT_DETIDX_N]; omega
  · rw [rd_wr_ne, rd_wr_ne, rd_wr_same]
    · rfl
    all_goals simp only [Fld.key, R.FLT_RMS_X, R.FLT_ENV_X, R.FLT_DETIDX_N]; omega
  · rw [rd_wr_ne, rd_wr_same]
    · rfl
    simp only [Fld.key, R.FLT_ENV_X, R.FLT_DETIDX_N]; omega


/-! ### A missed deadline (R28, R157) -/

/-- What a stage's miss writes before it reaches a channel: the counters of its slack monitor and two records. -/
def missLogged (st : Fin 11) (s : State) : State :=
  let s := wr (R.QM_SLKMIN_MIN st) 0 (incSat (R.QM_SLKLOW_COUNT st) (incSat (R.QM_SLKMISS_COUNT st) s))
  logSlack (logFault true 2 st 0x7F (nextIdx s) s)

/-- The misses of the last 10 s with the one of now (R157). -/
def recentMisses (x : Chan) (now : Nat) : List Nat := now :: x.misses.filter fun t => decide (now < t + 10000000)

/-- The channel after a miss: its next sample is substituted. -/
def Chan.missing (now : Nat) (x : Chan) : Chan :=
  { x with missed := true, missed90 := true, ageRec := 0, misses := recentMisses x now }

/-- Three misses within 10 s set FLT. -/
def fltAfter (o c : Nat) (s : State) : State :=
  if 3 ≤ (getCh o c s).misses.length then wr (R.FLT_CHSTAT_FLT o c) 1 s else s

theorem missLogged_counted (st : Fin 11) (s : State) :
    ∃ u, LogOnly u (missLogged st s) ∧ u.samp = s.samp ∧ u.now = s.now ∧
      rd (R.QM_SLKMISS_COUNT st) u = min (rd (R.QM_SLKMISS_COUNT st) s + 1) (2 ^ (R.QM_SLKMISS_COUNT st).wid - 1) ∧
      ∀ f : Fld, f.lsb < 32 → f.block ≠ 0x10 → rd f u = rd f s := by
  refine ⟨_, (logOnly_logFault true _ _ _ _ _).trans (logOnly_logSlack _), rfl, rfl, ?_, fun f hl hb => ?_⟩
  · rw [rd_wr_ne, incSat, rd_wr_ne, rd_incSat_same]
    all_goals simp only [Fld.key, R.QM_SLKMISS_COUNT, R.QM_SLKLOW_COUNT, R.QM_SLKMIN_MIN]; omega
  · have other : ∀ {g : Fld} (v : Nat) (s : State), g.lsb < 32 → g.block = 0x10 → rd f (wr g v s) = rd f s :=
      fun v s l b => rd_wr_block v s l hl (by rw [b]; exact hb)
    rw [other, incSat, other, incSat, other]
    all_goals simp only [Fld.block, R.QM_SLKMISS_COUNT, R.QM_SLKLOW_COUNT, R.QM_SLKMIN_MIN]; omega

/-- The records and counters of a miss leave every register of the sampling chain and of the supplies. -/
theorem rd_missLogged (st : Fin 11) (s : State) {f : Fld} (hl : f.lsb < 32) (hb : f.block = 0x11 ∨ f.block = 0x20) :
    rd f (missLogged st s) = rd f s := by
  obtain ⟨u, hlog, -, -, -, hrd⟩ := missLogged_counted st s
  have hq : f.isQCount = false := isQCount_above_queues (by simp only [Fld.block] at hb; omega)
  rw [hlog.2 f hl hq (by omega) (by omega), hrd f hl (by omega)]

theorem chOn_missLogged (st : Fin 11) (o : Fin 9) (c : Nat) (hc : c < 14) (s : State) :
    chOn o c (missLogged st s) = chOn o c s := by
  have hg : govern o c < 14 := by unfold govern; split <;> omega
  have hen : rd (R.FLT_CHCFG_EN o (govern o c)) (missLogged st s) = rd (R.FLT_CHCFG_EN o (govern o c)) s :=
    rd_missLogged st s (Nat.le_of_ble_eq_true rfl) (.inl (by simp only [Fld.block, R.FLT_CHCFG_EN]; omega))
  have hpd : rd R.PWR_PDSTAT_ON (missLogged st s) = rd R.PWR_PDSTAT_ON s :=
    rd_missLogged st s (Nat.le_of_ble_eq_true rfl) (.inr rfl)
  simp only [chOn, flag, pdOn, hen, hpd]

theorem execStageDeadlineMiss_off {st : Fin 11} {o : Fin 9} {c : Fin 14} {s : State} (h : chOn o c s = false) :
    execStageDeadlineMiss st o c s = .next (missLogged st s) := by
  rw [← chOn_missLogged st o c c.isLt] at h
  unfold execStageDeadlineMiss
  unfold missLogged at h ⊢
  dsimp only at h ⊢
  rw [h]
  rfl

theorem execStageDeadlineMiss_on {st : Fin 11} {o : Fin 9} {c : Fin 14} {s : State} (h : chOn o c s = true) :
    execStageDeadlineMiss st o c s =
      .next (fltAfter o c (modCh o c (Chan.missing (missLogged st s).now) (missLogged st s))) := by
  rw [← chOn_missLogged st o c c.isLt] at h
  unfold execStageDeadlineMiss fltAfter modCh
  rw [getCh_setCh_same]
  unfold missLogged at h ⊢
  dsimp only at h ⊢
  rw [h]
  rfl


theorem rd_slkmiss_missLogged (st : Fin 11) (s : State) (h : rd (R.QM_SLKMISS_COUNT st) s < 2 ^ (R.QM_SLKMISS_COUNT st).wid - 1) :
    rd (R.QM_SLKMISS_COUNT st) (missLogged st s) = rd (R.QM_SLKMISS_COUNT st) s + 1 := by
  obtain ⟨u, hlog, -, -, hcount, -⟩ := missLogged_counted st s
  have hq : (R.QM_SLKMISS_COUNT st).isQCount = false :=
    isQCount_above_queues (by simp only [R.QM_SLKMISS_COUNT]; omega)
  have hb : (R.QM_SLKMISS_COUNT st).block = 0x10 := by simp only [Fld.block, R.QM_SLKMISS_COUNT]; omega
  rw [hlog.2 _ (Nat.le_of_ble_eq_true rfl) hq (by omega) (by omega), hcount]
  omega

theorem getCh_fltAfter (o c : Nat) (s : State) : getCh o c (fltAfter o c s) = getCh o c s := by
  unfold fltAfter
  split <;> rfl

theorem rd_slkmiss_fltAfter (st : Fin 11) (o : Fin 9) (c : Fin 14) (s : State) :
    rd (R.QM_SLKMISS_COUNT st) (fltAfter o c s) = rd (R.QM_SLKMISS_COUNT st) s := by
  unfold fltAfter
  split
  · exact rd_wr_ne _ _ (by simp only [Fld.key, R.QM_SLKMISS_COUNT, R.FLT_CHSTAT_FLT]; omega)
  · rfl

theorem flag_fltAfter {o c : Nat} {s : State} (h : 3 ≤ (getCh o c s).misses.length) :
    flag (R.FLT_CHSTAT_FLT o c) (fltAfter o c s) = true := by
  rw [fltAfter, if_pos h, flag, rd_wr_same]
  rfl

/-! ### The three clauses -/

theorem spliceBlock_yields (o : Fin 8) (c : Fin 4) (s : State) (hb : 4096 ≤ (getCh o (4 + c.val) s).blk) :
    Yields (.spliceBlock o c) s fun t =>
      (getCh o (4 + c.val) t).blk = 0 ∧ (getCh o (4 + c.val) t).spk = 0 ∧ (getCh o (4 + c.val) t).shl = 0 ∧
      (getCh o (4 + c.val) t).sll = 0 ∧ OnlyChan o (4 + c.val) s t ∧
      (let x := getCh o (4 + c.val) s
       let r := rd (R.FLT_SPLR_R o (4 + c.val)) s
       let rb := x.shl * 2 ^ 32 / x.sll
       if x.spk < 1024 then rd (R.FLT_SPLR_R o (4 + c.val)) t = r
       else if 0x0F0F0F0F ≤ rb ∧ rb ≤ 0x11111111 then
         rd (R.FLT_SPLR_R o (4 + c.val)) t = ((r : Int) + (rb - r) / 16).toNat % 2 ^ 32 ∧
           (getCh o (4 + c.val) t).conv = if (rb - r).natAbs ≤ 0x1000 then x.conv + 1 else 0
       else rd (R.FLT_SPLR_R o (4 + c.val)) t = r ∧ (getCh o (4 + c.val) t).conv = 0 ∧
         rd (R.FLT_SPLSTAT_REJ o (4 + c.val)) t = min (rd (R.FLT_SPLSTAT_REJ o (4 + c.val)) s + 1) 255) := by
  refine ⟨doSpliceBlock o (4 + c.val) s, rfl, ?_⟩
  generalize 4 + c.val = c at hb ⊢
  obtain ⟨n, u, hdone, honly⟩ := doSpliceBlock_restarts hb
  have hsums := getCh_restartSplice o c n u
  rw [← hdone] at hsums
  refine ⟨by rw [hsums], by rw [hsums], by rw [hsums], by rw [hsums],
    hdone ▸ honly.trans (onlyChan_restartSplice o c n u), ?_⟩
  dsimp only
  split
  next hk => rw [doSpliceBlock_few hb hk, rd_splr_restartSplice]
  next hk =>
    split
    next hg =>
      rw [doSpliceBlock_good hb (Nat.not_lt.1 hk) hg, rd_splr_restartSplice, rd_wr_same, getCh_restartSplice]
      exact ⟨rfl, rfl⟩
    next hg =>
      have hne : (R.FLT_SPLR_R o c).key ≠ (R.FLT_SPLSTAT_REJ o c).key := by
        simp only [Fld.key, R.FLT_SPLR_R, R.FLT_SPLSTAT_REJ]; omega
      rw [doSpliceBlock_rejected hb (Nat.not_lt.1 hk) hg, rd_splr_restartSplice, getCh_restartSplice,
        rd_rej_restartSplice, rd_incSat_same]
      exact ⟨rd_wr_ne _ _ hne, rfl, rfl⟩

theorem detectorWindowEnd_yields (o : Fin 9) (c : Fin 14) (s : State) (hw : (getCh o c s).wfull = true) :
    Yields (.detectorWindowEnd o c) s fun t =>
      rd (R.FLT_PKMAX_X o c) t = toU 24 (getCh o c s).pkmax ∧ rd (R.FLT_PKMIN_X o c) t = toU 24 (getCh o c s).pkmin ∧
      rd (R.FLT_RMS_X o c) t = Nat.sqrt ((getCh o c s).sumsq / (getCh o c s).wn) % 2 ^ 24 ∧
      rd (R.FLT_ENV_X o c) t = (getCh o c s).env / 256 % 2 ^ 24 ∧
      rd (R.FLT_DETIDX_N o c) t = rd R.FLT_IDX_N s % 2 ^ 24 ∧
      (getCh o c t).wn = 0 ∧ (getCh o c t).pkSeen = false ∧ OnlyChan o c s t := by
  have hrun : exec (.detectorWindowEnd o c) s = .next (endWindow o c (rd R.FLT_IDX_N s) s) :=
    congrArg Host.Outcome.next (if_pos hw)
  refine ⟨_, hrun, ?_⟩
  have hrep := endWindow_reports o c (rd R.FLT_IDX_N s) (by omega) s
  have hch : getCh o c (endWindow o c (rd R.FLT_IDX_N s) s) = _ := (hrep.getCh o c).trans (getCh_setCh_same o c _ _)
  have kept : ∀ f : Fld, f.lsb < 32 → f.block = 0x11 → rd f (endWindow o c (rd R.FLT_IDX_N s) s) =
      rd f (windowResults o c (rd R.FLT_IDX_N s) s) := by
    intro f hl hb
    exact hrep.2 f hl (isQCount_above_queues (by simp only [Fld.block] at hb; omega)) (by omega)
  obtain ⟨hmax, hmin, hrms, henv, hidx⟩ := rd_windowResults o c (rd R.FLT_IDX_N s) s
  refine ⟨(kept _ ?_ ?_).trans hmax, (kept _ ?_ ?_).trans hmin, (kept _ ?_ ?_).trans hrms, (kept _ ?_ ?_).trans henv,
    (kept _ ?_ ?_).trans hidx, by rw [hch], by rw [hch], (onlyChan_windowResults o c _ s).trans (hrep.onlyChan o c)⟩
  all_goals simp only [Fld.block, R.FLT_PKMAX_X, R.FLT_PKMIN_X, R.FLT_RMS_X, R.FLT_ENV_X, R.FLT_DETIDX_N]; omega

theorem stageDeadlineMiss_yields (st : Fin 11) (o : Fin 9) (c : Fin 14) (s : State)
    (hm : rd (R.QM_SLKMISS_COUNT st) s < 2 ^ (R.QM_SLKMISS_COUNT st).wid - 1) :
    Yields (.stageDeadlineMiss st o c) s fun t =>
      rd (R.QM_SLKMISS_COUNT st) t = rd (R.QM_SLKMISS_COUNT st) s + 1 ∧
      (chOn o c s = true → (getCh o c t).missed = true ∧ (getCh o c t).ageRec = 0 ∧
        (2 ≤ ((getCh o c s).misses.filter fun x => decide (s.now < x + 10000000)).length →
          flag (R.FLT_CHSTAT_FLT o c) t = true)) := by
  have hexec : exec (.stageDeadlineMiss st o c) s = execStageDeadlineMiss st o c s := rfl
  have hcount := rd_slkmiss_missLogged st s hm
  cases hon : chOn o c s with
  | false => exact ⟨_, hexec.trans (execStageDeadlineMiss_off hon), hcount, fun h => absurd h Bool.false_ne_true⟩
  | true =>
    obtain ⟨u, hlog, hsamp, hnow, -, -⟩ := missLogged_counted st s
    have hn : (missLogged st s).now = s.now := hlog.now.trans hnow
    have hc : getCh o c (missLogged st s) = getCh o c s := by rw [getCh, hlog.samp, hsamp, getCh]
    refine ⟨_, hexec.trans (execStageDeadlineMiss_on hon), by rw [rd_slkmiss_fltAfter, rd_modCh, hcount], fun _ => ?_⟩
    rw [getCh_fltAfter, modCh, getCh_setCh_same, hn, hc]
    refine ⟨rfl, rfl, fun htwo => flag_fltAfter ?_⟩
    rw [getCh_setCh_same]
    exact Nat.succ_le_succ htwo

/-- Settles O33: a splice block restarts its sums whichever way it ends (`doSpliceBlock_few`, `_good`, `_rejected`), a
window's results stand before its reports, which touch queues alone, and a miss counts and marks its channel. -/
theorem blocksWindowsAndDeadlinesEnd : Obligations.BlocksWindowsAndDeadlinesEnd := by
  unfold Obligations.BlocksWindowsAndDeadlinesEnd
  exact ⟨spliceBlock_yields, detectorWindowEnd_yields, stageDeadlineMiss_yields⟩

end Sys2Proof.Machine
end
section
/-!
O58 fails, by its clause of the power-fail warning (R227, R495). A meter keeps its energy registers in a list
(`Meter.regs`), which the state does not bound to the eight of R176; a SUMMARY shows register `i` in the words 3i to
3i + 2 of NRG.ENERGY (R200), so that a list long enough reaches PWR.PFWSEC, where the warning has just put its second.
-/
namespace Sys2Proof.Machine
open Sys2Proof.Claims

/-! ### What the stages of a warning leave as it was -/

/-- Only the registers of PLM, TAG and PWR, and the state of network, reader and power, differ. -/
def WarnOnly (s t : State) : Prop :=
  { t with regs := s.regs, net := s.net, tag := s.tag, pwr := s.pwr } = s ∧
    ∀ f : Fld, f.lsb < 32 → f.block ≠ 0x15 → f.block ≠ 0x19 → f.block ≠ 0x20 → rd f t = rd f s

theorem WarnOnly.refl (s : State) : WarnOnly s s := ⟨rfl, fun _ _ _ _ _ => rfl⟩

theorem WarnOnly.trans {s t u : State} (h : WarnOnly s t) (k : WarnOnly t u) : WarnOnly s u := by
  obtain ⟨hs, hrd⟩ := h
  obtain ⟨ks, krd⟩ := k
  refine ⟨?_, fun f l a b c => (krd f l a b c).trans (hrd f l a b c)⟩
  cases s; cases t; cases u
  simp only [State.mk.injEq] at hs ks ⊢
  simp_all

theorem WarnOnly.wr {f : Fld} (v : Nat) (s : State) (hl : f.lsb < 32)
    (hb : f.block = 0x15 ∨ f.block = 0x19 ∨ f.block = 0x20) : WarnOnly s (wr f v s) :=
  ⟨rfl, fun _ gl a b c => rd_wr_block v s hl gl (by rcases hb with h | h | h <;> rw [h] <;> assumption)⟩

theorem WarnOnly.modTag (f : TagSt → TagSt) (s : State) : WarnOnly s (modTag f s) := ⟨rfl, fun _ _ _ _ _ => rfl⟩
theorem WarnOnly.modNet (f : Net → Net) (s : State) : WarnOnly s (modNet f s) := ⟨rfl, fun _ _ _ _ _ => rfl⟩
theorem WarnOnly.modPwr (f : Pwr → Pwr) (s : State) : WarnOnly s (modPwr f s) := ⟨rfl, fun _ _ _ _ _ => rfl⟩

theorem WarnOnly.meters {s t : State} (h : WarnOnly s t) : t.meters = s.meters := by
  have hs := congrArg State.meters h.1
  exact hs

theorem WarnOnly.bill {s t : State} (h : WarnOnly s t) : t.bill = s.bill := by
  have hs := congrArg State.bill h.1
  exact hs

theorem WarnOnly.bar {s t : State} (h : WarnOnly s t) : t.bar = s.bar := by
  have hs := congrArg State.bar h.1
  exact hs

theorem WarnOnly.qs {s t : State} (h : WarnOnly s t) : t.qs = s.qs := by
  have hs := congrArg State.qs h.1
  exact hs

theorem WarnOnly.samp {s t : State} (h : WarnOnly s t) : t.samp = s.samp := by
  have hs := congrArg State.samp h.1
  exact hs

theorem WarnOnly.plm {s t : State} (h : WarnOnly s t) : t.plm = s.plm := by
  have hs := congrArg State.plm h.1
  exact hs

theorem forEach_same {α : Type} (l : List α) (f : α → State → State) {s : State} (h : ∀ a ∈ l, f a s = s) :
    forEach l f s = s := by
  induction l with
  | nil => rfl
  | cons a l ih =>
    show forEach l f (f a s) = s
    rw [h a (by simp), ih fun b hb => h b (by simp [hb])]

/-- Without PD10 no load switch latches off. -/
theorem lsPowerFail_off {s : State} (h : pdOn 10 s = false) : lsPowerFail s = s :=
  forEach_same _ _ fun c _ => by rw [whenS, h]; rfl

theorem setFrames_idle {s : State} (h : s.plm = Modems.reset) : setFrames [] s = s := by
  cases s
  dsimp only at h
  subst h
  rfl

/-- A modem with nothing on the line only has its transmitter held off. -/
theorem cutLine_idle (o : Nat) {s : State} (h : s.plm = Modems.reset) : cutLine o s = wr (R.PLM_STAT_TXOFF o) 1 s := by
  have hw : (wr (R.PLM_STAT_TXOFF o) 1 s).plm = Modems.reset := h
  have hframes : endFrames o stBUDGET 0 (wr (R.PLM_STAT_TXOFF o) 1 s) = wr (R.PLM_STAT_TXOFF o) 1 s := by
    rw [endFrames, hw]
    exact setFrames_idle hw
  have hoff : goingOff o (wr (R.PLM_STAT_TXOFF o) 1 s) = false := by
    rw [goingOff, getPlm, hw, Modems.reset, vget_replicate]
    rfl
  rw [cutLine, hframes, lineFree, hoff]
  rfl

theorem cutLines_idle (l : List Nat) (hl : ∀ o ∈ l, o < 8) {s : State} (h : s.plm = Modems.reset) :
    WarnOnly s (forEach l cutLine s) ∧ (forEach l cutLine s).tag = s.tag := by
  induction l generalizing s with
  | nil => exact ⟨WarnOnly.refl s, rfl⟩
  | cons o l ih =>
    have ho : o < 8 := hl o (by simp)
    have hoff : WarnOnly s (wr (R.PLM_STAT_TXOFF o) 1 s) := WarnOnly.wr _ s (Nat.le_of_ble_eq_true rfl)
      (.inl (by simp only [Fld.block, R.PLM_STAT_TXOFF]; omega))
    obtain ⟨hrest, htag⟩ := ih (fun k hk => hl k (by simp [hk])) (hoff.plm.trans h)
    show WarnOnly s (forEach l cutLine (cutLine o s)) ∧ (forEach l cutLine (cutLine o s)).tag = s.tag
    rw [cutLine_idle o h]
    exact ⟨hoff.trans hrest, htag⟩

theorem modemServe_idle {s : State} (h104 : (getQ 104 s).ent = []) (h106 : (getQ 106 s).ent = []) : modemServe s = s := by
  simp [modemServe, serve104, serve106, h104, h106]

/-- No test of the reader waits: its transmitter is held off. -/
theorem tagTxOff_idle {s : State} (h : s.tag.testWait = none) : WarnOnly s (tagTxOff s) := by
  have base : WarnOnly s (wr R.TAG_TSTAT_TXOFF 1
      (fieldOff (modTag (fun t => { t with testWait := none, fieldReset := false }) s))) :=
    (((WarnOnly.modTag _ s).trans (WarnOnly.modTag _ _)).trans
      (WarnOnly.wr (f := R.TAG_TSTAT_FIELD) 0 _ (by decide) (.inr (.inl rfl)))).trans
      (WarnOnly.wr _ _ (by decide) (.inr (.inl rfl)))
  unfold tagTxOff
  rw [h]
  dsimp only
  split
  · exact base
  · exact base.trans (WarnOnly.wr (f := R.TAG_TSTAT_STATE) _ _ (by decide) (.inr (.inl rfl)))

theorem abortTests_none {s : State} (h : ∀ o c, (getCh o c s).testOn = false) : abortTests s = s :=
  forEach_same _ _ fun oc _ => by rw [h oc.1 oc.2]; rfl

/-- What a warning writes at once in PD0's registers and in the latch of R495. -/
def latchWarning (pin vsys : Bool) (s : State) : State :=
  modPwr (fun p => { p with pfLatch := true })
    (wrs [(R.PWR_PFWST_WARN, 1), (R.PWR_PFWST_SRCPIN, b2n pin), (R.PWR_PFWST_SRCVSYS, b2n vsys),
      (R.PWR_PFWSEC_S, clkSec (incSat R.PWR_PFWST_PFCNT s)), (R.PWR_PFWNS_NS, clkNs (incSat R.PWR_PFWST_PFCNT s))]
      (incSat R.PWR_PFWST_PFCNT s))

/-- And what it ends before the pairs commit. -/
def warnLoads (s : State) : State := abortTests (ebypUpdate (txHold (lsPowerFail s)))

theorem exec_powerFailWarning {pin vsys : Bool} {s : State} (hd : s.pwr.down = false) (hs : s.pwr.stuck = false)
    (hw : warned s = false) (hv : pin = true ∨ vsys = true) :
    exec (.powerFailWarning pin vsys) s =
      (let t := forEach outlets powerSummary (warnLoads (latchWarning pin vsys s))
       .next (flushLogs (freezeEnd 4 (whenS (!(te0Up t) && (pairUp 9 t || pairUp 11 t)) saveBilling t)))) := by
  have hexec : exec (.powerFailWarning pin vsys) s = execPowerFailWarning pin vsys s := rfl
  have hgo : (s.pwr.down || s.pwr.stuck || warned s || !(pin || vsys)) = false := by
    rcases hv with h | h <;> simp [hd, hs, hw, h]
  rw [hexec, execPowerFailWarning, hgo]
  rfl

theorem WarnOnly.wrs (l : List (Fld × Nat)) (s : State) (h : ∀ g ∈ l.map Prod.fst, g.lsb < 32 ∧ g.block = 0x20) :
    WarnOnly s (wrs l s) := by
  induction l generalizing s with
  | nil => exact WarnOnly.refl s
  | cons e l ih =>
    rw [List.map_cons, List.forall_mem_cons] at h
    obtain ⟨⟨hl, hb⟩, hrest⟩ := h
    exact (WarnOnly.wr e.2 s hl (.inr (.inr hb))).trans (ih (Machine.wr e.1 e.2 s) hrest)

theorem warnOnly_latchWarning (pin vsys : Bool) (s : State) : WarnOnly s (latchWarning pin vsys s) := by
  have hfields : ∀ g ∈ [R.PWR_PFWST_WARN, R.PWR_PFWST_SRCPIN, R.PWR_PFWST_SRCVSYS, R.PWR_PFWSEC_S, R.PWR_PFWNS_NS],
      g.lsb < 32 ∧ g.block = 0x20 := by decide
  have hcount : WarnOnly s (incSat R.PWR_PFWST_PFCNT s) := WarnOnly.wr _ s (by decide) (.inr (.inr rfl))
  refine (hcount.trans (WarnOnly.wrs _ _ ?_)).trans (WarnOnly.modPwr _ _)
  exact hfields

/-- A part on which nothing runs that a warning would end: modems, reader, tests and queues as at reset, PD10 off. -/
structure Idle (s : State) : Prop where
  plm : s.plm = Modems.reset
  tag : s.tag = TagSt.reset
  samp : s.samp = Samp.reset
  qs : s.qs = State.reset.qs
  pd10 : pdOn 10 s = false

theorem WarnOnly.ent {s t : State} (h : WarnOnly s t) (hq : s.qs = State.reset.qs) (q : Qid) : (getQ q t).ent = [] := by
  have hget : getQ q t = getQ q State.reset := by rw [getQ, getQ, h.qs, hq]
  rw [hget, getQ_reset]
  rfl

theorem testOn_idle {s : State} (h : s.samp = Samp.reset) (o c : Nat) : (getCh o c s).testOn = false := by
  rw [getCh, h, Samp.reset, vget_replicate]
  rfl

theorem warnOnly_warnLoads {s : State} (h : Idle s) : WarnOnly s (warnLoads s) := by
  obtain ⟨hcut, htag⟩ := cutLines_idle outlets (by decide) h.plm
  have hserve : modemServe (forEach outlets cutLine s) = forEach outlets cutLine s :=
    modemServe_idle (hcut.ent h.qs 104) (hcut.ent h.qs 106)
  have hwait : (forEach outlets cutLine s).tag.testWait = none := by rw [htag, h.tag]; rfl
  have hheld : WarnOnly s (ebypUpdate (txHold s)) := by
    rw [txHold, hserve]
    exact (hcut.trans (tagTxOff_idle hwait)).trans (WarnOnly.modNet _ _)
  rw [warnLoads, lsPowerFail_off h.pd10, abortTests_none (testOn_idle (hheld.samp.trans h.samp))]
  exact hheld

theorem wrs_tag (l : List (Fld × Nat)) (s : State) : (wrs l s).tag = s.tag := by
  induction l generalizing s with
  | nil => rfl
  | cons e l ih =>
    show (wrs l (wr e.1 e.2 s)).tag = s.tag
    rw [ih]
    rfl

theorem rd_wrs_ne {f : Fld} (l : List (Fld × Nat)) (s : State) (h : ∀ g ∈ l.map Prod.fst, f.key ≠ g.key) :
    rd f (wrs l s) = rd f s := by
  induction l generalizing s with
  | nil => rfl
  | cons e l ih =>
    rw [List.map_cons, List.forall_mem_cons] at h
    show rd f (wrs l (wr e.1 e.2 s)) = rd f s
    rw [ih _ h.2, rd_wr_ne _ _ h.1]

theorem latchWarning_tag (pin vsys : Bool) (s : State) : (latchWarning pin vsys s).tag = s.tag := by
  rw [latchWarning, modPwr_tag, wrs_tag, incSat, wr_tag]

/-- The latch writes PFWST, PFWSEC and PFWNS, whose addresses are above PDSTAT's. -/
theorem rd_latchWarning_pd (pin vsys : Bool) (s : State) :
    rd R.PWR_PDSTAT_ON (latchWarning pin vsys s) = rd R.PWR_PDSTAT_ON s := by
  have hcount : rd R.PWR_PDSTAT_ON (incSat R.PWR_PFWST_PFCNT s) = rd R.PWR_PDSTAT_ON s := by
    rw [incSat, rd_wr_ne _ _ (by decide)]
  have hkeys : ∀ g ∈ [R.PWR_PFWST_WARN, R.PWR_PFWST_SRCPIN, R.PWR_PFWST_SRCVSYS, R.PWR_PFWSEC_S, R.PWR_PFWNS_NS],
      R.PWR_PDSTAT_ON.key ≠ g.key := by decide
  rw [latchWarning, rd_modPwr, rd_wrs_ne, hcount]
  exact hkeys

theorem idle_latchWarning {pin vsys : Bool} {s : State} (h : Idle s) : Idle (latchWarning pin vsys s) := by
  have hw := warnOnly_latchWarning pin vsys s
  exact ⟨hw.plm.trans h.plm, (latchWarning_tag pin vsys s).trans h.tag, hw.samp.trans h.samp, hw.qs.trans h.qs,
    by rw [pdOn, rd_latchWarning_pd]; exact h.pd10⟩

/-! ### A SUMMARY that reaches PWR.PFWSEC -/

/-- Energy registers enough, the last of them 1, that the word of the last one is PWR.PFWSEC's. -/
def Reaching (rs : List Nat) : Prop := ∃ l, l.length = 19573420 ∧ rs = l ++ [1]

theorem Reaching.add96 {rs : List Nat} (h : Reaching rs) {k : Nat} (hk : k < 8) (v : Int) : Reaching (add96 k v rs) := by
  obtain ⟨l, hl, rfl⟩ := h
  refine ⟨Machine.add96 k v l, by rw [Machine.add96, List.length_modify, hl], ?_⟩
  have hin : k < l.length := by omega
  rw [Machine.add96, Machine.add96, List.modify_eq_set, List.modify_eq_set, List.getElem?_append_left hin,
    List.set_append_left _ _ hin]

theorem Reaching.ite {c : Prop} [Decidable c] {a b : List Nat} (ha : Reaching a) (hb : Reaching b) :
    Reaching (if c then a else b) := by
  split
  · exact ha
  · exact hb

theorem reaching_commitMeter {ty : Nat} {abs : Bool} {ke iref noload : Nat} {forced : Bool} {m : Meter} (h : Reaching m.regs) :
    Reaching (commitMeter ty abs ke iref noload forced m).regs := by
  have hquad : (if 0 ≤ m.b.sum then (if 0 ≤ m.bq then 2 else 5) else (if 0 ≤ m.bq then 3 else 4)) < 8 := by
    split_ifs <;> decide
  have hactive := (h.add96 (k := 0) (by decide) ((m.b.map fun x => (x.natAbs : Int)).sum)).ite (c := abs)
    (((h.add96 (k := 0) (by decide) m.b.sum).add96 (k := 7) (by decide) m.b.sum).ite (c := 0 ≤ m.b.sum)
      ((h.add96 (k := 1) (by decide) (-m.b.sum)).add96 (k := 7) (by decide) m.b.sum))
  have hreactive := hactive.ite (c := ty = 3) (hactive.add96 hquad m.bq.natAbs)
  exact (hreactive.add96 (k := 6) (by decide) _).ite (hreactive.add96 (k := 6) (by decide) _)

/-- The word of register 19573420 is PWR.PFWSEC's. -/
theorem rd_energyWords (s : State) :
    rd R.PWR_PFWSEC_S (wrs [(R.NRG_ENERGY_V 0 (19573420 * 3), 1), (R.NRG_ENERGY_V 0 (19573420 * 3 + 1), 1 / 2 ^ 32),
      (R.NRG_ENERGY_V 0 (19573420 * 3 + 2), 1 / 2 ^ 64)] s) = 1 := by
  have hword : R.NRG_ENERGY_V 0 (19573420 * 3) = R.PWR_PFWSEC_S := by decide
  have hnext : R.PWR_PFWSEC_S.key ≠ (R.NRG_ENERGY_V 0 (19573420 * 3 + 1)).key := by decide
  have hlast : R.PWR_PFWSEC_S.key ≠ (R.NRG_ENERGY_V 0 (19573420 * 3 + 2)).key := by decide
  rw [wrs, List.foldl_cons, List.foldl_cons, List.foldl_cons, List.foldl_nil, rd_wr_ne _ _ hlast, rd_wr_ne _ _ hnext, hword,
    rd_wr_same]
  rfl

/-- No later write of the SUMMARY is to that word. -/
theorem rd_wrSummary_reaching {u : Summ} (h : Reaching u.regs) (s : State) : rd R.PWR_PFWSEC_S (wrSummary 0 u s) = 1 := by
  obtain ⟨l, hl, hregs⟩ := h
  have hmeta : ∀ g ∈ [R.NRG_SECLO_S 0, R.NRG_SECHI_S 0, R.NRG_SUMSTAT_ST 0], R.PWR_PFWSEC_S.key ≠ g.key := by decide
  rw [wrSummary, rd_wrs_ne]
  case h => exact hmeta
  rw [hregs, List.zipIdx_append, hl, forEach, List.foldl_append, List.zipIdx_singleton, List.foldl_cons, List.foldl_nil,
    Nat.zero_add]
  exact rd_energyWords _

theorem wrs_regs (l : List (Fld × Nat)) (s : State) : ∃ r, wrs l s = { s with regs := r } := by
  induction l generalizing s with
  | nil => exact ⟨s.regs, rfl⟩
  | cons e l ih =>
    obtain ⟨r, hr⟩ := ih (wr e.1 e.2 s)
    exact ⟨r, hr⟩

theorem forEach_wrs_regs {α : Type} (l : List α) (w : α → List (Fld × Nat)) (s : State) :
    ∃ r, forEach l (fun a => wrs (w a)) s = { s with regs := r } := by
  induction l generalizing s with
  | nil => exact ⟨s.regs, rfl⟩
  | cons a l ih =>
    obtain ⟨r, hr⟩ := wrs_regs (w a) s
    obtain ⟨r', hr'⟩ := ih { s with regs := r }
    refine ⟨r', ?_⟩
    rw [forEach, List.foldl_cons, hr]
    exact hr'

theorem wrSummary_regs (o : Nat) (u : Summ) (s : State) : ∃ r, wrSummary o u s = { s with regs := r } := by
  obtain ⟨r, hr⟩ := forEach_wrs_regs u.regs.zipIdx (fun e => [(R.NRG_ENERGY_V o (e.2 * 3), e.1),
    (R.NRG_ENERGY_V o (e.2 * 3 + 1), e.1 / 2 ^ 32), (R.NRG_ENERGY_V o (e.2 * 3 + 2), e.1 / 2 ^ 64)]) s
  obtain ⟨r', hr'⟩ := wrs_regs [(R.NRG_SECLO_S o, u.sec), (R.NRG_SECHI_S o, u.sec / 2 ^ 32), (R.NRG_SUMSTAT_ST o, u.flags)]
    { s with regs := r }
  refine ⟨r', ?_⟩
  rw [wrSummary, hr]
  exact hr'

/-- What the commit of a power-fail second leaves as it was: all but one meter, the registers and the queues. -/
structure OneMeter (o : Nat) (s t : State) : Prop where
  bill : t.bill = s.bill
  bar : t.bar = s.bar
  meters : ∀ k : Fin 8, k ≠ o8 o → vget t.meters k = vget s.meters k

theorem OneMeter.trans {o : Nat} {s t u : State} (h : OneMeter o s t) (k : OneMeter o t u) : OneMeter o s u :=
  ⟨k.bill.trans h.bill, k.bar.trans h.bar, fun i hi => (k.meters i hi).trans (h.meters i hi)⟩

theorem OneMeter.setMt (o : Nat) (m : Meter) (s : State) : OneMeter o s (setMt o m s) :=
  ⟨rfl, rfl, fun _ hk => vget_vset_ne _ _ hk⟩

theorem OneMeter.modMt (o : Nat) (f : Meter → Meter) (s : State) : OneMeter o s (modMt o f s) := OneMeter.setMt o _ s

theorem getMt_setMt (o : Nat) (m : Meter) (s : State) : getMt o (setMt o m s) = m := vget_vset_same _ _ _

theorem getMt_modMt (o : Nat) (f : Meter → Meter) (s : State) : getMt o (modMt o f s) = f (getMt o s) := getMt_setMt _ _ _

theorem QueueOnly.oneMeter {s t : State} (h : QueueOnly s t) (o : Nat) : OneMeter o s t := by
  have hbill := congrArg State.bill h.1
  have hbar := congrArg State.bar h.1
  have hmeters : t.meters = s.meters := by
    have hm := congrArg State.meters h.1
    exact hm
  exact ⟨hbill, hbar, fun k _ => by rw [hmeters]⟩

theorem oneMeter_wrSummary (o : Nat) (u : Summ) (s : State) : OneMeter o s (wrSummary o u s) := by
  obtain ⟨r, hr⟩ := wrSummary_regs o u s
  rw [hr]
  exact ⟨rfl, rfl, fun _ _ => rfl⟩

theorem pushSummaryT_reaching (typ : Nat) {u : Summ} (h : Reaching u.regs) (s : State) :
    rd R.PWR_PFWSEC_S (pushSummaryT typ 0 u s) = 1 ∧ OneMeter 0 s (pushSummaryT typ 0 u s) := by
  obtain ⟨m, hm⟩ : ∃ m, pushSummaryT typ 0 u s =
      pushAll 50 0 (mkMsg typ 0 u.sec) (summConts u) (wrSummary 0 u (setMt 0 m s)) := ⟨_, rfl⟩
  have hq : QueueOnly _ (pushAll 50 0 (mkMsg typ 0 u.sec) (summConts u) (wrSummary 0 u (setMt 0 m s))) :=
    queueOnly_pushAll (by decide) 0 _ _ _
  rw [hm]
  refine ⟨?_, ((OneMeter.setMt 0 m s).trans (oneMeter_wrSummary 0 u _)).trans (hq.oneMeter 0)⟩
  rw [hq.2 R.PWR_PFWSEC_S (by decide) rfl (by decide), rd_wrSummary_reaching h]

theorem closeSecond_due {m : Meter} {sec : Nat} (h : m.sec = some sec) :
    ∃ u, (closeSecond m).due = m.due ++ [u] ∧ u.regs = m.regs := by
  rw [closeSecond, h]
  exact ⟨_, rfl, rfl⟩

/-- The commit of a running second: it becomes due, with its registers as they are committed. -/
theorem commit_due {o : Nat} {s : State} {sec : Nat} (hsec : (getMt o s).sec = some sec) (hdue : (getMt o s).due = [])
    (h : Reaching (getMt o s).regs) :
    ∃ u, (getMt o (modMt o closeSecond (commitOutlet o true s))).due = [u] ∧ Reaching u.regs := by
  obtain ⟨c, hc, csec, cdue, cregs⟩ : ∃ c, commitOutlet o true s = setMt o c s ∧
      c.sec = some sec ∧ c.due = [] ∧ Reaching c.regs := ⟨_, rfl, hsec, hdue, reaching_commitMeter h⟩
  obtain ⟨u, hu, huregs⟩ := closeSecond_due csec
  rw [cdue, List.nil_append] at hu
  refine ⟨u, ?_, huregs ▸ cregs⟩
  rw [hc, getMt_modMt, getMt_setMt, hu]

theorem powerSummary_reaching {s : State} (htype : metType 0 s = 1) (hup : pairUp 9 s = true)
    (hrestored : (getMt 0 s).restored = true) (hsec : (getMt 0 s).sec.isSome = true) (hdue : (getMt 0 s).due = [])
    (hregs : Reaching (getMt 0 s).regs) : rd R.PWR_PFWSEC_S (powerSummary 0 s) = 1 ∧ OneMeter 0 s (powerSummary 0 s) := by
  have hgo : ¬(metType 0 s = 0 ∨ (!(pairUp (pairOf 0) s)) = true ∨ (!(getMt 0 s).restored) = true) := by
    rw [show pairOf 0 = 9 from rfl, htype, hup, hrestored]
    decide
  obtain ⟨f, hf, hrun⟩ : ∃ f : Meter → Meter, (∀ m, m.sec.isSome = true → f m = m) ∧
      powerSummary 0 s = (let t := modMt 0 closeSecond (commitOutlet 0 true (modMt 0 f s))
        match (getMt 0 t).due with
        | [] => t
        | u :: _ => pushSummaryT 0x52 0 u t) := by
    refine ⟨fun m => if m.sec.isSome then m else { m with sec := some (clkSec s), first := m.lastN }, fun m h => if_pos h, ?_⟩
    rw [powerSummary, if_neg hgo, hdue]
    rfl
  obtain ⟨sec, hs⟩ := Option.isSome_iff_exists.1 hsec
  have hopen : getMt 0 (modMt 0 f s) = getMt 0 s := by rw [getMt_modMt, hf _ hsec]
  obtain ⟨u, hu, huregs⟩ := commit_due (o := 0) (s := modMt 0 f s) (by rw [hopen, hs]) (by rw [hopen, hdue])
    (by rw [hopen]; exact hregs)
  dsimp only at hrun
  rw [hu] at hrun
  obtain ⟨hsecond, hone⟩ := pushSummaryT_reaching 0x52 huregs (modMt 0 closeSecond (commitOutlet 0 true (modMt 0 f s)))
  rw [hrun]
  exact ⟨hsecond, (((OneMeter.modMt 0 f s).trans (OneMeter.modMt 0 _ _)).trans (OneMeter.modMt 0 closeSecond _)).trans hone⟩

/-- A pair does not commit an outlet whose registers it has not restored. -/
theorem powerSummary_unrestored {o : Nat} {s : State} (h : (getMt o s).restored = false) : powerSummary o s = s := by
  rw [powerSummary, if_pos]
  rw [h]
  exact .inr (.inr rfl)

theorem forEach_outlets (f : Nat → State → State) (s : State) :
    forEach outlets f s = forEach [1, 2, 3, 4, 5, 6, 7] f (f 0 s) := rfl

/-! ### What follows leaves PWR.PFWSEC as it is -/

theorem saveBilling_unloaded {s : State} (h : s.bill.loaded = false) : saveBilling s = s := by
  rw [saveBilling, h]
  simp

theorem wrs_bar (l : List (Fld × Nat)) (s : State) : (wrs l s).bar = s.bar := by
  obtain ⟨r, hr⟩ := wrs_regs l s
  rw [hr]

theorem releaseHeld_queued {s : State} (h : s.bar.held = []) : (releaseHeld s).bar.queued = s.bar.queued := by
  show s.bar.queued ++ writable s.bar.held s = s.bar.queued
  rw [h, writable, List.filter_nil, List.append_nil]

theorem freezeEnd_queued {s : State} (hheld : s.bar.held = []) (hlost : s.bar.lost = 0) (cause : Nat) :
    (freezeEnd cause s).bar.queued = s.bar.queued := by
  have hend : ∀ l, (modBar (fun b => { b with lost := 0 }) (releaseHeld (wrs l s))).bar.queued = s.bar.queued := by
    intro l
    show (releaseHeld (wrs l s)).bar.queued = s.bar.queued
    rw [releaseHeld_queued (by rw [wrs_bar, hheld]), wrs_bar]
  rw [freezeEnd, hlost]
  split
  · rfl
  · exact hend _

theorem flushLogs_empty {s : State} (h : s.bar.queued = []) : flushLogs s = s := by
  have hall : writeAllQueued (2 * s.bar.queued.length + 2) s = s := by
    rw [h, List.length_nil, writeAllQueued, h]
    rfl
  rw [flushLogs, hall, ite_self]

/-! ### The counterexample -/

/-- Outlet 0's meter with a running second and 19,573,421 energy registers, the last of them 1. -/
def longMeter : Meter := { Meter.reset with restored := true, sec := some 0, regs := List.replicate 19573420 0 ++ [1] }

/-- A part as at reset but started, with ME0 running and outlet 0 of TYPE 1, on the long meter. -/
def longState : State :=
  modPwr (fun p => { p with down := false })
    (setMt 0 longMeter (wr (R.MET_OCFG_TYPE 0).eff 1 (setEngState 9 3 State.reset)))

theorem reaching_longMeter : Reaching longMeter.regs := ⟨List.replicate 19573420 0, List.length_replicate, rfl⟩

theorem getMt_longState : getMt 0 longState = longMeter := getMt_setMt 0 longMeter _

theorem restored_longState {k : Fin 8} (h : k ≠ o8 0) : (vget longState.meters k).restored = false := by
  have hreset : vget longState.meters k = vget (Vector.replicate 8 Meter.reset) k := vget_vset_ne _ _ h
  rw [hreset, vget_replicate]
  rfl

theorem rd_longState (f : Fld) : rd f longState = rd f (wr (R.MET_OCFG_TYPE 0).eff 1 (setEngState 9 3 State.reset)) := rfl

theorem idle_longState : Idle longState := by
  refine ⟨rfl, rfl, rfl, rfl, ?_⟩
  rw [pdOn, rd_longState, rd_wr_ne _ _ (by decide), setEngState, rd_wr_ne _ _ (by decide), rd_reset]
  rfl

theorem warned_longState : warned longState = false := by
  rw [warned, flag, rd_longState, rd_wr_ne _ _ (by decide), setEngState, rd_wr_ne _ _ (by decide), rd_reset]
  rfl

theorem metType_longState : metType 0 longState = 1 := by
  rw [metType, rd_longState, rd_wr_same]
  rfl

theorem engState_longState : engState 9 longState = 3 := by
  rw [engState, rd_longState, rd_wr_ne _ _ (by decide), setEngState, rd_wr_same]
  rfl

/-- The pair's power-fail summary is over PFWSEC, with the billing and the recorder as at reset. -/
theorem summaries_longState {p : State} (h : WarnOnly longState p) :
    rd R.PWR_PFWSEC_S (forEach outlets powerSummary p) = 1 ∧ OneMeter 0 p (forEach outlets powerSummary p) := by
  have hget : getMt 0 p = longMeter := by rw [getMt, h.meters]; exact getMt_longState
  have htype : metType 0 p = 1 := (h.2 _ (by decide) (by decide) (by decide) (by decide)).trans metType_longState
  have heng : engState 9 p = 3 := (h.2 _ (by decide) (by decide) (by decide) (by decide)).trans engState_longState
  have hup : pairUp 9 p = true := by rw [pairUp, heng]; rfl
  obtain ⟨hsec, hone⟩ := powerSummary_reaching htype hup (by rw [hget]; rfl) (by rw [hget]; rfl) (by rw [hget]; rfl)
    (by rw [hget]; exact reaching_longMeter)
  have hnum : ∀ o ∈ [1, 2, 3, 4, 5, 6, 7], o8 o ≠ o8 0 := by decide
  have hrest : forEach outlets powerSummary p = powerSummary 0 p := by
    rw [forEach_outlets]
    refine forEach_same _ _ fun o ho => powerSummary_unrestored ?_
    rw [getMt, hone.meters _ (hnum o ho), h.meters]
    exact restored_longState (hnum o ho)
  rw [hrest]
  exact ⟨hsec, hone⟩

/-- Refutes O58: a warning's SUMMARY of outlet 0 puts its last register, 1, in PWR.PFWSEC, where second 0 is to stand. -/
theorem not_powerResetsAndHostPortAct : ¬ Obligations.PowerResetsAndHostPortAct := by
  unfold Obligations.PowerResetsAndHostPortAct
  rintro ⟨-, -, -, -, -, -, -, hwarn, -⟩
  obtain ⟨t, hexec, -, -, -, hsec, -⟩ := hwarn true false longState rfl rfl warned_longState (.inl rfl)
  have hw := (warnOnly_latchWarning true false longState).trans (warnOnly_warnLoads (idle_latchWarning idle_longState))
  rw [exec_powerFailWarning rfl rfl warned_longState (.inl rfl)] at hexec
  generalize warnLoads (latchWarning true false longState) = p at hw hexec
  obtain ⟨hone, hsum⟩ := summaries_longState hw
  generalize forEach outlets powerSummary p = u at hone hsum hexec
  have hbill : u.bill.loaded = false := by rw [hsum.bill, hw.bill]; rfl
  have hbar : u.bar = Bar.reset := by rw [hsum.bar, hw.bar]; rfl
  have hsave : whenS (!(te0Up u) && (pairUp 9 u || pairUp 11 u)) saveBilling u = u := by
    rw [whenS, saveBilling_unloaded hbill, ite_self]
  have hqueued : (freezeEnd 4 u).bar.queued = [] := by
    rw [freezeEnd_queued (by rw [hbar]; rfl) (by rw [hbar]; rfl), hbar]
    rfl
  dsimp only at hexec
  rw [hsave, flushLogs_empty hqueued] at hexec
  have hkept : rd R.PWR_PFWSEC_S (freezeEnd 4 u) = 1 :=
    ((logOnly_freezeEnd 4 u).2 R.PWR_PFWSEC_S (by decide) rfl (by decide) (by decide)).trans hone
  have ht : freezeEnd 4 u = t := by injection hexec
  rw [← ht, hkept] at hsec
  exact absurd hsec (by decide)

end Sys2Proof.Machine
end

section
/-!
SUPPORT for the queue manager and the engines: what queue operations and records leave of the engines and of the other
queues, what the snoops of the check-value units leave, and what a host write that is let through gives.
-/
namespace Sys2Proof.Machine

/-! ### Numbers of engines and queues -/

@[simp] theorem en_val (e : Eid) : en e.val = e := Fin.ext (Nat.mod_eq_of_lt e.isLt)

@[simp] theorem qn_val (q : Qid) : qn q.val = q := Fin.ext (Nat.mod_eq_of_lt q.isLt)

theorem qn_ne {a b : Nat} (ha : a < 128) (hb : b < 128) (h : a ≠ b) : qn a ≠ qn b := fun hq => h <| by
  have hv : a % 128 = b % 128 := congrArg Fin.val hq
  omega

/-! ### Modifying one queue or one engine -/

@[simp] theorem getQ_modQ_same (q : Qid) (f : Queue → Queue) (s : State) : getQ q (modQ q f s) = f (getQ q s) :=
  getQ_setQ_same q _ s

theorem getQ_modQ_ne {q k : Qid} (f : Queue → Queue) (s : State) (h : k ≠ q) : getQ k (modQ q f s) = getQ k s :=
  getQ_setQ_ne _ s h

@[simp] theorem getEng_modEng_same (e : Eid) (f : Eng → Eng) (s : State) : getEng e (modEng e f s) = f (getEng e s) :=
  getEng_setEng_same e _ s

theorem getEng_modEng_ne {e k : Eid} (f : Eng → Eng) (s : State) (h : k ≠ e) : getEng k (modEng e f s) = getEng k s :=
  getEng_setEng_ne _ s h

/-! ### What the queue operations and the recorder leave -/

theorem QueueOnly.engs {s t : State} (h : QueueOnly s t) : t.engs = s.engs := by
  have hs := congrArg State.engs h.1
  exact hs

theorem LogOnly.engs {s t : State} (h : LogOnly s t) : t.engs = s.engs := by
  have hs := congrArg State.engs h.1
  exact hs

theorem LogOnly.outs {s t : State} (h : LogOnly s t) : t.outs = s.outs := by
  have hs := congrArg State.outs h.1
  exact hs

theorem QueueOnly.getEng {s t : State} (h : QueueOnly s t) (e : Eid) : getEng e t = getEng e s := by
  rw [Machine.getEng, h.engs, Machine.getEng]

theorem LogOnly.getEng {s t : State} (h : LogOnly s t) (e : Eid) : Machine.getEng e t = Machine.getEng e s := by
  rw [Machine.getEng, h.engs, Machine.getEng]

theorem LogOnly.getOs {s t : State} (h : LogOnly s t) (o : Nat) : Machine.getOs o t = Machine.getOs o s := by
  rw [Machine.getOs, h.outs, Machine.getOs]

/-- No count of the queue fabric stands below the queues' registers but the pool errors. -/
theorem isQCount_below_queues {f : Fld} (h : f.addr < 0x10001000) (he : f.addr ≠ 0x10000008) : f.isQCount = false := by
  simp only [Fld.isQCount, Bool.or_eq_false_iff, decide_eq_false_iff_not, beq_eq_false_iff_ne]
  omega

/-- A field of QM below the registers of the queues, such as those of ENGSTAT, and not of ERR (R106). -/
def EngineField (f : Fld) : Prop := 0x10000000 ≤ f.addr ∧ f.addr < 0x10001000 ∧ f.addr ≠ 0x10000008 ∧ f.lsb < 32

theorem engineField_state (e : Eid) : EngineField (R.QM_ENGSTAT_STATE e) := by
  simp only [EngineField, R.QM_ENGSTAT_STATE]
  omega

theorem engineField_reloads (e : Eid) : EngineField (R.QM_ENGSTAT_RELOADS e) := by
  simp only [EngineField, R.QM_ENGSTAT_RELOADS]
  omega

theorem EngineField.block {f : Fld} (h : EngineField f) : f.block = 0x10 := by
  obtain ⟨hlo, hhi, -, -⟩ := h
  rw [Fld.block]
  omega

theorem LogOnly.rd_engineField {s t : State} (h : LogOnly s t) {f : Fld} (hf : EngineField f) : rd f t = rd f s := by
  have hb := hf.block
  obtain ⟨-, hhi, herr, hlsb⟩ := hf
  exact h.2 f hlsb (isQCount_below_queues hhi herr) (by rw [hb]; decide) (by rw [hb]; decide)

theorem LogOnly.engState {s t : State} (h : LogOnly s t) (e : Eid) : engState e t = engState e s :=
  h.rd_engineField (engineField_state e)

/-! ### The state of an engine -/

@[simp] theorem engState_setEngState_same (e v : Nat) (s : State) : engState e (setEngState e v s) = v % 8 :=
  rd_wr_same _ v s

theorem engState_setEngState_ne {e k : Nat} (v : Nat) (s : State) (h : e ≠ k) :
    engState e (setEngState k v s) = engState e s :=
  rd_wr_ne v s (by simp only [Fld.key, R.QM_ENGSTAT_STATE]; omega)

@[simp] theorem engState_modEng (k : Nat) (e : Eid) (f : Eng → Eng) (s : State) : engState k (modEng e f s) = engState k s := rfl

@[simp] theorem getEng_setEngState (k : Eid) (e v : Nat) (s : State) : getEng k (setEngState e v s) = getEng k s := rfl

/-! ### Snoops of the check-value units -/

/-- Only registers of CHK (0x1B) differ. -/
def CheckOnly (s t : State) : Prop :=
  (∃ r, t = { s with regs := r }) ∧ ∀ g : Fld, g.lsb < 32 → g.block ≠ 0x1B → rd g t = rd g s

theorem CheckOnly.refl (s : State) : CheckOnly s s := ⟨⟨s.regs, rfl⟩, fun _ _ _ => rfl⟩

theorem CheckOnly.trans {s t u : State} (h : CheckOnly s t) (k : CheckOnly t u) : CheckOnly s u := by
  obtain ⟨⟨r, rfl⟩, hrd⟩ := h
  obtain ⟨⟨r', rfl⟩, krd⟩ := k
  exact ⟨⟨r', rfl⟩, fun g hl hb => (krd g hl hb).trans (hrd g hl hb)⟩

theorem CheckOnly.wr {f : Fld} (v : Nat) (s : State) (hl : f.lsb < 32) (hb : f.block = 0x1B) : CheckOnly s (wr f v s) :=
  ⟨⟨_, rfl⟩, fun _ gl gb => rd_wr_block v s hl gl (by rwa [hb])⟩

theorem CheckOnly.qs {s t : State} (h : CheckOnly s t) : t.qs = s.qs := by
  obtain ⟨⟨r, rfl⟩, -⟩ := h
  rfl

theorem CheckOnly.getQ {s t : State} (h : CheckOnly s t) (q : Qid) : getQ q t = getQ q s := by
  rw [Machine.getQ, h.qs, Machine.getQ]

theorem CheckOnly.getEng {s t : State} (h : CheckOnly s t) (e : Eid) : getEng e t = getEng e s := by
  obtain ⟨⟨r, rfl⟩, -⟩ := h
  rfl

theorem CheckOnly.ite {c : Prop} [Decidable c] {s t u : State} (h : CheckOnly s t) (k : CheckOnly s u) :
    CheckOnly s (if c then t else u) := by
  split
  · exact h
  · exact k

theorem CheckOnly.foldl {α : Type} (l : List α) (f : State → α → State) (h : ∀ a ∈ l, ∀ s, CheckOnly s (f s a)) (s : State) :
    CheckOnly s (l.foldl f s) := by
  induction l generalizing s with
  | nil => exact CheckOnly.refl s
  | cons a l ih => exact (h a (by simp) s).trans (ih (fun b hb => h b (by simp [hb])) (f s a))

theorem lt_four_of_mem {u : Nat} (h : u ∈ [0, 1, 2, 3]) : u < 4 := by
  simp only [List.mem_cons, List.not_mem_nil, or_false] at h
  omega

theorem checkOnly_ckFeed {u : Nat} (hu : u < 4) (bs : List Byte) (s : State) : CheckOnly s (ckFeed u bs s) := by
  have hlo : (R.CHK_CKVALLO_V u).block = 0x1B := by simp only [Fld.block, R.CHK_CKVALLO_V]; omega
  have hhi : (R.CHK_CKVALHI_V u).block = 0x1B := by simp only [Fld.block, R.CHK_CKVALHI_V]; omega
  have hcnt : (R.CHK_CKCNT_N u).block = 0x1B := by simp only [Fld.block, R.CHK_CKCNT_N]; omega
  exact ((CheckOnly.wr _ s (Nat.zero_lt_succ _) hlo).trans (CheckOnly.wr _ _ (Nat.zero_lt_succ _) hhi)).trans
    (CheckOnly.wr _ _ (Nat.zero_lt_succ _) hcnt)

theorem checkOnly_ckQueue (q : Nat) (seq : Byte) (m : Msg) (s : State) : CheckOnly s (ckQueue q seq m s) := by
  refine CheckOnly.foldl _ _ (fun u hu s => ?_) s
  have hfeed : ∀ bs, CheckOnly s (ckFeed u bs s) := fun bs => checkOnly_ckFeed (lt_four_of_mem hu) bs s
  exact .ite (.ite (hfeed _) (.ite (hfeed _) (.refl s))) (.refl s)

theorem checkOnly_ckBus (write : Bool) (a v : Nat) (s : State) : CheckOnly s (ckBus write a v s) := by
  refine CheckOnly.foldl _ _ (fun u hu s => ?_) s
  exact CheckOnly.ite (checkOnly_ckFeed (lt_four_of_mem hu) _ s) (CheckOnly.refl s)

/-! ### A host write that is let through -/

theorem hostWrite_open {a : Nat} {s : State} (h : hostGate true a s = none) (v : Nat) (f : State → State × Nat) :
    hostWrite a v f s = wr R.PWR_HSTAT_LAST (f s).2 (ckBus true a v (f s).1) := by
  rw [hostWrite, hostPut, h, acc]

section
variable {a : Nat} {s : State} (h : hostGate true a s = none) (v : Nat) (f : State → State × Nat)
include h

theorem hostWrite_qs : (hostWrite a v f s).qs = (f s).1.qs := by
  rw [hostWrite_open h, wr_qs, (checkOnly_ckBus true a v _).qs]

theorem getEng_hostWrite (e : Eid) : getEng e (hostWrite a v f s) = getEng e (f s).1 := by
  rw [hostWrite_open h, getEng_wr, (checkOnly_ckBus true a v _).getEng]

/-- A field of no check-value unit and not of PWR reads as the register's own effect left it. -/
theorem rd_hostWrite {g : Fld} (hl : g.lsb < 32) (hb : g.block ≠ 0x1B) (hp : g.block ≠ 0x20) :
    rd g (hostWrite a v f s) = rd g (f s).1 := by
  rw [hostWrite_open h, rd_wr_block (f := R.PWR_HSTAT_LAST) _ _ (by decide) hl hp, (checkOnly_ckBus true a v _).2 g hl hb]

theorem rd_last_hostWrite : rd R.PWR_HSTAT_LAST (hostWrite a v f s) = (f s).2 % 2 ^ 8 := by
  rw [hostWrite_open h, rd_wr_same]
  rfl

end

/-! ### Operations on one queue leave the others -/

theorem getQ_forEach {α : Type} {k : Qid} (l : List α) (f : α → State → State) (h : ∀ a s, getQ k (f a s) = getQ k s)
    (s : State) : getQ k (forEach l f s) = getQ k s := by
  induction l generalizing s with
  | nil => rfl
  | cons a l ih => exact (ih (f a s)).trans (h a s)

theorem getQ_enterNow_same (q : Nat) (m : Msg) (s : State) :
    getQ (qn q) (enterNow q m s) = Queue.enter m (getQ (qn q) s) := by
  rw [enterNow, getQ_modQ_same, (checkOnly_ckQueue q _ m s).getQ]

section
variable {k : Qid} {q : Nat} (h : k ≠ qn q)
include h

theorem getQ_enterNow_ne (m : Msg) (s : State) : getQ k (enterNow q m s) = getQ k s := by
  rw [enterNow, getQ_modQ_ne _ _ h, (checkOnly_ckQueue q _ m s).getQ]

theorem getQ_drainLate_ne (ms : List Msg) (s : State) : getQ k (drainLate q ms s) = getQ k s := by
  induction ms generalizing s with
  | nil => exact getQ_modQ_ne _ s h
  | cons m ms ih =>
    rw [drainLate]
    split
    · exact getQ_modQ_ne _ s h
    · exact (ih _).trans (getQ_enterNow_ne h m s)

theorem getQ_settle_ne (s : State) : getQ k (settle q s) = getQ k s := getQ_drainLate_ne h _ s

theorem getQ_corrected_ne (es : List (Byte × Msg)) (s : State) : getQ k (corrected q es s) = getQ k s := by
  unfold corrected
  dsimp only
  split
  · rfl
  · rw [addSat, getQ_wr]
    exact getQ_modQ_ne _ s h

theorem getQ_takeN_ne (n : Nat) (s : State) : getQ k (takeN q n s) = getQ k s := by
  rw [takeN, getQ_settle_ne h, getQ_setQ_ne _ _ h, getQ_corrected_ne h]

theorem getQ_passQ_ne (ms : List Msg) (s : State) : getQ k (passQ q ms s) = getQ k s := by
  rw [passQ]
  split
  · rw [getQ_takeN_ne h, getQ_forEach ms _ (getQ_enterNow_ne h)]
  · rfl

end

/-- An ENGINE entry of the recorder passes Q116 and ends no FREEZE: no other queue changes (R453, R513). -/
theorem getQ_logEngine {k : Qid} (h : k ≠ qn 116) (e kind exc : Nat) (s : State) :
    getQ k (logEngine e kind exc s) = getQ k s := by
  have hpass : ∀ ms s, getQ k (whenS (clearQ 116 s) (passQ 116 ms) s) = getQ k s := fun ms s => by
    rw [whenS]
    split
    · exact getQ_passQ_ne h ms s
    · rfl
  have haccept : ∀ data s, getQ k (acceptTrigger 0 0x24 15 data s) = getQ k s := fun data s => by
    unfold acceptTrigger holdEntry
    dsimp only
    split
    · rfl
    · split
      · split
        · rfl
        · rfl
      · rfl
  rw [logEngine, logEvent, haccept, hpass]

end Sys2Proof.Machine
end

section
/-!
O24: the end of a memory wipe (R88).
-/
namespace Sys2Proof.Machine
open Sys2Proof.Claims

/-- R88: an engine that was wiped may be loaded; any other stays as it is. -/
def endWipe (e : Nat) (s : State) : State := if engState e s = 1 then setEngState e 2 s else s

/-- QM.WIPE after a wipe of `us` µs that did not fail (R106). -/
def wipeShown (us : Nat) (s : State) : State :=
  wr R.QM_WIPE_DURATION us (wr R.QM_WIPE_FAILED 0 (wr R.QM_WIPE_DONE 1 s))

/-- The wipe under way is over when its scope is `sc`. -/
def wipeOver (sc : WipeScope) (s : State) : State :=
  if s.pwr.wipe == some sc then modPwr (fun p => { p with wipe := none }) s else s

/-- The wipe of this scope is due to end. -/
def WipeDue : WipeScope → State → Prop
  | .engine e, s => engState e s = 1 ∧ wipeRuns e s = false
  | .full, s => s.pwr.wipe = some .full
  | .supervisor, s => s.pwr.wipe = some .supervisor

theorem exec_memoryWipeComplete {sc : WipeScope} (us : BitVec 16) {s : State} (h : WipeDue sc s) :
    exec (.memoryWipeComplete sc .none us) s =
      .next (forEach (scopeEngines sc) endWipe (wipeOver sc (wipeShown us.toNat s))) := by
  show execMemoryWipeComplete sc .none us s = _
  cases sc with
  | engine e =>
    obtain ⟨hstate, hruns⟩ := h
    exact if_neg (by simp [hstate, hruns])
  | full =>
    have hwipe : s.pwr.wipe = some .full := h
    exact if_neg (by simp [hwipe])
  | supervisor =>
    have hwipe : s.pwr.wipe = some .supervisor := h
    exact if_neg (by simp [hwipe])

/-! ### QM.WIPE -/

theorem rd_done_wipeShown (us : Nat) (s : State) : rd R.QM_WIPE_DONE (wipeShown us s) = 1 := by
  rw [wipeShown, rd_wr_ne (f := R.QM_WIPE_DURATION) _ _ (by decide), rd_wr_ne (f := R.QM_WIPE_FAILED) _ _ (by decide),
    rd_wr_same]
  rfl

theorem rd_failed_wipeShown (us : Nat) (s : State) : rd R.QM_WIPE_FAILED (wipeShown us s) = 0 := by
  rw [wipeShown, rd_wr_ne (f := R.QM_WIPE_DURATION) _ _ (by decide), rd_wr_same]
  rfl

theorem engState_wipeShown (e us : Nat) (s : State) : engState e (wipeShown us s) = engState e s := by
  have hne : ∀ {f : Fld}, f.addr = 0x1000000C → f.lsb < 32 → (R.QM_ENGSTAT_STATE e).key ≠ f.key := fun {f} ha hl => by
    simp only [Fld.key, R.QM_ENGSTAT_STATE, ha]
    omega
  rw [wipeShown, engState, rd_wr_ne _ _ (hne rfl (by decide)), rd_wr_ne _ _ (hne rfl (by decide)),
    rd_wr_ne _ _ (hne rfl (by decide)), engState]

/-! ### The wipe under way -/

theorem wipeOver_pwr (sc : WipeScope) (s : State) : ∃ p, wipeOver sc s = { s with pwr := p } ∧ p.wipe ≠ some sc := by
  rw [wipeOver]
  split
  · exact ⟨_, rfl, nofun⟩
  · next h => exact ⟨s.pwr, rfl, by simpa using h⟩

/-! ### The engines of the scope -/

theorem engState_endWipe (e k : Nat) (s : State) :
    engState e (endWipe k s) = if e = k ∧ engState e s = 1 then 2 else engState e s := by
  rw [endWipe]
  by_cases hk : e = k
  · subst hk
    by_cases h1 : engState e s = 1 <;> simp [h1]
  · by_cases h1 : engState k s = 1 <;> simp [h1, hk, engState_setEngState_ne 2 s hk]

/-- Every listed engine that was wiped may be loaded. -/
theorem engState_endWipes (e : Nat) (l : List Nat) (s : State) :
    engState e (forEach l endWipe s) = if e ∈ l ∧ engState e s = 1 then 2 else engState e s := by
  induction l generalizing s with
  | nil => simp [forEach]
  | cons k l ih =>
    have hcons : forEach (k :: l) endWipe s = forEach l endWipe (endWipe k s) := rfl
    rw [hcons, ih, engState_endWipe]
    by_cases hk : e = k
    · subst hk
      by_cases h1 : engState e s = 1 <;> simp [h1]
    · simp [hk]

/-- A field below QM.ENGSTAT reads as before the ends of the engines' wipes. -/
theorem rd_endWipes {f : Fld} (ha : f.addr < 0x10000100) (hl : f.lsb < 32) (l : List Nat) (s : State) :
    rd f (forEach l endWipe s) = rd f s := by
  induction l generalizing s with
  | nil => rfl
  | cons k l ih =>
    have hone : rd f (endWipe k s) = rd f s := by
      rw [endWipe]
      split
      · exact rd_wr_ne 2 s (by simp only [Fld.key, R.QM_ENGSTAT_STATE]; omega)
      · rfl
    exact (ih (endWipe k s)).trans hone

theorem endWipes_regs (l : List Nat) (s : State) : ∃ r, forEach l endWipe s = { s with regs := r } := by
  induction l generalizing s with
  | nil => exact ⟨s.regs, rfl⟩
  | cons k l ih =>
    obtain ⟨r, hr⟩ := ih (endWipe k s)
    have hone : ∃ r, endWipe k s = { s with regs := r } := by
      rw [endWipe]
      split
      · exact ⟨_, rfl⟩
      · exact ⟨s.regs, rfl⟩
    obtain ⟨r', hr'⟩ := hone
    exact ⟨r, hr.trans (by rw [hr'])⟩

/-- Settles O24: QM.WIPE shows the outcome, the wipe under way is over (`wipeOver_pwr`), and every engine of the scope
that was wiped may be loaded (`engState_endWipes`). -/
theorem wipeEndsAndEnginesLoad : Obligations.WipeEndsAndEnginesLoad := by
  unfold Obligations.WipeEndsAndEnginesLoad
  intro sc us s h
  have hdue : WipeDue sc s := by cases sc <;> exact h
  refine ⟨_, exec_memoryWipeComplete us hdue, ?_⟩
  obtain ⟨p, hp, hwipe⟩ := wipeOver_pwr sc (wipeShown us.toNat s)
  rw [hp]
  obtain ⟨r, hr⟩ := endWipes_regs (scopeEngines sc) { wipeShown us.toNat s with pwr := p }
  refine ⟨?_, ?_, ?_, fun e he h1 => ?_, ?_, ?_, ?_⟩
  · exact (rd_endWipes (by decide) (by decide) _ _).trans (rd_done_wipeShown us.toNat s)
  · exact (rd_endWipes (by decide) (by decide) _ _).trans (rd_failed_wipeShown us.toNat s)
  · exact (rd_endWipes (by decide) (by decide) _ _).trans (rd_wr_same _ _ _)
  · rw [engState_endWipes]
    exact if_pos ⟨he, (engState_wipeShown e _ s).trans h1⟩
  · rw [hr]
    exact hwipe
  · rw [hr]
    rfl
  · rw [hr]
    rfl

end Sys2Proof.Machine
end

section
/-!
O22: the doorbell, SLKCLR, a waiting completion and a pool error (R106, R108, R112, R113).
-/
namespace Sys2Proof.Machine
open Sys2Proof.Claims

/-! ### The doorbell and SLKCLR -/

theorem doorbell_yields (v : W32) (s : State) (hgate : hostGate true 0x10000004 s = none) (hv : v.toNat % 2 = 1) :
    Yields (.doorbell v) s fun t => (getEng 0 t).evBell = true ∧ t.qs = s.qs ∧ rd R.PWR_HSTAT_LAST t = 0 := by
  have hset : doorbellSet v.toNat s = (modEng 0 (fun e => { e with evBell := true }) s, stOK) := by rw [doorbellSet, if_pos hv]
  refine ⟨_, rfl, ?_, ?_, ?_⟩
  · rw [getEng_hostWrite hgate, hset, getEng_modEng_same]
  · rw [hostWrite_qs hgate, hset, modEng_qs]
  · rw [rd_last_hostWrite hgate, hset]
    rfl

theorem slkclr_yields (i : Fin 11) (v : W32) (s : State) (hgate : hostGate true (0x1000400C + i.val * 0x10) s = none)
    (hv : v.toNat % 2 = 1) :
    Yields (.slkclr i v) s fun t => rd (R.QM_SLKMIN_MIN i) t = 0xFF ∧ rd (R.QM_SLKLOW_COUNT i) t = 0 ∧ t.qs = s.qs := by
  have hset : slkclrSet i v.toNat s = (wr (R.QM_SLKLOW_COUNT i) 0 (wr (R.QM_SLKMIN_MIN i) 0xFF s), stOK) := by
    rw [slkclrSet, if_pos hv]
    rfl
  have hmin : (R.QM_SLKMIN_MIN i).block = 0x10 := by simp only [Fld.block, R.QM_SLKMIN_MIN]; omega
  have hlow : (R.QM_SLKLOW_COUNT i).block = 0x10 := by simp only [Fld.block, R.QM_SLKLOW_COUNT]; omega
  refine ⟨_, rfl, ?_, ?_, ?_⟩
  · rw [rd_hostWrite hgate _ _ (Nat.zero_lt_succ _) (by rw [hmin]; decide) (by rw [hmin]; decide), hset]
    exact (rd_wr_ne _ _ (by simp only [Fld.key, R.QM_SLKMIN_MIN, R.QM_SLKLOW_COUNT]; omega)).trans (rd_wr_same _ _ _)
  · rw [rd_hostWrite hgate _ _ (Nat.zero_lt_succ _) (by rw [hlow]; decide) (by rw [hlow]; decide), hset]
    exact rd_wr_same _ _ _
  · rw [hostWrite_qs hgate, hset]
    rfl

/-! ### A waiting completion enters (R112) -/

/-- Queue `q` keeps what it has delivered and, at its head, what it has entered. -/
def Grows (q : Qid) (s t : State) : Prop := (getQ q s).ent <+: (getQ q t).ent ∧ (getQ q t).dlv = (getQ q s).dlv

theorem Grows.of_eq {q : Qid} {s t : State} (h : getQ q t = getQ q s) : Grows q s t := by
  rw [Grows, h]
  exact ⟨List.prefix_refl _, rfl⟩

theorem Grows.trans {q : Qid} {s t u : State} (h : Grows q s t) (k : Grows q t u) : Grows q s u :=
  ⟨h.1.trans k.1, k.2.trans h.2⟩

theorem Grows.nonempty {q : Qid} {s t : State} (h : Grows q s t) (hs : (getQ q s).ent ≠ []) : (getQ q t).ent ≠ [] :=
  fun ht => hs (List.prefix_nil.1 (ht ▸ h.1))

/-- The messages that wait for room are neither entered nor delivered. -/
theorem grows_setLate (q k : Qid) (g : Queue → List Msg) (s : State) : Grows q s (modQ k (fun x => { x with late := g x }) s) := by
  by_cases h : q = k
  · subst h
    rw [Grows, getQ_modQ_same]
    exact ⟨List.prefix_refl _, rfl⟩
  · exact .of_eq (getQ_modQ_ne _ s h)

theorem grows_enterNow (q : Qid) (k : Nat) (m : Msg) (s : State) : Grows q s (enterNow k m s) := by
  by_cases h : q = qn k
  · subst h
    rw [Grows, getQ_enterNow_same]
    exact ⟨List.prefix_append _ _, rfl⟩
  · exact .of_eq (getQ_enterNow_ne h m s)

theorem grows_drainLate (q : Qid) (k : Nat) (ms : List Msg) (s : State) : Grows q s (drainLate k ms s) := by
  induction ms generalizing s with
  | nil => exact grows_setLate q _ _ s
  | cons m ms ih =>
    rw [drainLate]
    split
    · exact grows_setLate q _ _ s
    · exact (grows_enterNow q k m s).trans (ih _)

theorem grows_putQ (q : Qid) (k : Nat) (m : Msg) (s : State) : Grows q s (putQ k m s) := by
  rw [putQ]
  split
  · exact .of_eq rfl
  · split
    · exact grows_enterNow q k m s
    · exact grows_setLate q _ _ s

theorem grows_putQs (q : Qid) (k : Nat) (ms : List Msg) (s : State) : Grows q s (forEach ms (putQ k) s) := by
  induction ms generalizing s with
  | nil => exact .of_eq rfl
  | cons m ms ih => exact (grows_putQ q k m s).trans (ih _)

/-- Messages pass only a queue in which nothing waits. -/
theorem grows_passQ {q : Qid} (k : Nat) (ms : List Msg) {s : State} (hs : (getQ q s).ent ≠ []) : Grows q s (passQ k ms s) := by
  by_cases h : q = qn k
  · subst h
    have hclear : clearQ k s = false := by simp [clearQ, hs]
    rw [passQ, hclear, Bool.and_false]
    exact .of_eq rfl
  · exact .of_eq (getQ_passQ_ne h ms s)

/-- The completions that are made put messages behind those of a queue in which some wait. -/
theorem grows_releaseOwed {q : Qid} (kept l : List Owed) {s : State} (hs : (getQ q s).ent ≠ []) :
    Grows q s (releaseOwed kept l s) := by
  induction l generalizing kept s with
  | nil => exact .of_eq rfl
  | cons x l ih =>
    rw [releaseOwed]
    split
    · exact ih _ hs
    · next ms _ =>
      split
      · exact ih _ hs
      · have hvia : Grows q s (match x.via with | some v => passQ v (ms.take 1) s | none => s) := by
          split
          · exact grows_passQ _ _ hs
          · exact .of_eq rfl
        have hput := hvia.trans (grows_putQs q x.c ms _)
        exact hput.trans (ih kept (hput.nonempty hs))

theorem withdrawnCompletionEntry_yields (q : Qid) (s : State) (m : Msg) (ms : List Msg) (hlate : (getQ q s).late = m :: ms)
    (hroom : (getQ q s).full = false) :
    Yields (.withdrawnCompletionEntry q) s fun t =>
      (getQ q s).ent ++ [((getQ q s).tail, m)] <+: (getQ q t).ent ∧ (getQ q t).dlv = (getQ q s).dlv := by
  have hsettle : settle q s = drainLate q ms (enterNow q m s) := by
    rw [settle, qn_val, hlate, drainLate, qn_val, hroom]
    rfl
  have hent : getQ q (enterNow q m s) = Queue.enter m (getQ q s) := by
    have h := getQ_enterNow_same q m s
    rwa [qn_val] at h
  have hrest : Grows q (enterNow q m s) (settle q s) := hsettle ▸ grows_drainLate q q ms _
  have hne : (getQ q (enterNow q m s)).ent ≠ [] := by
    rw [hent]
    exact List.append_ne_nil_of_right_ne_nil _ nofun
  have hall := hrest.trans (grows_releaseOwed [] (settle q s).owed (hrest.nonempty hne))
  rw [Grows, hent] at hall
  exact ⟨_, rfl, hall⟩

/-! ### A pool entry is lost (R113) -/

theorem corruptAt_eq_set {k : Nat} {l : List (Byte × Msg)} {e : Byte × Msg} (h : l[k]? = some e) :
    corruptAt k l = l.set k (e.1, ⟨0xF1, 0, 0⟩) := by
  rw [corruptAt, List.modify_eq_set_getElem?, h]
  rfl

theorem exec_poolUncorrectableError_dlv (q : Qid) (k : Nat) (s : State) (e : Byte × Msg) (h : (getQ q s).dlv[k]? = some e) :
    exec (.poolUncorrectableError q k) s =
      .next (logFault true 1 0xFF q e.1.toNat (incSat R.QM_ERR_UNCORR
        (setQ q { getQ q s with dlv := (getQ q s).dlv.set k (e.1, ⟨0xF1, 0, 0⟩) } s))) := by
  obtain ⟨hk, -⟩ := List.getElem?_eq_some_iff.1 h
  have hused : ¬ (getQ q s).used ≤ k := by rw [Queue.used]; omega
  show execPoolUncorrectableError q k s = _
  simp only [execPoolUncorrectableError, if_neg hused, if_pos hk, corruptAt_eq_set h, List.getElem?_append_left hk, h]

theorem exec_poolUncorrectableError_ent (q : Qid) (k : Nat) (s : State) (e : Byte × Msg) (hdlv : (getQ q s).dlv = [])
    (h : (getQ q s).ent[k]? = some e) :
    exec (.poolUncorrectableError q k) s =
      .next (logFault true 1 0xFF q e.1.toNat (incSat R.QM_ERR_UNCORR
        (setQ q { getQ q s with ent := (getQ q s).ent.set k (e.1, ⟨0xF1, 0, 0⟩) } s))) := by
  obtain ⟨hk, -⟩ := List.getElem?_eq_some_iff.1 h
  have hused : ¬ (getQ q s).used ≤ k := by rw [Queue.used]; omega
  show execPoolUncorrectableError q k s = _
  simp only [execPoolUncorrectableError, if_neg hused, hdlv, List.length_nil, Nat.not_lt_zero, if_false, Nat.zero_add,
    if_pos hk, Nat.sub_zero, corruptAt_eq_set h, List.nil_append, h]

theorem exec_poolUncorrectableError_stg (q : Qid) (k : Nat) (s : State) (e : Nat × Msg) (hdlv : (getQ q s).dlv = [])
    (hent : (getQ q s).ent = []) (h : (getQ q s).stg[k]? = some e) :
    exec (.poolUncorrectableError q k) s =
      .next (logFault true 1 0xFF q (getQ q s).tail.toNat (incSat R.QM_ERR_UNCORR
        (setQ q { getQ q s with stg := (getQ q s).stg.set k (e.1, ⟨0xF1, 0, 0⟩) } s))) := by
  obtain ⟨hk, -⟩ := List.getElem?_eq_some_iff.1 h
  have hused : ¬ (getQ q s).used ≤ k := by rw [Queue.used]; omega
  have hset : (getQ q s).stg.modify k (fun e => (e.1, mkMsg 0xF1 0 0)) = (getQ q s).stg.set k (e.1, ⟨0xF1, 0, 0⟩) := by
    rw [List.modify_eq_set_getElem?, h]
    rfl
  show execPoolUncorrectableError q k s = _
  simp only [execPoolUncorrectableError, if_neg hused, hdlv, hent, List.length_nil, Nat.not_lt_zero, if_false, Nat.zero_add,
    Nat.sub_zero, hset, List.nil_append, List.getElem?_nil]

/-- Settles O22: a completion that finds room enters, and what is released after it enters behind it
(`grows_releaseOwed`); the others follow the model's own definitions. -/
theorem queueManagerEventsAct : Obligations.QueueManagerEventsAct := by
  unfold Obligations.QueueManagerEventsAct
  exact ⟨doorbell_yields, slkclr_yields, withdrawnCompletionEntry_yields, exec_poolUncorrectableError_ent,
    exec_poolUncorrectableError_dlv, exec_poolUncorrectableError_stg⟩

end Sys2Proof.Machine
end

section
/-!
O23: the reload, the load and the start of an engine (R43, R82 to R85, R88).
-/
namespace Sys2Proof.Machine
open Sys2Proof.Claims

/-! ### A reload begins (R85, R88) -/

theorem queueOnly_returnQueues (e : Nat) (s : State) : QueueOnly s (returnQueues e s) := by
  refine QueueOnly.forEach _ _ (fun q _ s => ?_) s
  dsimp only
  split
  · exact QueueOnly.setQ _ _ s
  · split
    · exact (QueueOnly.setQ _ _ s).trans (queueOnly_settle q _)
    · exact QueueOnly.refl s

/-- The state in which the reload of an engine begins. -/
def reloadShown (e : Nat) (s : State) : State :=
  wr R.QM_WIPE_DONE 0 (setEngState e 1 (incSat (R.QM_ENGSTAT_RELOADS e) s))

theorem engState_reloadShown (e : Nat) (s : State) : engState e (reloadShown e s) = 1 := by
  have hkey : (R.QM_ENGSTAT_STATE e).key ≠ R.QM_WIPE_DONE.key := by
    simp only [Fld.key, R.QM_ENGSTAT_STATE, R.QM_WIPE_DONE]
    omega
  rw [reloadShown, engState, rd_wr_ne 0 _ hkey]
  exact engState_setEngState_same e 1 _

theorem rd_reloads_reloadShown (e : Nat) (s : State) :
    rd (R.QM_ENGSTAT_RELOADS e) (reloadShown e s) = min (rd (R.QM_ENGSTAT_RELOADS e) s + 1) (2 ^ (R.QM_ENGSTAT_RELOADS e).wid - 1) := by
  have hwipe : (R.QM_ENGSTAT_RELOADS e).key ≠ R.QM_WIPE_DONE.key := by
    simp only [Fld.key, R.QM_ENGSTAT_RELOADS, R.QM_WIPE_DONE]
    omega
  have hstate : (R.QM_ENGSTAT_RELOADS e).key ≠ (R.QM_ENGSTAT_STATE e).key := by
    simp only [Fld.key, R.QM_ENGSTAT_RELOADS, R.QM_ENGSTAT_STATE]
    omega
  rw [reloadShown, rd_wr_ne 0 _ hwipe, setEngState, rd_wr_ne 1 _ hstate, rd_incSat_same]

theorem startReload_eq (e : Eid) (s : State) :
    startReload e s = logEngine e 1 0 (modEng e Eng.wiped (returnQueues e (reloadShown e s))) := by
  rw [startReload, wipeEng, en_val, reloadShown]

theorem rd_startReload (e : Eid) (s : State) {f : Fld} (hf : EngineField f) :
    rd f (startReload e s) = rd f (reloadShown e s) := by
  rw [startReload_eq, (logOnly_logEngine _ _ _ _).rd_engineField hf, rd_modEng,
    (queueOnly_returnQueues _ _).log.rd_engineField hf]

theorem getEng_startReload (e : Eid) (s : State) : getEng e (startReload e s) = Eng.wiped (getEng e s) := by
  rw [startReload_eq, (logOnly_logEngine _ _ _ _).getEng, getEng_modEng_same, (queueOnly_returnQueues _ _).getEng]
  rfl

theorem exec_engineReload {e : Eid} {s : State} (hup : te0Up s = true) (hsingle : (1 ≤ e.val ∧ e.val ≤ 8) ∨ e.val = 15)
    (hfinal : (getEng e s).final = false)
    (hstate : engState e s = 5 ∨ engState e s = 4 ∨ (engState e s = 3 ∧ e.val ≤ 8 ∧ outOfService (e - 1) s = true)) :
    exec (.engineReload e) s = .next (startReload e s) := by
  have hone : (decide (1 ≤ e.val ∧ e.val ≤ 8) || e.val == 15) = true := by
    rcases hsingle with h | h <;> simp [h]
  show execEngineReload e s = _
  simp only [execEngineReload, hup, hone, hfinal]
  exact if_pos hstate

theorem engineReload_yields (e : Eid) (s : State) (hup : te0Up s = true) (hsingle : (1 ≤ e.val ∧ e.val ≤ 8) ∨ e.val = 15)
    (hfinal : (getEng e s).final = false)
    (hstate : engState e s = 5 ∨ engState e s = 4 ∨ (engState e s = 3 ∧ e.val ≤ 8 ∧ outOfService (e - 1) s = true)) :
    Yields (.engineReload e) s fun t =>
      engState e t = 1 ∧ getEng e t = { Eng.start with faults := (getEng e s).faults, ran := (getEng e s).ran } ∧
      rd (R.QM_ENGSTAT_RELOADS e) t = min (rd (R.QM_ENGSTAT_RELOADS e) s + 1) (2 ^ (R.QM_ENGSTAT_RELOADS e).wid - 1) %
        2 ^ (R.QM_ENGSTAT_RELOADS e).wid := by
  refine ⟨_, exec_engineReload hup hsingle hfinal hstate, ?_, ?_, ?_⟩
  · exact (rd_startReload e s (engineField_state e)).trans (engState_reloadShown e s)
  · rw [getEng_startReload, Eng.wiped, hfinal]
    rfl
  · have hfits : min (rd (R.QM_ENGSTAT_RELOADS e) s + 1) (2 ^ (R.QM_ENGSTAT_RELOADS e).wid - 1) < 2 ^ (R.QM_ENGSTAT_RELOADS e).wid :=
      lt_of_le_of_lt (min_le_right _ _) (Nat.sub_lt (Nat.two_pow_pos _) Nat.one_pos)
    rw [rd_startReload e s (engineField_reloads e), rd_reloads_reloadShown, Nat.mod_eq_of_lt hfits]

/-! ### The load port writes an image (R83) -/

theorem SMap.get_cells {α : Type} [DecidableEq α] (d : α) (vs : List α) (a b : Nat) :
    SMap.get d (SMap.cells d a vs) b = if b < a then d else vs.getD (b - a) d := by
  induction vs generalizing a with
  | nil => simp [SMap.cells, SMap.get]
  | cons v vs ih =>
    have hskip : v ≠ d → SMap.get d (SMap.cells d a (v :: vs)) b = if b = a then v else SMap.get d (SMap.cells d (a + 1) vs) b :=
      fun hv => by rw [SMap.cells, if_neg hv, SMap.get]
    rcases Nat.lt_trichotomy b a with h | rfl | h
    · by_cases hv : v = d
      · rw [SMap.cells, if_pos hv, ih, if_pos (by omega), if_pos h]
      · rw [hskip hv, if_neg (by omega), ih, if_pos (by omega), if_pos h]
    · by_cases hv : v = d
      · rw [SMap.cells, if_pos hv, ih, if_pos (by omega)]
        simp [hv]
      · rw [hskip hv]
        simp
    · obtain ⟨n, rfl⟩ := Nat.exists_eq_add_of_lt h
      have hn : a + n + 1 - a = n + 1 := by omega
      have htail : SMap.get d (SMap.cells d (a + 1) vs) (a + n + 1) = vs.getD n d := by
        rw [ih, if_neg (by omega)]
        congr 1
        omega
      rw [if_neg (by omega), hn, List.getD_cons_succ, ← htail]
      by_cases hv : v = d
      · rw [SMap.cells, if_pos hv]
      · rw [hskip hv, if_neg (by omega)]

/-- Program memory as the load port fills it reads as the image's words, and 0 behind them. -/
theorem get_image (ws : List W32) {a n : Nat} (h : a < n) : SMap.get 0 (SMap.cells 0 0 (ws.take n)) a = ws.getD a 0 := by
  rw [SMap.get_cells, if_neg (Nat.not_lt_zero a), Nat.sub_zero]
  simp only [List.getD, List.getElem?_take_of_lt h]

theorem engineLoad_yields (e : Eid) (ws : List W32) (crc : W32) (s : State) (hup : te0Up s = true) (hstate : engState e s = 2)
    (hturn : loadTurn e s = true) (hsect : sectOk e s = true)
    (hcrc : (sectFor (engRegion e) e s).map (fun q => q.2.2) = some crc.toNat) :
    Yields (.engineLoad e ws crc) s fun t =>
      (∀ a, a < memWords e → SMap.get 0 (getEng e t).pmem a = ws.getD a 0) ∧
      (getEng e t).loadOk = decide (imageCrc ws = crc.toNat) ∧ (∀ k : Eid, k ≠ e → getEng k t = getEng k s) ∧
      { t with engs := s.engs } = s := by
  have hexec : exec (.engineLoad e ws crc) s = .next (loadWords e ws (some crc.toNat) s) := by
    show execEngineLoad e ws crc s = _
    simp only [execEngineLoad, hup, hstate, hturn, hsect, hcrc]
    rfl
  refine ⟨_, hexec, fun a ha => ?_, ?_, fun k hk => ?_, ?_⟩
  · rw [loadWords, en_val, getEng_modEng_same]
    exact get_image ws ha
  · rw [loadWords, en_val, getEng_modEng_same]
    simp [beq_eq_decide]
  · rw [loadWords, en_val]
    exact getEng_modEng_ne _ s hk
  · rw [loadWords, modEng, setEng]

end Sys2Proof.Machine
end

section
/-!
O23: what the end of a load does.
-/
namespace Sys2Proof.Machine
open Sys2Proof.Claims

/-! ### An outlet engine finds its input queues enabled (R82, R91) -/

/-- A queue of a function that starts is enabled where it has a capacity; its messages stay. -/
theorem getQ_upQ (k : Qid) (q : Nat) (s : State) :
    (getQ k (upQ q s)).cap = (getQ k s).cap ∧ (getQ k (upQ q s)).ent = (getQ k s).ent ∧
      (getQ k (upQ q s)).en = ((getQ k s).en || decide (k = qn q) && decide (0 < (getQ k s).cap)) := by
  by_cases hk : k = qn q
  · subst hk
    rw [upQ]
    split
    · next hen => simp [hen]
    · next hen =>
      rw [enableQ, getQ_modQ_same, Queue.enable]
      split <;> simp [hen]
  · have hsame : getQ k (upQ q s) = getQ k s := by
      rw [upQ]
      split
      · rfl
      · exact getQ_modQ_ne _ s hk
    simp [hsame, hk]

theorem getQ_upQs (k : Qid) (l : List Nat) (s : State) :
    (getQ k (forEach l upQ s)).cap = (getQ k s).cap ∧ (getQ k (forEach l upQ s)).ent = (getQ k s).ent ∧
      (getQ k (forEach l upQ s)).en = ((getQ k s).en || decide (k ∈ l.map qn) && decide (0 < (getQ k s).cap)) := by
  induction l generalizing s with
  | nil => simp [forEach]
  | cons q l ih =>
    obtain ⟨hcap, hent, hen⟩ := ih (upQ q s)
    obtain ⟨hcap', hent', hen'⟩ := getQ_upQ k q s
    refine ⟨hcap.trans hcap', hent.trans hent', hen.trans ?_⟩
    simp only [hen', hcap', List.map_cons, List.mem_cons, Bool.decide_or, Bool.and_or_distrib_right, Bool.or_assoc]

theorem queueOnly_upQs (l : List Nat) (s : State) : QueueOnly s (forEach l upQ s) := by
  refine QueueOnly.forEach l upQ (fun q _ s => ?_) s
  rw [upQ]
  split
  · exact QueueOnly.refl s
  · exact queueOnly_enableQ q _ s

/-! ### What waits for an outlet engine -/

theorem afterCut_none {o : Nat} {s : State} (h : (getOs o s).cut = none) : afterCut o s = s := by
  rw [afterCut, h]

theorem takeFold_empty {o : Nat} {s : State} (h : (getQ (qn (80 + o)) s).ent = []) : takeFold o s = s := by
  rw [takeFold, h]
  rfl

theorem takeLink_empty {o : Nat} {s : State} (h : (getQ (qn (96 + o)) s).ent = []) : takeLink o s = s := by
  rw [takeLink, h]
  rfl

/-! ### The program starts -/

theorem logOnly_logLoaded (e : Nat) (s : State) : LogOnly s (logLoaded e s) := by
  rw [logLoaded]
  split
  · exact logOnly_logEngine e 2 0 s
  · exact LogOnly.refl s

theorem getQ_logLoaded {k : Qid} (h : k ≠ qn 116) (e : Nat) (s : State) : getQ k (logLoaded e s) = getQ k s := by
  rw [logLoaded]
  split
  · exact getQ_logEngine h e 2 0 s
  · rfl

/-- The queues from which an outlet engine takes its input (R92). -/
def inputQueues (e : Nat) : List Nat := [55 + e, 63 + e, 79 + e, 95 + e]

/-- An outlet engine as its program starts, its input queues enabled. -/
def outletStarted (e : Nat) (s : State) : State := forEach (inputQueues e) upQ (beginEng e 3 (logLoaded e s))

section
variable (e : Eid) (s : State)

theorem engState_outletStarted : engState e (outletStarted e s) = 3 := by
  rw [outletStarted, (queueOnly_upQs _ _).log.engState, beginEng]
  exact engState_setEngState_same e 3 _

theorem getEng_outletStarted_same : getEng e (outletStarted e s) = (getEng e s).begun := by
  rw [outletStarted, (queueOnly_upQs _ _).getEng, beginEng, en_val, getEng_setEngState, getEng_modEng_same,
    (logOnly_logLoaded _ s).getEng]

theorem getEng_outletStarted_ne {k : Eid} (h : k ≠ e) : getEng k (outletStarted e s) = getEng k s := by
  rw [outletStarted, (queueOnly_upQs _ _).getEng, beginEng, en_val, getEng_setEngState, getEng_modEng_ne _ _ h,
    (logOnly_logLoaded _ s).getEng]

theorem getOs_outletStarted (o : Nat) : getOs o (outletStarted e s) = getOs o s := by
  rw [outletStarted, (queueOnly_upQs _ _).log.getOs]
  exact (logOnly_logLoaded e s).getOs o

theorem held_outletStarted {o : Nat} (ho : o < 8) : held o (outletStarted e s) = held o s := by
  have hb : (R.OUT_STATE_HOLD o).block = 0x14 := by simp only [Fld.block, R.OUT_STATE_HOLD]; omega
  have he : (R.QM_ENGSTAT_STATE e).block = 0x10 := (engineField_state e).block
  have hq : (R.OUT_STATE_HOLD o).isQCount = false := isQCount_above_queues (by simp only [R.OUT_STATE_HOLD]; omega)
  have hl : (R.OUT_STATE_HOLD o).lsb < 32 := Nat.le_of_ble_eq_true rfl
  have hup := (queueOnly_upQs (inputQueues e) (beginEng e 3 (logLoaded e s))).2 _ hl hq (by rw [hb]; decide)
  have hbegin : rd (R.OUT_STATE_HOLD o) (beginEng e 3 (logLoaded e s)) = rd (R.OUT_STATE_HOLD o) (logLoaded e s) :=
    rd_wr_block 3 _ (Nat.zero_lt_succ _) hl (by rw [hb, he]; decide)
  have hlog := (logOnly_logLoaded e s).2 _ hl hq (by rw [hb]; decide) (by rw [hb]; decide)
  rw [held, flag, outletStarted, hup, hbegin, hlog, held, flag]

/-- Only Q116 takes the ENGINE entry; of the others the input queues are enabled. -/
theorem getQ_outletStarted {k : Qid} (h : k ≠ qn 116) :
    (getQ k (outletStarted e s)).ent = (getQ k s).ent ∧ (getQ k (outletStarted e s)).en =
      ((getQ k s).en || decide (k ∈ (inputQueues e).map qn) && decide (0 < (getQ k s).cap)) := by
  have hbegin : getQ k (beginEng e 3 (logLoaded e s)) = getQ k s := getQ_logLoaded h e s
  obtain ⟨-, hent, hen⟩ := getQ_upQs k (inputQueues e) (beginEng e 3 (logLoaded e s))
  rw [hbegin] at hent hen
  exact ⟨hent, hen⟩

end

/-- What waits for an outlet engine that returns, unless its pilot is held (R84, R263). -/
def takeWaiting (o : Nat) (s : State) : State := if held o s then s else takeLink o (takeFold o s)

theorem engineStart_outlet {e : Eid} (h1 : 1 ≤ e.val) (h8 : e.val ≤ 8) (s : State) :
    engineStart e s = takeWaiting (e - 1) (afterCut (e - 1) (outletStarted e s)) := by
  have houtlet : decide (1 ≤ e.val ∧ e.val ≤ 8) = true := decide_eq_true ⟨h1, h8⟩
  have h15 : (e.val == 15) = false := beq_false_of_ne (by omega)
  have hdef : engineStart e s =
      whenS (e.val == 15) (fun s => lateReadings (vaultStart (forEach [110, 112] upQ s)))
        (whenS (decide (1 ≤ e.val ∧ e.val ≤ 8)) (fun s => takeWaiting (e - 1) (afterCut (e - 1) (forEach (inputQueues e) upQ s)))
          (beginEng e 3 (logLoaded e s))) := rfl
  have hskip : ∀ f t, whenS (e.val == 15) f t = t := fun f t => by rw [whenS, h15, if_neg Bool.false_ne_true]
  have hdo : ∀ f t, whenS (decide (1 ≤ e.val ∧ e.val ≤ 8)) f t = f t := fun f t => by rw [whenS, houtlet, if_pos rfl]
  rw [hdef, hskip, hdo]
  rfl

/-- An outlet engine whose pilot is held, or for which nothing waits, starts as it is. -/
theorem takeWaiting_outletStarted {e : Eid} {s : State} (h1 : 1 ≤ e.val) (h8 : e.val ≤ 8)
    (hwait : held (e - 1) s = true ∨ ((getQ (qn (79 + e)) s).ent = [] ∧ (getQ (qn (95 + e)) s).ent = [])) :
    takeWaiting (e - 1) (outletStarted e s) = outletStarted e s := by
  rw [takeWaiting]
  rcases hwait with hheld | ⟨hfold, hlink⟩
  · rw [held_outletStarted e s (by omega), hheld, if_pos rfl]
  · have h80 : 80 + (e.val - 1) = 79 + e := by omega
    have h96 : 96 + (e.val - 1) = 95 + e := by omega
    rw [takeFold_empty, takeLink_empty, ite_self]
    · rw [h96, (getQ_outletStarted e s (qn_ne (by omega) (by omega) (by omega))).1, hlink]
    · rw [h80, (getQ_outletStarted e s (qn_ne (by omega) (by omega) (by omega))).1, hfold]

/-! ### The end of a load (R83) -/

section
variable {e : Eid} {s : State} (hup : te0Up s = true) (hstate : engState e s = 2) (hheld : startHeld e s = false)
include hup hstate hheld

theorem exec_engineLoadComplete_unpaired (hp : isPaired e = false) (hok : (getEng e s).loadOk = true) :
    exec (.engineLoadComplete e) s = .next (engineStart e s) := by
  show execEngineLoadComplete e s = _
  simp [execEngineLoadComplete, hup, hstate, hheld, hp, hok]

theorem exec_engineLoadComplete_paired (hp : isPaired e = true) (hok : (getEng e s).loadOk = true) :
    exec (.engineLoadComplete e) s = .next (pairStart (pairIdx e) s) := by
  show execEngineLoadComplete e s = _
  simp [execEngineLoadComplete, hup, hstate, hheld, hp, hok]

theorem exec_engineLoadComplete_mismatch (hp : isPaired e = false) (hok : (getEng e s).loadOk = false) :
    exec (.engineLoadComplete e) s = .next (if (getEng e s).loadTries = 0 then modEng e (fun x => { x with loadTries := 1 }) s
      else loadFails e (getEng e s).loadCrc s) := by
  show execEngineLoadComplete e s = _
  by_cases htries : (getEng e s).loadTries = 0 <;> simp [execEngineLoadComplete, hup, hstate, hheld, hp, hok, htries]

end

theorem loadFails_stops (e : Eid) (crc : Nat) (s : State) :
    engState e (loadFails e crc s) = 5 ∧ (getEng e (loadFails e crc s)).final = true := by
  have hlog := (logOnly_logEngine e 3 0 (stopForGood e s)).trans (logOnly_logFault true 3 e 0x7F crc _)
  rw [loadFails, hlog.engState, hlog.getEng, stopForGood, en_val, engState_modEng, engState_setEngState_same,
    getEng_modEng_same]
  exact ⟨rfl, rfl⟩

theorem engineLoadComplete_outlet (e : Eid) (s : State) (hup : te0Up s = true) (hstate : engState e s = 2) (h1 : 1 ≤ e.val)
    (h8 : e.val ≤ 8) (hheld : startHeld e s = false) (hok : (getEng e s).loadOk = true) (hcut : (getOs (e - 1) s).cut = none)
    (hwait : held (e - 1) s = true ∨ ((getQ (qn (79 + e)) s).ent = [] ∧ (getQ (qn (95 + e)) s).ent = [])) :
    Yields (.engineLoadComplete e) s fun t => engState e t = 3 ∧ getEng e t = (getEng e s).begun ∧
      (∀ k : Eid, k ≠ e → getEng k t = getEng k s) ∧
      ∀ q ∈ [55 + e.val, 63 + e, 79 + e, 95 + e],
        (getQ (qn q) t).en = ((getQ (qn q) s).en || decide (0 < (getQ (qn q) s).cap)) := by
  have hp : isPaired e = false := decide_eq_false (by omega)
  have hexec := exec_engineLoadComplete_unpaired hup hstate hheld hp hok
  rw [engineStart_outlet h1 h8, afterCut_none ((congrArg OutSt.cut (getOs_outletStarted e s _)).trans hcut),
    takeWaiting_outletStarted h1 h8 hwait] at hexec
  refine ⟨_, hexec, engState_outletStarted e s, getEng_outletStarted_same e s, fun k hk => getEng_outletStarted_ne e s hk,
    fun q hq => ?_⟩
  have hmem : qn q ∈ (inputQueues e).map qn := List.mem_map_of_mem hq
  have hq116 : qn q ≠ qn 116 := by
    simp only [List.mem_cons, List.not_mem_nil, or_false] at hq
    exact qn_ne (by omega) (by omega) (by omega)
  rw [(getQ_outletStarted e s hq116).2, decide_eq_true hmem, Bool.true_and]

theorem engineLoadComplete_mismatch (e : Eid) (s : State) (hup : te0Up s = true) (hstate : engState e s = 2)
    (hp : isPaired e = false) (hheld : startHeld e s = false) (hok : (getEng e s).loadOk = false) :
    Yields (.engineLoadComplete e) s fun t =>
      if (getEng e s).loadTries = 0 then engState e t = 2 ∧ (getEng e t).loadTries = 1
      else engState e t = 5 ∧ (getEng e t).final = true := by
  refine ⟨_, exec_engineLoadComplete_mismatch hup hstate hheld hp hok, ?_⟩
  split
  · exact ⟨hstate, by rw [getEng_modEng_same]⟩
  · exact loadFails_stops e _ s

/-- Settles O23: a reload wipes (`startReload_eq`), the load port writes the image (`get_image`), and the end of the load
starts the engine (`engineStart_outlet`), repeats it, or leaves it STOPPED (`loadFails_stops`). -/
theorem engineReloadsWipeAndLoad : Obligations.EngineReloadsWipeAndLoad := by
  unfold Obligations.EngineReloadsWipeAndLoad
  exact ⟨engineReload_yields, engineLoad_yields, engineLoadComplete_outlet,
    fun _ _ hup hstate hp hheld hok => exec_engineLoadComplete_unpaired hup hstate hheld hp hok,
    engineLoadComplete_mismatch,
    fun _ _ hup hstate hp hheld hok => exec_engineLoadComplete_paired hup hstate hheld hp hok⟩

end Sys2Proof.Machine
end

section
/-!
O21 fails, by its clause of a message that no chapter serves (log entry 103). TE0 completes such a request DENIED, and
with it every completion that is made is entered in the queue its entry of `State.owed` names (R98). The clause bounds
neither that list nor the queues in it: a completion that names the request queue itself enters there, so that the queue
is not left empty. The model's own steps name completion queues alone, so this state is one the statement lets in and
not one the model's runs reach.
-/
namespace Sys2Proof.Machine
open Sys2Proof.Claims

/-- TE0 runs, Q0 is enabled and empty, and a completion that is made names Q0 as its completion queue. -/
def completionForQ0 : State :=
  { setEngState 0 3 (modQ 0 (Queue.enable 64) State.reset) with
    owed := [⟨0, 0, none, 1, 0, some [mkMsg 0x81 0 0], true, false⟩] }

/-- The high half of a RESTORE, which no chapter serves on Q0 (R196). -/
def restoreHigh : W32 := 0x23000000

theorem served_completionForQ0 : Served (o8 0) completionForQ0 := by
  unfold Served
  decide +kernel

theorem unserved_restore : unserved (hostMsg (rd (R.QM_QPUSHL_LOW 0) completionForQ0) restoreHigh.toNat) = true := by
  decide +kernel

/-- TE0 has taken the RESTORE, and the completion stands in Q0 behind it. -/
theorem ent_qpushh_completionForQ0 :
    (getQ 0 (hostWrite (qreg 0 0x14) restoreHigh.toNat (qpushhSet 0 restoreHigh.toNat) completionForQ0)).ent =
      [(1, mkMsg 0x81 0 0)] := by
  decide +kernel

/-- Refutes O21: after the push of a RESTORE into Q0 of `completionForQ0`, a completion stands in Q0. -/
theorem not_hostQueueAccessesMoveMessages : ¬ Obligations.HostQueueAccessesMoveMessages := by
  unfold Obligations.HostQueueAccessesMoveMessages
  rintro ⟨-, hunserved, -⟩
  obtain ⟨t, hexec, hent, -⟩ := hunserved 0 restoreHigh completionForQ0 (by decide +kernel) (by decide)
    served_completionForQ0 (by decide +kernel) (by decide +kernel) unserved_restore
  have ht : hostWrite (qreg 0 0x14) restoreHigh.toNat (qpushhSet 0 restoreHigh.toNat) completionForQ0 = t := by
    injection hexec
  rw [← ht, ent_qpushh_completionForQ0] at hent
  exact List.cons_ne_nil _ _ hent

end Sys2Proof.Machine
end

section
/-!
One channel of the sampling chain: what its operations (R118 to R157) leave as it was, and how its record and its
registers read after them. `OnlyChan` says what a command on the channel may change at all; `KeepsSetup` says in
addition that the CHCFG registers stay.
-/
namespace Sys2Proof.Claims
open Sys2Proof.Machine

theorem OnlyChan.ite {o c : Nat} {p : Prop} [Decidable p] {s t u : State} (h : OnlyChan o c s t) (k : OnlyChan o c s u) :
    OnlyChan o c s (if p then t else u) := by
  split
  · exact h
  · exact k

/-- A write of the channel's own CHCFG. -/
theorem OnlyChan.wrSetup {o c : Nat} {f : Fld} (v : Nat) (s : State) (ha : f.addr = (R.FLT_CHCFG_EN o c).addr)
    (hl : f.lsb < 32) : OnlyChan o c s (Machine.wr f v s) := by
  refine OnlyChan.wr v s (.inl ?_) hl
  simp only [ha, R.FLT_CHCFG_EN]
  omega

end Sys2Proof.Claims

namespace Sys2Proof.Machine
open Sys2Proof.Claims

/-- A register of channel `c` beside its CHCFG. -/
def BesideSetup (o c : Nat) (f : Fld) : Prop :=
  f.addr / 0x100 = 0x110000 + o * 0x10 + c ∧ f.addr % 0x100 ≠ 0 ∧ f.lsb < 32

/-- The register tables place a channel's field at an offset of its page. -/
theorem besideSetup_of_base {o c base lsb wid rst : Nat} {acc : Acc}
    (h : (base / 0x100 == 0x110000 && base % 0x100 != 0 && decide (lsb < 32)) = true) :
    BesideSetup o c ⟨base + o * 0x1000 + c * 0x100, lsb, wid, rst, acc⟩ := by
  simp only [Bool.and_eq_true, beq_iff_eq, bne_iff_ne, decide_eq_true_eq] at h
  obtain ⟨⟨hpage, hoff⟩, hlsb⟩ := h
  refine ⟨?_, ?_, hlsb⟩ <;> dsimp only <;> omega

/-- Only channel `c` differs, and no CHCFG. -/
def KeepsSetup (o c : Nat) (s t : State) : Prop :=
  OnlyChan o c s t ∧ ∀ f : Fld, f.lsb < 32 → f.block = 0x11 → f.addr % 0x100 = 0 → rd f t = rd f s

namespace KeepsSetup

variable {o c : Nat}

theorem refl (s : State) : KeepsSetup o c s s := ⟨OnlyChan.refl o c s, fun _ _ _ _ => rfl⟩

theorem trans {s t u : State} (h : KeepsSetup o c s t) (k : KeepsSetup o c t u) : KeepsSetup o c s u :=
  ⟨h.1.trans k.1, fun f l b a => (k.2 f l b a).trans (h.2 f l b a)⟩

theorem ite {p : Prop} [Decidable p] {s t u : State} (h : KeepsSetup o c s t) (k : KeepsSetup o c s u) :
    KeepsSetup o c s (if p then t else u) := by
  split
  · exact h
  · exact k

/-- A write of a field that is the channel's, or its low range's. -/
theorem wr_of {f : Fld} (v : Nat) (s : State) (hf : OfChan o c f) (hl : f.lsb < 32) (ha : f.addr % 0x100 ≠ 0) :
    KeepsSetup o c s (wr f v s) := by
  refine ⟨OnlyChan.wr v s hf hl, fun g gl _ ga => rd_wr_ne v s fun hk => ha ?_⟩
  have hk' : g.addr * 32 + g.lsb = f.addr * 32 + f.lsb := hk
  have hg : g.addr = f.addr := by omega
  rw [← hg, ga]

theorem wr {f : Fld} (v : Nat) (s : State) (h : BesideSetup o c f) : KeepsSetup o c s (wr f v s) :=
  wr_of v s (.inl h.1) h.2.2 h.2.1

theorem wrLow {f : Fld} (v : Nat) (s : State) (hi : isCurrent o c = true) (h : BesideSetup o (c + 4) f) :
    KeepsSetup o c s (Machine.wr f v s) :=
  wr_of v s (.inr ⟨hi, h.1⟩) h.2.2 h.2.1

theorem setCh (x : Chan) (s : State) : KeepsSetup o c s (setCh o c x s) :=
  ⟨OnlyChan.setCh o c x s, fun _ _ _ _ => rfl⟩

theorem modCh (f : Chan → Chan) (s : State) : KeepsSetup o c s (modCh o c f s) := setCh _ s

theorem modLow (hi : isCurrent o c = true) (f : Chan → Chan) (s : State) :
    KeepsSetup o c s (Machine.modCh o (c + 4) f s) :=
  ⟨⟨rfl, rfl, fun _ _ k => vget_vset_ne _ _ (k hi), fun _ _ _ _ _ _ => rfl⟩, fun _ _ _ _ => rfl⟩

theorem of_queueOnly {s t : State} (h : QueueOnly s t) : KeepsSetup o c s t := by
  refine ⟨h.onlyChan o c, fun f l b _ => h.2 f l (isQCount_above_queues ?_) ?_⟩ <;>
    simp only [Fld.block] at b ⊢ <;> omega

theorem whenS {b : Bool} {f : State → State} (h : ∀ s, KeepsSetup o c s (f s)) (s : State) :
    KeepsSetup o c s (whenS b f s) := by
  unfold Machine.whenS
  exact ite (h s) (refl s)

theorem forEach {α : Type} (l : List α) (f : α → State → State) (h : ∀ a ∈ l, ∀ s, KeepsSetup o c s (f a s)) (s : State) :
    KeepsSetup o c s (forEach l f s) := by
  induction l generalizing s with
  | nil => exact refl s
  | cons a l ih => exact (h a (by simp) s).trans (ih (fun b hb => h b (by simp [hb])) (f a s))

end KeepsSetup

/-- FASTCNT counts for the part and is left out of what `OnlyChan` says. -/
theorem onlyChan_recount (o c : Nat) (s : State) : OnlyChan o c s (recount s) := by
  refine ⟨rfl, rfl, fun _ _ _ => rfl, fun g gl _ _ _ ga => rd_wr_ne _ s fun hk => ga ?_⟩
  simp only [Fld.key, R.FLT_FASTCNT_N] at hk
  omega

/-! ### The channel's record -/

/-- The low range of a current channel is another path. -/
theorem chIx_low_ne {o c : Nat} (h : isCurrent o c = true) : chIx o c ≠ chIx o (c + 4) := by
  simp only [isCurrent, decide_eq_true_eq] at h
  intro he
  have hv := congrArg Fin.val he
  simp only [chIx, if_pos h.1] at hv
  omega

@[simp] theorem getCh_modCh_same (o c : Nat) (f : Chan → Chan) (s : State) : getCh o c (modCh o c f s) = f (getCh o c s) :=
  getCh_setCh_same o c _ s

theorem getCh_modCh_low {o c : Nat} (h : isCurrent o c = true) (f : Chan → Chan) (s : State) :
    getCh o c (modCh o (c + 4) f s) = getCh o c s :=
  vget_vset_ne _ _ (chIx_low_ne h)

@[simp] theorem modCh_qs (o c : Nat) (f : Chan → Chan) (s : State) : (modCh o c f s).qs = s.qs := rfl

@[simp] theorem rd_modPaths (g : Fld) (o c : Nat) (f : Chan → Chan) (s : State) : rd g (modPaths o c f s) = rd g s := by
  unfold modPaths
  split <;> rfl

@[simp] theorem modPaths_qs (o c : Nat) (f : Chan → Chan) (s : State) : (modPaths o c f s).qs = s.qs := by
  unfold modPaths
  split <;> rfl

@[simp] theorem modPaths_owed (o c : Nat) (f : Chan → Chan) (s : State) : (modPaths o c f s).owed = s.owed := by
  unfold modPaths
  split <;> rfl

@[simp] theorem getCh_modPaths (o c : Nat) (f : Chan → Chan) (s : State) :
    getCh o c (modPaths o c f s) = f (getCh o c s) := by
  unfold modPaths
  split
  next h => rw [getCh_modCh_low h, getCh_modCh_same]
  next => rw [getCh_modCh_same]

theorem keepsSetup_modPaths (o c : Nat) (f : Chan → Chan) (s : State) : KeepsSetup o c s (modPaths o c f s) := by
  unfold modPaths
  split
  next h => exact (KeepsSetup.modCh f s).trans (KeepsSetup.modLow h f _)
  next => exact KeepsSetup.modCh f s

/-! ### The slots -/

/-- The slot fields of one path. -/
def slotFields (o c ra pa rb pb : Nat) : List (Fld × Nat) :=
  [(R.FLT_CHSTAT_SLOTA o c, ra), (R.FLT_CHSTAT_RESPA o c, pa), (R.FLT_CHSTAT_SLOTB o c, rb), (R.FLT_CHSTAT_RESPB o c, pb)]

theorem setSlots_eq (o c ra pa rb pb : Nat) (s : State) :
    setSlots o c ra pa rb pb s =
      if isCurrent o c then wrs (slotFields o (c + 4) ra pa rb pb) (wrs (slotFields o c ra pa rb pb) s)
      else wrs (slotFields o c ra pa rb pb) s := rfl

theorem setSlots_regs (o c ra pa rb pb : Nat) (s : State) : ∃ r, setSlots o c ra pa rb pb s = { s with regs := r } := by
  obtain ⟨r, h⟩ := wrs_regs (slotFields o c ra pa rb pb) s
  rw [setSlots_eq]
  split
  · obtain ⟨r', h'⟩ := wrs_regs (slotFields o (c + 4) ra pa rb pb) (wrs (slotFields o c ra pa rb pb) s)
    exact ⟨r', by rw [h', h]⟩
  · exact ⟨r, h⟩

@[simp] theorem setSlots_samp (o c ra pa rb pb : Nat) (s : State) : (setSlots o c ra pa rb pb s).samp = s.samp := by
  obtain ⟨r, h⟩ := setSlots_regs o c ra pa rb pb s
  rw [h]

@[simp] theorem setSlots_qs (o c ra pa rb pb : Nat) (s : State) : (setSlots o c ra pa rb pb s).qs = s.qs := by
  obtain ⟨r, h⟩ := setSlots_regs o c ra pa rb pb s
  rw [h]

@[simp] theorem setSlots_owed (o c ra pa rb pb : Nat) (s : State) : (setSlots o c ra pa rb pb s).owed = s.owed := by
  obtain ⟨r, h⟩ := setSlots_regs o c ra pa rb pb s
  rw [h]

@[simp] theorem getCh_setSlots (i j o c ra pa rb pb : Nat) (s : State) :
    getCh i j (setSlots o c ra pa rb pb s) = getCh i j s := by
  rw [getCh, setSlots_samp, getCh]

theorem keepsSetup_setSlots (o c ra pa rb pb : Nat) (s : State) : KeepsSetup o c s (setSlots o c ra pa rb pb s) := by
  have own : ∀ s, KeepsSetup o c s (wrs (slotFields o c ra pa rb pb) s) := fun s =>
    (((KeepsSetup.wr _ s (besideSetup_of_base rfl)).trans (KeepsSetup.wr _ _ (besideSetup_of_base rfl))).trans
      (KeepsSetup.wr _ _ (besideSetup_of_base rfl))).trans (KeepsSetup.wr _ _ (besideSetup_of_base rfl))
  rw [setSlots_eq]
  split
  next h =>
    exact (own s).trans ((((KeepsSetup.wrLow _ _ h (besideSetup_of_base rfl)).trans
      (KeepsSetup.wrLow _ _ h (besideSetup_of_base rfl))).trans (KeepsSetup.wrLow _ _ h (besideSetup_of_base rfl))).trans
      (KeepsSetup.wrLow _ _ h (besideSetup_of_base rfl)))
  next => exact own s

/-- The slots of the low range are other fields. -/
theorem rd_setSlots_own {o c : Nat} {f : Fld} (ra pa rb pb : Nat) (s : State) (ha : f.addr = (R.FLT_CHSTAT_SLOTA o c).addr)
    (hl : f.lsb < 32) : rd f (setSlots o c ra pa rb pb s) = rd f (wrs (slotFields o c ra pa rb pb) s) := by
  rw [setSlots_eq]
  split
  · refine rd_wrs_ne _ _ fun g hg => ?_
    have low : g.addr = (R.FLT_CHSTAT_SLOTA o (c + 4)).addr ∧ g.lsb < 32 := by
      simp only [slotFields, List.map_cons, List.map_nil, List.mem_cons, List.not_mem_nil, or_false] at hg
      rcases hg with rfl | rfl | rfl | rfl <;> exact ⟨rfl, Nat.le_of_ble_eq_true rfl⟩
    simp only [R.FLT_CHSTAT_SLOTA] at ha low
    simp only [Fld.key]
    omega
  · rfl

/-- What the slots read once they are set. -/
theorem rd_setSlots (o c ra pa rb pb : Nat) (s : State) :
    rd (R.FLT_CHSTAT_SLOTA o c) (setSlots o c ra pa rb pb s) = ra % 4 ∧
    rd (R.FLT_CHSTAT_RESPA o c) (setSlots o c ra pa rb pb s) = pa % 16 ∧
    rd (R.FLT_CHSTAT_SLOTB o c) (setSlots o c ra pa rb pb s) = rb % 4 ∧
    rd (R.FLT_CHSTAT_RESPB o c) (setSlots o c ra pa rb pb s) = pb % 16 := by
  have own : ∀ f : Fld, f.addr = (R.FLT_CHSTAT_SLOTA o c).addr → Nat.ble (f.lsb + 1) 32 = true →
      rd f (setSlots o c ra pa rb pb s) = rd f (wrs (slotFields o c ra pa rb pb) s) :=
    fun f ha hl => rd_setSlots_own ra pa rb pb s ha (Nat.le_of_ble_eq_true hl)
  rw [own (R.FLT_CHSTAT_SLOTA o c) rfl rfl, own (R.FLT_CHSTAT_RESPA o c) rfl rfl, own (R.FLT_CHSTAT_SLOTB o c) rfl rfl,
    own (R.FLT_CHSTAT_RESPB o c) rfl rfl]
  simp only [slotFields, wrs, List.foldl_cons, List.foldl_nil]
  refine ⟨?_, ?_, ?_, rd_wr_same _ _ _⟩
  · rw [rd_wr_ne, rd_wr_ne, rd_wr_ne, rd_wr_same]
    · rfl
    all_goals simp only [Fld.key, R.FLT_CHSTAT_SLOTA, R.FLT_CHSTAT_RESPA, R.FLT_CHSTAT_SLOTB, R.FLT_CHSTAT_RESPB]; omega
  · rw [rd_wr_ne, rd_wr_ne, rd_wr_same]
    · rfl
    all_goals simp only [Fld.key, R.FLT_CHSTAT_RESPA, R.FLT_CHSTAT_SLOTB, R.FLT_CHSTAT_RESPB]; omega
  · rw [rd_wr_ne, rd_wr_same]
    · rfl
    simp only [Fld.key, R.FLT_CHSTAT_SLOTB, R.FLT_CHSTAT_RESPB]; omega

/-! ### A change that waits, and its end -/

theorem keepsSetup_setXfrem (o c v : Nat) (s : State) : KeepsSetup o c s (setXfrem o c v s) := by
  unfold setXfrem
  split
  next h => exact (KeepsSetup.wr v s (besideSetup_of_base rfl)).trans (KeepsSetup.wrLow v _ h (besideSetup_of_base rfl))
  next => exact KeepsSetup.wr v s (besideSetup_of_base rfl)

theorem rd_setXfrem (o c v : Nat) (s : State) : rd (R.FLT_CHSTAT_XFREM o c) (setXfrem o c v s) = v % 2 ^ 11 := by
  unfold setXfrem
  split
  · refine (rd_wr_ne v _ ?_).trans (rd_wr_same _ v s)
    simp only [Fld.key, R.FLT_CHSTAT_XFREM]
    omega
  · exact rd_wr_same _ v s

theorem queueOnly_changeDone (o c n : Nat) (s : State) :
    QueueOnly (modCh o c (fun ch => { ch with chg := .none }) s) (changeDone o c n s) := queueOnly_complete _ _ _ _ _ _

theorem keepsSetup_changeDone (o c n : Nat) (s : State) : KeepsSetup o c s (changeDone o c n s) :=
  (KeepsSetup.modCh _ s).trans (KeepsSetup.of_queueOnly (queueOnly_changeDone o c n s))

@[simp] theorem getCh_changeDone (o c n : Nat) (s : State) :
    getCh o c (changeDone o c n s) = { getCh o c s with chg := .none } :=
  ((queueOnly_changeDone o c n s).getCh o c).trans (getCh_modCh_same o c _ s)

/-- A queue operation leaves the registers of the sampling chain. -/
theorem QueueOnly.rd_flt {s t : State} (h : QueueOnly s t) {f : Fld} (hl : f.lsb < 32) (hb : f.block = 0x11) :
    rd f t = rd f s := by
  simp only [Fld.block] at hb
  exact h.2 f hl (isQCount_above_queues (by omega)) (by simp only [Fld.block]; omega)

theorem rd_changeDone (o c n : Nat) (s : State) {f : Fld} (hl : f.lsb < 32) (hb : f.block = 0x11) :
    rd f (changeDone o c n s) = rd f s :=
  ((queueOnly_changeDone o c n s).rd_flt hl hb).trans (rd_modCh f o c _ s)

theorem keepsSetup_shadowToMain (o c : Nat) (s : State) : KeepsSetup o c s (shadowToMain o c s) :=
  .ite (keepsSetup_setSlots _ _ _ _ _ _ s) (keepsSetup_setSlots _ _ _ _ _ _ s)

theorem keepsSetup_shadowToComp (o c : Nat) (s : State) : KeepsSetup o c s (shadowToComp o c s) :=
  KeepsSetup.trans (.ite (keepsSetup_setSlots _ _ _ _ _ _ s) (keepsSetup_setSlots _ _ _ _ _ _ s)) (KeepsSetup.modCh _ _)

theorem keepsSetup_dropChange (o c : Nat) (s : State) : KeepsSetup o c s (dropChange o c s) := by
  unfold dropChange
  dsimp only
  split
  · exact keepsSetup_setSlots _ _ _ _ _ _ s
  · exact keepsSetup_setSlots _ _ _ _ _ _ s
  · exact keepsSetup_setSlots _ _ _ _ _ _ s
  · exact (keepsSetup_modPaths o c _ s).trans (keepsSetup_setXfrem o c 0 _)
  · exact KeepsSetup.refl s

theorem keepsSetup_changeEnds (status o c : Nat) (s : State) : KeepsSetup o c s (changeEnds status o c s) := by
  unfold changeEnds
  refine KeepsSetup.ite (KeepsSetup.refl s) ?_
  exact ((keepsSetup_dropChange o c s).trans (KeepsSetup.modCh _ _)).trans
    (KeepsSetup.of_queueOnly (queueOnly_complete _ _ _ _ _ _))

/-- The delay line of a slot is emptied. -/
def emptyLine (isA : Bool) (ch : Chan) : Chan :=
  if isA then { ch with slotA := { ch.slotA with line := [] } } else { ch with slotB := { ch.slotB with line := [] } }

theorem fillShadow_eq (o c r : Nat) (s : State) :
    fillShadow o c r s =
      let ro := rolesOf o c s
      let t := modPaths o c (emptyLine (ro.roleA != 1)) s
      if ro.roleA != 1 then setSlots o c 2 r ro.roleB ro.respB t else setSlots o c ro.roleA ro.respA 2 r t := rfl

theorem keepsSetup_fillShadow (o c r : Nat) (s : State) : KeepsSetup o c s (fillShadow o c r s) := by
  rw [fillShadow_eq]
  exact .ite ((keepsSetup_modPaths o c _ s).trans (keepsSetup_setSlots _ _ _ _ _ _ _))
    ((keepsSetup_modPaths o c _ s).trans (keepsSetup_setSlots _ _ _ _ _ _ _))

end Sys2Proof.Machine
end

section
/-!
O32 and O28: narrowing by residue carry, and how a sampling request comes to wait on its channel (R125, R139 to R142,
R153 to R157).
-/
namespace Sys2Proof.Machine
open Sys2Proof.Claims

/-! ### Narrowing (R125) -/

theorem narrow_of_low {acc : Int} {res : Nat} (h : acc + res < -(2 ^ 54)) : narrow acc res = (-(2 ^ 31), 0, true) := by
  have hy : (acc + res) / 2 ^ 23 < -(2 ^ 31) := by omega
  simp only [narrow, if_pos hy]

theorem narrow_of_high {acc : Int} {res : Nat} (h : 2 ^ 54 ≤ acc + res) : narrow acc res = (2 ^ 31 - 1, 0, true) := by
  have hlow : ¬ (acc + res) / 2 ^ 23 < -(2 ^ 31) := by omega
  have hy : 2 ^ 31 - 1 < (acc + res) / 2 ^ 23 := by omega
  simp only [narrow, if_neg hlow, if_pos hy]

theorem narrow_within {acc : Int} {res : Nat} (hlow : -(2 ^ 54) ≤ acc + res) (hhigh : acc + res < 2 ^ 54) :
    narrow acc res = ((acc + res) / 2 ^ 23, ((acc + res) % 2 ^ 23).toNat, false) := by
  have hlow' : ¬ (acc + res) / 2 ^ 23 < -(2 ^ 31) := by omega
  have hhigh' : ¬ 2 ^ 31 - 1 < (acc + res) / 2 ^ 23 := by omega
  simp only [narrow, if_neg hlow', if_neg hhigh']

/-- Settles O32: below, above and within the range `narrow` is written out; within it, quotient and remainder by 2^23
make up the sum again. -/
theorem narrowingCarriesTheResidue : Obligations.NarrowingCarriesTheResidue := by
  unfold Obligations.NarrowingCarriesTheResidue
  intro acc res _
  by_cases hlow : acc + res < -(2 ^ 54)
  · rw [narrow_of_low hlow]
    exact ⟨by decide, by decide, by decide, rfl, .inl ⟨hlow, rfl⟩⟩
  by_cases hhigh : 2 ^ 54 ≤ acc + res
  · rw [narrow_of_high hhigh]
    exact ⟨by decide, by decide, by decide, rfl, .inr ⟨hhigh, rfl⟩⟩
  rw [narrow_within (by omega) (by omega)]
  simp only [Bool.false_eq_true, if_false]
  omega

/-! ### A request reaches the owner of its channel (R153) -/

theorem queueOnly_forwarded (n : Fin 8) (t f o : Nat) (w0 w1 : W24) (cs : List Cont) (s : State) :
    QueueOnly s (forwarded n t f o w0 w1 cs s) :=
  (((queueOnly_arrive _ _ s).trans (queueOnly_owe _ _ _ _ _)).trans (queueOnly_oweVia _ _ _ _)).trans (queueOnly_passQ _ _ _)

theorem getQ_arrive_ne {k : Qid} {q : Nat} (h : k ≠ qn q) (ms : List Msg) (s : State) : getQ k (arrive q ms s) = getQ k s := by
  unfold arrive
  split
  · exact getQ_takeN_ne h _ s
  · exact getQ_passQ_ne h ms s

/-- Nothing stands at the head of a queue in which nothing waits. -/
theorem atHead_clear {q : Nat} {s : State} (h : clearQ q s = true) (m : Msg) (ms : List Msg) : atHead q (m :: ms) s = false := by
  simp only [clearQ, Bool.and_eq_true, List.isEmpty_iff] at h
  simp [atHead, h.1.1]

/-- A request that TE0 takes and its owner takes from TE0. -/
theorem viaReq_served {f : Nat} {n : Fin 8} {s : State} (h : Served n s) (hf : Open f s) (hne : qn f ≠ qn n) (o t : Nat)
    (w0 w1 : W24) (cs : List Cont) (k : State → State) :
    viaReq f o n t w0 w1 cs true k s = k (forwarded n t f o w0 w1 cs s) := by
  obtain ⟨hen, hclear, hup, hact, hrec, hbill⟩ := h
  obtain ⟨fen, fclear⟩ := hf
  have hfq : getQ (qn f) (received n t w0 w1 cs s) = getQ (qn f) s := getQ_arrive_ne hne _ s
  have unheaded : waitsAt f n t w0 (reqMsgs t w0 w1 cs) s = false := by
    rw [waitsAt, reqMsgs, atHead_clear fclear, Bool.false_and]
  unfold viaReq
  simp only [unheaded, Bool.false_eq_true, if_false]
  rw [hostReq_served _ hen (by rw [canTake, hclear, Bool.or_true]) hup hact (.inl hrec) hbill rfl]
  exact forwardReq_served k (by rw [← hfq] at fen; exact fen)
    (by rw [clearQ, ← hfq] at fclear; exact fclear) rfl

/-- A pair that serves requests is not STOPPED (R188). -/
theorem pairStopped_of_serves {lo : Nat} {s : State} (h : pairServes lo s = true) : pairStopped lo s = false := by
  simp only [pairServes, Bool.and_eq_true, pairUp, Bool.or_eq_true, beq_iff_eq] at h
  rcases h.1 with h | h <;> simp [pairStopped, stopped, h]

theorem ownerQ_ne_hostQ (lo : Nat) (n : Fin 8) : qn (ownerQ lo) ≠ qn n := by
  have hlo : 8 ≤ ownerQ lo ∧ ownerQ lo < 128 := by unfold ownerQ; split <;> [skip; split] <;> omega
  exact qn_ne hlo.2 (by omega) (by omega)

theorem ownerReq_owned {n : Fin 8} {w0 : W24} {s : State} (h : Owned n w0 s) (t : Nat) (w1 : W24) (cs : List Cont)
    (k : State → State) :
    ownerReq n t w0 w1 cs k s =
      k (forwarded n t (ownerQ (chanOwner (reqOutlet w0) (reqChan w0))) (reqOutlet w0) w0 w1 cs s) := by
  obtain ⟨hserved, hlisted, hserves, hopen⟩ := h
  have hnamed : chanNamed w0 = true := by
    rw [chanListed, Bool.and_eq_true] at hlisted
    exact hlisted.2
  unfold ownerReq
  simp only [hnamed, pairStopped_of_serves hserves, hserves, Bool.not_true, Bool.false_eq_true, if_false]
  exact viaReq_served hserved hopen (ownerQ_ne_hostQ _ n) _ t w0 w1 cs k

/-! ### What a queue operation leaves of the conditions of a request -/

theorem reqOutlet_lt (w : W24) : reqOutlet w < 16 := Nat.mod_lt _ (by decide)
theorem reqChan_lt (w : W24) : reqChan w < 16 := Nat.mod_lt _ (by decide)

section
variable {s u : State} (h : QueueOnly s u)
include h

theorem QueueOnly.rd_above_queues {f : Fld} (hl : f.lsb < 32) (ha : 0x10003000 ≤ f.addr) (hb : f.block ≠ 0x1B) :
    rd f u = rd f s := h.2 f hl (isQCount_above_queues ha) hb

/-- A field of a channel's page of the register table. -/
theorem QueueOnly.rd_page {o c base lsb wid rst : Nat} {acc : Acc} (ho : o < 16) (hc : c < 16)
    (hb : (base / 0x100 == 0x110000 && decide (lsb < 32)) = true) :
    rd ⟨base + o * 0x1000 + c * 0x100, lsb, wid, rst, acc⟩ u = rd ⟨base + o * 0x1000 + c * 0x100, lsb, wid, rst, acc⟩ s := by
  simp only [Bool.and_eq_true, beq_iff_eq, decide_eq_true_eq] at hb
  refine h.rd_flt hb.2 ?_
  simp only [Fld.block]
  omega

theorem QueueOnly.locked : locked u = locked s := by
  have hst : rd R.LIFE_LSTATE_STATE u = rd R.LIFE_LSTATE_STATE s := h.rd_above_queues (by decide) (by decide) (by decide)
  simp only [Machine.locked, isSealed, isScrapped, lifeState, hst]

theorem QueueOnly.limitMode : limitMode u = limitMode s := by
  have hm : rd R.PWR_CORE_MODE u = rd R.PWR_CORE_MODE s := h.rd_above_queues (by decide) (by decide) (by decide)
  have ht : rd R.PWR_CORE_TARGET u = rd R.PWR_CORE_TARGET s := h.rd_above_queues (by decide) (by decide) (by decide)
  simp only [Machine.limitMode, hm, ht]

theorem QueueOnly.pdOn (d : Nat) : pdOn d u = pdOn d s := by
  have hp : rd R.PWR_PDSTAT_ON u = rd R.PWR_PDSTAT_ON s := h.rd_above_queues (by decide) (by decide) (by decide)
  simp only [Machine.pdOn, hp]

theorem QueueOnly.metType {o : Nat} (ho : o < 16) : metType o u = metType o s :=
  h.rd_above_queues (Nat.le_of_ble_eq_true rfl) (by simp only [Fld.eff, R.MET_OCFG_TYPE]; omega)
    (by simp only [Fld.block, Fld.eff, R.MET_OCFG_TYPE]; omega)

theorem QueueOnly.pairStopped (o : Nat) : pairStopped (pairOf o) u = pairStopped (pairOf o) s := by
  have he : ∀ e : Eid, engState e u = engState e s := h.log.engState
  unfold pairOf
  split
  · exact congrArg₂ (fun a b => a == 5 && b == 5) (he 9) (he 10)
  · exact congrArg₂ (fun a b => a == 5 && b == 5) (he 11) (he 12)

theorem QueueOnly.outOfService {o : Nat} (ho : o < 16) : outOfService o u = outOfService o s := by
  have hst : ostate o u = ostate o s :=
    h.rd_above_queues (Nat.le_of_ble_eq_true rfl) (by simp only [R.OUT_STATE_OSTATE]; omega)
      (by simp only [Fld.block, R.OUT_STATE_OSTATE]; omega)
  simp only [Machine.outOfService, h.pairStopped o, hst, h.metType ho, h.pdOn]

theorem QueueOnly.chanMetered {o : Nat} (ho : o < 16) (c : Nat) : chanMetered o c u = chanMetered o c s := by
  simp only [Machine.chanMetered, h.outOfService ho, h.metType ho]

theorem QueueOnly.fastBooked : fastBooked u = fastBooked s := by
  refine List.countP_congr fun oc hoc => ?_
  have hlt : oc.1 < 16 ∧ oc.2 < 16 := by
    revert oc
    decide
  have hen : rd (R.FLT_CHCFG_EN oc.1 oc.2) u = _ := h.rd_page hlt.1 hlt.2 rfl
  have hpreset : rd (R.FLT_CHCFG_PRESET oc.1 oc.2) u = _ := h.rd_page hlt.1 hlt.2 rfl
  simp only [atFast, toFast, flag, hen, hpreset, h.getCh]
  rfl

/-- What a sampling request asks, and whether it is accepted, does not depend on the queues. -/
theorem QueueOnly.asked {i : Instr} {x : Fin 8 × Nat × W24 × Bool × Change} (hx : asked s i = some x) :
    asked u i = some x := by
  have hen : ∀ w, rd (R.FLT_CHCFG_EN (reqOutlet w) (reqChan w)) u = rd (R.FLT_CHCFG_EN (reqOutlet w) (reqChan w)) s :=
    fun w => h.rd_page (reqOutlet_lt w) (reqChan_lt w) rfl
  have hresp : ∀ w, rd (R.FLT_CHCFG_RESP (reqOutlet w) (reqChan w)) u = rd (R.FLT_CHCFG_RESP (reqOutlet w) (reqChan w)) s :=
    fun w => h.rd_page (reqOutlet_lt w) (reqChan_lt w) rfl
  have hrate : ∀ w, rd (R.FLT_CHCFG_RATE (reqOutlet w) (reqChan w)) u = rd (R.FLT_CHCFG_RATE (reqOutlet w) (reqChan w)) s :=
    fun w => h.rd_page (reqOutlet_lt w) (reqChan_lt w) rfl
  have hcomp : ∀ w, rd (R.FLT_CHCFG_COMP (reqOutlet w) (reqChan w)) u = rd (R.FLT_CHCFG_COMP (reqOutlet w) (reqChan w)) s :=
    fun w => h.rd_page (reqOutlet_lt w) (reqChan_lt w) rfl
  have hpreset : ∀ w, rd (R.FLT_CHCFG_PRESET (reqOutlet w) (reqChan w)) u = rd (R.FLT_CHCFG_PRESET (reqOutlet w) (reqChan w)) s :=
    fun w => h.rd_page (reqOutlet_lt w) (reqChan_lt w) rfl
  have hpermit : ∀ w, rd (R.FLT_PERMIT_MASK (reqOutlet w) (reqChan w)) u = rd (R.FLT_PERMIT_MASK (reqOutlet w) (reqChan w)) s :=
    fun w => h.rd_page (reqOutlet_lt w) (reqChan_lt w) rfl
  have hmet : ∀ w c, Machine.chanMetered (reqOutlet w) c u = Machine.chanMetered (reqOutlet w) c s :=
    fun w => h.chanMetered (reqOutlet_lt w)
  have hout : ∀ w, Machine.outOfService (reqOutlet w) u = Machine.outOfService (reqOutlet w) s :=
    fun w => h.outOfService (reqOutlet_lt w)
  rw [← hx]
  unfold Claims.asked at hx
  split at hx
  case h_8 => exact absurd hx (Option.some_ne_none x).symm
  all_goals
    simp only [Claims.asked, flag, hen, hresp, hrate, hcomp, hpreset, hpermit, hmet, hout, h.locked, h.limitMode,
      h.fastBooked] <;>
    congr

end

/-! ### A change comes to wait (R155) -/

/-- The channel is set for `chg` to wait: no CHCFG has changed, and the outputs of a cross-fade are counted. -/
def SetFor (o c : Nat) (chg : Change) (u v : State) : Prop :=
  KeepsSetup o c u v ∧ ∀ r k, chg = .xfade r k → rd (R.FLT_CHSTAT_XFREM o c) v = 64 * 2 ^ k

theorem KeepsSetup.setFor {o c : Nat} {u v : State} (h : KeepsSetup o c u v) {chg : Change} (hx : ∀ r k, chg ≠ .xfade r k) :
    SetFor o c chg u v := ⟨h, fun r k hk => absurd hk (hx r k)⟩

/-- The request waits on its channel, and nothing but the channel has changed. -/
def Pends (n typ : Nat) (w0 : W24) (chg : Change) (s t : State) : Prop :=
  Waits (reqOutlet w0) (reqChan w0) n typ w0 chg t ∧ OnlyChan (reqOutlet w0) (reqChan w0) s t ∧
  (flag (R.FLT_CHCFG_EN (reqOutlet w0) (reqChan w0)) s = true → chcfg (reqOutlet w0) (reqChan w0) t =
    chcfg (reqOutlet w0) (reqChan w0) s) ∧
  (∀ r v, chg = .xfade r v → rd (R.FLT_CHSTAT_XFREM (reqOutlet w0) (reqChan w0)) t = 64 * 2 ^ v)

theorem KeepsSetup.chcfg {i j o c : Nat} {s t : State} (h : KeepsSetup i j s t) (ho : o < 16) (hc : c < 16) :
    chcfg o c t = chcfg o c s := by
  have keep : ∀ {lsb wid rst : Nat} {acc : Acc}, lsb < 32 →
      rd ⟨0x11000000 + o * 0x1000 + c * 0x100, lsb, wid, rst, acc⟩ t =
        rd ⟨0x11000000 + o * 0x1000 + c * 0x100, lsb, wid, rst, acc⟩ s := fun hl =>
    h.2 _ hl (by simp only [Fld.block]; omega) (by dsimp only; omega)
  unfold Claims.chcfg
  have hen : rd (R.FLT_CHCFG_EN o c) t = rd (R.FLT_CHCFG_EN o c) s := keep (by decide)
  have hresp : rd (R.FLT_CHCFG_RESP o c) t = rd (R.FLT_CHCFG_RESP o c) s := keep (by decide)
  have hrate : rd (R.FLT_CHCFG_RATE o c) t = rd (R.FLT_CHCFG_RATE o c) s := keep (by decide)
  have hcomp : rd (R.FLT_CHCFG_COMP o c) t = rd (R.FLT_CHCFG_COMP o c) s := keep (by decide)
  have hpreset : rd (R.FLT_CHCFG_PRESET o c) t = rd (R.FLT_CHCFG_PRESET o c) s := keep (by decide)
  have hspl : rd (R.FLT_CHCFG_SPLMODE o c) t = rd (R.FLT_CHCFG_SPLMODE o c) s := keep (by decide)
  rw [hen, hresp, hrate, hcomp, hpreset, hspl]

theorem pends_pendChange {n : Fin 8} {t : Nat} {w0 : W24} {chg : Change} {s u v : State} (hu : QueueOnly s u)
    (hv : SetFor (reqOutlet w0) (reqChan w0) chg u v) :
    Pends n t w0 chg s (pendChange n t w0 chg (reqOutlet w0) (reqChan w0) v) := by
  have hkeep : KeepsSetup (reqOutlet w0) (reqChan w0) s (pendChange n t w0 chg (reqOutlet w0) (reqChan w0) v) :=
    ((KeepsSetup.of_queueOnly hu).trans hv.1).trans (KeepsSetup.modCh _ v)
  have hch := getCh_modCh_same (reqOutlet w0) (reqChan w0) (fun ch => { ch with chg := chg, chgN := n, chgT := t, chgW := w0.toNat }) v
  refine ⟨?_, hkeep.1, fun _ => hkeep.chcfg (reqOutlet_lt w0) (reqChan_lt w0), hv.2⟩
  unfold Waits pendChange
  rw [hch]
  exact ⟨rfl, rfl, rfl, rfl⟩

/-- R156: a request that meets no refusal has its effect on its channel. -/
theorem chanReq_pends {n : Fin 8} {t : Nat} {w0 w1 : W24} {cs : List Cont} {denied sealed budget : Nat → Nat → State → Bool}
    {fltCounts : Bool} {accept : Nat → Nat → State → State} {chg : Change} {s : State} (hown : Owned n w0 s)
    (hflt : fltCounts = true → flag (R.FLT_CHSTAT_FLT (reqOutlet w0) (reqChan w0)) s = false)
    (hok : ∀ u, QueueOnly s u → denied (reqOutlet w0) (reqChan w0) u = false ∧
      (locked u && sealed (reqOutlet w0) (reqChan w0) u) = false ∧ budget (reqOutlet w0) (reqChan w0) u = false ∧
      ∃ v, accept (reqOutlet w0) (reqChan w0) u = pendChange n t w0 chg (reqOutlet w0) (reqChan w0) v ∧
        SetFor (reqOutlet w0) (reqChan w0) chg u v) :
    Pends n t w0 chg s (chanReq n t w0 w1 cs denied sealed budget fltCounts accept s) := by
  have hu := queueOnly_forwarded n t (ownerQ (chanOwner (reqOutlet w0) (reqChan w0))) (reqOutlet w0) w0 w1 cs s
  obtain ⟨hdenied, hsealed, hbudget, v, haccept, hset⟩ := hok _ hu
  have hflt' : (fltCounts && flag (R.FLT_CHSTAT_FLT (reqOutlet w0) (reqChan w0)) (forwarded n t (ownerQ (chanOwner
      (reqOutlet w0) (reqChan w0))) (reqOutlet w0) w0 w1 cs s)) = false := by
    cases fltCounts with
    | false => rfl
    | true =>
      have hrd : rd (R.FLT_CHSTAT_FLT (reqOutlet w0) (reqChan w0)) _ = rd (R.FLT_CHSTAT_FLT (reqOutlet w0) (reqChan w0)) s :=
        hu.rd_page (reqOutlet_lt w0) (reqChan_lt w0) rfl
      rw [Bool.true_and, flag, hrd]
      exact hflt rfl
  have heq : chanReq n t w0 w1 cs denied sealed budget fltCounts accept s =
      pendChange n t w0 chg (reqOutlet w0) (reqChan w0) v := by
    unfold chanReq
    dsimp only
    rw [ownerReq_owned hown]
    simp only [hflt', hown.2.1, hdenied, hsealed, hbudget, refusal, Bool.not_true, Bool.or_self, Bool.false_eq_true, if_false,
      if_true, haccept]
  rw [heq]
  exact pends_pendChange hu hset

/-- R156: no change waits on the channel and no test runs. -/
theorem chanBusy_of_free {o c : Nat} {s u : State} (hu : QueueOnly s u) (hchg : (getCh o c s).chg = .none)
    (htest : (getCh o c s).testOn = false) : chanBusy o c u = false := by
  rw [chanBusy, hu.getCh, hchg, htest]
  rfl

/-- R127: the responses of a channel as a list. -/
theorem respAccepted_eq (o c r : Nat) :
    respAccepted o c r =
      (if o = 8 ∨ c < 4 then [0, 1, 2, 5, 6, 14, 15] else if c < 8 then [0, 1, 2, 3, 4, 5, 6, 14, 15] else []).contains r := by
  unfold respAccepted
  split
  · rfl
  · split
    · rw [Bool.eq_iff_iff]
      simp only [Bool.or_eq_true, decide_eq_true_eq, beq_iff_eq, List.contains_cons, List.contains_nil, Bool.false_eq_true, or_false]
      omega
    · rfl

section
variable {n : Fin 8} {w0 w1 : W24} {chg : Change} {s : State} (hown : Owned n w0 s)
include hown

theorem setEnable_pends (hask : asked s (.setEnable n w0 w1) = some (n, 0x14, w0, true, chg))
    (hchg : chg = .disable ∨ (getCh (reqOutlet w0) (reqChan w0) s).chg = .none)
    (htest : (getCh (reqOutlet w0) (reqChan w0) s).testOn = false) :
    Yields (.setEnable n w0 w1) s (Pends n 0x14 w0 chg s) := by
  refine ⟨_, rfl, chanReq_pends hown (fun hf => absurd hf Bool.false_ne_true) fun u hu => ?_⟩
  have hasku := hu.asked hask
  simp only [asked, Option.some.injEq, Prod.mk.injEq, true_and] at hasku
  obtain ⟨hacc, hchgu⟩ := hasku
  simp only [Bool.and_eq_true, Bool.not_eq_true', beq_iff_eq] at hacc
  obtain ⟨⟨⟨hbits, hlow⟩, hmet⟩, hfast⟩ := hacc
  have htestu : (getCh (reqOutlet w0) (reqChan w0) u).testOn = false := by rw [hu.getCh, htest]
  cases hon : fld w1 0 0 == 1 with
  | false =>
    rw [hon] at hmet hchgu
    subst hchgu
    refine ⟨?_, Bool.and_false _, htestu, changeWithdrawn (reqOutlet w0) (reqChan w0) u, rfl,
      (keepsSetup_changeEnds _ _ _ u).setFor (by simp)⟩
    rw [Bool.false_or, Bool.not_eq_true'] at hmet
    simp only [hbits, hlow, hmet, bne_self_eq_false, Bool.and_false, Bool.or_self]
  | true =>
    rw [hon, Bool.true_and] at hfast
    have hfree : (getCh (reqOutlet w0) (reqChan w0) s).chg = .none := by
      refine hchg.resolve_left fun hd => ?_
      rw [hon, hd] at hchgu
      revert hchgu
      cases flag (R.FLT_CHCFG_EN (reqOutlet w0) (reqChan w0)) u <;> simp
    rw [hon] at hchgu
    refine ⟨by simp only [hbits, hlow, bne_self_eq_false, Bool.not_true, Bool.false_and, Bool.or_self], Bool.and_false _,
      ?_, ?_⟩
    · simp only [if_true, chanBusy_of_free hu hfree htest, isPriv, hfast, Bool.or_self]
    · cases hen : flag (R.FLT_CHCFG_EN (reqOutlet w0) (reqChan w0)) u <;> rw [hen] at hchgu <;> subst hchgu <;>
        exact ⟨u, rfl, (KeepsSetup.refl u).setFor (by simp)⟩

section
variable (hflt : flag (R.FLT_CHSTAT_FLT (reqOutlet w0) (reqChan w0)) s = false)
  (hchg : (getCh (reqOutlet w0) (reqChan w0) s).chg = .none) (htest : (getCh (reqOutlet w0) (reqChan w0) s).testOn = false)
include hflt hchg htest

theorem setResponse_pends (hask : asked s (.setResponse n w0 w1) = some (n, 0x10, w0, true, chg)) :
    Yields (.setResponse n w0 w1) s (Pends n 0x10 w0 chg s) := by
  refine ⟨_, rfl, chanReq_pends hown (fun _ => hflt) fun u hu => ?_⟩
  have hasku := hu.asked hask
  simp only [asked, Option.some.injEq, Prod.mk.injEq, true_and] at hasku
  obtain ⟨hacc, hchgu⟩ := hasku
  simp only [Bool.and_eq_true, Bool.not_eq_true', decide_eq_true_eq, beq_iff_eq] at hacc
  obtain ⟨⟨⟨⟨⟨hbits, hv⟩, hlisted⟩, hcomp⟩, hrate⟩, hlock⟩ := hacc
  rw [← respAccepted_eq] at hlisted
  refine ⟨?_, ?_, chanBusy_of_free hu hchg htest, ?_⟩
  · simp only [hbits, decide_eq_false (Nat.not_lt.2 hv), hlisted, hrate, hcomp, bne_self_eq_false, Bool.not_true, Bool.or_self]
  · rw [Bool.or_eq_true, Bool.not_eq_true'] at hlock
    rcases hlock with h | h <;> simp only [h, Bool.false_and, Bool.not_true, Bool.and_false]
  · cases hen : flag (R.FLT_CHCFG_EN (reqOutlet w0) (reqChan w0)) u with
    | false =>
      rw [hen] at hchgu
      subst hchgu
      exact ⟨u, rfl, (KeepsSetup.refl u).setFor (by simp)⟩
    | true =>
      rw [hen, Bool.true_and] at hchgu
      cases hx : (fld w1 4 4 == 1 || flag (R.FLT_CHCFG_COMP (reqOutlet w0) (reqChan w0)) u) <;> rw [hx] at hchgu <;> subst hchgu
      case false =>
        refine ⟨_, rfl, (keepsSetup_fillShadow _ _ _ u).setFor (by simp)⟩
      case true =>
        refine ⟨_, rfl, (keepsSetup_modPaths _ _ _ u).trans (keepsSetup_setXfrem _ _ _ _), ?_⟩
        intro r k hrk
        obtain ⟨rfl, rfl⟩ : _ ∧ _ := by simpa using hrk
        rw [rd_setXfrem]
        have small : 64 * 2 ^ fld w1 7 5 ≤ 64 * 2 ^ 4 := Nat.mul_le_mul_left 64 (Nat.pow_le_pow_right (by decide) hv)
        exact Nat.mod_eq_of_lt (lt_of_le_of_lt small (by decide))

theorem setRate_pends (hask : asked s (.setRate n w0 w1) = some (n, 0x11, w0, true, chg)) :
    Yields (.setRate n w0 w1) s (Pends n 0x11 w0 chg s) := by
  refine ⟨_, rfl, chanReq_pends hown (fun _ => hflt) fun u hu => ?_⟩
  have hasku := hu.asked hask
  simp only [asked, Option.some.injEq, Prod.mk.injEq, true_and] at hasku
  obtain ⟨hacc, rfl⟩ := hasku
  simp only [Bool.and_eq_true, Bool.not_eq_true', decide_eq_true_eq, beq_iff_eq] at hacc
  obtain ⟨⟨⟨⟨hbits, hk⟩, hplace⟩, hmet⟩, hcomp⟩ := hacc
  refine ⟨?_, Bool.and_false _, chanBusy_of_free hu hchg htest, ?_⟩
  · have h7 : (fld w1 2 0 == 7) = false := beq_false_of_ne (by omega)
    have h0 : (fld w1 2 0 != 0 && flag (R.FLT_CHCFG_COMP (reqOutlet w0) (reqChan w0)) u) = false := by
      simpa using hcomp
    simp only [hbits, h7, hplace, hmet, h0, bne_self_eq_false, Bool.not_true, Bool.or_self]
  · cases hen : flag (R.FLT_CHCFG_EN (reqOutlet w0) (reqChan w0)) u with
    | false => exact ⟨u, rfl, (KeepsSetup.refl u).setFor (by simp)⟩
    | true => exact ⟨_, rfl, (keepsSetup_modPaths _ _ _ u).setFor (by simp)⟩

theorem setCompanion_pends (hask : asked s (.setCompanion n w0 w1) = some (n, 0x12, w0, true, chg)) :
    Yields (.setCompanion n w0 w1) s (Pends n 0x12 w0 chg s) := by
  refine ⟨_, rfl, chanReq_pends hown (fun _ => hflt) fun u hu => ?_⟩
  have hasku := hu.asked hask
  simp only [asked, Option.some.injEq, Prod.mk.injEq, true_and] at hasku
  obtain ⟨hacc, hchgu⟩ := hasku
  simp only [Bool.and_eq_true, Bool.not_eq_true', beq_iff_eq] at hacc
  obtain ⟨⟨hbits, hplace⟩, hon⟩ := hacc
  have hx : ∀ r k, chg ≠ .xfade r k := by
    intro r k
    rw [← hchgu]
    split <;> [skip; split] <;> exact Change.noConfusion
  refine ⟨by simp only [hbits, hplace, hon, bne_self_eq_false, Bool.not_true, Bool.or_self], Bool.and_false _,
    chanBusy_of_free hu hchg htest, ?_⟩
  have idle : KeepsSetup (reqOutlet w0) (reqChan w0) u u := KeepsSetup.refl u
  cases hen : flag (R.FLT_CHCFG_EN (reqOutlet w0) (reqChan w0)) u with
  | false =>
    rw [hen] at hchgu
    subst hchgu
    exact ⟨u, rfl, idle.setFor hx⟩
  | true =>
    rw [hen, Bool.true_and] at hchgu
    cases hsame : (fld w1 0 0 == 1) == flag (R.FLT_CHCFG_COMP (reqOutlet w0) (reqChan w0)) u <;> rw [hsame] at hchgu
    case true =>
      subst hchgu
      exact ⟨u, rfl, idle.setFor hx⟩
    case false =>
      cases hone : fld w1 0 0 == 1 <;> rw [hone] at hchgu <;> subst hchgu
      case false => exact ⟨u, rfl, idle.setFor hx⟩
      case true => exact ⟨_, rfl, (keepsSetup_fillShadow _ _ _ u).setFor hx⟩

theorem setDetect_pends {cw0 cw1 : W24} (hask : asked s (.setDetect n w0 w1 cw0 cw1) = some (n, 0x13, w0, true, chg)) :
    Yields (.setDetect n w0 w1 cw0 cw1) s (Pends n 0x13 w0 chg s) := by
  refine ⟨_, rfl, chanReq_pends hown (fun _ => hflt) fun u hu => ?_⟩
  have hasku := hu.asked hask
  simp only [asked, Option.some.injEq, Prod.mk.injEq, true_and] at hasku
  obtain ⟨hacc, rfl⟩ := hasku
  simp only [Bool.and_eq_true, Bool.or_eq_true, decide_eq_true_eq] at hacc
  obtain ⟨⟨hcw, hwin⟩, hzc⟩ := hacc
  refine ⟨?_, Bool.and_false _, chanBusy_of_free hu hchg htest, u, rfl, (KeepsSetup.refl u).setFor (by simp)⟩
  simp only [fld] at hwin hzc
  have hcfg : detcfgListed w1.toNat = true := by
    simp only [detcfgListed, Bool.and_eq_true, Bool.or_eq_true, decide_eq_true_eq]
    omega
  simp only [hcw, hcfg, bne_self_eq_false, Bool.not_true, Bool.or_self]

theorem setSplice_pends (hask : asked s (.setSplice n w0 w1) = some (n, 0x15, w0, true, chg)) :
    Yields (.setSplice n w0 w1) s (Pends n 0x15 w0 chg s) := by
  refine ⟨_, rfl, chanReq_pends hown (fun _ => hflt) fun u hu => ?_⟩
  have hasku := hu.asked hask
  simp only [asked, Option.some.injEq, Prod.mk.injEq, true_and] at hasku
  obtain ⟨hacc, rfl⟩ := hasku
  simp only [Bool.and_eq_true, Bool.not_eq_true', beq_iff_eq] at hacc
  obtain ⟨⟨hbits, hplace⟩, hlock⟩ := hacc
  refine ⟨by simp only [hbits, isCurrent, hplace, bne_self_eq_false, Bool.not_true, Bool.or_self], ?_,
    chanBusy_of_free hu hchg htest, u, rfl, (KeepsSetup.refl u).setFor (by simp)⟩
  simpa using hlock

theorem setPreset_pends (hask : asked s (.setPreset n w0 w1) = some (n, 0x18, w0, true, chg)) :
    Yields (.setPreset n w0 w1) s (Pends n 0x18 w0 chg s) := by
  refine ⟨_, rfl, chanReq_pends hown (fun _ => hflt) fun u hu => ?_⟩
  have hasku := hu.asked hask
  simp only [asked, Option.some.injEq, Prod.mk.injEq, true_and] at hasku
  obtain ⟨hacc, hchgu⟩ := hasku
  simp only [Bool.and_eq_true, Bool.not_eq_true', decide_eq_true_eq, beq_iff_eq] at hacc
  obtain ⟨⟨⟨⟨hbits, hp⟩, hplace⟩, hquiet⟩, hfast⟩ := hacc
  refine ⟨?_, Bool.and_false _, ?_, ?_⟩
  · have h3 : (fld w1 1 0 == 3) = false := beq_false_of_ne (by omega)
    have hq : (fld w1 1 0 == 2 && reqChan w0 == 12 && !(outOfService (reqOutlet w0) u)) = false := by
      simpa [Bool.decide_and] using hquiet
    simp only [hbits, h3, isPriv, decide_eq_true hplace, hq, bne_self_eq_false, Bool.not_true, Bool.or_self]
  · have hf : (fld w1 1 0 == 1 && flag (R.FLT_CHCFG_EN (reqOutlet w0) (reqChan w0)) u &&
        rd (R.FLT_CHCFG_PRESET (reqOutlet w0) (reqChan w0)) u != 1 && decide (limFast (limitMode u) ≤ fastBooked u)) = false := hfast
    rw [chanBusy_of_free hu hchg htest, hf, Bool.or_self]
  · cases hen : flag (R.FLT_CHCFG_EN (reqOutlet w0) (reqChan w0)) u <;> rw [hen] at hchgu
    case false =>
      subst hchgu
      exact ⟨u, rfl, (KeepsSetup.refl u).setFor (by simp)⟩
    case true =>
      by_cases hsame : rd (R.FLT_CHCFG_PRESET (reqOutlet w0) (reqChan w0)) u = fld w1 1 0
      · rw [hsame, beq_self_eq_true] at hchgu
        subst hchgu
        exact ⟨u, by simp [hsame], (KeepsSetup.refl u).setFor (by simp)⟩
      · rw [beq_false_of_ne hsame] at hchgu
        subst hchgu
        exact ⟨_, by rw [if_neg hsame]; rfl, ((keepsSetup_fillShadow _ _ (presetResp (fld w1 1 0)) u).trans
          (KeepsSetup.whenS (KeepsSetup.modCh _) _)).setFor (by simp)⟩

end
end

/-- Only SET_ENABLE asks for a disable. -/
theorem asked_ne_disable {i : Instr} {s : State} {n : Fin 8} {typ : Nat} {w0 : W24} {ok : Bool} {chg : Change}
    (hask : asked s i = some (n, typ, w0, ok, chg)) (ht : typ ≠ 0x14) : chg ≠ .disable := by
  unfold asked at hask
  split at hask
  case h_8 => exact absurd hask (Option.some_ne_none _).symm
  all_goals
    simp only [Option.some.injEq, Prod.mk.injEq] at hask
    obtain ⟨-, htyp, -, -, hkind⟩ := hask
  case h_5 => exact absurd htyp.symm ht
  all_goals grind

/-- Settles O28: each of the seven requests meets no refusal (`chanReq_pends`), and its change comes to wait on a channel that
is set for it. -/
theorem samplingRequestsWaitForTheirFrame : Obligations.SamplingRequestsWaitForTheirFrame := by
  unfold Obligations.SamplingRequestsWaitForTheirFrame
  intro i s n typ w0 chg hask hown hflt hchg htest
  show Yields i s (Pends n typ w0 chg s)
  have hasked := hask
  unfold asked at hask
  split at hask
  case h_8 => exact absurd hask (Option.some_ne_none _).symm
  all_goals
    simp only [Option.some.injEq, Prod.mk.injEq] at hask
    obtain ⟨rfl, rfl, rfl, -, hkind⟩ := hask
  case h_5 => exact setEnable_pends hown hasked hchg htest
  all_goals
    have hfree := hchg.resolve_left (asked_ne_disable hasked (by decide))
    have hfault := hflt (by decide)
  case h_1 => exact setResponse_pends hown hfault hfree htest hasked
  case h_2 => exact setRate_pends hown hfault hfree htest hasked
  case h_3 => exact setCompanion_pends hown hfault hfree htest hasked
  case h_4 => exact setDetect_pends hown hfault hfree htest hasked
  case h_6 => exact setSplice_pends hown hfault hfree htest hasked
  case h_7 => exact setPreset_pends hown hfault hfree htest hasked

end Sys2Proof.Machine
end

section
/-!
O29: how a waiting change takes effect (R129, R139, R140, R142, R155). Each command writes the channel's slots and its
CHCFG and ends with `changeDone`, whose completion is entered where no other stands before it.
-/
namespace Sys2Proof.Machine
open Sys2Proof.Claims

/-! ### A completion is entered (R98) -/

theorem getQ_putQ_open {q : Nat} {m : Msg} {s : State} (hen : (getQ (qn q) s).en = true) (hlate : (getQ (qn q) s).late = [])
    (hfull : (getQ (qn q) s).full = false) : getQ (qn q) (putQ q m s) = Queue.enter m (getQ (qn q) s) := by
  have room : ((getQ (qn q) s).late.isEmpty && !(getQ (qn q) s).full) = true := by rw [hlate, hfull]; rfl
  simp only [putQ, hen, room, Bool.not_true, Bool.false_eq_true, if_false, if_true, getQ_enterNow_same]

/-- The one completion that is owed is made and goes out; where TE0 passes it on, it does so from another queue. -/
theorem ent_releaseOwed_one {x : Owed} {m : Msg} {s : State} (hdone : x.done = some [m]) (hup : te0Up s = true)
    (hvia : ∀ v, x.via = some v → qn v ≠ qn x.c) (hen : (getQ (qn x.c) s).en = true)
    (hlate : (getQ (qn x.c) s).late = []) (hfull : (getQ (qn x.c) s).full = false) :
    (getQ (qn x.c) (releaseOwed [] [x] s)).ent = (getQ (qn x.c) s).ent ++ [((getQ (qn x.c) s).tail, m)] := by
  cases hv : x.via with
  | none =>
    have hrun : releaseOwed [] [x] s = { putQ x.c m s with owed := [] } := by
      simp only [releaseOwed, hdone, hv, List.any_nil, Option.isSome_none, Bool.false_and, Bool.or_self, Bool.false_eq_true,
        if_false]
      rfl
    rw [hrun]
    exact congrArg Queue.ent (getQ_putQ_open hen hlate hfull)
  | some v =>
    have hrun : releaseOwed [] [x] s = { putQ x.c m (passQ v [m] s) with owed := [] } := by
      simp only [releaseOwed, hdone, hv, hup, List.any_nil, Option.isSome_some, Bool.not_true, Bool.and_false, Bool.or_self,
        Bool.false_eq_true, if_false]
      rfl
    have hpass : getQ (qn x.c) (passQ v [m] s) = getQ (qn x.c) s := getQ_passQ_ne (hvia v hv).symm _ s
    rw [← hpass] at hen hlate hfull ⊢
    rw [hrun]
    exact congrArg Queue.ent (getQ_putQ_open hen hlate hfull)

theorem markOwed_one {x : Owed} {c t w0 : Nat} {ms : List Msg} (hc : x.c = c) (ht : x.t = t) (hw : x.w0 = w0)
    (hdone : x.done = none) : markOwed false c t w0 ms [x] = [{ x with done := some ms }] := by
  subst hc ht hw
  simp [markOwed, hdone]

/-- R98: with nothing else owed, and room in its queue, a completion is entered. -/
theorem completed_complete {n typ w0 w1 st : Nat} {s u : State} (hqs : u.qs = s.qs) (howed : u.owed = s.owed)
    (hup : te0Up u = te0Up s) : Completed n typ w0 w1 st s (complete (8 + n) typ w0 w1 st u) := by
  intro howes hen hlate hfull
  obtain ⟨hte, hone⟩ := howes
  have hq : getQ (qn (8 + n)) u = getQ (qn (8 + n)) s := by rw [getQ, hqs, getQ]
  rw [← hq] at hen hlate hfull ⊢
  rw [← hup] at hte
  obtain ⟨y, hy, hc, hdone, hvia⟩ : ∃ y, markOwed false (8 + n) typ w0 [mkMsg (typ + 0x80) w0 (w1 / 256 * 256 + st)] u.owed = [y] ∧
      y.c = 8 + n ∧ y.done = some [mkMsg (typ + 0x80) w0 (w1 / 256 * 256 + st)] ∧
      ∀ v, y.via = some v → qn v ≠ qn (8 + n) := by
    rw [howed]
    rcases hone with hnil | ⟨x, hx, hc, ht, hw, hdone, hvia⟩
    · rw [hnil]
      exact ⟨_, rfl, rfl, rfl, by simp⟩
    · rw [hx, markOwed_one hc ht hw hdone]
      exact ⟨_, rfl, hc, rfl, hvia⟩
  have hrun : complete (8 + n) typ w0 w1 st u = releaseOwed [] [y] { u with owed := [y] } := by
    show releaseOwed [] (markOwed false (8 + n) typ w0 [mkMsg (typ + 0x80) w0 (w1 / 256 * 256 + st)] u.owed)
      { u with owed := markOwed false (8 + n) typ w0 [mkMsg (typ + 0x80) w0 (w1 / 256 * 256 + st)] u.owed } = _
    rw [hy]
  rw [hrun]
  rw [← hc] at hvia hen hlate hfull ⊢
  exact ent_releaseOwed_one hdone hte hvia hen hlate hfull

/-! ### What a change writes before its request completes -/

/-- A field of the channel's own CHCFG. -/
def SetupField (o c : Nat) (f : Fld) : Prop := f.addr = (R.FLT_CHCFG_EN o c).addr ∧ f.lsb < 32

theorem setupField_resp (o c : Nat) : SetupField o c (R.FLT_CHCFG_RESP o c) := ⟨rfl, Nat.le_of_ble_eq_true rfl⟩
theorem setupField_rate (o c : Nat) : SetupField o c (R.FLT_CHCFG_RATE o c) := ⟨rfl, Nat.le_of_ble_eq_true rfl⟩
theorem setupField_preset (o c : Nat) : SetupField o c (R.FLT_CHCFG_PRESET o c) := ⟨rfl, Nat.le_of_ble_eq_true rfl⟩

/-- A change has been written within its channel; its request and the queues are as they were. -/
def Writes (o c : Nat) (s u : State) : Prop :=
  OnlyChan o c s u ∧ u.qs = s.qs ∧ u.owed = s.owed ∧ (getCh o c u).chgN = (getCh o c s).chgN ∧
    (getCh o c u).chgT = (getCh o c s).chgT ∧ (getCh o c u).chgW = (getCh o c s).chgW

namespace Writes

variable {o c : Nat}

theorem trans {s t u : State} (h : Writes o c s t) (k : Writes o c t u) : Writes o c s u := by
  obtain ⟨honly, hqs, howed, hn, ht, hw⟩ := h
  obtain ⟨konly, kqs, kowed, kn, kt, kw⟩ := k
  exact ⟨honly.trans konly, kqs.trans hqs, kowed.trans howed, kn.trans hn, kt.trans ht, kw.trans hw⟩

theorem wrSetup {f : Fld} (hf : SetupField o c f) (v : Nat) (s : State) : Writes o c s (wr f v s) :=
  ⟨OnlyChan.wrSetup v s hf.1 hf.2, rfl, rfl, rfl, rfl, rfl⟩

theorem recount (s : State) : Writes o c s (recount s) := ⟨onlyChan_recount o c s, rfl, rfl, rfl, rfl, rfl⟩

theorem setSlots (ra pa rb pb : Nat) (s : State) : Writes o c s (setSlots o c ra pa rb pb s) := by
  refine ⟨(keepsSetup_setSlots o c ra pa rb pb s).1, setSlots_qs _ _ _ _ _ _ s, setSlots_owed _ _ _ _ _ _ s, ?_⟩
  rw [getCh_setSlots]
  exact ⟨rfl, rfl, rfl⟩

theorem shadowToMain (s : State) : Writes o c s (shadowToMain o c s) := by
  unfold Machine.shadowToMain
  dsimp only
  split
  · exact setSlots _ _ _ _ s
  · exact setSlots _ _ _ _ s

theorem modPaths {f : Chan → Chan} (hf : ∀ x, (f x).chgN = x.chgN ∧ (f x).chgT = x.chgT ∧ (f x).chgW = x.chgW) (s : State) :
    Writes o c s (modPaths o c f s) := by
  refine ⟨(keepsSetup_modPaths o c f s).1, modPaths_qs o c f s, modPaths_owed o c f s, ?_⟩
  rw [getCh_modPaths]
  exact hf _

theorem modCh {f : Chan → Chan} (hf : ∀ x, (f x).chgN = x.chgN ∧ (f x).chgT = x.chgT ∧ (f x).chgW = x.chgW) (s : State) :
    Writes o c s (modCh o c f s) := by
  refine ⟨OnlyChan.setCh o c _ s, rfl, rfl, ?_⟩
  rw [getCh_modCh_same]
  exact hf _

/-- TE0 runs or not as before. -/
theorem te0Up {s u : State} (h : Writes o c s u) : te0Up u = te0Up s := by
  obtain ⟨⟨-, -, -, hrd⟩, -⟩ := h
  have hst : rd (R.QM_ENGSTAT_STATE 0) u = rd (R.QM_ENGSTAT_STATE 0) s := by
    refine hrd _ (by decide) (isQCount_below_queues (by decide) (by decide)) (by decide) ?_ (by decide)
    simp only [OfChan, R.QM_ENGSTAT_STATE]
    omega
  simp only [Machine.te0Up, engState, hst]

/-- R155: with the completion of its request the change is in effect. -/
theorem inEffect {s u : State} (h : Writes o c s u) (n : Nat) : InEffect o c n s (changeDone o c n u) := by
  have hup := h.te0Up
  obtain ⟨-, hqs, howed, hn, ht, hw⟩ := h
  refine ⟨by rw [getCh_changeDone], ?_⟩
  rw [← hn, ← ht, ← hw]
  exact completed_complete hqs howed hup

theorem onlyChan_changeDone {s u : State} (h : Writes o c s u) (n : Nat) : OnlyChan o c s (changeDone o c n u) :=
  h.1.trans (keepsSetup_changeDone o c n u).1

end Writes

/-! ### The main slot -/

theorem rd_wr_addr {f g : Fld} (v : Nat) (s : State) (hf : f.lsb < 32) (hg : g.lsb < 32) (h : g.addr ≠ f.addr) :
    rd g (wr f v s) = rd g s :=
  rd_wr_ne v s fun hk => h (by simp only [Fld.key] at hk; omega)

/-- The main slot is read from CHSTAT alone. -/
theorem mainIs_of_stat {o c r : Nat} {s t : State} (h : MainIs o c r s)
    (hrd : ∀ f : Fld, f.addr = 0x11000004 + o * 0x1000 + c * 0x100 → f.lsb < 32 → rd f t = rd f s) : MainIs o c r t := by
  unfold MainIs at h ⊢
  rw [hrd (R.FLT_CHSTAT_SLOTA o c) rfl (Nat.le_of_ble_eq_true rfl), hrd (R.FLT_CHSTAT_RESPA o c) rfl (Nat.le_of_ble_eq_true rfl),
    hrd (R.FLT_CHSTAT_SLOTB o c) rfl (Nat.le_of_ble_eq_true rfl), hrd (R.FLT_CHSTAT_RESPB o c) rfl (Nat.le_of_ble_eq_true rfl)]
  exact h

theorem mainIs_wrSetup {o c r : Nat} {s : State} (h : MainIs o c r s) {f : Fld} (hf : SetupField o c f) (v : Nat) :
    MainIs o c r (wr f v s) :=
  mainIs_of_stat h fun g hg gl => rd_wr_addr v s hf.2 gl (by simp only [hf.1, hg, R.FLT_CHCFG_EN]; omega)

theorem mainIs_modPaths {o c r : Nat} {s : State} (h : MainIs o c r s) (f : Chan → Chan) : MainIs o c r (modPaths o c f s) :=
  mainIs_of_stat h fun g _ _ => rd_modPaths g o c f s

theorem mainIs_changeDone {o c r : Nat} {s : State} (ho : o < 16) (hc : c < 16) (h : MainIs o c r s) (n : Nat) :
    MainIs o c r (changeDone o c n s) :=
  mainIs_of_stat h fun f hf hl => rd_changeDone o c n s hl (by simp only [Fld.block, hf]; omega)

theorem mainIs_setSlots {o c r : Nat} {ra pa rb pb : Nat} (s : State) (hr : r < 16)
    (h : (ra = 1 ∧ pa = r) ∨ (rb = 1 ∧ pb = r)) : MainIs o c r (setSlots o c ra pa rb pb s) := by
  obtain ⟨hra, hpa, hrb, hpb⟩ := rd_setSlots o c ra pa rb pb s
  unfold MainIs
  rw [hra, hpa, hrb, hpb]
  omega

/-- R139: the shadow with response `r` becomes main. -/
theorem mainIs_shadowToMain {o c r : Nat} {s : State} (hg : govern o c = c) (hr : r < 16) (h : ShadowIs o c r 1 s) :
    MainIs o c r (shadowToMain o c s) := by
  unfold shadowToMain
  simp only [rolesOf, hg]
  rcases h with ⟨ha, hpa, -⟩ | ⟨-, hpb, ha⟩
  · rw [if_pos ha]
    exact mainIs_setSlots s hr (.inl ⟨rfl, hpa⟩)
  · rw [if_neg (by omega)]
    exact mainIs_setSlots s hr (.inr ⟨rfl, hpb⟩)

/-- A field of the channel's own CHCFG that was written last reads what was written. -/
theorem rd_changeDone_wr {o c : Nat} {f : Fld} {v : Nat} (hf : SetupField o c f) (ho : o < 16) (hc : c < 16)
    (hv : v < 2 ^ f.wid) (n : Nat) (s : State) : rd f (changeDone o c n (wr f v s)) = v := by
  rw [rd_changeDone o c n _ hf.2 (by simp only [Fld.block, hf.1, R.FLT_CHCFG_EN]; omega), rd_wr_same, Nat.mod_eq_of_lt hv]

/-! ### The switch to a new response (R139) -/

/-- The shadow has become main and its first output carries SW. -/
def switchedMain (o c : Nat) (s : State) : State := modPaths o c (fun ch => { ch with sw := true }) (shadowToMain o c s)

theorem writes_switchedMain (o c : Nat) (s : State) : Writes o c s (switchedMain o c s) := by
  refine (Writes.shadowToMain s).trans (Writes.modPaths ?_ _)
  exact fun _ => ⟨rfl, rfl, rfl⟩

theorem sw_switchedMain (o c : Nat) (s : State) : (getCh o c (switchedMain o c s)).sw = true := by
  rw [switchedMain, getCh_modPaths]

theorem rate_switchedMain {o c : Nat} (ho : o < 16) (hc : c < 16) (s : State) :
    rd (R.FLT_CHCFG_RATE o c) (switchedMain o c s) = rd (R.FLT_CHCFG_RATE o c) s := by
  refine ((keepsSetup_shadowToMain o c s).trans (keepsSetup_modPaths o c _ _)).2 _ (Nat.le_of_ble_eq_true rfl) ?_ ?_ <;>
    simp only [Fld.block, R.FLT_CHCFG_RATE] <;> omega

theorem doRespSwitch_resp {o c n r : Nat} {s : State} (ho : o < 16) (hc : c < 16) (hchg : (getCh o c s).chg = .resp r)
    (hfull : shadowFull o c r s = true) :
    doRespSwitch o c n s =
      if n % 2 ^ rd (R.FLT_CHCFG_RATE o c) s = 0 then changeDone o c n (wr (R.FLT_CHCFG_RESP o c) r (switchedMain o c s))
      else modCh o c (fun ch => { ch with chg := .switched r }) (switchedMain o c s) := by
  rw [← rate_switchedMain ho hc s]
  simp only [doRespSwitch, hchg, hfull, if_true]
  rfl

theorem responseSwitch_yields (o : Fin 9) (c : Fin 14) (r : Nat) (s : State) (hr : r < 16) (hg : govern o c = c)
    (hchg : (getCh o c s).chg = .resp r) (hshadow : ShadowIs o c r 1 s) (hfull : shadowFull o c r s = true) :
    Yields (.responseSwitch o c) s fun t => MainIs o c r t ∧ (getCh o c t).sw = true ∧ OnlyChan o c s t ∧
      if nextIdx s % 2 ^ rd (R.FLT_CHCFG_RATE o c) s = 0 then
        rd (R.FLT_CHCFG_RESP o c) t = r ∧ InEffect o c (nextIdx s) s t
      else (getCh o c t).chg = .switched r := by
  have ho : o.val < 16 := by omega
  have hc : c.val < 16 := by omega
  have hmain : MainIs o c r (switchedMain o c s) := mainIs_modPaths (mainIs_shadowToMain hg hr hshadow) _
  have hsw := sw_switchedMain o c s
  have hw := writes_switchedMain o c s
  refine ⟨doRespSwitch o c (nextIdx s) s, rfl, ?_⟩
  rw [doRespSwitch_resp ho hc hchg hfull]
  have hf := setupField_resp o c
  by_cases hn : nextIdx s % 2 ^ rd (R.FLT_CHCFG_RATE o c) s = 0
  · simp only [if_pos hn]
    have hwr : Writes o c s (wr (R.FLT_CHCFG_RESP o c) r (switchedMain o c s)) := hw.trans (Writes.wrSetup hf r _)
    refine ⟨mainIs_changeDone ho hc (mainIs_wrSetup hmain hf r) _, ?_, hwr.onlyChan_changeDone _,
      rd_changeDone_wr hf ho hc hr _ _, hwr.inEffect _⟩
    rw [getCh_changeDone, getCh_wr]
    exact hsw
  · simp only [if_neg hn]
    refine ⟨hmain, ?_, hw.1.trans (OnlyChan.setCh o c _ _), ?_⟩
    · rw [getCh_modCh_same]
      exact hsw
    · rw [getCh_modCh_same]

/-! ### The end of a cross-fade (R140) -/

/-- The response of a slot in role `role` after a cross-fade to `r`. -/
def fadedResp (r role old : Nat) : Nat := if role = 1 then r else if 2 ≤ role then match90 r else old

/-- The new response of a slot that faded goes on alone. -/
def fadedSlot (role : Nat) (sl : Slot) : Slot := if role = 1 ∨ role = 3 then Slot.faded sl else sl

/-- The slots hold the new responses only. -/
def fadedTo (o c r : Nat) (s : State) : State :=
  let ro := rolesOf o c s
  setSlots o c ro.roleA (fadedResp r ro.roleA ro.respA) ro.roleB (fadedResp r ro.roleB ro.respB)
    (modPaths o c (fun ch => { ch with slotA := fadedSlot ro.roleA ch.slotA, slotB := fadedSlot ro.roleB ch.slotB }) s)

theorem writes_fadedTo (o c r : Nat) (s : State) : Writes o c s (fadedTo o c r s) := by
  refine (Writes.modPaths ?_ s).trans (Writes.setSlots _ _ _ _ _)
  exact fun _ => ⟨rfl, rfl, rfl⟩

theorem mainIs_fadedTo {o c r : Nat} {s : State} (hg : govern o c = c) (hr : r < 16)
    (hmain : rd (R.FLT_CHSTAT_SLOTA o c) s = 1 ∨ rd (R.FLT_CHSTAT_SLOTB o c) s = 1) : MainIs o c r (fadedTo o c r s) := by
  unfold fadedTo
  simp only [rolesOf, hg]
  exact mainIs_setSlots _ hr (hmain.imp (fun h => ⟨h, if_pos h⟩) (fun h => ⟨h, if_pos h⟩))

theorem doXfadeEnd_last {o c n r v : Nat} {s : State} (hg : govern o c = c) (hchg : (getCh o c s).chg = .xfade r v)
    (hrem : rd (R.FLT_CHSTAT_XFREM o c) s = 0)
    (hmain : rd (R.FLT_CHSTAT_SLOTA o c) s = 1 ∨ rd (R.FLT_CHSTAT_SLOTB o c) s = 1) :
    doXfadeEnd o c n s = changeDone o c n (wr (R.FLT_CHCFG_RESP o c) r (fadedTo o c r s)) := by
  have due : rd (R.FLT_CHSTAT_XFREM o c) s = 0 ∧ ((rolesOf o c s).roleA = 1 ∨ (rolesOf o c s).roleB = 1) := by
    simp only [rolesOf, hg]
    exact ⟨hrem, hmain⟩
  simp only [doXfadeEnd, hchg, if_pos due]
  rfl

theorem crossfadeEnd_yields (o : Fin 9) (c : Fin 14) (r v : Nat) (s : State) (hr : r < 16) (hg : govern o c = c)
    (hchg : (getCh o c s).chg = .xfade r v) (hrem : rd (R.FLT_CHSTAT_XFREM o c) s = 0)
    (hmain : rd (R.FLT_CHSTAT_SLOTA o c) s = 1 ∨ rd (R.FLT_CHSTAT_SLOTB o c) s = 1) :
    Yields (.crossfadeEnd o c) s fun t => rd (R.FLT_CHCFG_RESP o c) t = r ∧ MainIs o c r t ∧
      InEffect o c (rd R.FLT_IDX_N s) s t ∧ OnlyChan o c s t := by
  have ho : o.val < 16 := by omega
  have hc : c.val < 16 := by omega
  have hf := setupField_resp o c
  have hwr : Writes o c s (wr (R.FLT_CHCFG_RESP o c) r (fadedTo o c r s)) :=
    (writes_fadedTo o c r s).trans (Writes.wrSetup hf r _)
  refine ⟨doXfadeEnd o c (rd R.FLT_IDX_N s) s, rfl, ?_⟩
  rw [doXfadeEnd_last hg hchg hrem hmain]
  exact ⟨rd_changeDone_wr hf ho hc hr _ _, mainIs_changeDone ho hc (mainIs_wrSetup (mainIs_fadedTo hg hr hmain) hf r) _,
    hwr.inEffect _, hwr.onlyChan_changeDone _⟩

/-! ### A new rate (R142) -/

theorem rateSwitch_yields (o : Fin 9) (c : Fin 14) (k : Nat) (s : State) (hk : k < 7) (hchg : (getCh o c s).chg = .rate k)
    (hready : tailReady o c k (nextIdx s) s = true) :
    Yields (.rateSwitch o c) s fun t => rd (R.FLT_CHCFG_RATE o c) t = k ∧ (getCh o c t).sw = true ∧
      InEffect o c (nextIdx s) s t ∧ OnlyChan o c s t := by
  have hf := setupField_rate o c
  let u := modPaths o c (fun ch => { ch with sw := true }) (wr (R.FLT_CHCFG_RATE o c) k s)
  have hrun : doRateSwitch o c (nextIdx s) s = changeDone o c (nextIdx s) u := by
    simp only [doRateSwitch, hchg, hready, if_true]
    rfl
  have hwr : Writes o c s u := by
    refine (Writes.wrSetup hf k s).trans (Writes.modPaths ?_ _)
    exact fun _ => ⟨rfl, rfl, rfl⟩
  refine ⟨changeDone o c (nextIdx s) u, congrArg Host.Outcome.next hrun, ?_, ?_, hwr.inEffect _, hwr.onlyChan_changeDone _⟩
  · rw [rd_changeDone _ _ _ _ hf.2 (by simp only [Fld.block, R.FLT_CHCFG_RATE]; omega), rd_modPaths, rd_wr_same]
    exact Nat.mod_eq_of_lt (show k < 2 ^ 3 by omega)
  · rw [getCh_changeDone, getCh_modPaths]

/-! ### A new preset (R129) -/

/-- FASTCNT's count depends on CHCFG alone. -/
theorem fastCount_of_setup {s t : State}
    (h : ∀ f : Fld, f.lsb < 32 → f.block = 0x11 → f.addr % 0x100 = 0 → rd f t = rd f s) : fastCount t = fastCount s := by
  refine List.countP_congr fun oc hoc => ?_
  have hlt : oc.1 < 16 ∧ oc.2 < 16 := by
    revert oc
    decide
  have hen : rd (R.FLT_CHCFG_EN oc.1 oc.2) t = rd (R.FLT_CHCFG_EN oc.1 oc.2) s :=
    h _ (Nat.le_of_ble_eq_true rfl) (by simp only [Fld.block, R.FLT_CHCFG_EN]; omega) (by simp only [R.FLT_CHCFG_EN]; omega)
  have hpreset : rd (R.FLT_CHCFG_PRESET oc.1 oc.2) t = rd (R.FLT_CHCFG_PRESET oc.1 oc.2) s :=
    h _ (Nat.le_of_ble_eq_true rfl) (by simp only [Fld.block, R.FLT_CHCFG_PRESET]; omega)
      (by simp only [R.FLT_CHCFG_PRESET]; omega)
  simp only [atFast, flag, hen, hpreset]

theorem fastCount_recount (s : State) : fastCount (recount s) = fastCount s :=
  fastCount_of_setup fun f hl _ ha => rd_wr_addr _ s (by decide) hl fun he => by
    rw [he] at ha
    exact absurd ha (by decide)

/-- The preset is shown, its response is main and the next output carries SW; its request has not completed yet. -/
def presetShown (o c p : Nat) (s : State) : State :=
  modCh o c (fun ch => { ch with sw := true }) (wr (R.FLT_CHCFG_PRESET o c) p (shadowToMain o c s))

theorem presetNow_eq (o c p n : Nat) (s : State) : presetNow o c p n s = changeDone o c n (recount (presetShown o c p s)) := rfl

theorem writes_presetShown (o c p : Nat) (s : State) : Writes o c s (recount (presetShown o c p s)) := by
  refine (((Writes.shadowToMain s).trans (Writes.wrSetup (setupField_preset o c) p _)).trans (Writes.modCh ?_ _)).trans
    (Writes.recount _)
  exact fun _ => ⟨rfl, rfl, rfl⟩

/-- Once the shadow and the tails are full, and a channel that leaves FAST has given SUB 3, the preset runs. -/
theorem doPresetSwitch_due {o c n p : Nat} {s : State} (hchg : (getCh o c s).chg = .preset p)
    (hfull : shadowFull o c (presetResp p) s = true) (htail : p = 2 → tailReady o c 3 n s = true)
    (hfast : atFast o c s = true → 384 ≤ (getCh o c s).fed) :
    doPresetSwitch o c n s = presetNow o c p (if p = 1 ∧ (getCh o c s).fed < 384 then prevIdx n else n) s := by
  have htail' : (p != 2 || tailReady o c 3 n s) = true := by
    by_cases hp : p = 2
    · rw [htail hp, Bool.or_true]
    · rw [bne_iff_ne.2 hp, Bool.true_or]
  have hfast' : (!(atFast o c s) || decide (384 ≤ (getCh o c s).fed)) = true := by
    cases h : atFast o c s with
    | false => rfl
    | true => exact decide_eq_true (hfast h)
  simp only [doPresetSwitch, hchg, hfull, htail', hfast', Bool.and_self, if_true]

theorem presetNow_shows {o c p : Nat} (n : Nat) {s : State} (ho : o < 16) (hc : c < 16) (hg : govern o c = c) (hp : p < 3)
    (hshadow : ShadowIs o c (presetResp p) 1 s) :
    rd (R.FLT_CHCFG_PRESET o c) (presetNow o c p n s) = p ∧ MainIs o c (presetResp p) (presetNow o c p n s) ∧
      rd R.FLT_FASTCNT_N (presetNow o c p n s) = fastCount (presetNow o c p n s) % 2 ^ 5 ∧
      InEffect o c n s (presetNow o c p n s) ∧ OnlyChan o c s (presetNow o c p n s) := by
  have hf := setupField_preset o c
  have hr : presetResp p < 16 := by unfold presetResp; split <;> [skip; split] <;> decide
  have hwr := writes_presetShown o c p s
  have hmain : MainIs o c (presetResp p) (recount (presetShown o c p s)) :=
    mainIs_of_stat (mainIs_wrSetup (mainIs_shadowToMain hg hr hshadow) hf p) fun f hfa hl =>
      rd_wr_addr _ _ (by decide) hl (by simp only [hfa, R.FLT_FASTCNT_N]; omega)
  rw [presetNow_eq]
  refine ⟨?_, mainIs_changeDone ho hc hmain n, ?_, hwr.inEffect n, hwr.onlyChan_changeDone n⟩
  · have hother : rd (R.FLT_CHCFG_PRESET o c) (recount (presetShown o c p s)) =
        rd (R.FLT_CHCFG_PRESET o c) (wr (R.FLT_CHCFG_PRESET o c) p (shadowToMain o c s)) :=
      rd_wr_addr _ _ (by decide) hf.2 (by simp only [R.FLT_CHCFG_PRESET, R.FLT_FASTCNT_N]; omega)
    rw [rd_changeDone _ _ _ _ hf.2 (by simp only [Fld.block, R.FLT_CHCFG_PRESET]; omega), hother, rd_wr_same]
    exact Nat.mod_eq_of_lt (show p < 2 ^ 2 by omega)
  · rw [fastCount_of_setup fun f hl hb _ => rd_changeDone o c n _ hl hb, fastCount_recount,
      rd_changeDone o c n _ (by decide) (by decide)]
    exact rd_wr_same _ _ _

theorem presetSwitch_yields (o : Fin 8) (aux : Bool) (p : Nat) (s : State) (hp : p < 3)
    (hchg : (getCh o (12 + aux.toNat) s).chg = .preset p)
    (hshadow : ShadowIs o (12 + aux.toNat) (presetResp p) 1 s)
    (hfull : shadowFull o (12 + aux.toNat) (presetResp p) s = true)
    (htail : p = 2 → tailReady o (12 + aux.toNat) 3 (nextIdx s) s = true)
    (hfast : atFast o (12 + aux.toNat) s = true → 384 ≤ (getCh o (12 + aux.toNat) s).fed) :
    Yields (.presetSwitch o aux) s fun t => rd (R.FLT_CHCFG_PRESET o (12 + aux.toNat)) t = p ∧
      MainIs o (12 + aux.toNat) (presetResp p) t ∧ rd R.FLT_FASTCNT_N t = fastCount t % 2 ^ 5 ∧
      InEffect o (12 + aux.toNat)
        (if p = 1 ∧ (getCh o (12 + aux.toNat) s).fed < 384 then prevIdx (nextIdx s) else nextIdx s) s t ∧
      OnlyChan o (12 + aux.toNat) s t := by
  have hrun : exec (.presetSwitch o aux) s = .next (doPresetSwitch o (12 + aux.toNat) (nextIdx s) s) := by
    cases aux <;> rfl
  have haux : aux.toNat ≤ 1 := Bool.toNat_le aux
  refine ⟨_, hrun, ?_⟩
  rw [doPresetSwitch_due hchg hfull htail hfast]
  exact presetNow_shows _ (by omega) (by omega) (if_neg (by omega)) hp hshadow

/-- Settles O29: each command writes the new setting within its channel (`Writes`), so that `changeDone` completes the
request with its index (`Writes.inEffect`). -/
theorem pendingChangesTakeEffect : Obligations.PendingChangesTakeEffect := by
  unfold Obligations.PendingChangesTakeEffect
  exact ⟨responseSwitch_yields, crossfadeEnd_yields, rateSwitch_yields, presetSwitch_yields⟩

end Sys2Proof.Machine
end

section
/-!
O31: one instant of a modulator with an event (R116, R117), and the sub-samples of a FAST channel (R149).
-/
namespace Sys2Proof.Machine
open Sys2Proof.Claims

/-! ### One instant of the modulator -/

/-- The part of a path that the filters behind the modulator leave alone. -/
def modSide (ch : Chan) : Nat × Nat × Nat × Nat × Nat × Nat × Change :=
  (ch.fed, ch.nErr, ch.nRst, ch.rst, ch.ageRec, ch.run, ch.chg)

@[simp] theorem modSide_slotStep (role r : Nat) (xf : Option (Nat × Nat × Nat)) (isA : Bool) (x : Int) (ch : Chan) :
    modSide (slotStep role r xf isA x ch) = modSide ch := by
  unfold slotStep
  split
  · rfl
  · cases isA <;> dsimp only <;> split <;> [rfl; (split <;> rfl); rfl; (split <;> rfl)]

@[simp] theorem modSide_slotsStep (fast : Bool) (ro : Roles) (x : Int) (ch : Chan) :
    modSide (slotsStep fast ro x ch) = modSide ch := by
  have ite : ∀ (p : Bool) (a b : Chan), modSide a = modSide b → modSide (if p then a else b) = modSide b := by
    intro p a b h
    cases p
    · rfl
    · exact h
  unfold slotsStep
  exact (ite _ _ _ (modSide_slotStep _ _ _ _ _ _)).trans (ite _ _ _ (modSide_slotStep _ _ _ _ _ _))

@[simp] theorem modSide_afterHb2 (ro : Roles) (x : Int) (ch : Chan) : modSide (afterHb2 ro x ch) = modSide ch := by
  unfold afterHb2
  dsimp only
  split
  · exact modSide_slotsStep true ro x ch
  · split
    · exact modSide_slotsStep true ro x ch
    · rw [modSide_slotsStep]
      exact modSide_slotsStep true ro x ch

@[simp] theorem modSide_afterCic (ro : Roles) (x : Int) (ch : Chan) : modSide (afterCic ro x ch) = modSide ch := by
  unfold afterCic
  dsimp only
  split
  · rfl
  · split
    · rfl
    · exact modSide_afterHb2 ro _ _

theorem modSide_instantOf (ro : Roles) (ch : Chan) (code : BitVec 3) :
    modSide (instantOf ro ch code) =
      modSide { (modStep ro.changing code ch).1 with fed := (modStep ro.changing code ch).1.fed + 1 } := by
  unfold instantOf
  dsimp only
  split
  · rfl
  · exact modSide_afterCic ro _ _

/-- R116: a code that is not listed. -/
theorem modSide_modStep_bad (changing : Bool) {code : BitVec 3} {ch : Chan} (hbad : badCode code = true) (hrst : ch.rst = 0) :
    modSide (modStep changing code ch).1 = (ch.fed, ch.nErr + 1, ch.nRst, 0, 0, 0, ch.chg) := by
  simp [modStep, hbad, hrst, modSide]

/-- R117: the 256th instant at one extreme. -/
theorem modSide_modStep_reset (changing : Bool) {code : BitVec 3} {ch : Chan} (hok : badCode code = false)
    (hcode : code.toInt = ch.ext) (hext : ch.ext = 2 ∨ ch.ext = -2) (hrun : ch.run = 255) (hrst : ch.rst = 0) :
    modSide (modStep changing code ch).1 = (ch.fed, ch.nErr, ch.nRst + 1, 64, 0, 0, ch.chg) := by
  simp [modStep, hok, hcode, hext, hrun, hrst, modSide]

theorem modStep_fed_chg (changing : Bool) (code : BitVec 3) (ch : Chan) :
    (modStep changing code ch).1.fed = ch.fed ∧ (modStep changing code ch).1.chg = ch.chg := by
  have ite : ∀ {p : Prop} [Decidable p] {a b : Chan × Int}, a.1.fed = ch.fed ∧ a.1.chg = ch.chg →
      b.1.fed = ch.fed ∧ b.1.chg = ch.chg →
      (if p then a else b).1.fed = ch.fed ∧ (if p then a else b).1.chg = ch.chg := by
    intro p _ a b ha hb
    split
    · exact ha
    · exact hb
  unfold modStep
  cases badCode code
  · exact ite ⟨rfl, rfl⟩ (ite ⟨rfl, rfl⟩ ⟨rfl, rfl⟩)
  · exact ite ⟨rfl, rfl⟩ (ite ⟨rfl, rfl⟩ ⟨rfl, rfl⟩)

theorem instantOf_fed_chg (ro : Roles) (ch : Chan) (code : BitVec 3) :
    (instantOf ro ch code).fed = ch.fed + 1 ∧ (instantOf ro ch code).chg = ch.chg := by
  have h := modSide_instantOf ro ch code
  obtain ⟨hfed, hchg⟩ := modStep_fed_chg ro.changing code ch
  simp only [modSide, Prod.mk.injEq, hfed, hchg] at h
  obtain ⟨h1, -, -, -, -, -, h2⟩ := h
  exact ⟨h1, h2⟩

theorem foldl_instantOf_fed_chg (ro : Roles) (codes : List (BitVec 3)) (ch : Chan) :
    (codes.foldl (instantOf ro) ch).fed = ch.fed + codes.length ∧ (codes.foldl (instantOf ro) ch).chg = ch.chg := by
  induction codes generalizing ch with
  | nil => exact ⟨rfl, rfl⟩
  | cons code codes ih =>
    obtain ⟨hfed, hchg⟩ := ih (instantOf ro ch code)
    obtain ⟨ifed, ichg⟩ := instantOf_fed_chg ro ch code
    rw [ifed] at hfed
    rw [ichg] at hchg
    exact ⟨by rw [List.foldl_cons, hfed, List.length_cons]; omega, hchg⟩

/-- A path that is fed to `upto` has had so many instants; its pending change stays. -/
theorem feedTo_fed_chg (ro : Roles) {upto : Nat} (codes : List (BitVec 3)) {ch : Chan} (h : ch.fed ≤ upto) :
    (feedTo ro upto codes ch).fed = upto ∧ (feedTo ro upto codes ch).chg = ch.chg := by
  obtain ⟨hfed, hchg⟩ := foldl_instantOf_fed_chg ro
    (codes.take (upto - ch.fed) ++ List.replicate (upto - ch.fed - codes.length) 0) ch
  refine ⟨hfed.trans ?_, hchg⟩
  rw [List.length_append, List.length_take, List.length_replicate]
  omega

theorem feedTo_one (ro : Roles) (code : BitVec 3) (ch : Chan) : feedTo ro (ch.fed + 1) [code] ch = instantOf ro ch code := by
  unfold feedTo
  dsimp only
  rw [Nat.add_sub_cancel_left]
  rfl

theorem feedTo_reached (ro : Roles) (codes : List (BitVec 3)) {upto : Nat} {ch : Chan} (h : ch.fed = upto) :
    feedTo ro upto codes ch = ch := by
  unfold feedTo
  dsimp only
  rw [h, Nat.sub_self, List.take_zero, Nat.zero_sub]
  rfl

/-! ### Feeding a channel, and its counts -/

theorem rd_addSat_same (f : Fld) (n : Nat) (s : State) : rd f (addSat f n s) = min (rd f s + n) (2 ^ f.wid - 1) := by
  have hw : 0 < 2 ^ f.wid := Nat.two_pow_pos _
  rw [addSat, rd_wr_same, Nat.mod_eq_of_lt (by omega)]

theorem getCh_flushCounts (o c : Nat) (s : State) :
    getCh o c (flushCounts o c s) = { getCh o c s with nOvl := 0, nRst := 0, nErr := 0 } := by
  unfold flushCounts
  exact getCh_setCh_same o c _ _

theorem flushCounts_qs (o c : Nat) (s : State) : (flushCounts o c s).qs = s.qs := by
  unfold flushCounts
  dsimp only
  rw [wrB, wr_qs]
  rfl

theorem keepsSetup_flushCounts (o c : Nat) (s : State) : KeepsSetup o c s (flushCounts o c s) := by
  unfold flushCounts
  exact ((((KeepsSetup.wr _ s (besideSetup_of_base rfl)).trans (KeepsSetup.wr _ _ (besideSetup_of_base rfl))).trans
    (KeepsSetup.wr _ _ (besideSetup_of_base rfl))).trans (KeepsSetup.setCh _ _)).trans
    (KeepsSetup.wr _ _ (besideSetup_of_base rfl))

theorem rd_flushCounts (o c : Nat) (s : State) :
    rd (R.FLT_MODCNT_CODEERR o c) (flushCounts o c s) = min (rd (R.FLT_MODCNT_CODEERR o c) s + (getCh o c s).nErr) 255 ∧
    rd (R.FLT_MODCNT_RSTCNT o c) (flushCounts o c s) = min (rd (R.FLT_MODCNT_RSTCNT o c) s + (getCh o c s).nRst) 255 := by
  unfold flushCounts
  simp only [wrB]
  constructor
  · rw [rd_wr_ne, rd_setCh, addSat, rd_wr_ne, addSat, rd_wr_ne, rd_addSat_same]
    · rfl
    all_goals
      simp only [Fld.key, R.FLT_MODCNT_CODEERR, R.FLT_MODCNT_RSTCNT, R.FLT_MODCNT_OVLCNT, R.FLT_CHSTAT_MODOVL]
      omega
  · rw [rd_wr_ne, rd_setCh, addSat, rd_wr_ne, rd_addSat_same, addSat, rd_wr_ne]
    · rfl
    all_goals
      simp only [Fld.key, R.FLT_MODCNT_CODEERR, R.FLT_MODCNT_RSTCNT, R.FLT_MODCNT_OVLCNT, R.FLT_CHSTAT_MODOVL]
      omega

theorem keepsSetup_feedChan (o c upto : Nat) (codes : List (BitVec 3)) (s : State) :
    KeepsSetup o c s (feedChan o c upto codes s) :=
  .ite ((KeepsSetup.modCh _ s).trans (keepsSetup_flushCounts o c _)) (KeepsSetup.refl s)

theorem feedChan_qs (o c upto : Nat) (codes : List (BitVec 3)) (s : State) : (feedChan o c upto codes s).qs = s.qs := by
  unfold feedChan
  split
  · rw [flushCounts_qs, modCh_qs]
  · rfl

theorem getCh_feedChan {o c : Nat} {s : State} (h : chOn o c s = true) (upto : Nat) (codes : List (BitVec 3)) :
    getCh o c (feedChan o c upto codes s) =
      { feedTo (rolesOf o c s) upto codes (getCh o c s) with nOvl := 0, nRst := 0, nErr := 0 } := by
  rw [feedChan, if_pos h, getCh_flushCounts, getCh_modCh_same]

theorem rd_feedChan {o c : Nat} {s : State} (h : chOn o c s = true) (upto : Nat) (codes : List (BitVec 3)) :
    rd (R.FLT_MODCNT_CODEERR o c) (feedChan o c upto codes s) =
      min (rd (R.FLT_MODCNT_CODEERR o c) s + (feedTo (rolesOf o c s) upto codes (getCh o c s)).nErr) 255 ∧
    rd (R.FLT_MODCNT_RSTCNT o c) (feedChan o c upto codes s) =
      min (rd (R.FLT_MODCNT_RSTCNT o c) s + (feedTo (rolesOf o c s) upto codes (getCh o c s)).nRst) 255 := by
  rw [feedChan, if_pos h]
  have hrd := rd_flushCounts o c (modCh o c (feedTo (rolesOf o c s) upto codes) s)
  rw [rd_modCh, rd_modCh, getCh_modCh_same] at hrd
  exact hrd

/-! ### A sub-sample is delivered (R149) -/

/-- What a delivery leaves of a path: the instants fed and the events not yet counted. -/
def counting (ch : Chan) : Nat × Nat × Nat := (ch.fed, ch.nErr, ch.nRst)

/-- The same with the sample that was delivered. -/
def delivered (ch : Chan) : (Nat × Nat × Nat) × List Int × Nat := (counting ch, ch.outs, ch.stat)

/-- Only channel `c` differs, its MODCNT stays, and so does what `view` shows of its path. -/
def Leaves {α : Type} (view : Chan → α) (o c : Nat) (s t : State) : Prop :=
  OnlyChan o c s t ∧ (∀ f : Fld, f.addr = 0x1100000C + o * 0x1000 + c * 0x100 → f.lsb < 32 → rd f t = rd f s) ∧
    view (getCh o c t) = view (getCh o c s)

namespace Leaves

variable {α : Type} {view : Chan → α} {o c : Nat}

theorem refl (s : State) : Leaves view o c s s := ⟨OnlyChan.refl o c s, fun _ _ _ => rfl, rfl⟩

theorem trans {s t u : State} (h : Leaves view o c s t) (k : Leaves view o c t u) : Leaves view o c s u := by
  obtain ⟨honly, hrd, hview⟩ := h
  obtain ⟨konly, krd, kview⟩ := k
  exact ⟨honly.trans konly, fun f a l => (krd f a l).trans (hrd f a l), kview.trans hview⟩

theorem counted {s t : State} (h : Leaves delivered o c s t) : Leaves counting o c s t :=
  ⟨h.1, h.2.1, congrArg Prod.fst h.2.2⟩

theorem outs {s t : State} (h : Leaves delivered o c s t) : (getCh o c t).outs = (getCh o c s).outs :=
  congrArg (fun v => v.2.1) h.2.2

theorem stat {s t : State} (h : Leaves delivered o c s t) : (getCh o c t).stat = (getCh o c s).stat :=
  congrArg (fun v => v.2.2) h.2.2

theorem ite {p : Prop} [Decidable p] {s t u : State} (h : Leaves view o c s t) (k : Leaves view o c s u) :
    Leaves view o c s (if p then t else u) := by
  split
  · exact h
  · exact k

theorem modCh {f : Chan → Chan} (hf : ∀ x, view (f x) = view x) (s : State) : Leaves view o c s (modCh o c f s) := by
  refine ⟨OnlyChan.setCh o c _ s, fun _ _ _ => rfl, ?_⟩
  rw [getCh_modCh_same, hf]

theorem setCh {x : Chan} {s : State} (hx : view x = view (getCh o c s)) : Leaves view o c s (setCh o c x s) :=
  ⟨OnlyChan.setCh o c x s, fun _ _ _ => rfl, by rw [getCh_setCh_same, hx]⟩

theorem of_queueOnly (ho : o < 16) (hc : c < 16) {s t : State} (h : QueueOnly s t) : Leaves view o c s t :=
  ⟨h.onlyChan o c, fun _ hf hl => h.rd_flt hl (by simp only [Fld.block, hf]; omega), congrArg view (h.getCh o c)⟩

/-- Registers of the channel other than MODCNT are written. -/
theorem of_wr {s t : State} (honly : OnlyChan o c s t) (hsamp : t.samp = s.samp)
    (hrd : ∀ f : Fld, f.addr = 0x1100000C + o * 0x1000 + c * 0x100 → f.lsb < 32 → rd f t = rd f s) :
    Leaves view o c s t :=
  ⟨honly, hrd, by rw [getCh, hsamp, getCh]⟩

theorem wr {base lsb wid rst v : Nat} {acc : Acc} {s : State}
    (h : (base / 0x100 == 0x110000 && base % 0x100 != 0 && decide (lsb < 32)) = true) (hbase : base ≠ 0x1100000C) :
    Leaves view o c s (wr ⟨base + o * 0x1000 + c * 0x100, lsb, wid, rst, acc⟩ v s) := by
  have hf := besideSetup_of_base (o := o) (c := c) (wid := wid) (rst := rst) (acc := acc) h
  exact of_wr (KeepsSetup.wr v s hf).1 rfl fun g hg gl => rd_wr_addr v s hf.2.2 gl (by rw [hg]; dsimp only; omega)

end Leaves

theorem streamQs_lt {o : Nat} (ho : o ≤ 8) (c : Nat) : ∀ q ∈ streamQs o c, q < 128 := by
  intro q hq
  unfold streamQs at hq
  split at hq
  · simp only [List.mem_cons, List.not_mem_nil, or_false] at hq; omega
  · split at hq <;> simp only [List.mem_singleton] at hq <;> omega

/-- Messages of a channel go into its stream queues. -/
theorem queueOnly_pushStream {o : Nat} (ho : o ≤ 8) (c : Nat) (ms : List Msg) (s : State) :
    QueueOnly s (forEach (streamQs o c) (fun q s => forEach ms (pushQ q o) s) s) :=
  QueueOnly.forEach _ _ (fun q hq s => QueueOnly.forEach _ _ (fun m _ s => queueOnly_pushQ (streamQs_lt ho c q hq) o m s) s) s

theorem leaves_windowResults (o c n : Nat) (s : State) : Leaves delivered o c s (windowResults o c n s) := by
  refine Leaves.trans ?_ (Leaves.setCh rfl)
  exact ((((Leaves.wr rfl (by decide)).trans (Leaves.wr rfl (by decide))).trans (Leaves.wr rfl (by decide))).trans
    (Leaves.wr rfl (by decide))).trans (Leaves.wr rfl (by decide))

theorem leaves_detFeed (o c n : Nat) (s : State) : Leaves delivered o c s (detFeed o c n s).1 := Leaves.setCh rfl

/-- The record of a delivered sample, and PHASE, are written before its message enters. -/
def recorded (o c : Nat) (y : Int) (stat phase : Nat) (s : State) : State :=
  wr (R.FLT_CHSTAT_PHASE o c) phase
    (modCh o c (fun ch => { ch with x := y / 256, stat := stat, got := true, sw := false, missed := false, sat := false,
                                    satAcc := false }) s)

theorem deliver_reports {o : Nat} (ho : o ≤ 8) (c : Nat) (y : Int) (stat phase : Nat) (s : State) :
    QueueOnly (recorded o c y stat phase s) (deliver o c y stat phase s) :=
  QueueOnly.forEach _ (fun q => pushQ q o (sampleMsg 0x61 y stat))
    (fun q hq s => queueOnly_pushQ (streamQs_lt ho c q hq) o _ s) _

theorem getCh_deliver {o : Nat} (ho : o ≤ 8) (c : Nat) (y : Int) (stat phase : Nat) (s : State) :
    getCh o c (deliver o c y stat phase s) =
      { getCh o c s with x := y / 256, stat := stat, got := true, sw := false, missed := false, sat := false,
                         satAcc := false } := by
  rw [(deliver_reports ho c y stat phase s).getCh, recorded, getCh_wr, getCh_modCh_same]

theorem phaseOf_le (w : Nat) (ch : Chan) : phaseOf w ch ≤ 3 := by
  unfold phaseOf
  split <;> [skip; split <;> [skip; split]] <;> decide

theorem b2n_le (b : Bool) : b2n b ≤ 1 := by
  cases b <;> decide

/-- R148: SUB stands in bits 14 and 13 of the status word. -/
theorem sub_statusWord {ch sub phase : Nat} (hch : ch < 16) (hsub : sub < 4) (hphase : phase ≤ 3)
    (range ovl interp test xf sw rconv : Bool) :
    statusWord ch range ovl interp test phase xf sw sub rconv / 2 ^ 13 % 4 = sub := by
  have hrange := b2n_le range
  have hovl := b2n_le ovl
  have hinterp := b2n_le interp
  have htest := b2n_le test
  have hxf := b2n_le xf
  have hsw := b2n_le sw
  have hrconv := b2n_le rconv
  unfold statusWord
  omega

/-- The slots stand at offset 4 of a channel's page. -/
theorem rd_setSlots_offset {o c ra pa rb pb : Nat} {f : Fld} (s : State) (hl : f.lsb < 32) (ha : f.addr % 0x100 ≠ 4) :
    rd f (setSlots o c ra pa rb pb s) = rd f s := by
  have own : ∀ c s, rd f (wrs (slotFields o c ra pa rb pb) s) = rd f s := by
    intro c s
    refine rd_wrs_ne _ _ fun g hg => ?_
    have slot : g.addr % 0x100 = 4 ∧ g.lsb < 32 := by
      simp only [slotFields, List.map_cons, List.map_nil, List.mem_cons, List.not_mem_nil, or_false] at hg
      rcases hg with rfl | rfl | rfl | rfl <;> refine ⟨?_, Nat.le_of_ble_eq_true rfl⟩ <;>
        simp only [R.FLT_CHSTAT_SLOTA, R.FLT_CHSTAT_RESPA, R.FLT_CHSTAT_SLOTB, R.FLT_CHSTAT_RESPB] <;> omega
    simp only [Fld.key]
    omega
  rw [setSlots_eq]
  split
  · rw [own, own]
  · exact own c s

theorem rd_shadowToMain_offset {o c : Nat} {f : Fld} (s : State) (hl : f.lsb < 32) (ha : f.addr % 0x100 ≠ 4) :
    rd f (shadowToMain o c s) = rd f s := by
  unfold shadowToMain
  dsimp only
  split <;> exact rd_setSlots_offset s hl ha

theorem shadowToMain_samp (o c : Nat) (s : State) : (shadowToMain o c s).samp = s.samp := by
  unfold shadowToMain
  dsimp only
  split <;> exact setSlots_samp _ _ _ _ _ _ s

theorem doPresetSwitch_cases (n : Nat) (s : State) :
    doPresetSwitch o c n s = s ∨ ∃ p m, doPresetSwitch o c n s = presetNow o c p m s := by
  unfold doPresetSwitch
  dsimp only
  split
  · split
    · exact .inr ⟨_, _, rfl⟩
    · exact .inl rfl
  · exact .inl rfl

/-- The output that completed sub-sample `sub` is delivered, or dropped by a channel that is not FAST yet. -/
def subSample (o c n sub : Nat) (s : State) : State :=
  match (getCh o c s).outs.getLast? with
  | some y =>
      if chOn o c s && atFast o c s && decide (512 ≤ (getCh o c s).ageStart) then fastSample o c n sub y s
      else modCh o c (fun ch => { ch with outs := [] }) s
  | none => s

theorem subDone_eq (n sub o c : Nat) (s : State) :
    subDone n sub (o, c) s =
      if sub = 3 then doPresetSwitch o c ((n + 1) % 2 ^ 24) (subSample o c n sub (doFastSwitch n (o, c) s))
      else subSample o c n sub (doFastSwitch n (o, c) s) := rfl

section
variable {o c : Nat} (ho : o ≤ 8) (hc : c < 14)
include ho hc

theorem leaves_doWindowEnd (n : Nat) (s : State) : Leaves delivered o c s (doWindowEnd o c n s) :=
  .ite ((leaves_windowResults o c n s).trans
    (.of_queueOnly (by omega) (by omega) (endWindow_reports o c n ho s))) (Leaves.refl s)

theorem leaves_deliver (y : Int) (stat phase : Nat) (s : State) : Leaves counting o c s (deliver o c y stat phase s) := by
  have hrec : Leaves counting o c s (recorded o c y stat phase s) := by
    refine (Leaves.modCh ?_ s).trans (Leaves.wr rfl (by decide))
    exact fun _ => rfl
  exact hrec.trans (.of_queueOnly (by omega) (by omega) (deliver_reports ho c y stat phase s))

/-- A sample of a path is delivered with its SUB, and what was delivered before it stays as it was. -/
theorem leaves_deliverPath (w : Nat) (y : Int) {sub : Nat} (hsub : sub < 4) (s : State) :
    Leaves counting o c s (deliverPath o c w y sub s) ∧
      (getCh o c (deliverPath o c w y sub s)).outs = (getCh o c s).outs ∧
      (getCh o c (deliverPath o c w y sub s)).stat / 2 ^ 13 % 4 = sub := by
  unfold deliverPath
  dsimp only
  refine ⟨leaves_deliver ho hc _ _ _ s, ?_, ?_⟩ <;> rw [getCh_deliver ho c]
  exact sub_statusWord (by omega) hsub (phaseOf_le w _) _ _ _ _ _ _ _

/-- What follows the delivery of a FAST sample: the detectors, their peak event, and the end of a window (R150). -/
theorem leaves_afterSample (n : Nat) (p : State) :
    Leaves delivered o c p
      (let d := detFeed o c n p
       let t := forEach (streamQs o c) (fun q s => forEach d.2 (pushQ q o) s) d.1
       if windowComplete o c t then modCh o c (fun ch => { ch with wfull := true }) t else t) := by
  dsimp only
  have hpushed := (leaves_detFeed o c n p).trans
    (.of_queueOnly (by omega) (by omega) (queueOnly_pushStream ho c (detFeed o c n p).2 _))
  refine .ite (hpushed.trans (Leaves.modCh ?_ _)) hpushed
  exact fun _ => rfl

theorem leaves_fastSample (n : Nat) (y : Int) {sub : Nat} (hsub : sub < 4) (s : State) :
    Leaves counting o c s (fastSample o c n sub y s) ∧ (getCh o c (fastSample o c n sub y s)).outs = [] ∧
      (getCh o c (fastSample o c n sub y s)).stat / 2 ^ 13 % 4 = sub := by
  have htaken : Leaves counting o c s (modCh o c (fun ch => { ch with outs := [] }) s) := by
    refine Leaves.modCh ?_ s
    exact fun _ => rfl
  have hended := leaves_doWindowEnd ho hc n (modCh o c (fun ch => { ch with outs := [] }) s)
  obtain ⟨hpath, houts, hstat⟩ := leaves_deliverPath ho hc (windowOf true 1 0) y hsub
    (doWindowEnd o c n (modCh o c (fun ch => { ch with outs := [] }) s))
  have hafter := leaves_afterSample ho hc n (deliverPath o c (windowOf true 1 0) y sub
    (doWindowEnd o c n (modCh o c (fun ch => { ch with outs := [] }) s)))
  refine ⟨((htaken.trans hended.counted).trans hpath).trans hafter.counted, ?_, ?_⟩
  · exact (hafter.outs.trans houts).trans (hended.outs.trans (by rw [getCh_modCh_same]))
  · refine Eq.trans ?_ hstat
    exact congrArg (· / 2 ^ 13 % 4) hafter.stat

theorem leaves_presetNow (p n : Nat) (s : State) : Leaves delivered o c s (presetNow o c p n s) := by
  rw [presetNow_eq]
  refine ⟨(writes_presetShown o c p s).onlyChan_changeDone n, fun f hf hl => ?_, ?_⟩
  · rw [rd_changeDone o c n _ hl (by simp only [Fld.block, hf]; omega)]
    refine (rd_wr_addr _ _ (by decide) hl (by rw [hf]; simp only [R.FLT_FASTCNT_N]; omega)).trans ?_
    refine (rd_wr_addr _ _ (Nat.le_of_ble_eq_true rfl) hl (by rw [hf]; simp only [R.FLT_CHCFG_PRESET]; omega)).trans ?_
    exact rd_shadowToMain_offset s hl (by omega)
  · have hshown : getCh o c (recount (presetShown o c p s)) = { getCh o c s with sw := true } := by
      rw [recount, getCh_wr, presetShown, getCh_modCh_same, getCh_wr, getCh, shadowToMain_samp, getCh]
    rw [getCh_changeDone, hshown]
    rfl

theorem leaves_doPresetSwitch (n : Nat) (s : State) : Leaves delivered o c s (doPresetSwitch o c n s) := by
  rcases doPresetSwitch_cases n s with h | ⟨p, m, h⟩ <;> rw [h]
  · exact Leaves.refl s
  · exact leaves_presetNow ho hc p m s

theorem leaves_doFastSwitch (n : Nat) (s : State) : Leaves delivered o c s (doFastSwitch n (o, c) s) :=
  .ite (leaves_presetNow ho hc 1 n s) (Leaves.refl s)

theorem leaves_subDone (n : Nat) {sub : Nat} (hsub : sub < 4) (s : State) : Leaves counting o c s (subDone n sub (o, c) s) := by
  have hdropped : ∀ s, Leaves counting o c s (modCh o c (fun ch => { ch with outs := [] }) s) := by
    refine fun s => Leaves.modCh ?_ s
    exact fun _ => rfl
  have hsent : Leaves counting o c s (subSample o c n sub (doFastSwitch n (o, c) s)) := by
    refine (leaves_doFastSwitch ho hc n s).counted.trans ?_
    unfold subSample
    split
    · exact .ite (leaves_fastSample ho hc n _ hsub _).1 (hdropped _)
    · exact Leaves.refl _
  rw [subDone_eq]
  exact .ite (hsent.trans (leaves_doPresetSwitch ho hc _ _).counted) hsent

end

/-! ### Feeding on through the sub-samples (R149) -/

theorem feedSub_past {n k o c : Nat} {r : State × List (BitVec 3)} (h : 128 * k ≤ (getCh o c r.1).fed) :
    feedSub n (o, c) k r = r := by
  simp only [feedSub, h, decide_true, Bool.true_or, if_true]

theorem feedSub_next {n k o c : Nat} {codes : List (BitVec 3)} {s : State} (hon : chOn o c s = true)
    (h : (getCh o c s).fed < 128 * k) :
    feedSub n (o, c) k (s, codes) =
      (subDone n k (o, c) (feedChan o c (128 * k) codes s), codes.drop (128 * k - (getCh o c s).fed)) := by
  have hfed : decide (128 * k ≤ (getCh o c s).fed) = false := decide_eq_false (by omega)
  simp only [feedSub, hfed, hon, Bool.not_true, Bool.or_self, Bool.false_eq_true, if_false]

theorem foldl_feedSub_past {n o c : Nat} (l : List Nat) {r : State × List (BitVec 3)}
    (h : ∀ k ∈ l, 128 * k ≤ (getCh o c r.1).fed) : l.foldl (fun r k => feedSub n (o, c) k r) r = r := by
  induction l with
  | nil => rfl
  | cons k l ih => rw [List.foldl_cons, feedSub_past (h k (by simp)), ih fun j hj => h j (by simp [hj])]

/-- The sub-samples that are complete with `upto` instants. -/
theorem subs_upTo {upto : Nat} (h : upto < 512) :
    ([1, 2, 3] : List Nat).filter (fun k => decide (128 * k ≤ upto)) = List.range' 1 (upto / 128) := by
  have hk : upto / 128 = 0 ∨ upto / 128 = 1 ∨ upto / 128 = 2 ∨ upto / 128 = 3 := by omega
  have complete : ∀ k, 128 * k ≤ upto ↔ k ≤ upto / 128 := by omega
  simp only [complete]
  rcases hk with h0 | h1 | h2 | h3
  · rw [h0]; rfl
  · rw [h1]; rfl
  · rw [h2]; rfl
  · rw [h3]; rfl

/-- One more instant that completes no sub-sample of a privileged channel. -/
theorem feedOn_within {n o c : Nat} {code : BitVec 3} {s : State} (hlt : (getCh o c s).fed < 511)
    (h : isPriv o c = false ∨ ((getCh o c s).fed + 1) % 128 ≠ 0) :
    feedOn n (o, c) ((getCh o c s).fed + 1) [code] s = feedChan o c ((getCh o c s).fed + 1) [code] s := by
  unfold feedOn
  cases hp : isPriv o c with
  | false => rfl
  | true =>
    have hsub := h.resolve_left (by simp [hp])
    dsimp only
    rw [if_pos rfl, subs_upTo (by omega), foldl_feedSub_past _ fun k hk => ?_]
    rw [List.mem_range'_1] at hk
    dsimp only
    omega

/-- The instant that completes sub-sample `k` of a privileged channel. -/
theorem feedOn_completes {n o c k : Nat} {code : BitVec 3} {s : State} (hlt : (getCh o c s).fed < 511)
    (hp : isPriv o c = true) (hon : chOn o c s = true) (h : (getCh o c s).fed + 1 = 128 * (k + 1)) :
    feedOn n (o, c) ((getCh o c s).fed + 1) [code] s =
      feedChan o c ((getCh o c s).fed + 1) [] (subDone n (k + 1) (o, c) (feedChan o c ((getCh o c s).fed + 1) [code] s)) := by
  have hk : ((getCh o c s).fed + 1) / 128 = k + 1 := by omega
  have hpast : (List.range' 1 k).foldl (fun r k => feedSub n (o, c) k r) (s, [code]) = (s, [code]) :=
    foldl_feedSub_past _ fun j hj => by
      rw [List.mem_range'_1] at hj
      dsimp only
      omega
  have hnext : feedSub n (o, c) (1 + k) (s, [code]) =
      (subDone n (k + 1) (o, c) (feedChan o c ((getCh o c s).fed + 1) [code] s), []) := by
    have hone : 128 * (k + 1) - (getCh o c s).fed = 1 := by omega
    rw [Nat.add_comm, feedSub_next hon (by omega), hone, ← h]
    rfl
  unfold feedOn
  dsimp only
  rw [hp, if_pos rfl, subs_upTo (by omega), hk, List.range'_1_concat, List.foldl_append, hpast]
  simp only [List.foldl_cons, List.foldl_nil, hnext]

/-- A channel that has had its instants and has no event to count is left as it is. -/
theorem feedChan_reached {o c upto : Nat} {codes : List (BitVec 3)} {s : State}
    (hcounting : counting (getCh o c s) = (upto, 0, 0))
    (herr : rd (R.FLT_MODCNT_CODEERR o c) s ≤ 255) (hrst : rd (R.FLT_MODCNT_RSTCNT o c) s ≤ 255) :
    rd (R.FLT_MODCNT_CODEERR o c) (feedChan o c upto codes s) = rd (R.FLT_MODCNT_CODEERR o c) s ∧
    rd (R.FLT_MODCNT_RSTCNT o c) (feedChan o c upto codes s) = rd (R.FLT_MODCNT_RSTCNT o c) s ∧
    (getCh o c (feedChan o c upto codes s)).fed = upto := by
  simp only [counting, Prod.mk.injEq] at hcounting
  obtain ⟨hfed, hnErr, hnRst⟩ := hcounting
  cases hon : chOn o c s with
  | false =>
    rw [feedChan, hon]
    exact ⟨rfl, rfl, hfed⟩
  | true =>
    obtain ⟨h1, h2⟩ := rd_feedChan hon upto codes
    rw [h1, h2, getCh_feedChan hon, feedTo_reached _ _ hfed, hnErr, hnRst]
    exact ⟨Nat.min_eq_left herr, Nat.min_eq_left hrst, hfed⟩

/-- R116, R117, R149: one instant of a channel counts its events; but for a sub-sample that it completes, nothing else
comes of it. -/
theorem feedOn_one {o c : Nat} (ho : o ≤ 8) (hc : c < 14) (n : Nat) (code : BitVec 3) {s : State} (hon : chOn o c s = true)
    (hlt : (getCh o c s).fed < 511) :
    rd (R.FLT_MODCNT_CODEERR o c) (feedOn n (o, c) ((getCh o c s).fed + 1) [code] s) =
      min (rd (R.FLT_MODCNT_CODEERR o c) s + (instantOf (rolesOf o c s) (getCh o c s) code).nErr) 255 ∧
    rd (R.FLT_MODCNT_RSTCNT o c) (feedOn n (o, c) ((getCh o c s).fed + 1) [code] s) =
      min (rd (R.FLT_MODCNT_RSTCNT o c) s + (instantOf (rolesOf o c s) (getCh o c s) code).nRst) 255 ∧
    (getCh o c (feedOn n (o, c) ((getCh o c s).fed + 1) [code] s)).fed = (getCh o c s).fed + 1 ∧
    OnlyChan o c s (feedOn n (o, c) ((getCh o c s).fed + 1) [code] s) ∧
    (isPriv o c = false ∨ ((getCh o c s).fed + 1) % 128 ≠ 0 →
      getCh o c (feedOn n (o, c) ((getCh o c s).fed + 1) [code] s) =
        { instantOf (rolesOf o c s) (getCh o c s) code with nOvl := 0, nRst := 0, nErr := 0 } ∧
      (feedOn n (o, c) ((getCh o c s).fed + 1) [code] s).qs = s.qs) := by
  have hone := getCh_feedChan hon ((getCh o c s).fed + 1) [code]
  obtain ⟨herr, hrst⟩ := rd_feedChan hon ((getCh o c s).fed + 1) [code]
  rw [feedTo_one] at hone herr hrst
  have hfed := (instantOf_fed_chg (rolesOf o c s) (getCh o c s) code).1
  have honly := (keepsSetup_feedChan o c ((getCh o c s).fed + 1) [code] s).1
  by_cases hwithin : isPriv o c = false ∨ ((getCh o c s).fed + 1) % 128 ≠ 0
  · rw [feedOn_within hlt hwithin]
    exact ⟨herr, hrst, by rw [hone]; exact hfed, honly, fun _ => ⟨hone, feedChan_qs o c _ _ s⟩⟩
  · obtain ⟨hp, hmod⟩ := not_or.1 hwithin
    rw [Bool.not_eq_false] at hp
    obtain ⟨k, hk⟩ : ∃ k, (getCh o c s).fed + 1 = 128 * (k + 1) := ⟨(getCh o c s).fed / 128, by omega⟩
    obtain ⟨sonly, srd, scounting⟩ := leaves_subDone ho hc n (sub := k + 1) (by omega)
      (feedChan o c ((getCh o c s).fed + 1) [code] s)
    rw [hone] at scounting
    have herr' := (srd (R.FLT_MODCNT_CODEERR o c) rfl (Nat.le_of_ble_eq_true rfl)).trans herr
    have hrst' := (srd (R.FLT_MODCNT_RSTCNT o c) rfl (Nat.le_of_ble_eq_true rfl)).trans hrst
    obtain ⟨t1, t2, t3⟩ := feedChan_reached (codes := []) (scounting.trans (by rw [counting, hfed]))
      (herr'.trans_le (Nat.min_le_right _ _)) (hrst'.trans_le (Nat.min_le_right _ _))
    rw [feedOn_completes hlt hp hon hk]
    exact ⟨t1.trans herr', t2.trans hrst', t3, (honly.trans sonly).trans (keepsSetup_feedChan o c _ [] _).1,
      fun h => absurd h hwithin⟩

/-! ### The commands -/

theorem modCodeError_yields (o : Fin 9) (c : Fin 14) (code : BitVec 3) (s : State) (hcode : code = 3 ∨ code = 4 ∨ code = 5)
    (hon : chOn o c s = true) (hlt : (getCh o c s).fed < 511) (hrst : (getCh o c s).rst = 0) (hnErr : (getCh o c s).nErr = 0)
    (hroom : rd (R.FLT_MODCNT_CODEERR o c) s < 255) :
    Yields (.modCodeError o c code) s fun t =>
      rd (R.FLT_MODCNT_CODEERR o c) t = rd (R.FLT_MODCNT_CODEERR o c) s + 1 ∧
      (getCh o c t).fed = (getCh o c s).fed + 1 ∧ OnlyChan o c s t ∧
      (isPriv o c = false ∨ ((getCh o c s).fed + 1) % 128 ≠ 0 → (getCh o c t).ageRec = 0 ∧ t.qs = s.qs) := by
  have hbad : badCode code = true := by
    rcases hcode with rfl | rfl | rfl <;> rfl
  have hrun : exec (.modCodeError o c code) s =
      .next (feedOn (rd R.FLT_IDX_N s) (o, c) ((getCh o c s).fed + 1) [code] s) := by
    show execModCodeError o c code s = _
    simp only [execModCodeError, hbad, hlt, decide_true, Bool.and_self, if_true]
  have hside := modSide_instantOf (rolesOf o c s) (getCh o c s) code
  have hstep := modSide_modStep_bad (rolesOf o c s).changing hbad hrst
  simp only [modSide, Prod.mk.injEq] at hside hstep
  obtain ⟨-, hErr, -, -, hRec, -, -⟩ := hside
  obtain ⟨-, hErr', -, -, hRec', -, -⟩ := hstep
  obtain ⟨herr, -, hfed, honly, hplain⟩ := feedOn_one (by omega) c.isLt (rd R.FLT_IDX_N s) code hon hlt
  refine ⟨_, hrun, ?_, hfed, honly, fun h => ?_⟩
  · rw [herr, hErr, hErr', hnErr]
    omega
  · obtain ⟨hch, hqs⟩ := hplain h
    rw [hch]
    exact ⟨hRec.trans hRec', hqs⟩

theorem modulatorReset_yields (o : Fin 9) (c : Fin 14) (s : State) (hon : chOn o c s = true) (hrun : (getCh o c s).run = 255)
    (hext : (getCh o c s).ext = 2 ∨ (getCh o c s).ext = -2) (hlt : (getCh o c s).fed < 511) (hrst : (getCh o c s).rst = 0)
    (hnRst : (getCh o c s).nRst = 0) (hroom : rd (R.FLT_MODCNT_RSTCNT o c) s < 255) :
    Yields (.modulatorReset o c) s fun t =>
      rd (R.FLT_MODCNT_RSTCNT o c) t = rd (R.FLT_MODCNT_RSTCNT o c) s + 1 ∧
      (getCh o c t).fed = (getCh o c s).fed + 1 ∧ OnlyChan o c s t ∧
      (isPriv o c = false ∨ ((getCh o c s).fed + 1) % 128 ≠ 0 →
        (getCh o c t).rst = 64 ∧ (getCh o c t).ageRec = 0 ∧ (getCh o c t).run = 0 ∧ t.qs = s.qs) := by
  obtain ⟨code, hcode, hok, hsame⟩ : ∃ code : BitVec 3, code = (if (getCh o c s).ext < 0 then 6 else 2) ∧
      badCode code = false ∧ code.toInt = (getCh o c s).ext := by
    rcases hext with h | h <;> rw [h] <;> exact ⟨_, rfl, by decide, by decide⟩
  have hexec : exec (.modulatorReset o c) s =
      .next (feedOn (rd R.FLT_IDX_N s) (o, c) ((getCh o c s).fed + 1) [code] s) := by
    show execModulatorReset o c s = _
    simp only [execModulatorReset, hrun, hlt, hcode, beq_self_eq_true, decide_true, Bool.and_self, if_true]
  have hside := modSide_instantOf (rolesOf o c s) (getCh o c s) code
  have hstep := modSide_modStep_reset (rolesOf o c s).changing hok hsame hext hrun hrst
  simp only [modSide, Prod.mk.injEq] at hside hstep
  obtain ⟨-, -, hRst, hrst64, hRec, hRun, -⟩ := hside
  obtain ⟨-, -, hRst', hrst64', hRec', hRun', -⟩ := hstep
  obtain ⟨-, hcnt, hfed, honly, hplain⟩ := feedOn_one (by omega) c.isLt (rd R.FLT_IDX_N s) code hon hlt
  refine ⟨_, hexec, ?_, hfed, honly, fun h => ?_⟩
  · rw [hcnt, hRst, hRst', hnRst]
    omega
  · obtain ⟨hch, hqs⟩ := hplain h
    rw [hch]
    exact ⟨hrst64.trans hrst64', hRec.trans hRec', hRun.trans hRun', hqs⟩

/-! ### A FAST channel completes a sub-sample (R149) -/

namespace KeepsSetup

variable {o c : Nat} {s t : State}

theorem pdOn (h : KeepsSetup o c s t) (ho : o < 16) (hc : c < 16) (d : Nat) : pdOn d t = pdOn d s := by
  obtain ⟨⟨-, -, -, hrd⟩, -⟩ := h
  have hst : rd R.PWR_PDSTAT_ON t = rd R.PWR_PDSTAT_ON s := by
    refine hrd _ (by decide) (by decide) (by decide) ?_ (by decide)
    simp only [OfChan, R.PWR_PDSTAT_ON]
    omega
  rw [Machine.pdOn, hst, Machine.pdOn]

/-- A field at the start of a channel's page is of CHCFG. -/
theorem rd_setup (h : KeepsSetup o c s t) {i j : Nat} (hi : i < 16) (hj : j < 16) {f : Fld} (hf : SetupField i j f) :
    rd f t = rd f s := by
  obtain ⟨ha, hl⟩ := hf
  simp only [R.FLT_CHCFG_EN] at ha
  exact h.2 f hl (by simp only [Fld.block]; omega) (by omega)

theorem chOn (h : KeepsSetup o c s t) (ho : o < 16) (hc : c < 16) : chOn o c t = chOn o c s := by
  have hg : govern o c < 16 := by unfold govern; split <;> omega
  simp only [Machine.chOn, flag, h.pdOn ho hc, h.rd_setup ho hg ⟨rfl, Nat.le_of_ble_eq_true rfl⟩]

theorem atFast (h : KeepsSetup o c s t) (ho : o < 16) (hc : c < 16) : atFast o c t = atFast o c s := by
  have hen := h.rd_setup ho hc (f := R.FLT_CHCFG_EN o c) ⟨rfl, Nat.le_of_ble_eq_true rfl⟩
  simp only [Machine.atFast, flag, hen, h.rd_setup ho hc (setupField_preset o c)]

end KeepsSetup

/-- R149: the one output that completed is delivered with its SUB. -/
theorem subDone_delivers {o c n sub : Nat} {y : Int} {s : State} (ho : o ≤ 8) (hc : c < 14) (hsub : sub < 4)
    (hchg : (getCh o c s).chg ≠ .preset 1) (houts : (getCh o c s).outs = [y]) (hon : chOn o c s = true)
    (hfast : atFast o c s = true) (hage : 512 ≤ (getCh o c s).ageStart) :
    Leaves counting o c s (subDone n sub (o, c) s) ∧ (getCh o c (subDone n sub (o, c) s)).outs = [] ∧
      (getCh o c (subDone n sub (o, c) s)).stat / 2 ^ 13 % 4 = sub := by
  have hno : doFastSwitch n (o, c) s = s := if_neg fun h => hchg h.1
  have hsample : subSample o c n sub s = fastSample o c n sub y s := by
    simp only [subSample, houts, hon, hfast, hage, List.getLast?_singleton, decide_true, Bool.and_self, if_true]
  obtain ⟨hleaves, hgone, hstat⟩ := leaves_fastSample ho hc n y hsub s
  rw [subDone_eq, hno, hsample]
  split
  · have hpreset := leaves_doPresetSwitch ho hc ((n + 1) % 2 ^ 24) (fastSample o c n sub y s)
    exact ⟨hleaves.trans hpreset.counted, hpreset.outs.trans hgone, by rw [hpreset.stat, hstat]⟩
  · exact ⟨hleaves, hgone, hstat⟩

theorem fastSubsample_yields (o : Fin 8) (aux : Bool) (sub : Fin 4) (codes : List (BitVec 3)) (s : State) (hsub : sub ≠ 0)
    (hstarted : s.samp.started = true) (hon : chOn o (12 + aux.toNat) s = true) (hfast : atFast o (12 + aux.toNat) s = true)
    (hchg : (getCh o (12 + aux.toNat) s).chg ≠ .preset 1) (hfrom : 128 * (sub.val - 1) ≤ (getCh o (12 + aux.toNat) s).fed)
    (hto : (getCh o (12 + aux.toNat) s).fed < 128 * sub.val)
    (hage : 512 ≤ (getCh o (12 + aux.toNat) (feedChan o (12 + aux.toNat) (128 * sub.val) codes s)).ageStart)
    (y : Int) (houts : (getCh o (12 + aux.toNat) (feedChan o (12 + aux.toNat) (128 * sub.val) codes s)).outs = [y]) :
    Yields (.fastSubsample o aux sub codes) s fun t =>
      (getCh o (12 + aux.toNat) t).fed = 128 * sub.val ∧ (getCh o (12 + aux.toNat) t).outs = [] ∧
      (getCh o (12 + aux.toNat) t).stat / 2 ^ 13 % 4 = sub.val ∧ OnlyChan o (12 + aux.toNat) s t := by
  have hcase : (if aux then 13 else 12) = 12 + aux.toNat := by cases aux <;> rfl
  have haux : aux.toNat ≤ 1 := Bool.toNat_le aux
  have hsub0 : (sub.val == 0) = false := beq_false_of_ne fun h => hsub (Fin.ext h)
  generalize hcdef : 12 + aux.toNat = c at *
  have hrun : exec (.fastSubsample o aux sub codes) s =
      .next (subDone (rd R.FLT_IDX_N s) sub (o.val, c) (feedChan o c (128 * sub.val) codes s)) := by
    show execFastSubsample o aux sub codes s = _
    simp only [execFastSubsample, hcase, hon, hfast, hsub0, hstarted, Bool.not_true, Bool.true_or, Bool.or_self,
      Bool.false_eq_true, if_false, Nat.not_lt.2 hfrom, feedSub_next hon hto]
  have hfed : getCh o c (feedChan o c (128 * sub.val) codes s) = _ := getCh_feedChan hon _ _
  obtain ⟨hupto, hkept⟩ := feedTo_fed_chg (rolesOf o c s) codes (Nat.le_of_lt hto)
  have hsetup := keepsSetup_feedChan o c (128 * sub.val) codes s
  obtain ⟨⟨honly, -, hcounting⟩, hgone, hstat⟩ := subDone_delivers (n := rd R.FLT_IDX_N s) (sub := sub.val) (by omega)
    (by omega) sub.isLt (by rw [hfed]; exact fun h => hchg (hkept.symm.trans h)) houts
    ((hsetup.chOn (by omega) (by omega)).trans hon) ((hsetup.atFast (by omega) (by omega)).trans hfast) hage
  have hcount : (getCh o c (subDone (rd R.FLT_IDX_N s) sub (o.val, c) (feedChan o c (128 * sub.val) codes s))).fed =
      128 * sub.val := by
    refine (congrArg Prod.fst hcounting).trans ?_
    rw [hfed]
    exact hupto
  exact ⟨_, hrun, hcount, hgone, hstat, hsetup.1.trans honly⟩

end Sys2Proof.Machine

namespace Sys2Proof
open Sys2Proof.Machine

/-- Settles O31: one instant counts the event it brings, and a complete sub-sample of a FAST channel is delivered. -/
theorem modulatorEventsAreCounted : Obligations.ModulatorEventsAreCounted := by
  unfold Obligations.ModulatorEventsAreCounted
  exact ⟨modCodeError_yields, modulatorReset_yields, fastSubsample_yields⟩

end Sys2Proof
end

section
/-!
O30: the index and the period of a frame (R143, R145, R146). Everything else that a frame does to the sampling chain
leaves the local clock, the chain's own times and FLT.IDX and FLT.PERIOD as they are (`KeepsTimes`).
-/
namespace Sys2Proof.Machine
open Sys2Proof.Claims

/-- A register other than FLT.IDX and FLT.PERIOD. -/
def BesideTimes (f : Fld) : Prop := f.lsb < 32 ∧ (f.addr < 0x1100F000 ∨ 0x1100F008 ≤ f.addr)

/-- The fields of a channel stand below FLT.IDX. -/
theorem besideTimes_chan {o c base lsb wid rst : Nat} {acc : Acc} (ho : o ≤ 8) (hc : c < 18)
    (h : (decide (base < 0x11001000) && decide (lsb < 32)) = true) :
    BesideTimes ⟨base + o * 0x1000 + c * 0x100, lsb, wid, rst, acc⟩ := by
  simp only [Bool.and_eq_true, decide_eq_true_eq] at h
  exact ⟨h.2, .inl (by dsimp only; omega)⟩

/-- The clock, the chain's own times, the index and the period stay. -/
def KeepsTimes (s t : State) : Prop :=
  t.clock = s.clock ∧ { t.samp with chans := s.samp.chans } = s.samp ∧
    ∀ f : Fld, f.lsb < 32 → 0x1100F000 ≤ f.addr → f.addr < 0x1100F008 → rd f t = rd f s

namespace KeepsTimes

variable {s t u : State}

theorem refl (s : State) : KeepsTimes s s := ⟨rfl, rfl, fun _ _ _ _ => rfl⟩

theorem trans (h : KeepsTimes s t) (k : KeepsTimes t u) : KeepsTimes s u := by
  obtain ⟨hclock, hsamp, hrd⟩ := h
  obtain ⟨kclock, ksamp, krd⟩ := k
  exact ⟨kclock.trans hclock, (congrArg (fun x : Samp => { x with chans := s.samp.chans }) ksamp).trans hsamp,
    fun f l a b => (krd f l a b).trans (hrd f l a b)⟩

theorem ite {p : Prop} [Decidable p] (h : KeepsTimes s t) (k : KeepsTimes s u) : KeepsTimes s (if p then t else u) := by
  split
  · exact h
  · exact k

theorem wr (h : KeepsTimes s t) {f : Fld} (hf : BesideTimes f) (v : Nat) : KeepsTimes s (wr f v t) :=
  h.trans ⟨rfl, rfl, fun _ l a b => rd_wr_addr v t hf.1 l (by rcases hf.2 with k | k <;> omega)⟩

theorem wrs (l : List (Fld × Nat)) (h : KeepsTimes s t) (hl : ∀ x ∈ l, BesideTimes x.1) : KeepsTimes s (wrs l t) := by
  induction l generalizing t with
  | nil => exact h
  | cons x l ih => exact ih (h.wr (hl x (by simp)) x.2) fun y hy => hl y (by simp [hy])

theorem setCh (h : KeepsTimes s t) (o c : Nat) (x : Chan) : KeepsTimes s (setCh o c x t) :=
  h.trans ⟨rfl, rfl, fun _ _ _ _ => rfl⟩

theorem modCh (h : KeepsTimes s t) (o c : Nat) (f : Chan → Chan) : KeepsTimes s (modCh o c f t) := h.setCh o c _

theorem nextFree (h : KeepsTimes s t) : KeepsTimes s (nextFree t) := h.trans ⟨rfl, rfl, fun _ _ _ _ => rfl⟩

theorem onlyChan (h : KeepsTimes s t) {o c : Nat} (ho : o ≤ 8) (hc : c < 14) (k : OnlyChan o c t u) : KeepsTimes s u := by
  obtain ⟨krest, ksamp, -, krd⟩ := k
  have kclock := congrArg State.clock krest
  refine h.trans ⟨kclock, ksamp, fun f l a b => krd f l (isQCount_above_queues (by omega)) ?_ ?_ (by omega)⟩
  · simp only [Fld.block]
    omega
  · simp only [OfChan]
    omega

theorem logOnly (h : KeepsTimes s t) (k : LogOnly t u) : KeepsTimes s u := by
  have ksamp := k.samp
  obtain ⟨krest, krd⟩ := k
  have kclock := congrArg State.clock krest
  refine h.trans ⟨kclock, by rw [ksamp], fun f l a b => ?_⟩
  refine krd f l (isQCount_above_queues (by omega)) ?_ ?_ <;> simp only [Fld.block] <;> omega

theorem queueOnly (h : KeepsTimes s t) (k : QueueOnly t u) : KeepsTimes s u := h.logOnly k.log

theorem recount (h : KeepsTimes s t) : KeepsTimes s (recount t) :=
  h.onlyChan (o := 0) (c := 0) (by decide) (by decide) (onlyChan_recount 0 0 t)

theorem changeDone (h : KeepsTimes s t) (o c n : Nat) : KeepsTimes s (changeDone o c n t) :=
  (h.modCh o c _).queueOnly (queueOnly_changeDone o c n t)

theorem forEach {α : Type} (l : List α) (f : α → State → State) (hf : ∀ a ∈ l, ∀ t, KeepsTimes t (f a t))
    (h : KeepsTimes s t) : KeepsTimes s (forEach l f t) := by
  induction l generalizing t with
  | nil => exact h
  | cons a l ih => exact ih (fun b hb => hf b (by simp [hb])) (h.trans (hf a (by simp) t))

end KeepsTimes

section
variable {o c : Nat} (ho : o ≤ 8) (hc : c < 14) (n : Nat) (s : State)
include ho hc

/-! ### What is due on a channel before a frame -/

theorem keepsTimes_doSpliceBlock : KeepsTimes s (doSpliceBlock o c s) := by
  have hc' : c < 18 := by omega
  unfold doSpliceBlock
  dsimp only
  have hratio : ∀ (p : Bool) v, KeepsTimes s (if p then wr (R.FLT_SPLR_R o c) v s else s) := fun p v =>
    .ite ((KeepsTimes.refl s).wr (besideTimes_chan ho hc' rfl) v) (.refl s)
  have hreject : ∀ (p q : Bool) v, KeepsTimes s
      (if q then incSat (R.FLT_SPLSTAT_REJ o c) (if p then wr (R.FLT_SPLR_R o c) v s else s)
        else if p then wr (R.FLT_SPLR_R o c) v s else s) := fun p q v =>
    .ite ((hratio p v).wr (besideTimes_chan ho hc' rfl) _) (hratio p v)
  refine KeepsTimes.ite (.refl s) ?_
  exact ((hreject _ _ _).setCh o c _).wr (besideTimes_chan ho hc' rfl) _

theorem keepsTimes_doRespSwitch : KeepsTimes s (doRespSwitch o c n s) := by
  have hc' : c < 18 := by omega
  have main : KeepsTimes s (shadowToMain o c s) := (KeepsTimes.refl s).onlyChan ho hc (keepsSetup_shadowToMain o c s).1
  have comp : KeepsTimes s (shadowToComp o c s) := (KeepsTimes.refl s).onlyChan ho hc (keepsSetup_shadowToComp o c s).1
  unfold doRespSwitch
  split
  case h_1 r _ =>
    have hsw : KeepsTimes s (modPaths o c (fun ch => { ch with sw := true }) (shadowToMain o c s)) :=
      main.onlyChan ho hc (keepsSetup_modPaths o c _ _).1
    exact .ite (.ite ((hsw.wr (besideTimes_chan ho hc' rfl) r).changeDone o c n) (hsw.modCh o c _)) (.refl s)
  case h_2 => exact .ite ((comp.wr (besideTimes_chan ho hc' rfl) 1).changeDone o c n) (.refl s)
  case h_3 => exact .ite comp (.refl s)

theorem keepsTimes_doXfadeEnd : KeepsTimes s (doXfadeEnd o c n s) := by
  have hc' : c < 18 := by omega
  unfold doXfadeEnd
  split
  · refine KeepsTimes.ite ?_ (.refl s)
    exact ((((KeepsTimes.refl s).onlyChan ho hc (keepsSetup_modPaths o c _ s).1).onlyChan ho hc
      (keepsSetup_setSlots o c _ _ _ _ _).1).wr (besideTimes_chan ho hc' rfl) _).changeDone o c n
  · exact .refl s

theorem keepsTimes_doRateSwitch : KeepsTimes s (doRateSwitch o c n s) := by
  have hc' : c < 18 := by omega
  unfold doRateSwitch
  split
  next k _ =>
    refine KeepsTimes.ite ?_ (.refl s)
    exact (((KeepsTimes.refl s).wr (besideTimes_chan ho hc' rfl) k).onlyChan ho hc
      (keepsSetup_modPaths o c _ _).1).changeDone o c n
  next => exact .refl s

theorem keepsTimes_wrDetcfg (v : Nat) : KeepsTimes s (wrDetcfg o c v s) := by
  have hc' : c < 18 := by omega
  refine KeepsTimes.wrs _ (.refl s) fun x hx => ?_
  simp only [List.mem_cons, List.not_mem_nil, or_false] at hx
  rcases hx with rfl | rfl | rfl | rfl | rfl | rfl | rfl | rfl | rfl <;> exact besideTimes_chan ho hc' rfl

theorem keepsTimes_setDisabled {chg : Change} {t : State} (h : setDisabled o c chg s = some t) : KeepsTimes s t := by
  have hc' : c < 18 := by omega
  unfold setDisabled at h
  split at h <;> cases h <;> exact (KeepsTimes.refl s).wr (besideTimes_chan ho hc' rfl) _

omit ho hc in
theorem keepsTimes_clearMeter : KeepsTimes s (clearMeter o c s) :=
  .ite ⟨rfl, rfl, fun _ _ _ _ => rfl⟩ (.ite (.refl s) ⟨rfl, rfl, fun _ _ _ _ => rfl⟩)

theorem keepsTimes_startSlots : KeepsTimes s (startSlots o c s) :=
  .ite ((KeepsTimes.refl s).onlyChan ho hc (keepsSetup_setSlots o c _ _ _ _ s).1)
    ((KeepsTimes.refl s).onlyChan ho hc (keepsSetup_setSlots o c _ _ _ _ s).1)

theorem keepsTimes_enableChan : KeepsTimes s (enableChan o c s) := by
  have hc' : c < 18 := by omega
  have hlow : c + 4 < 18 := by omega
  have cleared : KeepsTimes s (clearMeter o c (startPath o c s)) :=
    ((KeepsTimes.refl s).modCh o c _).trans (keepsTimes_clearMeter _)
  have marked : ∀ {j} (_ : j < 18) {t}, KeepsTimes s t → KeepsTimes s
      (wrs [(R.FLT_CHCFG_EN o j, 1), (R.FLT_CHSTAT_XFREM o j, 0), (R.FLT_CHSTAT_FLT o j, 0)] t) := fun hj _ h =>
    ((h.wr (besideTimes_chan ho hj rfl) 1).wr (besideTimes_chan ho hj rfl) 0).wr (besideTimes_chan ho hj rfl) 0
  have mirrored : KeepsTimes s (if isCurrent o c then
      wrs [(R.FLT_CHCFG_EN o (c + 4), 1), (R.FLT_CHSTAT_XFREM o (c + 4), 0), (R.FLT_CHSTAT_FLT o (c + 4), 0)]
        (startPath o (c + 4) (clearMeter o c (startPath o c s))) else clearMeter o c (startPath o c s)) :=
    .ite (marked hlow (cleared.modCh o (c + 4) _)) cleared
  have on := marked hc' (mirrored.trans (keepsTimes_startSlots ho hc _))
  unfold enableChan
  dsimp only
  refine KeepsTimes.recount (.ite (on.wrs _ fun x hx => ?_) on)
  simp only [List.mem_cons, List.not_mem_nil, or_false] at hx
  rcases hx with rfl | rfl | rfl | rfl <;> exact besideTimes_chan ho hc' rfl

theorem keepsTimes_disableChan : KeepsTimes s (disableChan o c s) := by
  have hlow : c + 4 < 18 := by omega
  have off : ∀ {j} (hj : j < 18) {t}, KeepsTimes s t →
      KeepsTimes s (wrs [(R.FLT_CHCFG_EN o j, 0), (R.FLT_CHSTAT_MODOVL o j, 0)] t) := fun hj _ h =>
    (h.wr (besideTimes_chan ho hj rfl) 0).wr (besideTimes_chan ho hj rfl) 0
  have hoff := off (j := c) (by omega) (.refl s)
  exact ((KeepsTimes.ite (off hlow hoff) hoff).onlyChan ho hc (keepsSetup_setSlots o c _ _ _ _ _).1).recount

theorem keepsTimes_doAtFrame : KeepsTimes s (doAtFrame o c n s) := by
  have hc' : c < 18 := by omega
  have hwr : ∀ {t} (_ : KeepsTimes s t) {f : Fld} (_ : BesideTimes f) v, KeepsTimes s (changeDone o c n (wr f v t)) :=
    fun h _ hf v => (h.wr hf v).changeDone o c n
  unfold doAtFrame
  split
  case h_1 => exact .ite (hwr (.refl s) (besideTimes_chan ho hc' rfl) _) (.refl s)
  case h_2 => exact hwr (.refl s) (besideTimes_chan ho hc' rfl) _
  case h_3 => exact hwr (keepsTimes_wrDetcfg ho hc s _) (besideTimes_chan ho hc' rfl) _
  case h_4 => exact (KeepsTimes.refl s).changeDone o c n
  case h_5 => exact (keepsTimes_enableChan ho hc s).changeDone o c n
  case h_6 => exact (keepsTimes_disableChan ho hc s).changeDone o c n
  case h_7 =>
    exact hwr ((KeepsTimes.refl s).onlyChan ho hc (keepsSetup_setSlots o c _ _ _ _ s).1) (besideTimes_chan ho hc' rfl) _
  case h_8 =>
    refine KeepsTimes.ite (.refl s) ?_
    split
    next h => exact (keepsTimes_setDisabled ho hc s h).changeDone o c n
    next => exact .refl s

theorem keepsTimes_doWindowEnd : KeepsTimes s (doWindowEnd o c n s) :=
  (KeepsTimes.refl s).onlyChan ho hc (leaves_doWindowEnd ho hc n s).1

theorem keepsTimes_doPresetSwitch : KeepsTimes s (doPresetSwitch o c n s) :=
  (KeepsTimes.refl s).onlyChan ho hc (leaves_doPresetSwitch ho hc n s).1

theorem keepsTimes_applyDue : KeepsTimes s (applyDue o c n s) :=
  (((((((keepsTimes_doWindowEnd ho hc _ s).trans (keepsTimes_doSpliceBlock ho hc _)).trans
    (keepsTimes_doXfadeEnd ho hc _ _)).trans (keepsTimes_doRespSwitch ho hc n _)).trans
    (keepsTimes_doRateSwitch ho hc n _)).trans (keepsTimes_doPresetSwitch ho hc n _)).trans (keepsTimes_doAtFrame ho hc n _))

/-! ### The instants up to a frame -/

theorem keepsTimes_feedChan (upto : Nat) (codes : List (BitVec 3)) : KeepsTimes s (feedChan o c upto codes s) :=
  (KeepsTimes.refl s).onlyChan ho hc (keepsSetup_feedChan o c upto codes s).1

theorem keepsTimes_doFastSwitch : KeepsTimes s (doFastSwitch n (o, c) s) :=
  (KeepsTimes.refl s).onlyChan ho hc (leaves_doFastSwitch ho hc n s).1

theorem keepsTimes_feedSub {k : Nat} (hk : k < 4) (codes : List (BitVec 3)) :
    KeepsTimes s (feedSub n (o, c) k (s, codes)).1 := by
  unfold feedSub
  dsimp only
  split
  · exact .refl s
  · exact (keepsTimes_feedChan ho hc s _ _).onlyChan ho hc (leaves_subDone ho hc n hk _).1

end

theorem allChans_lt : ∀ oc ∈ allChans, oc.1 ≤ 8 ∧ oc.2 < 14 := by decide

theorem privChans_lt : ∀ oc ∈ privChans, oc.1 ≤ 8 ∧ oc.2 < 14 := by decide

namespace KeepsTimes

variable {s t : State}

theorem allChans (f : Nat × Nat → State → State) (hf : ∀ {o c}, o ≤ 8 → c < 14 → ∀ t, KeepsTimes t (f (o, c) t))
    (h : KeepsTimes s t) : KeepsTimes s (Machine.forEach allChans f t) :=
  h.forEach _ f fun oc hoc => hf (allChans_lt oc hoc).1 (allChans_lt oc hoc).2

theorem privChans (f : Nat × Nat → State → State) (hf : ∀ {o c}, o ≤ 8 → c < 14 → ∀ t, KeepsTimes t (f (o, c) t))
    (h : KeepsTimes s t) : KeepsTimes s (Machine.forEach privChans f t) :=
  h.forEach _ f fun oc hoc => hf (privChans_lt oc hoc).1 (privChans_lt oc hoc).2

end KeepsTimes

theorem keepsTimes_feedFrame (n : Nat) (codes : List (List (BitVec 3))) (s : State) : KeepsTimes s (feedFrame n codes s) := by
  unfold feedFrame
  dsimp only
  refine KeepsTimes.privChans _ (fun ho hc t => keepsTimes_doFastSwitch ho hc n t) ?_
  refine KeepsTimes.allChans _ (fun ho hc t => keepsTimes_feedChan ho hc t _ _) ?_
  refine KeepsTimes.privChans _ (fun ho hc t => keepsTimes_doWindowEnd ho hc _ t) ?_
  refine KeepsTimes.forEach _ _ (fun k hk t => ?_) (.refl s)
  have hk4 : k < 4 := by
    simp only [List.mem_cons, List.not_mem_nil, or_false] at hk
    omega
  exact KeepsTimes.privChans _ (fun ho hc t => keepsTimes_feedSub ho hc _ t hk4 _) (.refl t)

/-! ### The samples of a frame -/

section
variable {o c : Nat} (ho : o ≤ 8) (hc : c < 14) (n : Nat) (s : State)
include ho hc

theorem keepsTimes_deliver (y : Int) (stat phase : Nat) : KeepsTimes s (deliver o c y stat phase s) :=
  (KeepsTimes.refl s).onlyChan ho hc (leaves_deliver ho hc y stat phase s).1

theorem keepsTimes_deliverPath (w : Nat) (y : Int) : KeepsTimes s (deliverPath o c w y 0 s) :=
  (KeepsTimes.refl s).onlyChan ho hc (leaves_deliverPath ho hc w y (by decide) s).1.1

omit ho hc in
theorem keepsTimes_runTails (x : Int) : KeepsTimes s (runTails o c n x s).1 := (KeepsTimes.refl s).setCh o c _

omit ho hc in
theorem keepsTimes_keepSat : KeepsTimes s (keepSat o c s) := (KeepsTimes.refl s).modCh o c _

theorem keepsTimes_zcFeed : KeepsTimes s (zcFeed o c n s) := by
  have hc' : c < 18 := by omega
  unfold zcFeed
  dsimp only
  refine KeepsTimes.ite (KeepsTimes.wrs _ ?_ fun x hx => ?_) ((KeepsTimes.refl s).setCh o c _)
  · exact (KeepsTimes.ite (KeepsTimes.refl s).nextFree (.refl s)).setCh o c _
  · simp only [List.mem_cons, List.not_mem_nil, or_false] at hx
    rcases hx with rfl | rfl <;> exact besideTimes_chan ho hc' rfl

theorem keepsTimes_frameVoltage : KeepsTimes s (frameVoltage o c n s) := by
  have tails := keepsTimes_runTails (o := o) (c := c) n s (getCh o c s).main
  unfold frameVoltage
  dsimp only
  split
  · exact tails.trans (keepsTimes_deliverPath ho hc _ _ _)
  · exact tails

omit ho hc in
theorem keepsTimes_lessOffset (x : Int) (ofs : Nat) : KeepsTimes s (lessOffset x ofs s).2 := by
  unfold lessOffset
  dsimp only
  split
  · exact .refl s
  · exact (KeepsTimes.refl s).nextFree

theorem keepsTimes_spliceFrame : KeepsTimes s (spliceFrame o c s).1 := by
  have hc' : c < 18 := by omega
  have offs := (keepsTimes_lessOffset s (getCh o c s).main (rd (R.FLT_SPLOFSH_OFS o c) s)).trans
    (keepsTimes_lessOffset _ (getCh o (c + 4) s).main (rd (R.FLT_SPLOFSL_OFS o c) s))
  have spliced : ∀ (x : Chan) (range q : Nat), KeepsTimes s
      (wrs [(R.FLT_SPLSTAT_RANGE o c, range), (R.FLT_SPLSTAT_QCNT o c, q)] (setCh o c x
        (lessOffset (getCh o (c + 4) s).main (rd (R.FLT_SPLOFSL_OFS o c) s)
          (lessOffset (getCh o c s).main (rd (R.FLT_SPLOFSH_OFS o c) s) s).2).2)) := fun x range q =>
    ((offs.setCh o c x).wr (besideTimes_chan ho hc' rfl) range).wr (besideTimes_chan ho hc' rfl) q
  exact .ite ((spliced _ _ _).wr (besideTimes_chan ho hc' rfl) _) (spliced _ _ _)

theorem keepsTimes_frameCurrent : KeepsTimes s (frameCurrent o c n s) := by
  have tails := (keepsTimes_spliceFrame ho hc s).trans
    (keepsTimes_runTails (o := o) (c := c) n (spliceFrame o c s).1 (spliceFrame o c s).2.1)
  unfold frameCurrent
  dsimp only
  split
  · exact tails.trans (keepsTimes_deliver ho hc _ _ _ _)
  · exact tails

theorem keepsTimes_frameLow : KeepsTimes s (frameLow o c n s) := by
  have hc' : c < 18 := by omega
  have tails := keepsTimes_runTails (o := o) (c := c) n s (getCh o c s).main
  unfold frameLow
  dsimp only
  refine KeepsTimes.ite ?_ ((tails.wr (besideTimes_chan ho hc' rfl) _).modCh o c _)
  split
  · exact tails.trans (keepsTimes_deliverPath ho hc _ _ _)
  · exact tails

theorem keepsTimes_framePriv : KeepsTimes s (framePriv o c n s) := by
  have tails := fun x => keepsTimes_runTails (o := o) (c := c) n s x
  have ran : ∀ (p q : Bool) x y, KeepsTimes s
      (if p then (if q then runTails o c n x s else (s, [])) else runTails o c n y s).1 := by
    intro p q x y
    cases p
    · exact tails y
    · cases q
      · exact .refl s
      · exact tails x
  unfold framePriv
  dsimp only
  split
  · exact ((ran _ _ _ _).modCh o c _).trans (keepsTimes_deliverPath ho hc _ _ _)
  · exact (ran _ _ _ _).modCh o c _

theorem keepsTimes_frameChan : KeepsTimes s (frameChan n (o, c) s) := by
  have begun : KeepsTimes s (modCh o c (fun ch => { ch with got := false, zc := false, fed := 0 }) s) :=
    (KeepsTimes.refl s).modCh o c _
  have voltage := begun.trans (keepsTimes_frameVoltage ho hc n _)
  refine KeepsTimes.ite begun (.ite ?_ (.ite ?_ (.ite ?_ ?_)))
  · exact .ite (voltage.trans (keepsTimes_zcFeed ho hc n _)) (voltage.trans (keepsTimes_keepSat _))
  · exact begun.trans ((keepsTimes_frameCurrent ho hc n _).trans (keepsTimes_keepSat _))
  · exact begun.trans ((keepsTimes_frameLow ho hc n _).trans (keepsTimes_keepSat _))
  · exact begun.trans ((keepsTimes_framePriv ho hc n _).trans (keepsTimes_keepSat _))

omit hc in
theorem keepsTimes_pushStream (ms : List Msg) : KeepsTimes s (forEach (streamQs o c) (fun q s => forEach ms (pushQ q o) s) s) :=
  (KeepsTimes.refl s).queueOnly (queueOnly_pushStream ho c ms s)

omit hc in
theorem keepsTimes_frame90 : KeepsTimes s (frame90 (o, c) s) := by
  have begun := (KeepsTimes.refl s).modCh o c (fun ch => { ch with sat90 := false, missed90 := false })
  have faded := begun.modCh o c (fun ch => { ch with sw90 := false })
  have sent : ∀ m t, QueueOnly t (forEach (streamQs o c) (fun q => pushQ q o m) t) := fun m t =>
    QueueOnly.forEach _ _ (fun q hq t => queueOnly_pushQ (streamQs_lt ho c q hq) o m t) t
  exact .ite (faded.queueOnly (sent _ _)) begun

theorem keepsTimes_endWindow : KeepsTimes s (endWindow o c n s) :=
  ((KeepsTimes.refl s).onlyChan ho hc (onlyChan_windowResults o c n s)).queueOnly (endWindow_reports o c n ho s)

theorem keepsTimes_detFrame : KeepsTimes s (detFrame n (o, c) s) := by
  have ended : ∀ b, KeepsTimes s (whenS b (endWindow o c n) s) := fun b => .ite (keepsTimes_endWindow ho hc n s) (.refl s)
  have fed : ∀ t, KeepsTimes t (detFeed o c n t).1 := fun t => (KeepsTimes.refl t).setCh o c _
  have given : ∀ b, KeepsTimes s (if windowComplete o c (detFeed o c n (whenS b (endWindow o c n) s)).1
      then endWindow o c n (detFeed o c n (whenS b (endWindow o c n) s)).1
      else (detFeed o c n (whenS b (endWindow o c n) s)).1) := fun b =>
    (ended b).trans (.ite ((fed _).trans (keepsTimes_endWindow ho hc n _)) (fed _))
  exact .ite (ended _) ((given _).trans (keepsTimes_pushStream ho _ _))

theorem keepsTimes_testFrame : KeepsTimes s (testFrame (o, c) s) := by
  have counted := (KeepsTimes.refl s).modCh o c (fun ch => { ch with testLeft := ch.testLeft - 1 })
  exact .ite (.refl s) (.ite counted (counted.onlyChan ho hc (keepsSetup_modPaths o c _ _).1))

theorem keepsTimes_countXfade : KeepsTimes s (countXfade (o, c) s) :=
  .ite ((KeepsTimes.refl s).onlyChan ho hc (keepsSetup_setXfrem o c _ s).1) (.refl s)

end

theorem keepsTimes_enterFrame (ms : List Msg) (s : State) : KeepsTimes s (enterFrame ms s) := by
  have push : ∀ {q}, q < 128 → ∀ o t, KeepsTimes t (forEach ms (pushQ q o) t) := fun hq o t =>
    (KeepsTimes.refl t).queueOnly (QueueOnly.forEach _ _ (fun m _ t => queueOnly_pushQ hq o m t) t)
  have supply : ∀ t, KeepsTimes t (forEach [48, 49] (fun q t => forEach ms (pushQ q 8) t) t) := fun t => by
    refine KeepsTimes.forEach _ _ (fun q hq t => push ?_ 8 t) (.refl t)
    simp only [List.mem_cons, List.not_mem_nil, or_false] at hq
    omega
  have outlet : ∀ o ∈ outlets, ∀ (p : Bool) (q : State → Bool) t, KeepsTimes t
      (let u := if p then forEach ms (pushQ (32 + o) o) t else t
       if q u then forEach ms (pushQ (40 + o) o) u else u) := fun o ho p q t => by
    have ho8 : o < 8 := by
      simp only [outlets, List.mem_cons, List.not_mem_nil, or_false] at ho
      omega
    have first : KeepsTimes t (if p then forEach ms (pushQ (32 + o) o) t else t) := .ite (push (by omega) o t) (.refl t)
    exact .ite (first.trans (push (by omega) o _)) first
  unfold enterFrame
  extract_lets en t
  have served : KeepsTimes s t :=
    (KeepsTimes.refl s).forEach outlets _ fun o ho t => outlet o ho (en o (List.range 12) t) (en o [12, 13]) t
  exact .ite (served.trans (supply t)) served

/-- R109: one stage's monitor. -/
theorem keepsTimes_slackStage {st : Nat} (hst : st < 11) (v : Nat) (s : State) : KeepsTimes s
    (let t := nextFree (wr (R.QM_SLKMIN_MIN st) (min (rd (R.QM_SLKMIN_MIN st) s) v) s)
     if v < 128 then logSlack (incSat (R.QM_SLKLOW_COUNT st) t) else t) := by
  have least : ∀ v, KeepsTimes s (nextFree (wr (R.QM_SLKMIN_MIN st) v s)) := fun v =>
    ((KeepsTimes.refl s).wr ⟨Nat.le_of_ble_eq_true rfl, .inl (by simp only [R.QM_SLKMIN_MIN]; omega)⟩ v).nextFree
  refine KeepsTimes.ite (KeepsTimes.logOnly ?_ (logOnly_logSlack _)) (least _)
  exact (least _).wr ⟨Nat.le_of_ble_eq_true rfl, .inl (by simp only [R.QM_SLKLOW_COUNT]; omega)⟩ _

theorem keepsTimes_slackPeriod (s : State) : KeepsTimes s (slackPeriod s) := by
  unfold slackPeriod
  refine KeepsTimes.forEach _ _ (fun st hst t => ?_) (.refl s)
  exact keepsTimes_slackStage (List.mem_range.1 hst) _ t

/-! ### The frame's own times -/

/-- What is due before frame `n`, and the instants up to it. -/
def beforeFrame (n : Nat) (codes : List (List (BitVec 3))) (s : State) : State :=
  feedFrame n codes (forEach allChans (fun oc => applyDue oc.1 oc.2 n) s)

theorem keepsTimes_beforeFrame (n : Nat) (codes : List (List (BitVec 3))) (s : State) :
    KeepsTimes s (beforeFrame n codes s) := by
  have due : KeepsTimes s (forEach allChans (fun oc => applyDue oc.1 oc.2 n) s) :=
    KeepsTimes.allChans _ (fun ho hc t => keepsTimes_applyDue ho hc n t) (.refl s)
  exact due.trans (keepsTimes_feedFrame n codes _)

/-- R145: a period out of range is logged. -/
def logPeriod (n : Nat) (bad : Option Nat) (s : State) : State :=
  match bad with
  | some v => logEvent 0x10 0x22 15 [n, min v (2 ^ 32 - 1)] s
  | none => s

theorem keepsTimes_logPeriod (n : Nat) (bad : Option Nat) (s : State) : KeepsTimes s (logPeriod n bad s) := by
  cases bad with
  | some v => exact (KeepsTimes.refl s).logOnly (logOnly_logEvent _ (by decide) _ _ s)
  | none => exact .refl s

/-- R143, R145: index and period of frame `n` stand, and its stamp is the next frame's last. -/
def stamped (n p : Nat) (fl : Bool) (s : State) : State :=
  let t := wrs [(R.FLT_IDX_N, n), (R.FLT_PERIOD_P, p), (R.FLT_PERIOD_FLAG, b2n fl)] s
  { t with samp := { t.samp with started := true, lastF := t.clock / 2 ^ 34, fresh := false, stepped := false } }

theorem rd_stamped (n p : Nat) (fl : Bool) (s : State) (f : Fld) : rd f (stamped n p fl s) =
    rd f (wr R.FLT_PERIOD_FLAG (b2n fl) (wr R.FLT_PERIOD_P p (wr R.FLT_IDX_N n s))) := by
  unfold stamped
  dsimp only
  generalize b2n fl = v
  generalize s.clock / 2 ^ 34 = w
  unfold rd
  rfl

theorem stamped_samp (n p : Nat) (fl : Bool) (s : State) :
    (stamped n p fl s).samp.started = true ∧ (stamped n p fl s).samp.lastF = s.clock / 2 ^ 34 := by
  obtain ⟨r, hr⟩ := wrs_regs [(R.FLT_IDX_N, n), (R.FLT_PERIOD_P, p), (R.FLT_PERIOD_FLAG, b2n fl)] s
  unfold stamped
  rw [hr]
  exact ⟨rfl, rfl⟩

/-- What the index and the period read then. -/
theorem stamped_times (n p : Nat) (fl : Bool) (s : State) :
    rd R.FLT_IDX_N (stamped n p fl s) = n % 2 ^ 24 ∧ rd R.FLT_PERIOD_P (stamped n p fl s) = p % 2 ^ 23 ∧
      rd R.FLT_PERIOD_FLAG (stamped n p fl s) = b2n fl % 2 ^ 1 := by
  refine ⟨?_, ?_, ?_⟩
  · rw [rd_stamped, rd_wr_ne _ _ (by decide), rd_wr_ne _ _ (by decide), rd_wr_same, R.FLT_IDX_N]
  · rw [rd_stamped, rd_wr_ne _ _ (by decide), rd_wr_same, R.FLT_PERIOD_P]
  · rw [rd_stamped, rd_wr_same, R.FLT_PERIOD_FLAG]

/-- The messages and samples of frame `n`. -/
def duringFrame (n : Nat) (ms : List Msg) (s : State) : State :=
  slackPeriod (forEach allChans testFrame (forEach allChans countXfade (forEach allChans (detFrame n)
    (forEach allChans frame90 (forEach allChans (frameChan n) (enterFrame ms s))))))

theorem keepsTimes_duringFrame (n : Nat) (ms : List Msg) (s : State) : KeepsTimes s (duringFrame n ms s) := by
  unfold duringFrame
  refine KeepsTimes.trans ?_ (keepsTimes_slackPeriod _)
  refine KeepsTimes.allChans _ (fun ho hc t => keepsTimes_testFrame ho hc t) ?_
  refine KeepsTimes.allChans _ (fun ho hc t => keepsTimes_countXfade ho hc t) ?_
  refine KeepsTimes.allChans _ (fun ho hc t => keepsTimes_detFrame ho hc n t) ?_
  refine KeepsTimes.allChans _ (fun ho _ t => keepsTimes_frame90 ho t) ?_
  exact KeepsTimes.allChans _ (fun ho hc t => keepsTimes_frameChan ho hc n t) (keepsTimes_enterFrame ms s)

theorem KeepsTimes.samp {s t : State} (h : KeepsTimes s t) : t.samp.started = s.samp.started ∧
    t.samp.lastF = s.samp.lastF ∧ t.samp.fresh = s.samp.fresh ∧ t.samp.stepped = s.samp.stepped := by
  obtain ⟨-, hsamp, -⟩ := h
  have hstarted := congrArg Samp.started hsamp
  have hlast := congrArg Samp.lastF hsamp
  have hfresh := congrArg Samp.fresh hsamp
  have hstepped := congrArg Samp.stepped hsamp
  exact ⟨hstarted, hlast, hfresh, hstepped⟩

theorem KeepsTimes.framePeriod {s t : State} (h : KeepsTimes s t) : framePeriod t = framePeriod s := by
  obtain ⟨-, hlast, hfresh, hstepped⟩ := h.samp
  simp only [Machine.framePeriod, h.1, hlast, hfresh, hstepped]

/-- R143 to R146: a frame is stamped once, and all else that it does leaves the times. -/
theorem frameStep_stamped (codes : List (List (BitVec 3))) {s : State} (h : pdOn 4 s = true) :
    ∃ t, KeepsTimes s t ∧
      KeepsTimes (stamped (nextIdx s) (framePeriod s).1 (framePeriod s).2.1 t) (frameStep codes s) := by
  unfold frameStep
  extract_lets n t1 t2
  rw [if_neg (by rw [h]; decide)]
  have before : KeepsTimes s t2 := keepsTimes_beforeFrame n codes s
  clear_value t2
  rw [← before.framePeriod]
  obtain ⟨p, fl, bad⟩ := framePeriod t2
  refine ⟨logPeriod n bad t2, before.trans (keepsTimes_logPeriod n bad t2), ?_⟩
  exact keepsTimes_duringFrame n _ _

theorem frameStep_times (codes : List (List (BitVec 3))) {s : State} (h : pdOn 4 s = true) :
    rd R.FLT_IDX_N (frameStep codes s) = nextIdx s % 2 ^ 24 ∧
      rd R.FLT_PERIOD_P (frameStep codes s) = (framePeriod s).1 % 2 ^ 23 ∧
      rd R.FLT_PERIOD_FLAG (frameStep codes s) = b2n (framePeriod s).2.1 % 2 ^ 1 ∧
      (frameStep codes s).samp.started = true ∧ (frameStep codes s).samp.lastF = s.clock / 2 ^ 34 := by
  obtain ⟨t, before, during⟩ := frameStep_stamped codes h
  obtain ⟨hidx, hp, hflag⟩ := stamped_times (nextIdx s) (framePeriod s).1 (framePeriod s).2.1 t
  obtain ⟨hstarted, hlast⟩ := stamped_samp (nextIdx s) (framePeriod s).1 (framePeriod s).2.1 t
  obtain ⟨kstarted, klast, -, -⟩ := during.samp
  obtain ⟨-, -, krd⟩ := during
  rw [before.1] at hlast
  exact ⟨(krd _ (by decide) (by decide) (by decide)).trans hidx, (krd _ (by decide) (by decide) (by decide)).trans hp,
    (krd _ (by decide) (by decide) (by decide)).trans hflag, kstarted.trans hstarted, klast.trans hlast⟩

/-- R145, R146: the period telescopes, or is 8,000,000 with FLAG 1. -/
theorem framePeriod_cases (s : State) :
    let p := s.clock / 2 ^ 34 - s.samp.lastF
    if s.samp.fresh || s.samp.stepped || decide (p < 7600000) || decide (8388607 < p) then
      (framePeriod s).1 = 8000000 ∧ (framePeriod s).2.1 = true
    else (framePeriod s).1 = p ∧ (framePeriod s).2.1 = false ∧ p < 2 ^ 23 := by
  dsimp only
  unfold framePeriod
  generalize s.clock / 2 ^ 34 - s.samp.lastF = p
  cases hstart : s.samp.fresh || s.samp.stepped
  · by_cases hrange : p < 7600000 ∨ 8388607 < p
    · simp [hrange]
    · simp [hrange]
      omega
  · simp

theorem frame_times {codes : List (List (BitVec 3))} {s : State} (h : pdOn 4 s = true) :
    rd R.FLT_IDX_N (frameStep codes s) = (if s.samp.started then (rd R.FLT_IDX_N s + 1) % 2 ^ 24 else 0) ∧
      (frameStep codes s).samp.started = true ∧ (frameStep codes s).samp.lastF = s.clock / 2 ^ 34 ∧
      (let p := s.clock / 2 ^ 34 - s.samp.lastF
       if s.samp.fresh || s.samp.stepped || decide (p < 7600000) || decide (8388607 < p) then
         rd R.FLT_PERIOD_P (frameStep codes s) = 8000000 ∧ rd R.FLT_PERIOD_FLAG (frameStep codes s) = 1
       else rd R.FLT_PERIOD_P (frameStep codes s) = p ∧ rd R.FLT_PERIOD_FLAG (frameStep codes s) = 0) := by
  obtain ⟨hidx, hp, hflag, hstarted, hlast⟩ := frameStep_times codes h
  have hnext : nextIdx s < 2 ^ 24 := by
    unfold nextIdx
    split <;> omega
  have hcases := framePeriod_cases s
  rw [Nat.mod_eq_of_lt hnext] at hidx
  refine ⟨hidx, hstarted, hlast, ?_⟩
  dsimp only at hcases ⊢
  rw [hp, hflag]
  split at hcases
  next hb =>
    obtain ⟨hperiod, hset⟩ := hcases
    rw [if_pos hb, hperiod, hset]
    exact ⟨rfl, rfl⟩
  next hb =>
    obtain ⟨hperiod, hset, hlt⟩ := hcases
    rw [if_neg hb, hperiod, hset]
    exact ⟨Nat.mod_eq_of_lt hlt, rfl⟩

/-- R146: while PD4 is off only the index counts. -/
theorem frameStep_off {codes : List (List (BitVec 3))} {s : State} (h : pdOn 4 s = false) :
    frameStep codes s = if s.samp.started then wr R.FLT_IDX_N ((rd R.FLT_IDX_N s + 1) % 2 ^ 24) s else s := by
  unfold frameStep
  extract_lets n t1 t2
  rw [if_pos (by rw [h]; decide)]
  by_cases hs : s.samp.started = true
  · rw [if_pos hs, if_pos hs]
    simp only [n, nextIdx, if_pos hs]
  · rw [if_neg hs, if_neg hs]

end Sys2Proof.Machine

namespace Sys2Proof
open Sys2Proof.Machine

/-- Settles O30: what comes before a frame's stamp, and what comes after it, leaves the index, the period and the last
stamp as they are (`KeepsTimes`). -/
theorem framesAreNumberedAndTimed : Obligations.FramesAreNumberedAndTimed := by
  unfold Obligations.FramesAreNumberedAndTimed
  intro codes s
  have hexec : exec (.frame codes) s = execFrame codes s := rfl
  rw [hexec]
  unfold execFrame
  extract_lets was u w v
  exact ⟨u, v, rfl, rfl, frameStep_off, frame_times⟩

end Sys2Proof
end

section
/-!
O35: what a frame adds to buckets and residues, and what a commit moves into the registers (R169, R172, R173, R176).
-/
namespace Sys2Proof.Machine
open Sys2Proof.Claims

/-! ### The narrowing of an energy (R172) -/

/-- Quotient and residue make up the value and the residue before. -/
theorem carryTo_exact (k : Nat) (z : Int) (res : Nat) : (carryTo k z res).1 * 2 ^ k + (carryTo k z res).2 = z + res := by
  have hpos : (0 : Int) < 2 ^ k := by positivity
  have hres : ((((z + res) % 2 ^ k).toNat : Nat) : Int) = (z + res) % 2 ^ k := Int.toNat_of_nonneg (Int.emod_nonneg _ hpos.ne')
  show (z + res) / 2 ^ k * 2 ^ k + (((z + res) % 2 ^ k).toNat : Nat) = z + res
  rw [hres, mul_comm]
  exact Int.mul_ediv_add_emod _ _

theorem carryTo_residue_lt (k : Nat) (z : Int) (res : Nat) : (carryTo k z res).2 < 2 ^ k := by
  have hpos : (0 : Int) < 2 ^ k := by positivity
  have hlt : (z + res) % 2 ^ k < ((2 ^ k : Nat) : Int) := by
    push_cast
    exact Int.emod_lt_of_pos _ hpos
  exact (Int.toNat_lt (Int.emod_nonneg _ hpos.ne')).2 hlt

/-! ### A frame (R169, R173) -/

/-- The energy of one phase value in a frame; none where the no-load test leaves the phase out. -/
def phaseEnergy (p ke : Nat) (e : Int × Bool) : Int := if e.2 then 0 else e.1 * p * ke

/-- The phases left out contribute nothing to the sum. -/
theorem sum_phaseEnergy (p ke : Nat) (l : List Int) (noload : List Bool) :
    ((l.zip noload).map (phaseEnergy p ke)).sum = (metered l noload).sum * p * ke := by
  unfold metered
  induction l.zip noload with
  | nil => simp
  | cons e es ih =>
    obtain ⟨x, out⟩ := e
    cases out <;> simp [phaseEnergy, ih, add_mul]

theorem sum_modify_head (b0 x : Int) (bs : List Int) : ((b0 :: bs).modify 0 (· + x)).sum = (b0 :: bs).sum + x := by
  simp only [List.modify_zero_cons, List.sum_cons]
  omega

/-- SIGNED: the whole active energy goes to the first bucket and the fourth residue. -/
theorem bucketFrame_signed {ke p : Nat} {fv : FrameVals} {m : Meter} {b0 : Int} {bs : List Int} {r0 r1 r2 r3 : Nat} (hb : m.b = b0 :: bs)
    (hres : m.resA = [r0, r1, r2, r3]) :
    let m' := bucketFrame false ke p fv m
    m'.b.sum * 2 ^ 131 + m'.resA.getD 3 0 = m.b.sum * 2 ^ 131 + r3 + (metered fv.p m.noload).sum * p * ke ∧
    m'.bq * 2 ^ 131 + m'.resQ = m.bq * 2 ^ 131 + m.resQ + (metered fv.q m.noload).sum * p * ke ∧
    m'.resA.take 3 = [r0, r1, r2] ∧ m'.resA.getD 3 0 < 2 ^ 131 ∧ m'.resQ < 2 ^ 131 ∧ m'.regs = m.regs := by
  intro m'
  obtain ⟨a, ha, hb', hres'⟩ : ∃ a, a = carryTo 131 ((metered fv.p m.noload).sum * p * ke) r3 ∧
      m'.b.sum = m.b.sum + a.1 ∧ m'.resA = [r0, r1, r2, a.2] := by
    refine ⟨_, rfl, ?_, ?_⟩
    · rw [← sum_phaseEnergy, hb, ← sum_modify_head, ← hb]
      show (m.b.modify 0 (· + (carryTo 131 _ (m.resA.getD 3 0)).1)).sum = _
      rw [hres]
      rfl
    · rw [← sum_phaseEnergy]
      show m.resA.set 3 (carryTo 131 _ (m.resA.getD 3 0)).2 = _
      rw [hres]
      rfl
  obtain ⟨q, hq, hbq, hresq⟩ : ∃ q, q = carryTo 131 ((metered fv.q m.noload).sum * p * ke) m.resQ ∧
      m'.bq = m.bq + q.1 ∧ m'.resQ = q.2 := by
    refine ⟨_, rfl, ?_, ?_⟩ <;> rw [← sum_phaseEnergy] <;> rfl
  have hexactA := carryTo_exact 131 ((metered fv.p m.noload).sum * p * ke) r3
  have hexactQ := carryTo_exact 131 ((metered fv.q m.noload).sum * p * ke) m.resQ
  rw [← ha] at hexactA
  rw [← hq] at hexactQ
  rw [hb', hres', hbq, hresq]
  refine ⟨?_, ?_, rfl, ?_, ?_, rfl⟩
  · simp only [List.getD_cons_succ, List.getD_cons_zero]
    linarith
  · linarith
  · rw [ha]
    exact carryTo_residue_lt _ _ _
  · rw [hq]
    exact carryTo_residue_lt _ _ _

/-- ABSOLUTE: each phase has a bucket and a residue of its own. -/
theorem bucketFrame_absolute {ke p : Nat} {fv : FrameVals} {m : Meter} {b0 b1 b2 : Int} {r0 r1 r2 r3 : Nat} {n0 n1 n2 : Bool}
    {p0 p1 p2 : Int} (hb : m.b = [b0, b1, b2]) (hres : m.resA = [r0, r1, r2, r3]) (hn : m.noload = [n0, n1, n2])
    (hp : fv.p = [p0, p1, p2]) :
    let c0 := carryTo 131 (phaseEnergy p ke (p0, n0)) r0
    let c1 := carryTo 131 (phaseEnergy p ke (p1, n1)) r1
    let c2 := carryTo 131 (phaseEnergy p ke (p2, n2)) r2
    (bucketFrame true ke p fv m).b = [b0 + c0.1, b1 + c1.1, b2 + c2.1] ∧
      (bucketFrame true ke p fv m).resA = [c0.2, c1.2, c2.2, r3] ∧ (bucketFrame true ke p fv m).regs = m.regs := by
  unfold bucketFrame
  rw [hb, hres, hn, hp]
  exact ⟨rfl, rfl, rfl⟩

/-! ### A commit (R171 to R176) -/

/-- A 96-bit value and the number it is made of agree modulo 2^96. -/
theorem toU_emod (w : Nat) (v : Int) : (toU w v : Int) % 2 ^ w = v % 2 ^ w := by
  rw [toU, ← Int.emod_emod_of_dvd v (dvd_refl _)]
  simp [BitVec.toNat_ofInt, Int.emod_nonneg]

theorem length_add96 (i : Nat) (v : Int) (rs : List Nat) : (add96 i v rs).length = rs.length := List.length_modify _ _ _

theorem getD_add96_ne {i j : Nat} (h : i ≠ j) (v : Int) (rs : List Nat) : (add96 i v rs).getD j 0 = rs.getD j 0 := by
  simp [add96, List.getD_eq_getElem?_getD, h]

theorem getD_add96_same {i : Nat} {rs : List Nat} (h : i < rs.length) (v : Int) :
    (add96 i v rs).getD i 0 = toU 96 (rs.getD i 0 + v) := by
  simp [add96, List.getD_eq_getElem?_getD, h]

/-- The active registers after a commit: A+ alone in ABSOLUTE, A+ or A− and NET in SIGNED. -/
def commitActive (abs : Bool) (m : Meter) : List Nat :=
  if abs then add96 0 ((m.b.map fun x => (x.natAbs : Int)).sum) m.regs
  else if 0 ≤ m.b.sum then add96 7 m.b.sum (add96 0 m.b.sum m.regs) else add96 7 m.b.sum (add96 1 (-m.b.sum) m.regs)

/-- The quadrant register that takes the reactive energy of a commit (R173). -/
def commitQuadrant (m : Meter) : Nat :=
  if 0 ≤ m.b.sum then (if 0 ≤ m.bq then 2 else 5) else (if 0 ≤ m.bq then 3 else 4)

/-- A commit writes the active registers, one quadrant register unless DC, and the apparent register. -/
theorem commitMeter_regs (ty ke iref noload : Nat) (abs forced : Bool) (m : Meter) :
    ∃ v, (commitMeter ty abs ke iref noload forced m).regs = add96 6 v
      (if ty = 3 then commitActive abs m else add96 (commitQuadrant m) m.bq.natAbs (commitActive abs m)) := by
  unfold commitMeter
  dsimp only
  split
  · exact ⟨_, rfl⟩
  · exact ⟨_, rfl⟩

theorem commitQuadrant_mem (m : Meter) : commitQuadrant m ∈ [2, 3, 4, 5] := by
  unfold commitQuadrant
  split_ifs <;> decide

theorem length_commitActive (abs : Bool) (m : Meter) : (commitActive abs m).length = m.regs.length := by
  unfold commitActive
  split_ifs <;> simp only [length_add96]

/-- Only the registers of R172 are the active energy's. -/
theorem getD_commitActive {abs : Bool} {m : Meter} {j : Nat} (h0 : j ≠ 0) (h1 : j ≠ 1) (h7 : j ≠ 7) :
    (commitActive abs m).getD j 0 = m.regs.getD j 0 := by
  unfold commitActive
  split_ifs <;> simp only [getD_add96_ne h0.symm, getD_add96_ne h1.symm, getD_add96_ne h7.symm]

section
variable (ty ke iref noload : Nat) (abs forced : Bool) (m : Meter)

theorem length_commitMeter : (commitMeter ty abs ke iref noload forced m).regs.length = m.regs.length := by
  obtain ⟨v, hv⟩ := commitMeter_regs ty ke iref noload abs forced m
  rw [hv, length_add96]
  split <;> simp only [length_add96, length_commitActive]

/-- The active registers are not those of the reactive and the apparent energy. -/
theorem getD_commitMeter_active {j : Nat} (h : j = 0 ∨ j = 1 ∨ j = 7) :
    (commitMeter ty abs ke iref noload forced m).regs.getD j 0 = (commitActive abs m).getD j 0 := by
  obtain ⟨v, hv⟩ := commitMeter_regs ty ke iref noload abs forced m
  have hq := commitQuadrant_mem m
  simp only [List.mem_cons, List.not_mem_nil, or_false] at hq
  rw [hv, getD_add96_ne (by omega)]
  split
  · rfl
  · exact getD_add96_ne (by omega) _ _

/-- A quadrant register takes the reactive energy, or stays. -/
theorem getD_commitMeter_quadrant (hty : ty ≠ 3) {j : Nat} (h : 2 ≤ j ∧ j ≤ 5) (hlen : m.regs.length = 8) :
    (commitMeter ty abs ke iref noload forced m).regs.getD j 0 =
      if commitQuadrant m = j then toU 96 (m.regs.getD j 0 + m.bq.natAbs) else m.regs.getD j 0 := by
  obtain ⟨v, hv⟩ := commitMeter_regs ty ke iref noload abs forced m
  have hactive : (commitActive abs m).getD j 0 = m.regs.getD j 0 := getD_commitActive (by omega) (by omega) (by omega)
  rw [hv, getD_add96_ne (by omega), if_neg hty]
  split
  · rename_i hj
    rw [hj, getD_add96_same (by rw [length_commitActive]; omega), hactive]
  · rename_i hj
    rw [getD_add96_ne hj, hactive]

end

/-- SIGNED: A+ less A−, and NET, take the sum of the buckets. -/
theorem commitActive_signed (m : Meter) (hlen : m.regs.length = 8) :
    (((commitActive false m).getD 0 0 : Int) - (commitActive false m).getD 1 0 -
      (m.regs.getD 0 0 - m.regs.getD 1 0 + m.b.sum)) % 2 ^ 96 = 0 ∧
    (((commitActive false m).getD 7 0 : Int) - (m.regs.getD 7 0 + m.b.sum)) % 2 ^ 96 = 0 := by
  have hnet := toU_emod 96 (m.regs.getD 7 0 + m.b.sum)
  have himport := toU_emod 96 (m.regs.getD 0 0 + m.b.sum)
  have hexport := toU_emod 96 (m.regs.getD 1 0 + -m.b.sum)
  unfold commitActive
  rw [if_neg Bool.false_ne_true]
  split
  · have h0 : (add96 7 m.b.sum (add96 0 m.b.sum m.regs)).getD 0 0 = toU 96 (m.regs.getD 0 0 + m.b.sum) := by
      rw [getD_add96_ne (by decide), getD_add96_same (by omega)]
    have h1 : (add96 7 m.b.sum (add96 0 m.b.sum m.regs)).getD 1 0 = m.regs.getD 1 0 := by
      rw [getD_add96_ne (by decide), getD_add96_ne (by decide)]
    have h7 : (add96 7 m.b.sum (add96 0 m.b.sum m.regs)).getD 7 0 = toU 96 (m.regs.getD 7 0 + m.b.sum) := by
      rw [getD_add96_same (by rw [length_add96]; omega), getD_add96_ne (by decide)]
    rw [h0, h1, h7]
    constructor <;> omega
  · have h0 : (add96 7 m.b.sum (add96 1 (-m.b.sum) m.regs)).getD 0 0 = m.regs.getD 0 0 := by
      rw [getD_add96_ne (by decide), getD_add96_ne (by decide)]
    have h1 : (add96 7 m.b.sum (add96 1 (-m.b.sum) m.regs)).getD 1 0 = toU 96 (m.regs.getD 1 0 + -m.b.sum) := by
      rw [getD_add96_ne (by decide), getD_add96_same (by omega)]
    have h7 : (add96 7 m.b.sum (add96 1 (-m.b.sum) m.regs)).getD 7 0 = toU 96 (m.regs.getD 7 0 + m.b.sum) := by
      rw [getD_add96_same (by rw [length_add96]; omega), getD_add96_ne (by decide)]
    rw [h0, h1, h7]
    constructor <;> omega

/-- ABSOLUTE: A+ takes the amounts of the buckets, and A− and NET stay. -/
theorem commitActive_absolute (m : Meter) (hlen : m.regs.length = 8) :
    (((commitActive true m).getD 0 0 : Int) - (m.regs.getD 0 0 + (m.b.map fun x => (x.natAbs : Int)).sum)) % 2 ^ 96 = 0 ∧
    (commitActive true m).getD 1 0 = m.regs.getD 1 0 ∧ (commitActive true m).getD 7 0 = m.regs.getD 7 0 := by
  have himport := toU_emod 96 (m.regs.getD 0 0 + (m.b.map fun x => (x.natAbs : Int)).sum)
  unfold commitActive
  rw [if_pos rfl, getD_add96_same (by omega), getD_add96_ne (by decide), getD_add96_ne (by decide)]
  exact ⟨by omega, rfl, rfl⟩

/-- The quadrant registers together take the amount of the reactive bucket. -/
theorem commitMeter_quadrants {ty : Nat} (hty : ty ≠ 3) (ke iref noload : Nat) (abs forced : Bool) {m : Meter} (hlen : m.regs.length = 8) :
    let rs := (commitMeter ty abs ke iref noload forced m).regs
    ((rs.getD 2 0 : Int) + rs.getD 3 0 + rs.getD 4 0 + rs.getD 5 0 -
      (m.regs.getD 2 0 + m.regs.getD 3 0 + m.regs.getD 4 0 + m.regs.getD 5 0 + m.bq.natAbs)) % 2 ^ 96 = 0 := by
  intro rs
  have hq := commitQuadrant_mem m
  have hreg : ∀ j, 2 ≤ j ∧ j ≤ 5 → rs.getD j 0 = _ := fun j hj => getD_commitMeter_quadrant ty ke iref noload abs forced m hty hj hlen
  have h2 := toU_emod 96 (m.regs.getD 2 0 + m.bq.natAbs)
  have h3 := toU_emod 96 (m.regs.getD 3 0 + m.bq.natAbs)
  have h4 := toU_emod 96 (m.regs.getD 4 0 + m.bq.natAbs)
  have h5 := toU_emod 96 (m.regs.getD 5 0 + m.bq.natAbs)
  rw [hreg 2 (by decide), hreg 3 (by decide), hreg 4 (by decide), hreg 5 (by decide)]
  simp only [List.mem_cons, List.not_mem_nil, or_false] at hq
  rcases hq with hq | hq | hq | hq <;> simp only [hq, if_true, if_false, Nat.reduceEqDiff] <;> omega

/-- Settles O35: quotient and residue of `carryTo` make up what a frame adds (`carryTo_exact`), and a commit adds the
buckets to their registers modulo 2^96 (`commitActive_signed`, `commitActive_absolute`, `commitMeter_quadrants`). -/
theorem bucketsAndCommitsLoseNoEnergy : Obligations.BucketsAndCommitsLoseNoEnergy := by
  unfold Obligations.BucketsAndCommitsLoseNoEnergy
  refine ⟨fun ke p fv m b0 bs r0 r1 r2 r3 hb hres => bucketFrame_signed hb hres, ?_, ?_⟩
  · intro ke p fv m b0 b1 b2 r0 r1 r2 r3 n0 n1 n2 p0 p1 p2 hb hres hn hp m'
    obtain ⟨hb', hres', hregs⟩ := bucketFrame_absolute (ke := ke) (p := p) hb hres hn hp
    have hexact : ∀ (b : Int) (r : Nat) (n : Bool) (x : Int),
        (b + (carryTo 131 (phaseEnergy p ke (x, n)) r).1) * 2 ^ 131 + (carryTo 131 (phaseEnergy p ke (x, n)) r).2 =
          b * 2 ^ 131 + r + if n then 0 else x * p * ke := fun b r n x => by
      have hcarry := carryTo_exact 131 (phaseEnergy p ke (x, n)) r
      simp only [phaseEnergy] at hcarry ⊢
      linarith
    refine ⟨by rw [hres']; rfl, hregs, fun e he => ?_⟩
    rw [hb', hres']
    simp only [List.mem_cons, List.not_mem_nil, or_false] at he
    rcases he with rfl | rfl | rfl <;> exact ⟨hexact _ _ _ _, carryTo_residue_lt _ _ _⟩
  · intro ty ke iref noload abs forced m r0 r1 r2 r3 r4 r5 r6 r7 hregs m'
    have hlen : m.regs.length = 8 := by rw [hregs]; rfl
    have hactive : ∀ j, j = 0 ∨ j = 1 ∨ j = 7 → m'.regs.getD j 0 = (commitActive abs m).getD j 0 :=
      fun j hj => getD_commitMeter_active ty ke iref noload abs forced m hj
    refine ⟨rfl, rfl, (length_commitMeter ..).trans hlen, ?_, ?_, fun hty => ?_⟩
    · rintro rfl
      rw [hactive 0 (by decide), hactive 1 (by decide), hactive 7 (by decide)]
      have hsum := commitActive_signed m hlen
      rw [hregs] at hsum
      exact hsum
    · rintro rfl
      rw [hactive 0 (by decide), hactive 1 (by decide), hactive 7 (by decide)]
      have hsum := commitActive_absolute m hlen
      rw [hregs] at hsum
      exact hsum
    · have hsum := commitMeter_quadrants hty ke iref noload abs forced hlen
      rw [hregs] at hsum
      exact hsum

end Sys2Proof.Machine
end

section
/-!
O36: a temperature reading and a band change (R166 to R168).
-/
namespace Sys2Proof.Machine
open Sys2Proof.Claims

@[simp] theorem rd_modMt (g : Fld) (o : Nat) (f : Meter → Meter) (s : State) : rd g (modMt o f s) = rd g s := rfl

/-- Two fields of one register at different places. -/
theorem key_ne_of_lsb {f g : Fld} (ha : f.addr = g.addr) (hl : (f.lsb == g.lsb) = false) : f.key ≠ g.key := by
  have hne := ne_of_beq_false hl
  simp only [Fld.key, ha]
  omega

/-! ### Bands (R166, R167) -/

theorem bandOf_eq (x : Int) : bandOf x = if x < -200 then 0 else if 1000 ≤ x then 7 else ((x + 400) / 200).toNat := by
  unfold bandOf
  split_ifs <;> omega

theorem bandTarget_eq (cur : Nat) (x : Int) :
    bandTarget cur x = if cur < bandOf x ∧ (cur : Int) * 200 - 190 ≤ x then bandOf x
      else if bandOf x < cur ∧ x < (cur : Int) * 200 - 410 then bandOf x else cur := by
  unfold bandTarget
  dsimp only
  split_ifs <;> omega

/-! ### A reading -/

/-- The reading is shown; on outlet 0 the supply side has taken it too. -/
def shownReading (o : Fin 8) (v : BitVec 16) (sup : Supply) (s : State) : State :=
  { wr (R.MET_TEMP_T o) v.toNat s with supply := sup }

/-- R167: the band a reading asks for. -/
def readingTarget (o : Fin 8) (v : BitVec 16) (s : State) : Nat :=
  if flag (R.MET_OCFG_FEN o).eff s && !(locked s) then rd (R.MET_OCFG_FBAND o).eff s
  else if !(getMt o s).bandInit then bandOf v.toInt else bandTarget (rd (R.MET_TEMP_BAND o) s) v.toInt

/-- R167, R168: the outlet's band registers take the target `tgt`. -/
def takeTarget (o : Fin 8) (tgt : Nat) (s : State) : State :=
  if !(getMt o s).bandInit then
    modMt o (fun m => { m with bandInit := true })
      (wrs [(R.MET_TEMP_BAND o, tgt), (R.MET_TEMP_TBAND o, tgt), (R.MET_TEMP_PEND o, 0)] s)
  else if tgt = rd (R.MET_TEMP_BAND o) s then wrs [(R.MET_TEMP_TBAND o, tgt), (R.MET_TEMP_PEND o, 0)] s
  else if flag (R.MET_TEMP_PEND o) s && rd (R.MET_TEMP_TBAND o) s == tgt then s
  else modMt o (fun m => { m with bandAt := interval100 (s.clock / 2 ^ 24), commitSince := false })
    (wrs [(R.MET_TEMP_TBAND o, tgt), (R.MET_TEMP_PEND o, 1)] s)

theorem execTempReading_up {o : Fin 8} {s : State} (hup : pairUp (pairOf o) s = true) (v : BitVec 16) :
    ∃ sup, execTempReading o v s =
      .next (takeTarget o (readingTarget o v (shownReading o v sup s)) (shownReading o v sup s)) := by
  have hdown : ¬ (!(pairUp (pairOf o) s)) = true := by rw [hup]; decide
  unfold execTempReading
  rw [if_neg hdown]
  extract_lets u forced cur first tgt stgt side w
  obtain ⟨sup, hsup⟩ : ∃ sup, w = ({ u with supply := sup } : State) := by
    by_cases ho : o.val = 0
    · exact ⟨_, if_pos ho⟩
    · exact ⟨u.supply, if_neg ho⟩
  clear_value w
  subst hsup
  refine ⟨sup, ?_⟩
  unfold takeTarget
  rw [apply_ite Host.Outcome.next, apply_ite Host.Outcome.next, apply_ite Host.Outcome.next]
  rfl

theorem rd_shownReading {o : Fin 8} {f : Fld} (hf : f.key ≠ (R.MET_TEMP_T o).key) (v : BitVec 16) (sup : Supply) (s : State) :
    rd f (shownReading o v sup s) = rd f s := rd_wr_ne _ s hf

/-- A reading asks for the same band before and after it is shown. -/
theorem readingTarget_shown (o : Fin 8) (v : BitVec 16) (sup : Supply) (s : State) :
    readingTarget o v (shownReading o v sup s) = readingTarget o v s := by
  have hfen : flag (R.MET_OCFG_FEN o).eff (shownReading o v sup s) = flag (R.MET_OCFG_FEN o).eff s := by
    rw [flag, rd_shownReading (by simp only [Fld.key, Fld.eff, R.MET_OCFG_FEN, R.MET_TEMP_T]; omega), flag]
  have hlock : locked (shownReading o v sup s) = locked s := by
    simp only [locked, isSealed, isScrapped, lifeState,
      rd_shownReading (show R.LIFE_LSTATE_STATE.key ≠ (R.MET_TEMP_T o).key by
        simp only [Fld.key, R.LIFE_LSTATE_STATE, R.MET_TEMP_T]; omega)]
  unfold readingTarget
  rw [hfen, hlock, rd_shownReading (f := (R.MET_OCFG_FBAND o).eff) (by simp only [Fld.key, Fld.eff, R.MET_OCFG_FBAND, R.MET_TEMP_T]; omega),
    rd_shownReading (f := R.MET_TEMP_BAND o) (key_ne_of_lsb rfl rfl)]
  rfl

/-- What a target leaves as it was. -/
theorem takeTarget_frame (o : Fin 8) (tgt : Nat) (s : State) :
    (takeTarget o tgt s).qs = s.qs ∧ (takeTarget o tgt s).mram = s.mram ∧
      (getMt o (takeTarget o tgt s)).regs = (getMt o s).regs ∧ rd (R.MET_TEMP_T o) (takeTarget o tgt s) = rd (R.MET_TEMP_T o) s := by
  have hB : (R.MET_TEMP_T o).key ≠ (R.MET_TEMP_BAND o).key := key_ne_of_lsb rfl rfl
  have hTB : (R.MET_TEMP_T o).key ≠ (R.MET_TEMP_TBAND o).key := key_ne_of_lsb rfl rfl
  have hP : (R.MET_TEMP_T o).key ≠ (R.MET_TEMP_PEND o).key := key_ne_of_lsb rfl rfl
  unfold takeTarget
  split_ifs
  · refine ⟨rfl, rfl, by rw [getMt_modMt]; rfl, rd_wrs_ne _ _ ?_⟩
    simp [hB, hTB, hP]
  · refine ⟨rfl, rfl, rfl, rd_wrs_ne _ _ ?_⟩
    simp [hTB, hP]
  · exact ⟨rfl, rfl, rfl, rfl⟩
  · refine ⟨rfl, rfl, by rw [getMt_modMt]; rfl, rd_wrs_ne _ _ ?_⟩
    simp [hTB, hP]

/-- The first reading sets the band; a later one sets the target and marks the change. -/
theorem takeTarget_bands {o : Fin 8} {tgt : Nat} (ht : tgt < 8) (s : State) :
    rd (R.MET_TEMP_TBAND o) (takeTarget o tgt s) = tgt ∧
    ((getMt o s).bandInit = false → rd (R.MET_TEMP_BAND o) (takeTarget o tgt s) = tgt ∧ rd (R.MET_TEMP_PEND o) (takeTarget o tgt s) = 0) ∧
    ((getMt o s).bandInit = true → rd (R.MET_TEMP_BAND o) (takeTarget o tgt s) = rd (R.MET_TEMP_BAND o) s ∧
      rd (R.MET_TEMP_PEND o) (takeTarget o tgt s) = if tgt = rd (R.MET_TEMP_BAND o) s then 0 else 1) := by
  have hmod : tgt % 2 ^ 3 = tgt := Nat.mod_eq_of_lt ht
  have hBT : (R.MET_TEMP_BAND o).key ≠ (R.MET_TEMP_TBAND o).key := key_ne_of_lsb rfl rfl
  have hBP : (R.MET_TEMP_BAND o).key ≠ (R.MET_TEMP_PEND o).key := key_ne_of_lsb rfl rfl
  have hTP : (R.MET_TEMP_TBAND o).key ≠ (R.MET_TEMP_PEND o).key := key_ne_of_lsb rfl rfl
  /- a target with PEND, and with the band -/
  have hset : ∀ (b : Nat) (s : State), rd (R.MET_TEMP_TBAND o) (wrs [(R.MET_TEMP_TBAND o, tgt), (R.MET_TEMP_PEND o, b)] s) = tgt ∧
      rd (R.MET_TEMP_BAND o) (wrs [(R.MET_TEMP_TBAND o, tgt), (R.MET_TEMP_PEND o, b)] s) = rd (R.MET_TEMP_BAND o) s ∧
      rd (R.MET_TEMP_PEND o) (wrs [(R.MET_TEMP_TBAND o, tgt), (R.MET_TEMP_PEND o, b)] s) = b % 2 := by
    intro b s
    simp only [wrs, List.foldl_cons, List.foldl_nil, rd_wr_ne _ _ hTP, rd_wr_ne _ _ hBP, rd_wr_ne _ _ hBT, rd_wr_same]
    exact ⟨hmod, trivial, rfl⟩
  unfold takeTarget
  cases hinit : (getMt o s).bandInit with
  | false =>
    rw [if_pos (by decide)]
    obtain ⟨htb, hb, hp⟩ := hset 0 (wr (R.MET_TEMP_BAND o) tgt s)
    refine ⟨htb, fun _ => ⟨hb.trans ?_, hp⟩, fun h => absurd h (by decide)⟩
    rw [rd_wr_same]
    exact hmod
  | true =>
    rw [if_neg (by decide)]
    split_ifs with hcur hpend
    · obtain ⟨htb, hb, hp⟩ := hset 0 s
      exact ⟨htb, fun h => absurd h (by decide), fun _ => ⟨hb, hp⟩⟩
    · simp only [Bool.and_eq_true, flag, beq_iff_eq] at hpend
      exact ⟨hpend.2, fun h => absurd h (by decide), fun _ => ⟨rfl, hpend.1⟩⟩
    · obtain ⟨htb, hb, hp⟩ := hset 1 s
      exact ⟨htb, fun h => absurd h (by decide), fun _ => ⟨hb, hp⟩⟩

/-! ### The change (R168) -/

theorem applyBand_due {o c : Nat} {s : State} (h : bandDue o c s = true) :
    applyBand o s = modMt o (fun m => { m with next := m.next ||| sfBANDCHG, commitSince := false })
      (wrs [(R.MET_TEMP_BAND o, rd (R.MET_TEMP_TBAND o) s), (R.MET_TEMP_PEND o, 0)] s) := by
  simp only [bandDue, Bool.and_eq_true] at h
  rw [applyBand, if_pos (by rw [h.1.1, h.1.2]; rfl)]

/-- Settles O36: a reading's target is R167's (`bandOf_eq`, `bandTarget_eq`), and the band registers take it
(`takeTarget_bands`); a change that is due is put in effect by `applyBand`. -/
theorem temperatureBandsFollowReadings : Obligations.TemperatureBandsFollowReadings := by
  unfold Obligations.TemperatureBandsFollowReadings
  refine ⟨?_, ?_⟩
  · intro o v s hup cur forced band first near tgt htgt
    obtain ⟨sup, hexec⟩ := execTempReading_up hup v
    have htarget : readingTarget o v (shownReading o v sup s) = tgt := by
      rw [readingTarget_shown, readingTarget]
      simp only [bandTarget_eq, bandOf_eq]
      rfl
    rw [htarget] at hexec
    refine ⟨_, hexec, ?_⟩
    have hframe := takeTarget_frame o tgt (shownReading o v sup s)
    obtain ⟨hqs, hmram, hregs, hT⟩ := hframe
    obtain ⟨htb, hfirst, hlater⟩ := takeTarget_bands (o := o) htgt (shownReading o v sup s)
    have hcur : rd (R.MET_TEMP_BAND o) (shownReading o v sup s) = cur :=
      rd_shownReading (f := R.MET_TEMP_BAND o) (key_ne_of_lsb rfl rfl) v sup s
    rw [hcur] at hlater
    refine ⟨?_, htb, fun h => hfirst (Bool.not_eq_true' _ ▸ h), fun h => hlater (Bool.not_eq_false' _ ▸ h), hqs, hmram, hregs⟩
    rw [hT]
    exact (rd_wr_same _ _ _).trans (Nat.mod_eq_of_lt v.isLt)
  · intro o s hup hdue
    have hexec : exec (.bandChange o) s = .next (applyBand o s) := if_pos (by rw [hup, hdue]; rfl)
    rw [applyBand_due hdue] at hexec
    refine ⟨_, hexec, ?_⟩
    have hBP : (R.MET_TEMP_BAND o).key ≠ (R.MET_TEMP_PEND o).key := key_ne_of_lsb rfl rfl
    dsimp only
    rw [getMt_modMt, rd_modMt, rd_modMt]
    refine ⟨(rd_wr_ne _ _ hBP).trans (rd_wr_same _ _ _), rd_wr_same _ _ _, ?_, rfl, rfl, rfl⟩
    exact (Nat.testBit_or ..).trans (Bool.or_true _)

end Sys2Proof.Machine
end

section
/-!
O26: how a member of a metering pair fails, how its peer takes over, and what a pair fault reloads (R185 to R189).
-/
namespace Sys2Proof.Machine
open Sys2Proof.Claims

/-! ### What an operation leaves -/

theorem rd_of_regs {s t : State} (h : t.regs = s.regs) (f : Fld) : rd f t = rd f s := by rw [rd, h, rd]

/-- What every member of a loop leaves, the loop leaves. -/
theorem forEach_keeps {α β : Type} (g : State → β) (l : List α) (f : α → State → State) (h : ∀ a ∈ l, ∀ s, g (f a s) = g s) (s : State) :
    g (forEach l f s) = g s := by
  induction l generalizing s with
  | nil => rfl
  | cons a l ih => exact (ih (fun b hb => h b (by simp [hb])) (f a s)).trans (h a (by simp) s)

theorem LogOnly.engState_lt {s t : State} (h : LogOnly s t) {e : Nat} (he : e < 16) : Machine.engState e t = Machine.engState e s :=
  h.engState ⟨e, he⟩

theorem LogOnly.getMt {s t : State} (h : LogOnly s t) (o : Nat) : Machine.getMt o t = Machine.getMt o s := by
  have hs : t.meters = s.meters := by
    have hm := congrArg State.meters h.1
    exact hm
  rw [Machine.getMt, hs, Machine.getMt]

/-! ### PAIRSTAT (R187, R201) -/

theorem showPair_metering {p : Nat} (hp : p < 2) (s : State) :
    showPair p s = wrs [(R.NRG_PAIRSTAT_ACTIVE p, b2n (engState (pairLo p + 1) s == 3)),
      (R.NRG_PAIRSTAT_DUPLEX p, b2n (pairDuplex (pairLo p) s))] s := if_neg (Nat.not_le.2 hp)

theorem engState_showPair_metering {p e : Nat} (hp : p < 2) (he : e < 16) (s : State) : engState e (showPair p s) = engState e s := by
  rw [showPair_metering hp]
  refine rd_wrs_ne _ _ fun g hg => ?_
  simp only [List.map_cons, List.map_nil, List.mem_cons, List.not_mem_nil, or_false] at hg
  rcases hg with rfl | rfl <;> simp only [Fld.key, R.QM_ENGSTAT_STATE, R.NRG_PAIRSTAT_ACTIVE, R.NRG_PAIRSTAT_DUPLEX] <;> omega

theorem rd_active_showPair {p : Nat} (hp : p < 2) (s : State) :
    rd (R.NRG_PAIRSTAT_ACTIVE p) (showPair p s) = b2n (engState (pairLo p + 1) s == 3) := by
  have hne : (R.NRG_PAIRSTAT_ACTIVE p).key ≠ (R.NRG_PAIRSTAT_DUPLEX p).key := key_ne_of_lsb rfl rfl
  rw [showPair_metering hp]
  refine ((rd_wr_ne _ _ hne).trans (rd_wr_same _ _ _)).trans ?_
  cases engState (pairLo p + 1) s == 3 <;> rfl

theorem rd_duplex_showPair {p : Nat} (hp : p < 2) (s : State) :
    rd (R.NRG_PAIRSTAT_DUPLEX p) (showPair p s) = b2n (pairDuplex (pairLo p) s) := by
  rw [showPair_metering hp]
  refine (rd_wr_same _ _ _).trans ?_
  cases pairDuplex (pairLo p) s <;> rfl

theorem rd_cause_showPair {p : Nat} (hp : p < 2) (s : State) :
    rd (R.NRG_PAIRSTAT_CAUSE p) (showPair p s) = rd (R.NRG_PAIRSTAT_CAUSE p) s := by
  rw [showPair_metering hp]
  have hactive : (R.NRG_PAIRSTAT_CAUSE p).key ≠ (R.NRG_PAIRSTAT_ACTIVE p).key := key_ne_of_lsb rfl rfl
  have hduplex : (R.NRG_PAIRSTAT_CAUSE p).key ≠ (R.NRG_PAIRSTAT_DUPLEX p).key := key_ne_of_lsb rfl rfl
  exact (rd_wr_ne _ _ hduplex).trans (rd_wr_ne _ _ hactive)

theorem getMt_showPair_metering {p : Nat} (hp : p < 2) (o : Nat) (s : State) : getMt o (showPair p s) = getMt o s := by
  rw [showPair_metering hp]
  rfl

/-- A field of PAIRSTAT is of no log and no queue. -/
theorem LogOnly.rd_pairstat {s t : State} (h : LogOnly s t) {p : Nat} (hp : p < 2) (f : Fld) (ha : f.addr = (R.NRG_PAIRSTAT_CAUSE p).addr)
    (hl : f.lsb < 32) : rd f t = rd f s := by
  have haddr : 0x12009000 ≤ f.addr ∧ f.addr < 0x12009200 := by
    simp only [ha, R.NRG_PAIRSTAT_CAUSE]
    omega
  refine h.2 f hl (isQCount_above_queues (by omega)) ?_ ?_ <;> (simp only [Fld.block]; omega)

/-! ### A member gives up (R187) -/

theorem logOnly_logSwitch (lo : Nat) (s : State) : LogOnly s (logSwitch lo s) := by
  unfold logSwitch
  exact logOnly_logEvent lo (by decide) 15 [] s

theorem modPair_regs (p : Nat) (f : PairSt → PairSt) (s : State) : (modPair p f s).regs = s.regs := rfl

theorem adoptStandby_regs (lo : Nat) (s : State) : (adoptStandby lo s).regs = s.regs := by
  unfold adoptStandby
  rw [modPair_regs]
  refine forEach_keeps State.regs _ _ (fun q _ s => ?_) s
  dsimp only
  split <;> rfl

/-- The member is STOPPED with its cause, and PAIRSTAT shows what is left of the pair; the rest concerns no register
but those of the recorder. -/
theorem giveUp_duplex {e : Eid} {c : Nat} {s : State} (hlo : 9 ≤ e.val) (hhi : e.val < 13) (hrun : running e s = true)
    (hpeer : running (peer e) s = true) :
    ∃ u, u.regs = (setEngState e 5 (wr (R.NRG_PAIRSTAT_CAUSE (pairIdx e)) c s)).regs ∧
      LogOnly (showPair (pairIdx e) u) (giveUp e c s) := by
  have hother : (if e.val = pairLow e then pairLow e + 1 else pairLow e) = peer e := by
    unfold pairLow peer
    split_ifs <;> omega
  have hne : peer e ≠ e := by unfold peer; split <;> omega
  have hpeer' : running (peer e) (setEngState e 5 (wr (R.NRG_PAIRSTAT_CAUSE (pairIdx e)) c s)) = true := by
    have hst : engState (peer e) (wr (R.NRG_PAIRSTAT_CAUSE (pairIdx e)) c s) = engState (peer e) s :=
      rd_wr_ne _ _ (by simp only [Fld.key, R.QM_ENGSTAT_STATE, R.NRG_PAIRSTAT_CAUSE, peer]; split <;> omega)
    rw [running, engState_setEngState_ne _ _ hne, hst]
    exact hpeer
  unfold giveUp
  dsimp only
  rw [hother, if_neg (by rw [hrun]; decide), if_neg (by omega), if_neg (by rw [hpeer']; decide)]
  split
  · refine ⟨_, ?_, logOnly_logSwitch _ _⟩
    rfl
  · refine ⟨_, ?_, LogOnly.refl _⟩
    exact adoptStandby_regs _ _

theorem exec_memberGiveUp {e : Eid} {c : Fin 16} (he : isPaired e = true) (hc : listedCause e c = true) (s : State) :
    exec (.memberGiveUp e c) s = .next (giveUp e c s) := if_pos (by rw [he, hc]; rfl)

theorem memberGiveUp_yields (e : Eid) (c : Fin 16) (s : State) (hlo : 9 ≤ e.val) (hhi : e.val < 13) (hrun : running e s = true)
    (hpeer : running (peer e) s = true) (hc : (1 ≤ c.val ∧ c.val ≤ 6) ∨ c.val = 8) :
    Yields (.memberGiveUp e c) s fun t =>
      engState e t = 5 ∧ engState (peer e) t = engState (peer e) s ∧
      rd (R.NRG_PAIRSTAT_CAUSE (pairIdx e)) t = c.val % 2 ^ (R.NRG_PAIRSTAT_CAUSE (pairIdx e)).wid ∧
      rd (R.NRG_PAIRSTAT_DUPLEX (pairIdx e)) t = 0 := by
  have hpaired : isPaired e = true := decide_eq_true ⟨hlo, by omega⟩
  have hlisted : listedCause e c = true := by
    simp only [listedCause, Bool.or_eq_true, decide_eq_true_eq, beq_iff_eq]
    omega
  refine ⟨_, exec_memberGiveUp hpaired hlisted s, ?_⟩
  obtain ⟨u, hregs, hlog⟩ := giveUp_duplex (c := c) hlo hhi hrun hpeer
  have hp : pairIdx e < 2 := by unfold pairIdx; omega
  have hpeerlt : peer e < 16 := by unfold peer; split <;> omega
  have hne : peer e ≠ e := by unfold peer; split <;> omega
  have hself : engState e u = 5 := by
    rw [engState, rd_of_regs hregs]
    exact engState_setEngState_same e 5 _
  have hother : engState (peer e) u = engState (peer e) s := by
    rw [engState, rd_of_regs hregs]
    refine (engState_setEngState_ne 5 _ hne).trans (rd_wr_ne _ _ ?_)
    simp only [Fld.key, R.QM_ENGSTAT_STATE, R.NRG_PAIRSTAT_CAUSE]
    omega
  have hsimplex : pairDuplex (pairLo (pairIdx e)) u = false := by
    have hmine : pairLo (pairIdx e) = e ∨ pairLo (pairIdx e) + 1 = e := by unfold pairLo pairIdx; omega
    rcases hmine with h | h <;> simp [pairDuplex, running, h, hself]
  refine ⟨?_, ?_, ?_, ?_⟩
  · rw [hlog.engState, engState_showPair_metering hp e.isLt, hself]
  · rw [hlog.engState_lt hpeerlt, engState_showPair_metering hp hpeerlt, hother]
  · rw [hlog.rd_pairstat hp (R.NRG_PAIRSTAT_CAUSE _) rfl (Nat.le_of_ble_eq_true rfl), rd_cause_showPair hp, rd_of_regs hregs]
    refine (rd_wr_ne _ _ ?_).trans (rd_wr_same _ _ _)
    simp only [Fld.key, R.QM_ENGSTAT_STATE, R.NRG_PAIRSTAT_CAUSE]
    omega
  · rw [hlog.rd_pairstat hp (R.NRG_PAIRSTAT_DUPLEX _) rfl (Nat.le_of_ble_eq_true rfl), rd_duplex_showPair hp, hsimplex]
    rfl

/-! ### The standby takes over (R187) -/

theorem getMt_modMt_ne {o k : Nat} (ho : o < 8) (hk : k < 8) (h : k ≠ o) (f : Meter → Meter) (s : State) :
    getMt k (modMt o f s) = getMt k s := by
  refine vget_vset_ne _ _ fun he => h ?_
  have hv : k % 8 = o % 8 := congrArg Fin.val he
  omega

/-- SWITCH stands in the flags of the outlets listed. -/
def flagSwitch (l : List Nat) (s : State) : State := forEach l (fun o s => modMt o (fun m => { m with flags := m.flags ||| sfSWITCH }) s) s

theorem flagSwitch_regs (l : List Nat) (s : State) : (flagSwitch l s).regs = s.regs := by
  unfold flagSwitch
  refine forEach_keeps State.regs l _ (fun _ _ _ => ?_) s
  rfl

theorem getMt_flagSwitch {l : List Nat} (hl : ∀ o ∈ l, o < 8) {s : State} {o : Nat} (ho : o < 8)
    (h : o ∈ l ∨ (getMt o s).flags.testBit 4 = true) : (getMt o (flagSwitch l s)).flags.testBit 4 = true := by
  induction l generalizing s with
  | nil => exact h.resolve_left (List.not_mem_nil)
  | cons a l ih =>
    refine ih (fun k hk => hl k (List.mem_cons_of_mem _ hk)) ?_
    by_cases ha : o = a
    · subst ha
      refine .inr ?_
      rw [getMt_modMt]
      exact (Nat.testBit_or ..).trans (Bool.or_true _)
    · refine h.imp (fun hm => (List.mem_cons.1 hm).resolve_left ha) fun hf => ?_
      rw [getMt_modMt_ne (hl a List.mem_cons_self) ho ha]
      exact hf

theorem pairOutlets_lt {p o : Nat} (h : o ∈ pairOutlets p) : o < 8 := by
  unfold pairOutlets at h
  split at h <;> simp at h <;> omega

/-- The member that was on standby is the active one, and PAIRSTAT shows it. -/
def takenOver (p e : Nat) (s : State) : State :=
  showPair p (flagSwitch (pairOutlets p) (incSat (R.NRG_PAIRSTAT_SWCNT p) (setEngState e 3 s)))

theorem execStandbyTakeover_ready {p : Fin 2} {upper : Bool} {s : State} (hdown : pairUp (pairLo p) s = false)
    (hsb : engState (pairLo p + upper.toNat) s = 6) (hother : engState (pairLo p + (!upper).toNat) s ≠ 6) :
    execStandbyTakeover p s = .next (logSwitch (pairLo p) (takenOver p (pairLo p + upper.toNat) s)) := by
  have hone : (engState (pairLo p) s == 6 || engState (pairLo p + 1) s == 6) = true := by
    cases upper <;> simp_all
  have hmember : (if engState (pairLo p) s = 6 then pairLo p else pairLo p + 1) = pairLo p + upper.toNat := by
    cases upper <;> simp_all
  unfold execStandbyTakeover
  dsimp only
  rw [hdown, hone, hmember]
  rfl

theorem engState_takenOver {p e k : Nat} (hp : p < 2) (hk : k < 16) (s : State) :
    engState k (takenOver p e s) = engState k (setEngState e 3 s) := by
  rw [takenOver, engState_showPair_metering hp hk, engState, rd_of_regs (flagSwitch_regs _ _)]
  exact rd_wr_ne _ _ (by simp only [Fld.key, R.QM_ENGSTAT_STATE, R.NRG_PAIRSTAT_SWCNT]; omega)

theorem standbyTakeover_yields (p : Fin 2) (upper : Bool) (s : State) (hdown : pairUp (pairLo p) s = false)
    (hsb : engState (pairLo p + upper.toNat) s = 6) (hother : engState (pairLo p + (!upper).toNat) s ≠ 6) :
    Yields (.standbyTakeover p) s fun t => engState (pairLo p + upper.toNat) t = 3 ∧
      rd (R.NRG_PAIRSTAT_ACTIVE p) t = upper.toNat ∧ ∀ o ∈ pairOutlets p, (getMt o t).flags.testBit 4 = true := by
  refine ⟨_, execStandbyTakeover_ready hdown hsb hother, ?_⟩
  have hlog := logOnly_logSwitch (pairLo p) (takenOver p (pairLo p + upper.toNat) s)
  have hlt : ∀ b : Bool, pairLo p + b.toNat < 16 := fun b => by unfold pairLo; have := Bool.toNat_le b; omega
  refine ⟨?_, ?_, fun o ho => ?_⟩
  · rw [hlog.engState_lt (hlt upper), engState_takenOver p.isLt (hlt upper)]
    exact engState_setEngState_same _ 3 s
  · have hactive : (engState (pairLo p + 1) (setEngState (pairLo p + upper.toNat) 3 s) == 3) = upper := by
      cases upper with
      | true => rw [show Bool.toNat true = 1 from rfl, engState_setEngState_same]; rfl
      | false =>
        simp only [pairUp, Bool.or_eq_false_iff] at hdown
        rw [engState_setEngState_ne 3 s (by simp)]
        exact hdown.2
    rw [hlog.rd_pairstat p.isLt (R.NRG_PAIRSTAT_ACTIVE p) rfl (Nat.le_of_ble_eq_true rfl), takenOver, rd_active_showPair p.isLt,
      ← engState_showPair_metering p.isLt (show pairLo p + 1 < 16 from hlt true), ← takenOver,
      engState_takenOver p.isLt (show pairLo p + 1 < 16 from hlt true), hactive]
    cases upper <;> rfl
  · rw [hlog.getMt, takenOver, getMt_showPair_metering p.isLt]
    exact getMt_flagSwitch (fun _ => pairOutlets_lt) (pairOutlets_lt ho) (.inl ho)

/-! ### The state check (R185) -/

theorem execStateCheckSweep_eq {e : Eid} {s : State} (hp : isPaired e = true) (hrun : running e s = true) :
    exec (.stateCheckSweep e) s =
      (if (getEng e s).dErr2 ≠ [] then exec (.memberGiveUp e 1) s
       else if chkOf (getEng e s).dmem ≠ (getEng e s).chk then exec (.memberGiveUp e 3) s else .next s) := by
  rw [exec_memberGiveUp hp (c := 1) rfl, exec_memberGiveUp hp (c := 3) rfl]
  show execStateCheckSweep e s = _
  unfold execStateCheckSweep stateOk
  dsimp only
  rw [hp, hrun, en_val]
  by_cases herr : (getEng e s).dErr2 = []
  · by_cases hchk : chkOf (getEng e s).dmem = (getEng e s).chk <;> simp [herr, hchk]
  · simp [herr]

/-! ### A pair fault (R188) -/

theorem engState_startReload_same {e : Nat} (he : e < 16) (s : State) : engState e (startReload e s) = 1 :=
  (rd_startReload ⟨e, he⟩ s (engineField_state ⟨e, he⟩)).trans (engState_reloadShown e s)

theorem engState_startReload_ne {e k : Nat} (he : e < 16) (hk : k < 16) (h : k ≠ e) (s : State) :
    engState k (startReload e s) = engState k s := by
  refine (rd_startReload ⟨e, he⟩ s (engineField_state ⟨k, hk⟩)).trans ?_
  have hwipe : (R.QM_ENGSTAT_STATE k).key ≠ R.QM_WIPE_DONE.key := by
    simp only [Fld.key, R.QM_ENGSTAT_STATE, R.QM_WIPE_DONE]
    omega
  have hcount : (R.QM_ENGSTAT_STATE k).key ≠ (R.QM_ENGSTAT_RELOADS e).key := by
    simp only [Fld.key, R.QM_ENGSTAT_STATE, R.QM_ENGSTAT_RELOADS]
    omega
  exact ((rd_wr_ne 0 _ hwipe).trans (engState_setEngState_ne 1 _ h)).trans (rd_wr_ne _ s hcount)

/-- With fewer than two pair faults in the last minute both members are reloaded. -/
theorem metPairFault_reloads {p : Nat} {s : State} (h : (pairFaults p s).length < 2) :
    ∃ u, metPairFault p s = showPair p (startReload (pairLo p + 1) (startReload (pairLo p) u)) := by
  have hfew : ¬ decide (3 ≤ (s.now :: pairFaults p s).length) = true := by
    rw [decide_eq_true_eq, List.length_cons]
    omega
  unfold metPairFault
  dsimp only
  rw [if_neg hfew]
  exact ⟨_, rfl⟩

theorem pairFault_yields (p : Fin 2) (s : State) (hrun : (running (pairLo p) s || running (pairLo p + 1) s) = true)
    (hfew : ((getPair p s).faults.filter fun t => decide (s.now < t + 60000000)).length < 2) :
    Yields (.pairFault p) s fun t => engState (pairLo p) t = 1 ∧ engState (pairLo p + 1) t = 1 := by
  refine ⟨_, if_pos hrun, ?_⟩
  have hlt : pairLo p + 1 < 16 := by unfold pairLo; omega
  obtain ⟨u, hu⟩ := metPairFault_reloads (p := p)
    (s := nextFree (wr (R.NRG_PAIRSTAT_CAUSE p) (1 + (freeNow 3 s).toNat % 6) s)) hfew
  dsimp only
  rw [hu, engState_showPair_metering p.isLt (by omega), engState_showPair_metering p.isLt hlt,
    engState_startReload_ne hlt (by omega) (by omega), engState_startReload_same (by omega), engState_startReload_same hlt]
  exact ⟨rfl, rfl⟩

/-- Settles O26: a member that gives up is STOPPED and its pair simplex (`giveUp_duplex`), the standby is made the active
member (`takenOver`), the state check gives the cause, and a pair fault ends in two reloads (`metPairFault_reloads`). -/
theorem pairMembersFailAndTakeOver : Obligations.PairMembersFailAndTakeOver := by
  unfold Obligations.PairMembersFailAndTakeOver
  exact ⟨memberGiveUp_yields, standbyTakeover_yields, fun _ _ => execStateCheckSweep_eq, pairFault_yields⟩

end Sys2Proof.Machine
end

section
/-!
O27: how a stopped member of a pair rejoins (R189, R190).
-/
namespace Sys2Proof.Machine
open Sys2Proof.Claims

/-! ### The members of a pair -/

theorem peer_lt {e : Eid} (h : isPaired e = true) : peer e < 16 := by
  revert e
  decide

theorem peer_ne {e : Eid} (h : isPaired e = true) : peer e ≠ e := by
  revert e
  decide

theorem en_peer_ne {e : Eid} (h : isPaired e = true) : en (peer e) ≠ e := by
  revert e
  decide

/-- The peer is the other of the pair's two members. -/
theorem pair_members {e : Eid} (h : isPaired e = true) :
    (pairLow e = e ∧ peer e = pairLow e + 1) ∨ (pairLow e + 1 = e ∧ peer e = pairLow e) := by
  revert e
  decide

theorem activeOf_peer {e : Eid} {s : State} (h : isPaired e = true) (hself : engState e s ≠ 3) (hpeer : engState (peer e) s = 3) :
    activeOf (pairLow e) s = peer e := by
  unfold activeOf
  rcases pair_members h with ⟨hlow, hp⟩ | ⟨hlow, hp⟩
  · rw [← hlow] at hself
    rw [hp, if_neg (by simpa using hself)]
  · rw [← hp, if_pos (by simpa using hpeer)]

theorem pairUp_peer {e : Eid} {s : State} (h : isPaired e = true) (hpeer : engState (peer e) s = 3) : pairUp (pairLow e) s = true := by
  unfold pairUp
  rcases pair_members h with ⟨hlow, hp⟩ | ⟨hlow, hp⟩ <;> rw [hp] at hpeer <;> rw [hpeer] <;> simp

@[simp] theorem getPair_modPair (p : Nat) (f : PairSt → PairSt) (s : State) : getPair p (modPair p f s) = f (getPair p s) :=
  vget_vset_same _ _ _

/-! ### What leaves every engine as it is -/

/-- No engine's state and none of its contents differ. -/
def KeepsEngines (s t : State) : Prop := t.engs = s.engs ∧ ∀ k : Eid, engState k t = engState k s

theorem KeepsEngines.trans {s t u : State} (h : KeepsEngines s t) (h' : KeepsEngines t u) : KeepsEngines s u :=
  ⟨h'.1.trans h.1, fun k => (h'.2 k).trans (h.2 k)⟩

theorem KeepsEngines.getEng {s t : State} (h : KeepsEngines s t) (k : Eid) : Machine.getEng k t = Machine.getEng k s := by
  rw [Machine.getEng, h.1, Machine.getEng]

theorem KeepsEngines.of_regs {s t : State} (h : t.engs = s.engs) (hr : t.regs = s.regs) : KeepsEngines s t :=
  ⟨h, fun _ => rd_of_regs hr _⟩

theorem LogOnly.keepsEngines {s t : State} (h : LogOnly s t) : KeepsEngines s t := ⟨h.engs, h.engState⟩

theorem KeepsEngines.refl (s : State) : KeepsEngines s s := ⟨rfl, fun _ => rfl⟩

theorem keepsEngines_ite_logFold (b : Prop) [Decidable b] (o kind cause w1 : Nat) (s : State) :
    KeepsEngines s (if b then logFold o kind cause w1 s else s) := by
  split
  · exact (logOnly_logFold _ _ _ _ _).keepsEngines
  · exact KeepsEngines.refl s

theorem keepsEngines_wrs {l : List (Fld × Nat)} (hl : ∀ g ∈ l.map Prod.fst, ∀ k : Eid, (R.QM_ENGSTAT_STATE k).key ≠ g.key) (s : State) :
    KeepsEngines s (wrs l s) := by
  refine ⟨?_, fun k => rd_wrs_ne l s fun g hg => hl g hg k⟩
  obtain ⟨r, hr⟩ := wrs_regs l s
  rw [hr]

/-- A field of no engine's ENGSTAT. -/
theorem engState_key_ne {g : Fld} (h : g.key < 0x10000100 * 32 ∨ 0x10000200 * 32 ≤ g.key) (k : Eid) : (R.QM_ENGSTAT_STATE k).key ≠ g.key := by
  rw [Fld.key] at h ⊢
  simp only [Fld.key, R.QM_ENGSTAT_STATE] at h ⊢
  omega

theorem keepsEngines_showPair (p : Nat) (s : State) : KeepsEngines s (showPair p s) := by
  unfold showPair showF
  dsimp only
  split <;> refine keepsEngines_wrs (fun g hg => engState_key_ne (.inr ?_)) s <;>
    simp only [List.map_cons, List.map_nil, List.mem_cons, List.not_mem_nil, or_false] at hg
  · rcases hg with rfl | rfl | rfl | rfl | rfl | rfl | rfl <;> decide
  · rcases hg with rfl | rfl <;> simp only [Fld.key, R.NRG_PAIRSTAT_ACTIVE, R.NRG_PAIRSTAT_DUPLEX] <;> omega

theorem keepsEngines_modPair (p : Nat) (f : PairSt → PairSt) (s : State) : KeepsEngines s (modPair p f s) := KeepsEngines.of_regs rfl rfl

theorem queueOnly_foldReply (te0 : Bool) (t w0 w1 st : Nat) (s : State) : QueueOnly s (foldReply te0 t w0 w1 st s) :=
  (queueOnly_completeAs _ _ _ _ _ _ _ s).trans (queueOnly_whenS _ _ (fun s => queueOnly_drainQ _ _ s) _)

theorem keepsEngines_standbyDone (p st : Nat) (s : State) : KeepsEngines s (standbyDone p st s) := by
  unfold standbyDone
  split
  · split
    · exact (KeepsEngines.of_regs rfl rfl).trans (queueOnly_foldReply _ _ _ _ _ _).log.keepsEngines
    · exact KeepsEngines.refl s
  · split
    · exact (keepsEngines_modPair _ _ s).trans (queueOnly_complete _ _ _ _ _ _).log.keepsEngines
    · exact KeepsEngines.refl s

/-! ### The load and the copy (R189 steps 1 to 3) -/

theorem engState_nextFree (e : Nat) (s : State) : engState e (nextFree s) = engState e s := rfl

/-- The member is wiped, which ENGSTAT and the log show, and QM.WIPE after it. -/
def rejoinWiped (e : Nat) (s : State) : State :=
  let s := logEngine e 1 0 (incSat (R.QM_ENGSTAT_RELOADS e) (wipeEng e s))
  wrs [(R.QM_WIPE_DONE, 1), (R.QM_WIPE_FAILED, 0), (R.QM_WIPE_DURATION, (freeNow 16 s).toNat)] s

theorem keepsEngines_rejoinWiped (e : Eid) (s : State) : KeepsEngines (modEng e Eng.wiped s) (rejoinWiped e s) := by
  have hwipe : wipeEng e s = modEng e Eng.wiped s := by rw [wipeEng, en_val]
  have hcount : KeepsEngines (modEng e Eng.wiped s) (incSat (R.QM_ENGSTAT_RELOADS e) (modEng e Eng.wiped s)) :=
    ⟨rfl, fun k => rd_wr_ne _ _ (by simp only [Fld.key, R.QM_ENGSTAT_STATE, R.QM_ENGSTAT_RELOADS]; omega)⟩
  rw [rejoinWiped, hwipe]
  refine (hcount.trans (logOnly_logEngine _ _ _ _).keepsEngines).trans (keepsEngines_wrs (fun g hg => engState_key_ne ?_) _)
  simp only [List.map_cons, List.map_nil, List.mem_cons, List.not_mem_nil, or_false] at hg
  rcases hg with rfl | rfl | rfl <;> decide

theorem rejoinLoad_eq {e : Eid} {s : State} (h : isPaired e = true) (hself : engState e s ≠ 3) (hpeer : engState (peer e) s = 3)
    (htries : (getEng e s).loadTries = 0) :
    rejoinLoad e s = nextFree (setEngState e 2 (modEng e (fun x => { x with pmem := (getEng (en (peer e)) s).pmem }) (rejoinWiped e s))) := by
  unfold rejoinLoad
  dsimp only
  rw [activeOf_peer h hself hpeer, en_val, if_neg (by rw [htries]; decide)]
  rfl

/-- The member has the active member's program, and the active member is as it was. -/
theorem rejoinLoad_first {e : Eid} {s : State} (h : isPaired e = true) (hself : engState e s ≠ 3) (hpeer : engState (peer e) s = 3)
    (htries : (getEng e s).loadTries = 0) :
    engState e (rejoinLoad e s) = 2 ∧ engState (peer e) (rejoinLoad e s) = 3 ∧
      (getEng e (rejoinLoad e s)).pmem = (getEng (en (peer e)) s).pmem ∧
      getEng (en (peer e)) (rejoinLoad e s) = getEng (en (peer e)) s := by
  have hwiped := keepsEngines_rejoinWiped e s
  rw [rejoinLoad_eq h hself hpeer htries]
  refine ⟨?_, ?_, ?_, ?_⟩
  · rw [engState_nextFree, engState_setEngState_same]
  · have hkept : engState (peer e) (rejoinWiped e s) = engState (peer e) (modEng e Eng.wiped s) := hwiped.2 ⟨peer e, peer_lt h⟩
    rw [engState_nextFree, engState_setEngState_ne 2 _ (peer_ne h), engState_modEng, hkept, engState_modEng, hpeer]
  · rw [getEng_nextFree, getEng_setEngState, getEng_modEng_same]
  · rw [getEng_nextFree, getEng_setEngState, getEng_modEng_ne _ _ (en_peer_ne h), hwiped.getEng, getEng_modEng_ne _ _ (en_peer_ne h)]

/-- The data memory of `a`, with what its errors are, in member `x`. -/
def dataFrom (a x : Eng) : Eng := { x with dmem := a.dmem, dErr1 := a.dErr1, dErr2 := a.dErr2 }

theorem getEng_sweepCopy {e : Eid} {s : State} (h : isPaired e = true) (hself : engState e s ≠ 3) (hpeer : engState (peer e) s = 3) :
    getEng e (sweepCopy e s) = dataFrom (getEng (en (peer e)) s) (getEng e s) := by
  unfold sweepCopy
  dsimp only
  rw [activeOf_peer h hself hpeer, en_val, (keepsEngines_modPair _ _ _).getEng, getEng_modEng_same]
  rfl

theorem sweepCopy_regs (e : Nat) (s : State) : (sweepCopy e s).regs = s.regs := rfl

theorem getPair_sweepCopy (e : Nat) (s : State) : (getPair (pairIdx e) (sweepCopy e s)).swept = true := by
  unfold sweepCopy
  rw [getPair_modPair]

theorem mayRejoin_stopped {e : Eid} {s : State} (hstate : engState e s = 5) (hfinal : (getEng e s).final = false)
    (hnone : standbyReload (pairIdx e) s = none) (hopen : 13 ≤ e.val → ∀ o ∈ outlets, maybeShut o s = false) : mayRejoin e s = true := by
  have hdoors : (pairIdx e != 2 || !(outlets.any fun o => maybeShut o s)) = true := by
    by_cases he : 13 ≤ e.val
    · have hany : (outlets.any fun o => maybeShut o s) = false := List.any_eq_false.2 fun o ho => by rw [hopen he o ho]; decide
      rw [hany, Bool.not_false, Bool.or_true]
    · have hp : pairIdx e ≠ 2 := by unfold pairIdx; omega
      rw [bne_iff_ne.2 hp, Bool.true_or]
  unfold mayRejoin
  dsimp only
  rw [hstate, en_val, hfinal, hnone, hdoors]
  rfl

theorem otherMember {e : Eid} (h : isPaired e = true) : (if e.val = pairLow e then e + 1 else e - 1).val = peer e := by
  revert e
  decide

theorem execMemberRejoin_passes {e : Eid} {s : State} (h : isPaired e = true) (hup : te0Up s = true) (hpeer : engState (peer e) s = 3)
    (hmay : mayRejoin e s = true) (hnone : standbyReload (pairIdx e) s = none) :
    exec (.memberRejoin e true true) s =
      .next (sweepCopy e (modEng e (fun x => { x with loadTries := 0 }) (logEngine e 2 0 (rejoinLoad e s)))) := by
  have hother := otherMember h
  show execMemberRejoin e true true s = _
  unfold execMemberRejoin
  dsimp only
  rw [hother, h, hup, hpeer, hmay, hnone]
  rfl

theorem memberRejoin_yields (e : Eid) (s : State) (h : isPaired e = true) (hup : te0Up s = true) (hstate : engState e s = 5)
    (hfinal : (getEng e s).final = false) (htries : (getEng e s).loadTries = 0) (hpeer : engState (peer e) s = 3)
    (hnone : standbyReload (pairIdx e) s = none) (hopen : 13 ≤ e.val → ∀ o ∈ outlets, maybeShut o s = false) :
    Yields (.memberRejoin e true true) s fun t =>
      engState e t = 2 ∧ (getEng e t).dmem = (getEng (en (peer e)) s).dmem ∧
      (getEng e t).pmem = (getEng (en (peer e)) s).pmem ∧ (getPair (pairIdx e) t).swept = true := by
  refine ⟨_, execMemberRejoin_passes h hup hpeer (mayRejoin_stopped hstate hfinal hnone hopen) hnone, ?_⟩
  obtain ⟨hloading, hactive, hprogram, hsource⟩ := rejoinLoad_first h (by omega) hpeer htries
  have hlog := (logOnly_logEngine e 2 0 (rejoinLoad e s)).keepsEngines
  have hdata := getEng_sweepCopy (s := modEng e (fun x => { x with loadTries := 0 }) (logEngine e 2 0 (rejoinLoad e s)))
    h (by rw [engState_modEng, hlog.2 e, hloading]; decide) ((engState_modEng _ _ _ _).trans ((hlog.2 ⟨peer e, peer_lt h⟩).trans hactive))
  refine ⟨?_, ?_, ?_, getPair_sweepCopy e _⟩
  · rw [engState, rd_of_regs (sweepCopy_regs e _), ← engState, engState_modEng, hlog.2 e, hloading]
  · rw [hdata, getEng_modEng_ne _ _ (en_peer_ne h), hlog.getEng, hsource]
    rfl
  · rw [hdata, getEng_modEng_same, hlog.getEng, ← hprogram]
    rfl

/-! ### The copy of state (R189 steps 4 and 5, R190) -/

/-- Member `x` with the state of `a`, but its own program and load. -/
def stateFrom (a x : Eng) : Eng :=
  { a with pmem := x.pmem, pErr1 := x.pErr1, pErr2 := x.pErr2, chk := chkOf a.dmem, faults := x.faults,
           final := false, ran := true, loadTries := 0, loadOk := x.loadOk, loadCrc := x.loadCrc }

/-- Member `e` is STANDBY with the contents `x`, and the request that asked for it ends. -/
def rejoined (e : Eid) (x : Eng) (s : State) : State :=
  let s := setEngState e 6 (setEng e x s)
  let s := modPair (pairIdx e) (fun x => { x with swept := false, mismatches := 0, alt := stagedAll (pairLow e) s, stB := x.stA }) s
  let s := if pairIdx e = 2 then logFold 15 4 0 0 s else s
  standbyDone (pairIdx e) stOK (showPair (pairIdx e) s)

/-- The member that takes the active member's state is STANDBY with it; what follows concerns no engine. -/
theorem execRejoinSync_agrees {e : Eid} {s : State} (h : isPaired e = true) (hself : engState e s = 2) (hpeer : engState (peer e) s = 3)
    (hswept : (getPair (pairIdx e) s).swept = true) (hchk : chkOf (getEng (en (peer e)) s).dmem = (getEng (en (peer e)) s).chk) :
    ∃ t, exec (.rejoinSync e) s = .next t ∧ KeepsEngines (setEngState e 6 (setEng e (stateFrom (getEng (en (peer e)) s) (getEng e s)) s)) t := by
  refine ⟨rejoined e (stateFrom (getEng (en (peer e)) s) (getEng e s)) s, ?_, ?_⟩
  · show execRejoinSync e s = _
    unfold execRejoinSync
    dsimp only
    rw [activeOf_peer h (by rw [hself]; decide) hpeer, h, hswept, hself, pairUp_peer h hpeer, if_pos hchk]
    rfl
  · exact ((keepsEngines_modPair _ _ _).trans (keepsEngines_ite_logFold _ _ _ _ _ _)).trans
      ((keepsEngines_showPair _ _).trans (keepsEngines_standbyDone _ _ _))

theorem rejoinSync_yields (e : Eid) (s : State) (h : isPaired e = true) (hself : engState e s = 2) (hpeer : engState (peer e) s = 3)
    (hswept : (getPair (pairIdx e) s).swept = true) (hchk : chkOf (getEng (en (peer e)) s).dmem = (getEng (en (peer e)) s).chk) :
    Yields (.rejoinSync e) s fun t =>
      engState e t = 6 ∧ (getEng e t).g = (getEng (en (peer e)) s).g ∧ (getEng e t).pc = (getEng (en (peer e)) s).pc ∧
      (getEng e t).dmem = (getEng (en (peer e)) s).dmem ∧ (getEng e t).pmem = (getEng e s).pmem := by
  obtain ⟨t, hexec, hkeeps⟩ := execRejoinSync_agrees h hself hpeer hswept hchk
  have hcopy : getEng e t = stateFrom (getEng (en (peer e)) s) (getEng e s) := by
    rw [hkeeps.getEng, getEng_setEngState, getEng_setEng_same]
  refine ⟨t, hexec, ?_, ?_⟩
  · exact (hkeeps.2 e).trans (engState_setEngState_same e 6 _)
  · rw [hcopy]
    exact ⟨rfl, rfl, rfl, rfl⟩

/-- Settles O27: the stopped member is wiped and loaded (`rejoinLoad_first`), swept (`getEng_sweepCopy`) and, its check
value agreeing, made STANDBY with the active member's state (`execRejoinSync_agrees`). -/
theorem stoppedMemberRejoins : Obligations.StoppedMemberRejoins := by
  unfold Obligations.StoppedMemberRejoins
  exact ⟨memberRejoin_yields, rejoinSync_yields⟩

end Sys2Proof.Machine
end

section
/-!
O38: calibration, in-service tests and the standby's self-test (R191 to R196).
-/
namespace Sys2Proof.Machine
open Sys2Proof.Claims

/-! ### A request that meets no refusal -/

theorem QueueOnly.now {s u : State} (h : QueueOnly s u) : u.now = s.now := h.log.now

theorem QueueOnly.meters {s u : State} (h : QueueOnly s u) : u.meters = s.meters := by
  have hs := congrArg State.meters h.1
  exact hs

theorem QueueOnly.getMt {s u : State} (h : QueueOnly s u) (o : Nat) : Machine.getMt o u = Machine.getMt o s := by
  rw [Machine.getMt, h.meters, Machine.getMt]

theorem QueueOnly.supply {s u : State} (h : QueueOnly s u) : u.supply = s.supply := by
  have hs := congrArg State.supply h.1
  exact hs

theorem QueueOnly.mram {s u : State} (h : QueueOnly s u) : u.mram = s.mram := by
  have hs := congrArg State.mram h.1
  exact hs

theorem QueueOnly.pairs {s u : State} (h : QueueOnly s u) : u.pairs = s.pairs := by
  have hs := congrArg State.pairs h.1
  exact hs

/-- The owner takes the request and carries it out on a state in which only queues have changed. -/
theorem chanReq_accepts {n : Fin 8} {t : Nat} {w0 w1 : W24} {cs : List Cont} {denied sealed budget : Nat → Nat → State → Bool}
    {fltCounts : Bool} {accept : Nat → Nat → State → State} {s : State} (hown : Owned n w0 s)
    (hflt : flag (R.FLT_CHSTAT_FLT (reqOutlet w0) (reqChan w0)) s = false)
    (hok : ∀ u, QueueOnly s u → denied (reqOutlet w0) (reqChan w0) u = false ∧
      (locked u && sealed (reqOutlet w0) (reqChan w0) u) = false ∧ budget (reqOutlet w0) (reqChan w0) u = false) :
    ∃ u, QueueOnly s u ∧ chanReq n t w0 w1 cs denied sealed budget fltCounts accept s = accept (reqOutlet w0) (reqChan w0) u := by
  have hu := queueOnly_forwarded n t (ownerQ (chanOwner (reqOutlet w0) (reqChan w0))) (reqOutlet w0) w0 w1 cs s
  obtain ⟨hdenied, hsealed, hbudget⟩ := hok _ hu
  refine ⟨_, hu, ?_⟩
  have hfault : flag (R.FLT_CHSTAT_FLT (reqOutlet w0) (reqChan w0)) (forwarded n t (ownerQ (chanOwner
      (reqOutlet w0) (reqChan w0))) (reqOutlet w0) w0 w1 cs s) = false := by
    have hrd : rd (R.FLT_CHSTAT_FLT (reqOutlet w0) (reqChan w0)) _ = rd (R.FLT_CHSTAT_FLT (reqOutlet w0) (reqChan w0)) s :=
      hu.rd_page (reqOutlet_lt w0) (reqChan_lt w0) rfl
    rw [flag, hrd]
    exact hflt
  unfold chanReq
  dsimp only
  rw [ownerReq_owned hown]
  simp only [hfault, hown.2.1, hdenied, hsealed, hbudget, refusal, Bool.and_false, Bool.not_true, Bool.or_self, Bool.false_eq_true,
    if_false, if_true]

/-- R154: a listed channel's outlet is one of the eight, or that of S0 to S3. -/
theorem reqOutlet_le {w0 : W24} (h : chanListed w0 = true) : reqOutlet w0 ≤ 8 := by
  simp only [chanListed, chanNamed, Bool.and_eq_true, Bool.or_eq_true, decide_eq_true_eq] at h
  omega

/-! ### Staged fields and their copies (R195, R198) -/

/-- A field of the metering configuration, or of the calibration windows. -/
def Staged (f : Fld) : Prop := f.lsb < 32 ∧ (f.addr / 2 ^ 16 = 0x1100 ∨ f.addr / 2 ^ 32 = 3)

/-- A field that is no copy. -/
def Uncopied (g : Fld) : Prop := g.lsb < 32 ∧ g.addr / 2 ^ 32 ≠ 4 ∧ g.addr / 2 ^ 32 ≠ 7

theorem Staged.uncopied {f : Fld} (h : Staged f) : Uncopied f := by
  obtain ⟨hl, ha⟩ := h
  exact ⟨hl, by omega, by omega⟩

theorem Staged.uncopied_eff {f : Fld} (h : Staged f) : Uncopied f.eff := by
  obtain ⟨hl, ha⟩ := h
  refine ⟨hl, ?_, ?_⟩ <;> (simp only [Fld.eff]; omega)

theorem Uncopied.key_ne {f g : Fld} (hg : Uncopied g) (hf : Staged f) : g.key ≠ f.copy.key := by
  obtain ⟨hgl, hg4, hg7⟩ := hg
  obtain ⟨hl, ha⟩ := hf
  simp only [Fld.key, Fld.copy]
  omega

theorem Staged.rd_queueOnly {f : Fld} (h : Staged f) {s u : State} (hu : QueueOnly s u) : rd f u = rd f s := by
  obtain ⟨hl, ha⟩ := h
  refine hu.rd_above_queues hl (by omega) ?_
  simp only [Fld.block]
  omega

theorem Staged.rd_eff_queueOnly {f : Fld} (h : Staged f) {s u : State} (hu : QueueOnly s u) : rd f.eff u = rd f.eff s := by
  obtain ⟨hl, ha⟩ := h
  refine hu.rd_above_queues hl ?_ ?_ <;> (simp only [Fld.block, Fld.eff]; omega)

theorem metFields_cases {o : Nat} {f : Fld} (h : f ∈ metFields o) :
    f.lsb < 32 ∧ 0x11000E00 + o * 0x1000 ≤ f.addr ∧ f.addr < 0x11000E20 + o * 0x1000 := by
  unfold metFields at h
  split at h
  next ho =>
    subst ho
    rw [List.mem_singleton.1 h]
    decide
  · simp only [List.mem_cons, List.not_mem_nil, or_false] at h
    rcases h with rfl | rfl | rfl | rfl | rfl | rfl | rfl | rfl <;> refine ⟨Nat.le_of_ble_eq_true rfl, ?_, ?_⟩ <;>
      simp only [R.MET_OCFG_TYPE, R.MET_OCFG_ACCMODE, R.MET_OCFG_FBAND, R.MET_OCFG_FEN, R.MET_UREF_MV, R.MET_IREF_MA,
        R.MET_NOLOAD_I, R.MET_CALID_ID] <;> omega

theorem staged_metFields {o : Nat} (ho : o ≤ 8) {f : Fld} (h : f ∈ metFields o) : Staged f := by
  obtain ⟨hl, hlo, hhi⟩ := metFields_cases h
  exact ⟨hl, .inl (by omega)⟩

theorem calSets_bounds {o c b q : Nat} (h : (c, b, q) ∈ calSets o) : c < 14 ∧ b < 8 ∧ q < 6 := by
  simp only [calSets, List.mem_flatMap, List.mem_map, List.mem_filter, List.mem_range, Prod.mk.injEq] at h
  obtain ⟨c', hc, b', hb, q', ⟨hq, -⟩, rfl, rfl, rfl⟩ := h
  refine ⟨?_, hb, hq⟩
  unfold chansOf at hc
  split at hc <;> simp at hc <;> omega

/-- A calibration window's field, which lies apart from the configuration. -/
theorem calFields_cases {o : Nat} (ho : o ≤ 8) {f : Fld} (h : f ∈ calFields o) : f ∈ metFields o ∨ (f.lsb < 32 ∧ f.addr / 2 ^ 32 = 3) := by
  unfold calFields at h
  refine (List.mem_append.1 h).imp_right fun h => ?_
  obtain ⟨⟨c, b, q⟩, hset, hf⟩ := List.mem_flatMap.1 h
  obtain ⟨hc, hb, hq⟩ := calSets_bounds hset
  simp only [List.mem_cons, List.not_mem_nil, or_false] at hf
  rcases hf with rfl | rfl
  · refine ⟨Nat.le_of_ble_eq_true rfl, ?_⟩
    simp only [calGain]
    omega
  · refine ⟨Nat.le_of_ble_eq_true rfl, ?_⟩
    simp only [calOfs]
    omega

theorem staged_calFields {o : Nat} (ho : o ≤ 8) {f : Fld} (h : f ∈ calFields o) : Staged f :=
  (calFields_cases ho h).elim (staged_metFields ho) fun ⟨hl, ha⟩ => ⟨hl, .inr ha⟩

/-- The configuration's fields have keys of their own. -/
theorem metFields_key_inj {o : Nat} (ho : o ≤ 8) {f g : Fld} (hf : f ∈ metFields o) (hg : g ∈ metFields o) (h : g.key = f.key) : g = f := by
  have hall : ∀ k : Fin 9, ∀ f ∈ metFields k, ∀ g ∈ metFields k, g.key = f.key → g = f := by decide
  exact hall ⟨o, by omega⟩ f hf g hg h

theorem calFields_key_inj {o : Nat} (ho : o ≤ 8) {f g : Fld} (hf : f ∈ metFields o) (hg : g ∈ calFields o) (h : g.key = f.key) : g = f := by
  rcases calFields_cases ho hg with hmet | ⟨hl, ha⟩
  · exact metFields_key_inj ho hf hmet h
  · obtain ⟨hfl, -, hhi⟩ := metFields_cases hf
    simp only [Fld.key] at h
    omega

/-! ### CAL_APPLY copies what is staged (R195) -/

/-- Each staged field stands in its copy. -/
def copyStaged (l : List Fld) (s : State) : State := forEach l (fun f s => wr f.copy (rd f s) s) s

theorem rd_copyStaged_ne {l : List Fld} {g : Fld} (h : ∀ f ∈ l, g.key ≠ f.copy.key) (s : State) : rd g (copyStaged l s) = rd g s :=
  forEach_keeps (rd g) l _ (fun f hf s => rd_wr_ne _ s (h f hf)) s

theorem copy_key_inj {f g : Fld} (h : g.copy.key = f.copy.key) : g.key = f.key := by
  simp only [Fld.key, Fld.copy] at h ⊢
  omega

theorem rd_copy_copyStaged {l : List Fld} {f : Fld} (hl : ∀ g ∈ l, Staged g) (hf : f ∈ l) (hinj : ∀ g ∈ l, g.key = f.key → g = f)
    (s : State) : rd f.copy (copyStaged l s) = rd f s % 2 ^ f.wid := by
  induction l generalizing s with
  | nil => exact absurd hf List.not_mem_nil
  | cons a l ih =>
    show rd f.copy (copyStaged l (wr a.copy (rd a s) s)) = _
    have htail : ∀ g ∈ l, Staged g := fun g hg => hl g (List.mem_cons_of_mem _ hg)
    by_cases hmem : f ∈ l
    · rw [ih htail hmem (fun g hg => hinj g (List.mem_cons_of_mem _ hg)),
        rd_wr_ne _ _ ((hl f hf).uncopied.key_ne (hl a List.mem_cons_self))]
    · obtain rfl : f = a := (List.mem_cons.1 hf).resolve_right hmem
      rw [rd_copyStaged_ne fun g hg hk => hmem (hinj g (List.mem_cons_of_mem _ hg) (copy_key_inj hk.symm) ▸ hg)]
      exact rd_wr_same _ _ _

/-- The staged sets of the outlet count as applied. -/
def cleanCopies (o : Nat) (s : State) : State := forEach (calChans o) (fun c s => wr (R.FLT_CALSTAT_DIRTY o c).copy 0 s) s

theorem calChans_lt {o c : Nat} (h : c ∈ calChans o) : c < 14 := by
  obtain ⟨hc, -⟩ := List.mem_filter.1 h
  unfold chansOf at hc
  split at hc <;> simp at hc <;> omega

theorem rd_cleanCopies {o : Nat} (ho : o ≤ 8) {g : Fld} (hl : g.lsb < 32)
    (ha : g.addr / 2 ^ 32 = 4 → g.addr % 0x100 ≠ 0x90) (s : State) : rd g (cleanCopies o s) = rd g s := by
  refine forEach_keeps (rd g) _ _ (fun c hc s => rd_wr_ne _ s ?_) s
  have hlt := calChans_lt hc
  simp only [Fld.key, Fld.copy, R.FLT_CALSTAT_DIRTY]
  omega

/-- What CAL_APPLY leaves once it is accepted; the request itself then waits for its end. -/
def stagedCopied (o : Nat) (s : State) : State := cleanCopies o (copyStaged (calFields o) s)

/-- A loop of register writes touches registers only. -/
theorem forEach_regsOnly {α : Type} (l : List α) (f : α → State → State) (h : ∀ a s, ∃ r, f a s = { s with regs := r }) (s : State) :
    ∃ r, forEach l f s = { s with regs := r } := by
  induction l generalizing s with
  | nil => exact ⟨s.regs, rfl⟩
  | cons a l ih =>
    obtain ⟨r, hr⟩ := h a s
    obtain ⟨r', hr'⟩ := ih (f a s)
    refine ⟨r', hr'.trans ?_⟩
    rw [hr]

theorem stagedCopied_regs (o : Nat) (s : State) : ∃ r, stagedCopied o s = { s with regs := r } := by
  obtain ⟨r, hr⟩ := forEach_regsOnly (calFields o) (fun f s => wr f.copy (rd f s) s) (fun _ _ => ⟨_, rfl⟩) s
  obtain ⟨r', hr'⟩ := forEach_regsOnly (calChans o) (fun c s => wr (R.FLT_CALSTAT_DIRTY o c).copy 0 s) (fun _ _ => ⟨_, rfl⟩)
    (copyStaged (calFields o) s)
  refine ⟨r', hr'.trans ?_⟩
  rw [copyStaged, hr]

theorem rd_copy_stagedCopied {o : Nat} (ho : o ≤ 8) {f : Fld} (hf : f ∈ metFields o) (s : State) :
    rd f.copy (stagedCopied o s) = rd f s % 2 ^ f.wid := by
  obtain ⟨hl, hlo, hhi⟩ := metFields_cases hf
  have hmem : f ∈ calFields o := List.mem_append_left _ hf
  rw [stagedCopied, rd_cleanCopies ho (g := f.copy) hl (by simp only [Fld.copy]; omega)]
  exact rd_copy_copyStaged (fun _ => staged_calFields ho) hmem (fun _ hg => calFields_key_inj ho hf hg) s

theorem rd_stagedCopied {o : Nat} (ho : o ≤ 8) {g : Fld} (hg : Uncopied g) (s : State) : rd g (stagedCopied o s) = rd g s := by
  rw [stagedCopied, rd_cleanCopies ho hg.1 fun h => absurd h hg.2.1]
  exact rd_copyStaged_ne (fun f hf => hg.key_ne (staged_calFields ho hf)) s

/-! ### CAL_APPLY (R195, R196) -/

/-- What R195 asks of the staged configuration does not depend on the queues. -/
theorem QueueOnly.applicable {s u : State} (h : QueueOnly s u) {o : Nat} (ho : o < 8) (happ : applicable o s) : applicable o u := by
  have hstaged : ∀ f ∈ metFields o, rd f u = rd f s := fun f hf => (staged_metFields (by omega) hf).rd_queueOnly h
  have heff : ∀ f ∈ metFields o, rd f.eff u = rd f.eff s := fun f hf => (staged_metFields (by omega) hf).rd_eff_queueOnly h
  have hfields : metFields o = _ := if_neg (by omega)
  rw [hfields] at hstaged heff
  simp only [List.forall_mem_cons] at hstaged heff
  obtain ⟨htype, hacc, -, -, huref, hiref, -⟩ := hstaged
  obtain ⟨-, hacc', -, -, huref', hiref', -⟩ := heff
  have hrate : ∀ c < 16, rd (R.FLT_CHCFG_RATE o c) u = rd (R.FLT_CHCFG_RATE o c) s := fun c hc => h.rd_page (by omega) hc rfl
  have hresp : ∀ c < 16, rd (R.FLT_CHCFG_RESP o c) u = rd (R.FLT_CHCFG_RESP o c) s := fun c hc => h.rd_page (by omega) hc rfl
  have hcomp : ∀ c < 16, rd (R.FLT_CHCFG_COMP o c) u = rd (R.FLT_CHCFG_COMP o c) s := fun c hc => h.rd_page (by omega) hc rfl
  have hspl : ∀ c < 16, rd (R.FLT_CHCFG_SPLMODE o c) u = rd (R.FLT_CHCFG_SPLMODE o c) s := fun c hc => h.rd_page (by omega) hc rfl
  have hsetup : ∀ ty, setupOk o ty u = setupOk o ty s := fun ty => by
    unfold setupOk
    simp [flag, hrate, hresp, hcomp, hspl]
  have hstate : ostate o u = ostate o s :=
    h.rd_above_queues (Nat.le_of_ble_eq_true rfl) (by simp only [R.OUT_STATE_OSTATE]; omega)
      (by simp only [Fld.block, R.OUT_STATE_OSTATE]; omega)
  have hbidir : rd (R.OUT_OCFG_BIDIR o).eff u = rd (R.OUT_OCFG_BIDIR o).eff s :=
    h.rd_above_queues (Nat.le_of_ble_eq_true rfl) (by simp only [Fld.eff, R.OUT_OCFG_BIDIR]; omega)
      (by simp only [Fld.block, Fld.eff, R.OUT_OCFG_BIDIR]; omega)
  unfold Claims.applicable at happ ⊢
  rw [hsetup, htype, huref, hiref, inSession, hstate, ← inSession, h.outOfService (by omega), h.metType (by omega), huref', hiref',
    hacc', flag, flag, hacc, hbidir]
  exact happ

/-- R195, R196: what of an outlet's setup refuses the request. -/
def calRefused (o : Nat) (s : State) : Bool :=
  !(setupOk o (rd (R.MET_OCFG_TYPE o) s) s) ||
  !(keOk (rd (R.MET_OCFG_TYPE o) s) (rd (R.MET_UREF_MV o) s) (rd (R.MET_IREF_MA o) s)) ||
  inSession o s ||
  (!(outOfService o s) && (rd (R.MET_OCFG_TYPE o) s != metType o s || rd (R.MET_UREF_MV o) s != rd (R.MET_UREF_MV o).eff s
    || rd (R.MET_IREF_MA o) s != rd (R.MET_IREF_MA o).eff s || rd (R.MET_OCFG_ACCMODE o) s != rd (R.MET_OCFG_ACCMODE o).eff s)) ||
  (flag (R.MET_OCFG_ACCMODE o) s && flag (R.OUT_OCFG_BIDIR o).eff s)

theorem calRefused_of_applicable {o : Nat} {s : State} (h : applicable o s) : calRefused o s = false := by
  obtain ⟨hsetup, hke, hsession, hservice, hmode⟩ := h
  have hmode' : (flag (R.MET_OCFG_ACCMODE o) s && flag (R.OUT_OCFG_BIDIR o).eff s) = false :=
    Bool.eq_false_iff.2 fun h => hmode (Bool.and_eq_true _ _ ▸ h)
  rw [calRefused, hsetup, hke, hsession, hmode']
  rcases hservice with hout | ⟨htype, huref, hiref, hacc⟩
  · rw [hout]
    rfl
  · rw [htype, huref, hiref, hacc]
    simp

/-- A CAL_APPLY of the outlet waits for its end. -/
def calPending (o : Nat) (s : State) : Bool := if o < 8 then (getMt o s).cal.isSome else s.supply.cal.isSome

/-- The copies are taken and the request waits. -/
def calTaken (n : Fin 8) (w0 : W24) (o : Nat) (s : State) : State :=
  if o < 8 then modMt o (fun m => { m with cal := some (n.val, w0.toNat) }) (stagedCopied o s)
  else { stagedCopied o s with supply := { (stagedCopied o s).supply with cal := some (n.val, w0.toNat) } }

theorem calTaken_cal {n : Fin 8} {w0 : W24} {o : Nat} (s : State) :
    (o < 8 → (getMt o (calTaken n w0 o s)).cal = some (n.val, w0.toNat)) ∧ (o = 8 → (calTaken n w0 o s).supply.cal = some (n.val, w0.toNat)) := by
  refine ⟨fun h => ?_, fun h => ?_⟩
  · rw [calTaken, if_pos h, getMt_modMt]
  · rw [calTaken, if_neg (by omega)]

theorem calTaken_rest (n : Fin 8) (w0 : W24) (o : Nat) (s : State) :
    (calTaken n w0 o s).regs = (stagedCopied o s).regs ∧ (calTaken n w0 o s).mram = s.mram ∧ (calTaken n w0 o s).samp = s.samp := by
  obtain ⟨r, hr⟩ := stagedCopied_regs o s
  unfold calTaken
  rw [hr]
  split <;> exact ⟨rfl, rfl, rfl⟩

theorem execCalApply_accepts {n : Fin 8} {w0 : W24} {s : State} (hown : Owned n w0 s) (hlock : locked s = false)
    (hflt : flag (R.FLT_CHSTAT_FLT (reqOutlet w0) (reqChan w0)) s = false) (hsupply : reqOutlet w0 = 8 → s.supply.cal = none)
    (hmeter : reqOutlet w0 < 8 → applicable (reqOutlet w0) s ∧ (getMt (reqOutlet w0) s).cal = none) :
    ∃ u, QueueOnly s u ∧ exec (.calApply n w0 0) s = .next (calTaken n w0 (reqOutlet w0) u) := by
  have ho : reqOutlet w0 ≤ 8 := reqOutlet_le hown.2.1
  have hfree : ∀ u, QueueOnly s u → (decide (reqOutlet w0 < 8) && calRefused (reqOutlet w0) u) = false ∧ (locked u && true) = false ∧
      calPending (reqOutlet w0) u = false := fun u hu => by
    by_cases h8 : reqOutlet w0 < 8
    · rw [calRefused_of_applicable (hu.applicable h8 (hmeter h8).1), hu.locked, hlock, calPending, if_pos h8, hu.getMt, (hmeter h8).2,
        Bool.and_false]
      exact ⟨rfl, rfl, rfl⟩
    · rw [decide_eq_false h8, hu.locked, hlock, calPending, if_neg h8, hu.supply, hsupply (by omega)]
      exact ⟨rfl, rfl, rfl⟩
  obtain ⟨u, hu, heq⟩ := chanReq_accepts (t := 0x20) (w1 := 0) (cs := []) (fltCounts := true)
    (denied := fun o _ s => decide (o < 8) && calRefused o s) (sealed := fun _ _ _ => true) (budget := fun o _ s => calPending o s)
    (accept := fun o _ s => calTaken n w0 o s) hown hflt hfree
  exact ⟨u, hu, congrArg Host.Outcome.next heq⟩

theorem calApply_yields (n : Fin 8) (w0 : W24) (s : State) (hown : Owned n w0 s) (hlock : locked s = false)
    (hflt : flag (R.FLT_CHSTAT_FLT (reqOutlet w0) (reqChan w0)) s = false) (hsupply : reqOutlet w0 = 8 → s.supply.cal = none)
    (hmeter : reqOutlet w0 < 8 → applicable (reqOutlet w0) s ∧ (getMt (reqOutlet w0) s).cal = none) :
    Yields (.calApply n w0 0) s fun t =>
      (reqOutlet w0 < 8 → (getMt (reqOutlet w0) t).cal = some (n.val, w0.toNat)) ∧
      (reqOutlet w0 = 8 → t.supply.cal = some (n.val, w0.toNat)) ∧
      (∀ f ∈ metFields (reqOutlet w0), rd f.copy t = rd f s % 2 ^ f.wid) ∧
      (∀ f ∈ calFields (reqOutlet w0), rd f.eff t = rd f.eff s ∧ rd f t = rd f s) ∧ t.mram = s.mram ∧ t.samp = s.samp := by
  have ho : reqOutlet w0 ≤ 8 := reqOutlet_le hown.2.1
  obtain ⟨u, hu, hexec⟩ := execCalApply_accepts hown hlock hflt hsupply hmeter
  obtain ⟨hregs, hmram, hsamp⟩ := calTaken_rest n w0 (reqOutlet w0) u
  obtain ⟨hmine, hmains⟩ := calTaken_cal (n := n) (w0 := w0) (o := reqOutlet w0) u
  refine ⟨_, hexec, hmine, hmains, fun f hf => ?_, fun f hf => ?_, hmram.trans hu.mram, hsamp.trans hu.samp⟩
  · rw [rd_of_regs hregs, rd_copy_stagedCopied ho hf, (staged_metFields ho hf).rd_queueOnly hu]
  · have hf' := staged_calFields ho hf
    rw [rd_of_regs hregs, rd_of_regs hregs, rd_stagedCopied ho hf'.uncopied_eff, rd_stagedCopied ho hf'.uncopied]
    exact ⟨hf'.rd_eff_queueOnly hu, hf'.rd_queueOnly hu⟩

/-! ### CH_TEST (R191 to R193) -/

theorem QueueOnly.pairDuplex {s u : State} (h : QueueOnly s u) {lo : Nat} (hlo : lo < 15) : pairDuplex lo u = pairDuplex lo s := by
  have hstate : ∀ e < 16, engState e u = engState e s := fun e he => h.log.engState_lt he
  simp only [Machine.pairDuplex, pairUp, running, hstate lo (by omega), hstate (lo + 1) (by omega)]

theorem chanOwner_lt (o c : Nat) : chanOwner o c < 15 := by
  unfold chanOwner pairOf
  split_ifs <;> decide

theorem QueueOnly.testBudget {s u : State} (h : QueueOnly s u) (o c : Nat) : testBudget o c u = testBudget o c s := by
  rw [Machine.testBudget, h.getCh, h.now, Machine.testBudget]

theorem QueueOnly.testCount {s u : State} (h : QueueOnly s u) : testCount u = testCount s :=
  List.countP_congr fun oc _ => by rw [h.getCh]

/-- R191, R196: the request's words name no test. -/
def testDenied (w1 : W24) (o c : Nat) (s : State) : Bool :=
  fld w1 23 10 != 0 || fld w1 9 0 == 0 || decide (1000 < fld w1 9 0) || decide (o < 8 ∧ 8 ≤ c) || !(flag (R.FLT_CHCFG_EN o c) s)

/-- R36, R39, R191: no test may begin on the channel now. -/
def testBarred (ms o c : Nat) (s : State) : Bool :=
  !(pairDuplex (chanOwner o c) s) || chanBusy o c s || decide (1000 < testBudget o c s + ms) ||
    decide (limTests (limitMode s) ≤ testCount s) || ((chansOf o).any fun d => (getCh o d s).testOn)

/-- The injections of a channel in the last 3600 s. -/
def recentTests (o c : Nat) (s : State) : List (Nat × Nat) := (getCh o c s).testLog.filter fun e => decide (s.now < e.1 + 3600000000)

/-- R193: the outlet's second counts as one in which no commit fell. -/
def commitOpened (o : Nat) (s : State) : State := whenS (decide (o < 8)) (modMt o fun m => { m with commitSince := false }) s

/-- The test begins: the reference stands on the channel's inputs for `ms`. -/
def testBegun (n : Fin 8) (w0 : W24) (ms o c : Nat) (s : State) : State :=
  modPaths o c (fun ch => { ch with inject := true })
    (modCh o c (fun ch => { ch with testOn := true, testLeft := 8 * ms, testN := n, testW := w0.toNat,
                                    testLog := (s.now, ms) :: recentTests o c s, tHL := 0, tLL := 0 }) (commitOpened o s))

theorem commitOpened_eq (o : Nat) (s : State) :
    commitOpened o s = if o < 8 then modMt o (fun m => { m with commitSince := false }) s else s := by
  unfold commitOpened whenS
  simp only [decide_eq_true_eq]

theorem commitOpened_now (o : Nat) (s : State) : (commitOpened o s).now = s.now := by
  rw [commitOpened_eq]
  split <;> rfl

theorem QueueOnly.commitOpened {s u : State} (h : QueueOnly s u) (o : Nat) : QueueOnly (commitOpened o s) (commitOpened o u) := by
  have hkeep : ∀ f : Meter → Meter, QueueOnly (modMt o f s) (modMt o f u) := fun f => ⟨congrArg (modMt o f) h.1, h.2⟩
  rw [commitOpened_eq, commitOpened_eq]
  split
  · exact hkeep _
  · exact h

theorem modPaths_now (o c : Nat) (f : Chan → Chan) (s : State) : (modPaths o c f s).now = s.now := by
  unfold modPaths
  split <;> rfl

theorem getCh_testBegun (n : Fin 8) (w0 : W24) (ms o c : Nat) (s : State) :
    getCh o c (testBegun n w0 ms o c s) = { getCh o c (commitOpened o s) with
      testOn := true, testLeft := 8 * ms, testN := n, testW := w0.toNat,
      testLog := (s.now, ms) :: recentTests o c s, tHL := 0, tLL := 0, inject := true } := by
  rw [testBegun, getCh_modPaths, getCh_modCh_same]

theorem inject_low_testBegun (n : Fin 8) (w0 : W24) (ms : Nat) {o c : Nat} (h : isCurrent o c = true) (s : State) :
    (getCh o (c + 4) (testBegun n w0 ms o c s)).inject = true := by
  rw [testBegun, modPaths, if_pos h, getCh_modCh_same]

theorem testBudget_testBegun (n : Fin 8) (w0 : W24) (ms o c : Nat) (s : State) :
    testBudget o c (testBegun n w0 ms o c s) = testBudget o c s + ms := by
  have hnow : (testBegun n w0 ms o c s).now = s.now := (modPaths_now _ _ _ _).trans (commitOpened_now o s)
  have hfilter : ((s.now, ms) :: recentTests o c s).filter (fun e => decide (s.now < e.1 + 3600000000)) =
      (s.now, ms) :: recentTests o c s := by
    rw [List.filter_cons_of_pos (by simp), recentTests, List.filter_filter]
    simp only [Bool.and_self]
  rw [testBudget, hnow, getCh_testBegun, hfilter, List.map_cons, List.sum_cons, Nat.add_comm, testBudget, recentTests]

theorem onlyChan_testBegun (n : Fin 8) (w0 : W24) (ms o c : Nat) (s : State) : OnlyChan o c (commitOpened o s) (testBegun n w0 ms o c s) :=
  (OnlyChan.setCh o c _ _).trans (keepsSetup_modPaths o c _ _).1

theorem chTest_yields (n : Fin 8) (w0 w1 : W24) (s : State) (hown : Owned n w0 s) :
    let o := reqOutlet w0
    let c := reqChan w0
    let ms := fld w1 9 0
    flag (R.FLT_CHSTAT_FLT o c) s = false → fld w1 23 10 = 0 → 1 ≤ ms → ms ≤ 1000 → o = 8 ∨ c < 8 →
    flag (R.FLT_CHCFG_EN o c) s = true → pairDuplex (chanOwner o c) s = true → chanBusy o c s = false →
    testBudget o c s + ms ≤ 1000 → testCount s < limTests (limitMode s) →
    (∀ d ∈ chansOf o, (getCh o d s).testOn = false) →
    Yields (.chTest n w0 w1) s fun t =>
      (getCh o c t).testOn = true ∧ (getCh o c t).inject = true ∧ (getCh o c t).testN = n ∧ (getCh o c t).testW = w0.toNat ∧
      (isCurrent o c = true → (getCh o (c + 4) t).inject = true) ∧
      testBudget o c t = testBudget o c s + ms ∧
      OnlyChan o c (if o < 8 then modMt o (fun m => { m with commitSince := false }) s else s) t := by
  intro o c ms hflt hbits hlo hhi hchan hen hduplex hbusy hbudget hcount hnone
  have hallowed : ∀ u, QueueOnly s u → testDenied w1 o c u = false ∧ (locked u && false) = false ∧ testBarred ms o c u = false := by
    intro u hu
    have hen' : flag (R.FLT_CHCFG_EN o c) u = true := by
      have hrd : rd (R.FLT_CHCFG_EN o c) u = rd (R.FLT_CHCFG_EN o c) s := hu.rd_page (reqOutlet_lt w0) (reqChan_lt w0) rfl
      rw [flag, hrd]
      exact hen
    have hbusy' : chanBusy o c u = false := by rw [chanBusy, hu.getCh, ← chanBusy, hbusy]
    have hnone' : ((chansOf o).any fun d => (getCh o d u).testOn) = false :=
      List.any_eq_false.2 fun d hd => by rw [hu.getCh, hnone d hd]; decide
    refine ⟨?_, Bool.and_false _, ?_⟩
    · simp only [testDenied, hbits, hen', Bool.or_eq_false_iff, decide_eq_false_iff_not, beq_eq_false_iff_ne, bne_self_eq_false,
        Bool.not_true, and_true, true_and]
      omega
    · simp only [testBarred, hu.pairDuplex (chanOwner_lt o c), hduplex, hbusy', hu.testBudget, hu.testCount, hu.limitMode, hnone',
        Bool.or_eq_false_iff, decide_eq_false_iff_not, Bool.not_true, true_and, and_true]
      omega
  obtain ⟨u, hu, heq⟩ := chanReq_accepts (t := 0x21) (w1 := w1) (cs := []) (fltCounts := true) (denied := testDenied w1)
    (sealed := fun _ _ _ => false) (budget := testBarred ms) (accept := testBegun n w0 ms) hown hflt hallowed
  refine ⟨testBegun n w0 ms o c u, congrArg Host.Outcome.next heq, ?_⟩
  beta_reduce
  rw [getCh_testBegun, testBudget_testBegun, hu.testBudget, ← commitOpened_eq]
  exact ⟨rfl, rfl, rfl, rfl, fun h => inject_low_testBegun n w0 ms h u, rfl,
    ((hu.commitOpened o).onlyChan o c).trans (onlyChan_testBegun n w0 ms o c u)⟩

/-! ### The end of a test (R194) -/

theorem enter_foldl (ms : List Msg) (x : Queue) : ((ms.foldl (fun x m => Queue.enter m x) x).ent.map Prod.snd = x.ent.map Prod.snd ++ ms) := by
  induction ms generalizing x with
  | nil => exact (List.append_nil _).symm
  | cons m ms ih =>
    rw [List.foldl_cons, ih]
    simp [Queue.enter]

/-- Messages for which there is room enter in their order. -/
theorem getQ_forEach_putQ {q : Nat} {ms : List Msg} {s : State} (hen : (getQ (qn q) s).en = true) (hlate : (getQ (qn q) s).late = [])
    (hroom : (getQ (qn q) s).used + ms.length ≤ (getQ (qn q) s).cap) :
    getQ (qn q) (forEach ms (putQ q) s) = ms.foldl (fun x m => Queue.enter m x) (getQ (qn q) s) := by
  induction ms generalizing s with
  | nil => rfl
  | cons m ms ih =>
    rw [List.length_cons] at hroom
    have hput := getQ_putQ_open (m := m) hen hlate (decide_eq_false (by omega))
    have hused : (Queue.enter m (getQ (qn q) s)).used = (getQ (qn q) s).used + 1 := by
      simp only [Queue.used, Queue.enter, List.length_append, List.length_singleton]
      omega
    show getQ (qn q) (forEach ms (putQ q) (putQ q m s)) = _
    rw [ih (by rw [hput]; exact hen) (by rw [hput]; exact hlate) (by rw [hput, hused, Nat.add_assoc, Nat.add_comm 1]; exact hroom), hput,
      List.foldl_cons]

/-- R98: the one completion that is owed goes out, with its continuations. -/
theorem getQ_completeWith_one {n typ w0 w1 st : Nat} {cs : List Cont} {s u : State} (hqs : u.qs = s.qs) (howed : u.owed = s.owed)
    (hup : te0Up u = te0Up s) (howes : OwesOnly n typ w0 s) (hen : (getQ (qn (8 + n)) s).en = true)
    (hlate : (getQ (qn (8 + n)) s).late = []) (hroom : (getQ (qn (8 + n)) s).used + (cs.length + 1) ≤ (getQ (qn (8 + n)) s).cap) :
    getQ (qn (8 + n)) (completeWith (8 + n) typ w0 w1 st cs u) =
      (mkMsg (typ + 0x80) w0 (w1 / 256 * 256 + st) :: cs.map contMsg).foldl (fun x m => Queue.enter m x) (getQ (qn (8 + n)) s) := by
  obtain ⟨hte, hone⟩ := howes
  have hq : getQ (qn (8 + n)) u = getQ (qn (8 + n)) s := by rw [getQ, hqs, getQ]
  rw [← hq] at hen hlate hroom ⊢
  rw [← hup] at hte
  have hlen : (mkMsg (typ + 0x80) w0 (w1 / 256 * 256 + st) :: cs.map contMsg).length = cs.length + 1 := by simp
  rw [← hlen] at hroom
  generalize hms : mkMsg (typ + 0x80) w0 (w1 / 256 * 256 + st) :: cs.map contMsg = ms at *
  obtain ⟨y, hy, hc, hdone, hvia⟩ : ∃ y, markOwed false (8 + n) typ w0 ms u.owed = [y] ∧
      y.c = 8 + n ∧ y.done = some ms ∧ ∀ v, y.via = some v → qn v ≠ qn (8 + n) := by
    rw [howed]
    rcases hone with hnil | ⟨x, hx, hc, ht, hw, hdone, hvia⟩
    · rw [hnil]
      exact ⟨_, rfl, rfl, rfl, by simp⟩
    · rw [hx, markOwed_one hc ht hw hdone]
      exact ⟨_, rfl, hc, rfl, hvia⟩
  have hrun : completeWith (8 + n) typ w0 w1 st cs u = releaseOwed [] [y] { u with owed := [y] } := by
    show releaseOwed [] (markOwed false (8 + n) typ w0 (mkMsg (typ + 0x80) w0 (w1 / 256 * 256 + st) :: cs.map contMsg) u.owed)
      { u with owed := markOwed false (8 + n) typ w0 (mkMsg (typ + 0x80) w0 (w1 / 256 * 256 + st) :: cs.map contMsg) u.owed } = _
    rw [hms, hy]
  rw [hrun]
  cases hv : y.via with
  | none =>
    have hout : releaseOwed [] [y] { u with owed := [y] } = { forEach ms (putQ (8 + n)) { u with owed := [y] } with owed := [] } := by
      simp only [releaseOwed, hdone, hv, hc, List.any_nil, Option.isSome_none, Bool.false_and, Bool.or_self, Bool.false_eq_true,
        if_false]
    rw [hout]
    exact getQ_forEach_putQ (s := { u with owed := [y] }) hen hlate hroom
  | some v =>
    have hout : releaseOwed [] [y] { u with owed := [y] } =
        { forEach ms (putQ (8 + n)) (passQ v (ms.take 1) { u with owed := [y] }) with owed := [] } := by
      simp only [releaseOwed, hdone, hv, hc, show te0Up { u with owed := [y] } = true from hte, List.any_nil, Option.isSome_some,
        Bool.not_true, Bool.and_false, Bool.or_self, Bool.false_eq_true, if_false]
    have hpass : getQ (qn (8 + n)) (passQ v (ms.take 1) { u with owed := [y] }) = getQ (qn (8 + n)) u :=
      getQ_passQ_ne (hvia v hv).symm _ _
    rw [← hpass] at hen hlate hroom ⊢
    rw [hout]
    exact getQ_forEach_putQ hen hlate hroom

theorem testOver_rest (o c : Nat) (s : State) : (testOver o c s).qs = s.qs ∧ (testOver o c s).owed = s.owed ∧
    te0Up (testOver o c s) = te0Up s := by
  unfold testOver
  refine ⟨?_, ?_, ?_⟩
  · rw [modPaths_qs, modCh_qs]
  · rw [modPaths_owed]
    rfl
  · unfold te0Up engState
    rw [rd_modPaths, rd_modCh]

theorem onlyChan_testOver (o c : Nat) (s : State) : OnlyChan o c s (testOver o c s) :=
  (OnlyChan.setCh o c _ _).trans (keepsSetup_modPaths o c _ _).1

theorem getCh_testOver (o c : Nat) (s : State) :
    getCh o c (testOver o c s) = { getCh o c s with testOn := false, testLeft := 0, inject := false } := by
  rw [testOver, getCh_modPaths, getCh_modCh_same]

theorem ratioErr_eq (o c : Nat) (e : BitVec 16) (s : State) : Machine.ratioErr o c e s = ratioOf o c e s := by
  unfold Machine.ratioErr ratioOf ppmOf toU
  simp only [BitVec.toNat_ofInt]
  rfl

theorem execChTestEnd_past {o : Fin 9} {c : Fin 14} {g r : BitVec 16} {s : State} (hpast : testPast o c s = true) :
    exec (.chTestEnd o c g r) s = .next (endTest o c (ppmOf g) (ratioOf o c r s) s) := by
  rw [← ratioErr_eq]
  exact if_pos hpast

theorem chTestEnd_yields (o : Fin 9) (c : Fin 14) (n : Fin 8) (g r : BitVec 16) (s : State) (_hon : (getCh o c s).testOn = true)
    (hn : (getCh o c s).testN = n) (hpast : testPast o c s = true) :
    let e := if g = 0x8000 then 0x8001 else g.toNat
    Yields (.chTestEnd o c g r) s fun t =>
      (getCh o c t).testOn = false ∧ (getCh o c t).inject = false ∧ OnlyChan o c s t ∧
      (isCurrent o c = false → Completed n 0x21 (getCh o c s).testW (e * 256) stOK s t) ∧
      (let x := getQ (qn (8 + n.val)) s
       isCurrent o c = true → OwesOnly n 0x21 (getCh o c s).testW s → x.en = true → x.late = [] → x.used + 2 ≤ x.cap →
       (getQ (qn (8 + n.val)) t).ent = x.ent ++ [(x.tail, mkMsg 0xA1 (getCh o c s).testW (e * 256)),
         (x.tail + 1, contMsg (w24 (ratioOf o c r s), 0))]) := by
  intro e
  have hover : QueueOnly (testOver o c s) (endTest o c (ppmOf g) (ratioOf o c r s) s) := queueOnly_completeWith _ _ _ _ _ _ _
  have hrest := testOver_rest o c s
  obtain ⟨hqs, howed, hup⟩ := hrest
  refine ⟨_, execChTestEnd_past hpast, ?_, ?_, ?_, fun hcur => ?_, fun hcur howes hen hlate hroom => ?_⟩
  · rw [hover.getCh, getCh_testOver]
  · rw [hover.getCh, getCh_testOver]
  · exact (onlyChan_testOver o c s).trans (hover.onlyChan o c)
  · rw [endTest, hn, hcur]
    exact completed_complete hqs howed hup
  · have hend : endTest o c (ppmOf g) (ratioOf o c r s) s =
        completeWith (8 + n.val) 0x21 (getCh o c s).testW (e * 256) stOK [(w24 (ratioOf o c r s), 0)] (testOver o c s) := by
      unfold endTest
      dsimp only
      rw [hn, if_pos hcur, show ppmOf g = e from rfl]
    have hw1 : e * 256 / 256 * 256 + stOK = e * 256 := by
      rw [Nat.mul_div_cancel _ (by decide)]
      exact Nat.add_zero _
    rw [hend, getQ_completeWith_one (cs := [(w24 (ratioOf o c r s), 0)]) hqs howed hup howes hen hlate hroom, hw1]
    simp [Queue.enter]

/-! ### PAIR_STANDBY (R195, R196) -/

/-- The standby member leaves for its self-test. -/
def standbyTaken (p : Nat) (r : Nat × Nat × Bool) (s : State) : State :=
  let sb := if engState (pairLo p) s = 6 then pairLo p else pairLo p + 1
  showPair p (setEngState sb 2 (modPair p (fun x => { x with req := some r, swept := false, mismatches := 0 }) s))

theorem execPairStandby_accepts {n : Fin 8} {w0 w1 : W24} {s : State} (hserved : Served n s) (hw0 : fld w0 23 1 = 0)
    (hw1 : fld w1 23 1 = 0) (hopen : Open (ownerQ (pairLo (fld w0 0 0))) s) (hserves : pairServes (pairLo (fld w0 0 0)) s = true)
    (hduplex : pairDuplex (pairLo (fld w0 0 0)) s = true) (hlife : isScrapped s = false) (hreq : (getPair (fld w0 0 0) s).req = none)
    (hnone : ∀ o ∈ pairOutlets (fld w0 0 0) ++ (if fld w0 0 0 = 0 then [8] else []), ∀ c ∈ chansOf o, c < 12 →
      (getCh o c s).testOn = false) :
    ∃ u, QueueOnly s u ∧ exec (.pairStandby n w0 w1) s = .next (standbyTaken (fld w0 0 0) (n.val, w0.toNat, w1.toNat % 2 == 1) u) := by
  have hp : fld w0 0 0 < 2 := Nat.mod_lt _ (by decide)
  have hu := queueOnly_forwarded n 0x22 (ownerQ (pairLo (fld w0 0 0))) 0 w0 w1 [] s
  refine ⟨_, hu, ?_⟩
  generalize hfw : forwarded n 0x22 (ownerQ (pairLo (fld w0 0 0))) 0 w0 w1 [] s = u at *
  have hlife' : isScrapped u = false := by
    have hst : rd R.LIFE_LSTATE_STATE u = rd R.LIFE_LSTATE_STATE s := hu.rd_above_queues (by decide) (by decide) (by decide)
    rw [isScrapped, lifeState, hst]
    exact hlife
  have hreq' : (getPair (fld w0 0 0) u).req = none := by rw [getPair, hu.pairs, ← getPair, hreq]
  have hduplex' : pairDuplex (pairLo (fld w0 0 0)) u = true := by rw [hu.pairDuplex (by unfold pairLo; omega), hduplex]
  have htests : ((pairOutlets (fld w0 0 0) ++ if fld w0 0 0 = 0 then [8] else []).any fun o =>
      (chansOf o).any fun c => decide (c < 12) && (getCh o c u).testOn) = false := by
    refine List.any_eq_false.2 fun o ho => ?_
    rw [Bool.not_eq_true]
    refine List.any_eq_false.2 fun c hc => ?_
    by_cases hlow : c < 12
    · rw [hu.getCh, hnone o ho c hc hlow, Bool.and_false]
      decide
    · rw [decide_eq_false hlow, Bool.false_and]
      decide
  show execPairStandby n w0 w1 s = _
  unfold execPairStandby
  dsimp only
  rw [if_neg (by rw [pairStopped_of_serves hserves]; decide), hserves, viaReq_served hserved hopen (ownerQ_ne_hostQ _ n), hfw]
  simp only [hw0, hw1, hlife', hreq', hduplex', htests, refusal, standbyTaken]
  rfl

theorem engState_standbyTaken {p : Nat} (hp : p < 2) {e : Nat} (he : e < 16) (r : Nat × Nat × Bool) (s : State) :
    engState e (standbyTaken p r s) = engState e (setEngState (if engState (pairLo p) s = 6 then pairLo p else pairLo p + 1) 2 s) := by
  unfold standbyTaken
  dsimp only
  rw [engState_showPair_metering hp he]
  rfl

theorem getPair_showPair_metering {p : Nat} (hp : p < 2) (k : Nat) (s : State) : getPair k (showPair p s) = getPair k s := by
  rw [showPair_metering hp]
  rfl

theorem getPair_setEngState (k e v : Nat) (s : State) : getPair k (setEngState e v s) = getPair k s := rfl

theorem standbyTaken_rest {p : Nat} (hp : p < 2) (r : Nat × Nat × Bool) (s : State) :
    (getPair p (standbyTaken p r s)).req = some r ∧ (getPair p (standbyTaken p r s)).swept = false ∧
      (standbyTaken p r s).engs = s.engs ∧ (standbyTaken p r s).mram = s.mram := by
  have hpair : getPair p (standbyTaken p r s) = { getPair p s with req := some r, swept := false, mismatches := 0 } := by
    unfold standbyTaken
    dsimp only
    rw [getPair_showPair_metering hp, getPair_setEngState, getPair_modPair]
  refine ⟨by rw [hpair], by rw [hpair], ?_, ?_⟩ <;> (unfold standbyTaken; dsimp only; rw [showPair_metering hp]; rfl)

theorem pairStandby_yields (n : Fin 8) (w0 w1 : W24) (s : State) (hserved : Served n s) :
    let p := fld w0 0 0
    let sb := if engState (pairLo p) s = 6 then pairLo p else pairLo p + 1
    fld w0 23 1 = 0 → fld w1 23 1 = 0 → Open (ownerQ (pairLo p)) s → pairServes (pairLo p) s = true →
    pairDuplex (pairLo p) s = true → isScrapped s = false →
    (getPair p s).req = none →
    (∀ o ∈ pairOutlets p ++ (if p = 0 then [8] else []), ∀ c ∈ chansOf o, c < 12 → (getCh o c s).testOn = false) →
    Yields (.pairStandby n w0 w1) s fun t =>
      engState sb t = 2 ∧ (getPair p t).req = some (n.val, w0.toNat, w1.toNat % 2 == 1) ∧ (getPair p t).swept = false ∧
      (∀ e, e ≠ sb → e < 16 → engState e t = engState e s) ∧ t.engs = s.engs ∧ t.mram = s.mram := by
  intro p sb hw0 hw1 hopen hserves hduplex hlife hreq hnone
  obtain ⟨u, hu, hexec⟩ := execPairStandby_accepts hserved hw0 hw1 hopen hserves hduplex hlife hreq hnone
  have hp : p < 2 := Nat.mod_lt _ (by decide)
  have hlo : pairLo p + 1 < 16 := by unfold pairLo; omega
  have hsb : (if engState (pairLo p) u = 6 then pairLo p else pairLo p + 1) = sb := by rw [hu.log.engState_lt (by omega)]
  have hsblt : sb < 16 := by
    show (if _ then _ else _) < 16
    split <;> omega
  obtain ⟨hasked, hswept, hengs, hmram⟩ := standbyTaken_rest hp (n.val, w0.toNat, w1.toNat % 2 == 1) u
  refine ⟨_, hexec, ?_, hasked, hswept, fun e hne he => ?_, hengs.trans hu.engs, hmram.trans hu.mram⟩
  · rw [engState_standbyTaken hp hsblt, hsb, engState_setEngState_same]
  · rw [engState_standbyTaken hp he, hsb, engState_setEngState_ne 2 u hne, hu.log.engState_lt he]

/-- Settles O38: CAL_APPLY copies the staged fields (`rd_copy_stagedCopied`) and waits, CH_TEST begins (`testBegun`), its end
completes with the measured errors (`getQ_completeWith_one`), and PAIR_STANDBY takes the standby out (`standbyTaken`). -/
theorem calibrationAndTestRequestsAct : Obligations.CalibrationAndTestRequestsAct := by
  unfold Obligations.CalibrationAndTestRequestsAct
  exact ⟨calApply_yields, chTest_yields, chTestEnd_yields, pairStandby_yields⟩

end Sys2Proof.Machine
end

section
/-!
O34: how a pair restores its registers and bills the frames that follow (R167, R170, R171, R188, R516).
-/
namespace Sys2Proof.Machine
open Sys2Proof.Claims

/-! ### Queues that a message does not pass -/

section
variable {k : Qid} {q : Nat} (h : k ≠ qn q)
include h

theorem getQ_putQ_ne (m : Msg) (s : State) : getQ k (putQ q m s) = getQ k s := by
  unfold putQ
  split
  · rfl
  · split
    · exact getQ_enterNow_ne h m s
    · exact getQ_modQ_ne _ s h

theorem getQ_drainQ_ne (ms : List Msg) (s : State) : getQ k (drainQ q ms s) = getQ k s := by
  unfold drainQ
  dsimp only
  rw [getQ_takeN_ne h, getQ_forEach _ _ (getQ_enterNow_ne h), getQ_modQ_ne _ _ h]

theorem getQ_forward_ne {d : Nat} (hd : k ≠ qn d) (ms : List Msg) (s : State) : getQ k (forward q (fun _ => d) ms s) = getQ k s := by
  unfold forward
  rw [getQ_forEach _ _ (getQ_putQ_ne hd), getQ_drainQ_ne h]

theorem getQ_pushAll_ne (o : Nat) {m : Msg} (hm : isReq m = false) (cs : List Cont) (s : State) :
    getQ k (pushAll q o m cs s) = getQ k s := by
  unfold pushAll pushDisabled
  rw [hm]
  split
  · exact getQ_forEach _ _ (getQ_putQ_ne h) s
  · rw [if_neg Bool.false_ne_true]
    split <;> rfl

end

/-! ### An entry of the recorder passes Q116, and at its most Q117 and Q8 (R453, R456) -/

section
variable {k : Qid} (h116 : k ≠ qn 116) (h117 : k ≠ qn 117) (h8 : k ≠ qn 8)
include h117 h8

theorem getQ_logStatus_ne (kind count : Nat) (s : State) : getQ k (logStatus kind count s) = getQ k s := by
  unfold logStatus toHostVia relay
  split
  · exact getQ_forward_ne h117 h8 _ s
  · exact getQ_pushAll_ne h117 _ (by simp [isReq, mkMsg]) _ s

theorem getQ_freezeEnd_ne (cause : Nat) (s : State) : getQ k (freezeEnd cause s) = getQ k s := by
  unfold freezeEnd
  dsimp only
  split
  · rfl
  · split
    · rfl
    · exact getQ_logStatus_ne h117 h8 _ _ _

theorem getQ_holdEntry_ne (e : LogEntry) (s : State) : getQ k (holdEntry e s) = getQ k s := by
  unfold holdEntry
  dsimp only
  split
  · rfl
  · split
    · exact getQ_freezeEnd_ne h117 h8 2 s
    · rfl

include h116

theorem getQ_logEvent_ne (src c outlet : Nat) (data : List Nat) (s : State) : getQ k (logEvent src c outlet data s) = getQ k s := by
  have hpass : ∀ ms s, getQ k (whenS (clearQ 116 s) (passQ 116 ms) s) = getQ k s := fun ms s => by
    rw [whenS]
    split
    · exact getQ_passQ_ne h116 ms s
    · rfl
  unfold logEvent acceptTrigger
  dsimp only
  split
  · exact hpass _ s
  · split
    · exact (getQ_holdEntry_ne h117 h8 _ _).trans (hpass _ s)
    · exact hpass _ s

end

/-! ### Messages taken from the head of a queue (R99) -/

theorem corrected_ent (q : Nat) (es : List (Byte × Msg)) (s : State) :
    (getQ (qn q) (corrected q es s)).ent = (getQ (qn q) s).ent ∧ (getQ (qn q) (corrected q es s)).late = (getQ (qn q) s).late := by
  unfold corrected
  dsimp only
  split
  · exact ⟨rfl, rfl⟩
  · rw [addSat, getQ_wr, getQ_modQ_same]
    exact ⟨rfl, rfl⟩

theorem ent_takeN {q : Nat} {s : State} (h : (getQ (qn q) s).late = []) (k : Nat) :
    (getQ (qn q) (takeN q k s)).ent = (getQ (qn q) s).ent.drop k := by
  obtain ⟨hent, hlate⟩ := corrected_ent q ((getQ (qn q) s).ent.take k) s
  unfold takeN
  dsimp only
  rw [settle, getQ_setQ_same, hlate, h, drainLate, getQ_modQ_same, getQ_setQ_same, hent]

/-! ### RESTORE (R188, R516) -/

theorem QueueOnly.bill {s u : State} (h : QueueOnly s u) : u.bill = s.bill := by
  have hs := congrArg State.bill h.1
  exact hs

theorem QueueOnly.fold {s u : State} (h : QueueOnly s u) : u.fold = s.fold := by
  have hs := congrArg State.fold h.1
  exact hs

theorem getBo_modBo (o : Nat) (f : BOut → BOut) (s : State) : getBo o (modBo o f s) = f (getBo o s) := vget_vset_same _ _ _

/-- The pair of the outlet has the registers `rs` that TE0 has sent. -/
def restoredWith (o : Nat) (rs : List Nat) (s : State) : State :=
  let s := modBo o (fun b => { b with sent := rs }) s
  modMt o (fun m => { m with restored := true, billing := false, regs := rs, startF := true,
                             lastReg := (rs.getD 0 0, rs.getD 1 0), lastSec := some (clkSec s - 1) }) s

/-- RESTORE with its registers passes to the pair, and its completion back. -/
def restorePassed (o : Nat) (rs : List Nat) (s : State) : State :=
  passQ (if pairOf o = 9 then 54 else 55) [mkMsg 0xA3 (o * 16) stOK]
    (passQ (ownerQ (pairOf o)) (⟨0x23, w24 (o * 16), 0⟩ ::
      (rs.flatMap fun r => [(w24 r, w24 (r / 2 ^ 24)), (w24 (r / 2 ^ 48), w24 (r / 2 ^ 72))]).map contMsg) s)

theorem queueOnly_restorePassed (o : Nat) (rs : List Nat) (s : State) : QueueOnly s (restorePassed o rs s) :=
  (queueOnly_passQ _ _ s).trans (queueOnly_passQ _ _ _)

/-- The registers of the last save go to the pair. -/
theorem execRestore_sends {o : Fin 8} {s : State} (hup : te0Up s = true) (hresumed : s.bill.resumed = true)
    (hwaits : billingWaits s = false) (hsaved : s.bill.unsaved = false) (hpair : pairUp (pairOf o) s = true) (htype : metType o s ≠ 0)
    (hnew : (getMt o s).restored = false) :
    exec (.restore o) s = .next (restoredWith o (getBo o s).regs (restorePassed o (getBo o s).regs s)) := by
  have htick : tickBilling s = s := by
    unfold tickBilling
    rw [hsaved, Bool.and_false, Bool.false_and, Bool.false_and]
    rfl
  show execRestore o s = _
  unfold execRestore
  dsimp only
  rw [htick, hup, hresumed, hwaits, hsaved, hpair, beq_eq_false_iff_ne.2 htype, hnew]
  rfl

theorem restore_yields (o : Fin 8) (s : State) (hup : te0Up s = true) (hresumed : s.bill.resumed = true)
    (hwaits : billingWaits s = false) (hsaved : s.bill.unsaved = false) (hpair : pairUp (pairOf o) s = true) (htype : metType o s ≠ 0)
    (hnew : (getMt o s).restored = false) :
    Yields (.restore o) s fun t =>
      (getMt o t).regs = (getBo o s).regs ∧ (getMt o t).restored = true ∧ (getMt o t).billing = false ∧
      (getMt o t).startF = true ∧ (getBo o t).sent = (getBo o s).regs ∧ (getBo o t).regs = (getBo o s).regs ∧
      t.mram = s.mram ∧ t.samp = s.samp ∧ t.fold = s.fold := by
  have hu := queueOnly_restorePassed o (getBo o s).regs s
  refine ⟨_, execRestore_sends hup hresumed hwaits hsaved hpair htype hnew, ?_⟩
  generalize restorePassed o (getBo o s).regs s = u at *
  have hsent : getBo o (restoredWith o (getBo o s).regs u) = { getBo o s with sent := (getBo o s).regs } := by
    refine (getBo_modBo o (fun b => { b with sent := (getBo o s).regs }) u).trans ?_
    rw [getBo, hu.bill, ← getBo]
  have hmeter : getMt o (restoredWith o (getBo o s).regs u) = _ := getMt_modMt _ _ _
  rw [hmeter, hsent]
  exact ⟨rfl, rfl, rfl, rfl, rfl, rfl, hu.mram, hu.samp, hu.fold⟩

/-! ### A CAL_APPLY that takes effect with a frame (R195) -/

/-- What billing has formed stands in the meter as before. -/
def SameEnergy (m m' : Meter) : Prop := m'.regs = m.regs ∧ m'.b = m.b ∧ m'.lastN = m.lastN ∧ m'.restored = m.restored

theorem SameEnergy.refl (m : Meter) : SameEnergy m m := ⟨rfl, rfl, rfl, rfl⟩

theorem SameEnergy.trans {m m' m'' : Meter} (h : SameEnergy m m') (h' : SameEnergy m' m'') : SameEnergy m m'' := by
  obtain ⟨hregs, hb, hlast, hrestored⟩ := h
  obtain ⟨kregs, kb, klast, krestored⟩ := h'
  exact ⟨kregs.trans hregs, kb.trans hb, klast.trans hlast, krestored.trans hrestored⟩

theorem sameEnergy_of_meters {o : Nat} {s t : State} (h : t.meters = s.meters) : SameEnergy (getMt o s) (getMt o t) := by
  rw [getMt, getMt, h]
  exact SameEnergy.refl _

theorem sameEnergy_modMt (o k : Nat) {f : Meter → Meter} (hf : ∀ m, SameEnergy m (f m)) (s : State) :
    SameEnergy (getMt o s) (getMt o (modMt k f s)) := by
  by_cases h : o8 o = o8 k
  · have hsame : getMt o (modMt k f s) = f (getMt o s) := by
      unfold getMt modMt setMt getMt
      rw [h]
      exact vget_vset_same _ _ _
    rw [hsame]
    exact hf _
  · have hother : getMt o (modMt k f s) = getMt o s := vget_vset_ne _ _ h
    rw [hother]
    exact SameEnergy.refl _

theorem sameEnergy_applyBand (o k : Nat) (s : State) : SameEnergy (getMt o s) (getMt o (applyBand k s)) := by
  unfold applyBand
  split
  · refine (sameEnergy_of_meters ?_).trans (sameEnergy_modMt o k ?_ _)
    · rfl
    · exact fun _ => ⟨rfl, rfl, rfl, rfl⟩
  · exact SameEnergy.refl _

theorem LogOnly.meters {s t : State} (h : LogOnly s t) : t.meters = s.meters := by
  have hs := congrArg State.meters h.1
  exact hs

theorem wrs_meters (l : List (Fld × Nat)) (s : State) : (wrs l s).meters = s.meters := by
  obtain ⟨r, hr⟩ := wrs_regs l s
  rw [hr]

/-- What was copied is in effect. -/
def copiesTaken (k : Nat) (s : State) : State := forEach (calFields k) (fun f s => wr f.eff (rd f.copy s) s) s

/-- The Fold takes the outlet's sets, and TE0 begins the registers of a new TYPE that was `old`. -/
def typeTaken (k old : Nat) (s : State) : State :=
  let s := if k < 8 then writePd1 k s else s
  let s := if k < 8 ∧ old ≠ metType k s ∧ metType k s ≠ 0 then rebase k s else s
  let s := if k < 8 ∧ old = 0 then noInterval k s else s
  if k < 8 ∧ old = 0 then modMt k (fun m => { m with typed := true }) s else s

/-- KE follows UREF and IREF (R161). -/
def keTaken (k : Nat) (s : State) : State :=
  if k = 8 then s else
    let ke := if metType k s = 0 then 0 else keOf (rd (R.MET_UREF_MV k).eff s) (rd (R.MET_IREF_MA k).eff s)
    wrs [(R.MET_KELO_KE k, ke), (R.MET_KEHI_KE k, ke / 2 ^ 32)] s

/-- OCFGCRC and CALSTAT show what is applied (R514). -/
def appliedShown (k : Nat) (s : State) : State :=
  forEach (calChans k)
    (fun c s => wr (R.FLT_CALSTAT_DIRTY k c) (rd (R.FLT_CALSTAT_DIRTY k c).copy s) (incSat (R.FLT_CALSTAT_APPLIED k c) s))
    (wr (R.MET_OCFGCRC_CRC k) (crc32 (ocfgBytes k s)) s)

/-- The CALIBRATION entry, and the record that is kept. -/
def calRecorded (k : Nat) (s : State) : State :=
  let s := logEvent (if k < 4 ∨ k = 8 then 9 else 11) 0x0F (if k < 8 then k else 8)
    [if k < 8 then rd (R.MET_CALID_ID k).eff s else 0] s
  forEach (recordFields k s) (fun f s => wr f.eff (rd f s) s) s

/-- The request waits no more. -/
def calOver (k : Nat) (s : State) : State :=
  if k < 8 then modMt k (fun m => { m with cal := none, next := m.next ||| sfCALCHG }) (applyBand k s)
  else { s with supply := { s.supply with cal := none } }

theorem calEffect_eq (k n : Nat) (w : Nat × Nat) (s : State) :
    calEffect k n w s = complete (8 + w.1) 0x20 w.2 (n % 2 ^ 16 * 256) stOK
      (calOver k (calRecorded k (appliedShown k (keTaken k (typeTaken k (metType k s) (copiesTaken k s)))))) := rfl

theorem typeTaken_keeps (o k old : Nat) (s : State) : SameEnergy (getMt o s) (getMt o (typeTaken k old s)) := by
  have hbefore : ∃ u, u.meters = s.meters ∧ typeTaken k old s = if k < 8 ∧ old = 0 then modMt k (fun m => { m with typed := true }) u else u := by
    refine ⟨_, ?_, rfl⟩
    split <;> split <;> split <;> rfl
  obtain ⟨u, hu, heq⟩ := hbefore
  rw [heq]
  refine (sameEnergy_of_meters hu).trans ?_
  split
  · refine sameEnergy_modMt o k ?_ u
    exact fun _ => ⟨rfl, rfl, rfl, rfl⟩
  · exact SameEnergy.refl _

theorem keTaken_meters (k : Nat) (s : State) : (keTaken k s).meters = s.meters := by
  unfold keTaken
  split
  · rfl
  · exact wrs_meters _ s

theorem appliedShown_meters (k : Nat) (s : State) : (appliedShown k s).meters = s.meters := by
  unfold appliedShown
  generalize crc32 (ocfgBytes k s) = v
  exact (forEach_keeps State.meters _ _ (fun c _ s => by simp only [wr_meters, incSat]) _).trans (wr_meters _ _ _)

theorem calRecorded_meters (k : Nat) (s : State) : (calRecorded k s).meters = s.meters := by
  have hlog := (logOnly_logEvent (if k < 4 ∨ k = 8 then 9 else 11) (c := 0x0F) (by decide) (if k < 8 then k else 8)
    [if k < 8 then rd (R.MET_CALID_ID k).eff s else 0] s).meters
  unfold calRecorded
  dsimp only
  exact (forEach_keeps State.meters _ _ (fun f _ s => wr_meters _ _ s) _).trans hlog

theorem calOver_keeps (o k : Nat) (s : State) : SameEnergy (getMt o s) (getMt o (calOver k s)) := by
  unfold calOver
  split
  · refine (sameEnergy_applyBand o k s).trans (sameEnergy_modMt o k ?_ _)
    exact fun _ => ⟨rfl, rfl, rfl, rfl⟩
  · exact SameEnergy.refl _

/-- A CAL_APPLY that takes effect concerns no energy. -/
theorem sameEnergy_calEffect (o k n : Nat) (w : Nat × Nat) (s : State) : SameEnergy (getMt o s) (getMt o (calEffect k n w s)) := by
  have hcopied : (copiesTaken k s).meters = s.meters := forEach_keeps State.meters _ _ (fun f _ s => wr_meters _ _ s) s
  have htyped := typeTaken_keeps o k (metType k s) (copiesTaken k s)
  rw [calEffect_eq]
  generalize typeTaken k (metType k s) (copiesTaken k s) = u at htyped ⊢
  have hshown : (calRecorded k (appliedShown k (keTaken k u))).meters = u.meters := by
    rw [calRecorded_meters, appliedShown_meters, keTaken_meters]
  exact ((((sameEnergy_of_meters hcopied).trans htyped).trans (sameEnergy_of_meters hshown)).trans (calOver_keeps o k _)).trans
    (sameEnergy_of_meters (queueOnly_complete _ _ _ _ _ _).meters)

/-- A register that is not that of an outlet's TYPE in effect. -/
theorem rd_metType_wr {o : Nat} {f : Fld} (ha : f.addr ≠ 0x211000E00 + o * 0x1000) (hl : f.lsb < 32) (v : Nat) (s : State) :
    metType o (wr f v s) = metType o s :=
  rd_wr_ne v s (by simp only [Fld.key, Fld.eff, R.MET_OCFG_TYPE]; omega)

theorem metType_copiesTaken_supply {o : Nat} (ho : o < 8) (s : State) : metType o (copiesTaken 8 s) = metType o s := by
  refine forEach_keeps (metType o) _ _ (fun f hf s => ?_) s
  have hl := (staged_calFields (Nat.le_refl 8) hf).1
  refine rd_metType_wr (f := f.eff) ?_ hl _ s
  rcases calFields_cases (Nat.le_refl 8) hf with hmet | ⟨-, ha⟩
  · obtain ⟨-, hlo, hhi⟩ := metFields_cases hmet
    simp only [Fld.eff]
    omega
  · simp only [Fld.eff]
    omega

theorem metType_appliedShown_supply {o : Nat} (ho : o < 8) (s : State) : metType o (appliedShown 8 s) = metType o s := by
  unfold appliedShown
  generalize crc32 (ocfgBytes 8 s) = v
  refine (forEach_keeps (metType o) _ _ (fun c hc s => ?_) _).trans
    (rd_metType_wr (by simp only [R.MET_OCFGCRC_CRC]; omega) (Nat.le_of_ble_eq_true rfl) _ s)
  have hlt := calChans_lt hc
  rw [rd_metType_wr (by simp only [R.FLT_CALSTAT_DIRTY]; omega) (Nat.le_of_ble_eq_true rfl), incSat,
    rd_metType_wr (by simp only [R.FLT_CALSTAT_APPLIED]; omega) (Nat.le_of_ble_eq_true rfl)]

theorem metType_calRecorded_supply {o : Nat} (ho : o < 8) (s : State) : metType o (calRecorded 8 s) = metType o s := by
  have hlog : metType o (logEvent 9 0x0F 8 [0] s) = metType o s :=
    (logOnly_logEvent 9 (by decide) 8 [0] s).2 _ (Nat.le_of_ble_eq_true rfl)
      (isQCount_above_queues (by simp only [Fld.eff, R.MET_OCFG_TYPE]; omega))
      (by simp only [Fld.block, Fld.eff, R.MET_OCFG_TYPE]; omega) (by simp only [Fld.block, Fld.eff, R.MET_OCFG_TYPE]; omega)
  refine (forEach_keeps (metType o) _ _ (fun f hf s => ?_) _).trans hlog
  simp only [recordFields, if_true, List.flatMap_nil, List.append_nil, List.mem_append, List.mem_cons, List.not_mem_nil, or_false, List.mem_map] at hf
  rcases hf with (rfl | rfl | rfl) | ⟨c, hc, rfl⟩
  · exact rd_metType_wr (by simp only [Fld.eff, R.MET_OCFGCRC_CRC]; omega) (Nat.le_of_ble_eq_true rfl) _ s
  · exact rd_metType_wr (by simp only [Fld.eff, R.MET_KELO_KE]; omega) (Nat.le_of_ble_eq_true rfl) _ s
  · exact rd_metType_wr (by simp only [Fld.eff, R.MET_KEHI_KE]; omega) (Nat.le_of_ble_eq_true rfl) _ s
  · have hlt := calChans_lt hc
    exact rd_metType_wr (by simp only [Fld.eff, R.FLT_CALSTAT_APPLIED]; omega) (Nat.le_of_ble_eq_true rfl) _ s

/-- The supply side's configuration is of no outlet's TYPE. -/
theorem metType_calEffect_supply {o : Nat} (ho : o < 8) (n : Nat) (w : Nat × Nat) (s : State) :
    metType o (calEffect 8 n w s) = metType o s := by
  have hover : ∀ u, metType o (calOver 8 u) = metType o u := fun _ => rfl
  have htype : ∀ old u, typeTaken 8 old u = u := fun _ _ => rfl
  have hke : ∀ u, keTaken 8 u = u := fun _ => rfl
  rw [calEffect_eq, (queueOnly_complete _ _ _ _ _ _).metType (by omega), hover, metType_calRecorded_supply ho,
    metType_appliedShown_supply ho, hke, htype, metType_copiesTaken_supply ho]

/-! ### The supply side's frame comes first (R164, R177) -/

theorem popFrame_cases (q last : Nat) (s : State) : (∃ k, (popFrame q last s).1 = takeN q k s) ∨ (popFrame q last s).1 = s := by
  unfold popFrame
  split
  · exact .inr rfl
  · exact .inl ⟨_, rfl⟩

theorem queueOnly_popFrame (q last : Nat) (s : State) : QueueOnly s (popFrame q last s).1 := by
  rcases popFrame_cases q last s with ⟨k, h⟩ | h <;> rw [h]
  · exact queueOnly_takeN q k s
  · exact QueueOnly.refl s

theorem getQ_popFrame_ne {k : Qid} {q : Nat} (h : k ≠ qn q) (last : Nat) (s : State) : getQ k (popFrame q last s).1 = getQ k s := by
  rcases popFrame_cases q last s with ⟨n, hn⟩ | hn <;> rw [hn]
  exact getQ_takeN_ne h n s

/-- A frame of the supply side concerns the supply side alone, but for the CAL_APPLY that it carries out there. -/
theorem supplyFrame_cases (f : FrameIn) (s : State) : ∃ x, x.cal = s.supply.cal ∧
    ((∃ c, s.supply.cal = some c ∧ supplyFrame f s = calEffect 8 ((f.n + 1) % 2 ^ 24) c { s with supply := x }) ∨
      (s.supply.cal = none ∧ supplyFrame f s = { s with supply := x })) := by
  unfold supplyFrame
  extract_lets u c u2 u3 det xs u4 s2
  have hband : u2.cal = u.cal := by
    dsimp only [u2]
    split
    · split <;> rfl
    · rfl
  have hinterval : u3.cal = u2.cal := by
    dsimp only [u3]
    split <;> rfl
  have hcal : u4.cal = s.supply.cal := hinterval.trans hband
  refine ⟨u4, hcal, ?_⟩
  split
  next k hk => exact .inl ⟨k, hcal.symm.trans hk, rfl⟩
  next hk => exact .inr ⟨hcal.symm.trans hk, rfl⟩

/-- The pair takes a frame of the supply side. -/
def supplyTaken (o : Nat) (s : State) : State :=
  let sup := popFrame (if pairOf o = 9 then 48 else 49) 0 s
  if o = 0 ∨ o = 4 then
    (match sup.2 with | some f => if o = 0 then supplyFrame f sup.1 else sup.1 | none => sup.1)
  else s

/-- A CAL_APPLY of the supply side takes effect where no frame will come there. -/
def supplyApplied (o : Nat) (s : State) : State :=
  match s.supply.cal with
  | some c => if o = 0 ∧ noFrames 48 8 s = true then calEffect 8 (nextIdx s) c s else s
  | none => s

theorem supplyTaken_cases (o : Nat) (s : State) : supplyTaken o s = s ∨
    supplyTaken o s = (popFrame (if pairOf o = 9 then 48 else 49) 0 s).1 ∨
    ∃ f, supplyTaken o s = supplyFrame f (popFrame (if pairOf o = 9 then 48 else 49) 0 s).1 := by
  unfold supplyTaken
  dsimp only
  split
  · split
    next f _ =>
      split
      · exact .inr (.inr ⟨f, rfl⟩)
      · exact .inr (.inl rfl)
    next => exact .inr (.inl rfl)
  · exact .inl rfl

/-- With no CAL_APPLY on the supply side, only its queue and its sums change. -/
structure SupplyOnly (s t : State) : Prop where
  meters : t.meters = s.meters
  mram : t.mram = s.mram
  samp : t.samp = s.samp
  fold : t.fold = s.fold
  cal : t.supply.cal = s.supply.cal
  metType : ∀ o < 8, metType o t = metType o s
  getQ : ∀ q, q < 48 → Machine.getQ (qn q) t = Machine.getQ (qn q) s

theorem supplyOnly_popFrame {q : Nat} (hq : q = 48 ∨ q = 49) (s : State) : SupplyOnly s (popFrame q 0 s).1 := by
  have h := queueOnly_popFrame q 0 s
  exact ⟨h.meters, h.mram, h.samp, h.fold, by rw [h.supply], fun o ho => h.metType (by omega),
    fun k hk => getQ_popFrame_ne (qn_ne (by omega) (by omega) (by omega)) 0 s⟩

theorem supplyOnly_supplyTaken {o : Nat} {s : State} (h : s.supply.cal = none) : SupplyOnly s (supplyTaken o s) := by
  have hpop : SupplyOnly s (popFrame (if pairOf o = 9 then 48 else 49) 0 s).1 := supplyOnly_popFrame (by split <;> simp) s
  rcases supplyTaken_cases o s with heq | heq | ⟨f, heq⟩ <;> rw [heq]
  · exact ⟨rfl, rfl, rfl, rfl, rfl, fun _ _ => rfl, fun _ _ => rfl⟩
  · exact hpop
  · generalize (popFrame (if pairOf o = 9 then 48 else 49) 0 s).1 = u at hpop
    obtain ⟨x, hx, ⟨c, hc, -⟩ | ⟨hc, hframe⟩⟩ := supplyFrame_cases f u
    · rw [hpop.cal, h] at hc
      exact absurd hc (by simp)
    · rw [hframe]
      exact ⟨hpop.meters, hpop.mram, hpop.samp, hpop.fold, hx.trans hpop.cal, hpop.metType, hpop.getQ⟩

theorem supplyApplied_none {o : Nat} {s : State} (h : s.supply.cal = none) : supplyApplied o s = s := by
  unfold supplyApplied
  split
  next c hc => exact absurd (h.symm.trans hc) (by simp)
  next => rfl

/-- What the supply side's turn leaves of an outlet: what billing has formed, and its TYPE. -/
def OutletLeft (o : Nat) (s t : State) : Prop := SameEnergy (getMt o s) (getMt o t) ∧ metType o t = metType o s

theorem OutletLeft.trans {o : Nat} {s t u : State} (h : OutletLeft o s t) (h' : OutletLeft o t u) : OutletLeft o s u :=
  ⟨h.1.trans h'.1, h'.2.trans h.2⟩

theorem OutletLeft.refl (o : Nat) (s : State) : OutletLeft o s s := ⟨SameEnergy.refl _, rfl⟩

theorem outletLeft_calEffect_supply {o : Nat} (ho : o < 8) (n : Nat) (w : Nat × Nat) (s : State) : OutletLeft o s (calEffect 8 n w s) :=
  ⟨sameEnergy_calEffect o 8 n w s, metType_calEffect_supply ho n w s⟩

theorem outletLeft_supplyFrame {o : Nat} (ho : o < 8) (f : FrameIn) (s : State) : OutletLeft o s (supplyFrame f s) := by
  obtain ⟨x, -, ⟨c, -, h⟩ | ⟨-, h⟩⟩ := supplyFrame_cases f s <;> rw [h]
  · exact OutletLeft.trans (OutletLeft.refl o s) (outletLeft_calEffect_supply ho _ c { s with supply := x })
  · exact OutletLeft.refl o s

theorem outletLeft_supplyTaken {o : Nat} (ho : o < 8) (s : State) : OutletLeft o s (supplyTaken o s) := by
  have h := queueOnly_popFrame (if pairOf o = 9 then 48 else 49) 0 s
  have hpop : OutletLeft o s (popFrame (if pairOf o = 9 then 48 else 49) 0 s).1 := ⟨sameEnergy_of_meters h.meters, h.metType (by omega)⟩
  rcases supplyTaken_cases o s with heq | heq | ⟨f, heq⟩ <;> rw [heq]
  · exact OutletLeft.refl o s
  · exact hpop
  · exact hpop.trans (outletLeft_supplyFrame ho f _)

theorem outletLeft_supplyApplied {o : Nat} (ho : o < 8) (s : State) : OutletLeft o s (supplyApplied o s) := by
  unfold supplyApplied
  split
  · split
    · exact outletLeft_calEffect_supply ho _ _ s
    · exact OutletLeft.refl o s
  · exact OutletLeft.refl o s

/-! ### The outlet's turn (R170, R171) -/

/-- What FRAME_BILLING does for the outlet itself. -/
def outletTurn (o : Fin 8) (s : State) : Host.Outcome State Fault Refusal :=
  let idle := metType o s = 0 ∨ noFrames (32 + o) o s
  if (getMt o s).restored ∧ !(getMt o s).bandInit then .next s
  else
    let f := popFrame (32 + o) (getMt o s).lastN s
    let s := f.1
    if idle then .next (whenS (bandDue o (s.clock / 2 ^ 24) s) (applyBand o) (calDue o (nextIdx s) s))
    else match f.2 with
      | none => .next s
      | some g =>
        if !((getMt o s).restored) || (!(getMt o s).billing && g.c.isNone) then .next s
        else .next (billFrame o g (modMt o (fun m => { m with billing := true }) s))

theorem execFrameBilling_up {o : Fin 8} {s : State} (h : pairUp (pairOf o) s = true) :
    exec (.frameBilling o) s = outletTurn o (supplyApplied o (supplyTaken o s)) := by
  show execFrameBilling o s = _
  unfold execFrameBilling
  dsimp only
  rw [h]
  rfl

theorem sameEnergy_calDue (o n : Nat) (s : State) : SameEnergy (getMt o s) (getMt o (calDue o n s)) := by
  unfold calDue
  split
  · exact sameEnergy_calEffect o o n _ s
  · exact SameEnergy.refl _

theorem sameEnergy_whenS {o : Nat} (c : Bool) {f : State → State} (hf : ∀ s, SameEnergy (getMt o s) (getMt o (f s))) (s : State) :
    SameEnergy (getMt o s) (getMt o (whenS c f s)) := by
  unfold whenS
  split
  · exact hf s
  · exact SameEnergy.refl _

/-- With TYPE NONE, or before the RESTORE, nothing is billed. -/
theorem outletTurn_unbilled {o : Fin 8} {s : State} (h : metType o s = 0 ∨ (getMt o s).restored = false) :
    ∃ t, outletTurn o s = .next t ∧ SameEnergy (getMt o s) (getMt o t) := by
  have hpop : SameEnergy (getMt o s) (getMt o (popFrame (32 + o) (getMt o s).lastN s).1) :=
    sameEnergy_of_meters (queueOnly_popFrame _ _ s).meters
  unfold outletTurn
  dsimp only
  split
  · exact ⟨_, rfl, SameEnergy.refl _⟩
  · split
    · exact ⟨_, rfl, (hpop.trans (sameEnergy_calDue o _ _)).trans (sameEnergy_whenS _ (sameEnergy_applyBand o o) _)⟩
    next hidle =>
      have hnew : (getMt o (popFrame (32 + o) (getMt o s).lastN s).1).restored = false :=
        hpop.2.2.2.trans (h.resolve_left fun h0 => hidle (.inl h0))
      split
      · exact ⟨_, rfl, hpop⟩
      · rw [hnew, Bool.not_false, Bool.true_or, if_pos rfl]
        exact ⟨_, rfl, hpop⟩

theorem frameBilling_unbilled_yields (o : Fin 8) (s : State) (hup : pairUp (pairOf o) s = true)
    (h : metType o s = 0 ∨ (getMt o s).restored = false) :
    Yields (.frameBilling o) s fun t =>
      (getMt o t).regs = (getMt o s).regs ∧ (getMt o t).b = (getMt o s).b ∧ (getMt o t).lastN = (getMt o s).lastN := by
  obtain ⟨henergy, htype⟩ := (outletLeft_supplyTaken o.isLt s).trans (outletLeft_supplyApplied o.isLt _)
  obtain ⟨t, ht, hsame⟩ := outletTurn_unbilled (o := o) (s := supplyApplied o (supplyTaken o s))
    (h.imp htype.trans henergy.2.2.2.trans)
  obtain ⟨hregs, hb, hlast, -⟩ := henergy.trans hsame
  exact ⟨t, (execFrameBilling_up hup).trans ht, hregs, hb, hlast⟩

/-! ### A frame is billed (R164 to R175) -/

/-- The meter bills, has no CAL_APPLY that waits, and its gap is as before. -/
def SameTurn (m m' : Meter) : Prop := m'.billing = m.billing ∧ m'.cal = m.cal ∧ m'.gapAt = m.gapAt

theorem SameTurn.refl (m : Meter) : SameTurn m m := ⟨rfl, rfl, rfl⟩

theorem SameTurn.trans {m m' m'' : Meter} (h : SameTurn m m') (h' : SameTurn m' m'') : SameTurn m m'' := by
  obtain ⟨hbilling, hcal, hgap⟩ := h
  obtain ⟨kbilling, kcal, kgap⟩ := h'
  exact ⟨kbilling.trans hbilling, kcal.trans hcal, kgap.trans hgap⟩

theorem sameTurn_closeSecond (m : Meter) : SameTurn m (closeSecond m) := by
  unfold closeSecond
  split <;> exact SameTurn.refl _

theorem sameTurn_acPhases (o b : Nat) (cross : Bool) (f : FrameIn) (s : State) (ks : List Nat) (a : Meter × FrameVals) :
    SameTurn a.1 (ks.foldl (acPhase o b cross f s) a).1 := by
  induction ks generalizing a with
  | nil => exact SameTurn.refl _
  | cons k ks ih => exact SameTurn.trans ⟨rfl, rfl, rfl⟩ (ih _)

theorem sameTurn_bucketFrame (abs : Bool) (ke p : Nat) (fv : FrameVals) (m : Meter) : SameTurn m (bucketFrame abs ke p fv m) := by
  unfold bucketFrame
  dsimp only
  split <;> exact ⟨rfl, rfl, rfl⟩

/-- A step of the turn concerns the outlet's meter and registers; the queues and what is not of billing stay. -/
structure TurnOnly (o : Nat) (s t : State) : Prop where
  qs : t.qs = s.qs
  mram : t.mram = s.mram
  samp : t.samp = s.samp
  fold : t.fold = s.fold
  meter : SameTurn (getMt o s) (getMt o t)

theorem TurnOnly.trans {o : Nat} {s t u : State} (h : TurnOnly o s t) (h' : TurnOnly o t u) : TurnOnly o s u :=
  ⟨h'.qs.trans h.qs, h'.mram.trans h.mram, h'.samp.trans h.samp, h'.fold.trans h.fold, h.meter.trans h'.meter⟩

theorem TurnOnly.refl (o : Nat) (s : State) : TurnOnly o s s := ⟨rfl, rfl, rfl, rfl, SameTurn.refl _⟩

theorem turnOnly_setMt {o : Nat} {m : Meter} {s : State} (h : SameTurn (getMt o s) m) : TurnOnly o s (setMt o m s) :=
  ⟨rfl, rfl, rfl, rfl, by rw [getMt_setMt]; exact h⟩

theorem turnOnly_modMt {o : Nat} {f : Meter → Meter} (h : ∀ m, SameTurn m (f m)) (s : State) : TurnOnly o s (modMt o f s) :=
  turnOnly_setMt (h _)

theorem turnOnly_wrs (o : Nat) (l : List (Fld × Nat)) (s : State) : TurnOnly o s (wrs l s) := by
  obtain ⟨r, hr⟩ := wrs_regs l s
  rw [hr]
  exact ⟨rfl, rfl, rfl, rfl, SameTurn.refl _⟩

theorem turnOnly_applyBand (o : Nat) (s : State) : TurnOnly o s (applyBand o s) := by
  unfold applyBand
  split
  · refine (turnOnly_wrs o _ s).trans (turnOnly_modMt ?_ _)
    exact fun _ => ⟨rfl, rfl, rfl⟩
  · exact TurnOnly.refl o s

/-- The frame is the last one billed. -/
def Stamped (f : FrameIn) (c : Nat) (m : Meter) : Prop := m.lastN = f.n ∧ m.lastC = c

theorem calDue_none {o n : Nat} {s : State} (h : (getMt o s).cal = none) : calDue o n s = s := by
  unfold calDue
  split
  next c hc => exact absurd (h.symm.trans hc) (by simp)
  next => rfl

/-- With no CAL_APPLY that waits, a frame that is billed concerns the meter until the gap closes. -/
theorem billFrame_eq {o : Nat} {f : FrameIn} {s : State} (h : (getMt o s).cal = none) :
    ∃ u, billFrame o f s = closeGap o u ∧ TurnOnly o s u ∧ Stamped f (f.c.getD ((getMt o s).lastC + 125000 * 2 ^ 16)) (getMt o u) := by
  unfold billFrame
  extract_lets m ty c t m1 m2 m3 s1 s2 s3 s4 s5 m5 clk b ke abs det cross full mean low m6 d mf fv m7 m8 m9 s6 commit s7 s8
  have hstamp : c = f.c.getD (m.lastC + 125000 * 2 ^ 16) := by
    dsimp only [c]
    split
    next hc => rw [hc]; rfl
    next hc => rw [hc]; rfl
  have hsecond : SameTurn m m1 := by
    dsimp only [m1]
    split
    · exact SameTurn.refl _
    · exact sameTurn_closeSecond m
  have hopened : SameTurn m1 m2 := by
    dsimp only [m2]
    split <;> exact ⟨rfl, rfl, rfl⟩
  have hinterval : SameTurn m2 m3 := by
    dsimp only [m3]
    split <;> exact ⟨rfl, rfl, rfl⟩
  have hmeter : TurnOnly o s s1 := turnOnly_setMt ((hsecond.trans hopened).trans hinterval)
  have htested : TurnOnly o s1 s2 := by
    refine turnOnly_modMt ?_ s1
    exact fun _ => ⟨rfl, rfl, rfl⟩
  have hband : TurnOnly o s2 s3 := by
    dsimp only [s3]
    split
    · exact turnOnly_applyBand o s2
    · exact TurnOnly.refl o s2
  have hflags : TurnOnly o s3 s4 := by
    refine turnOnly_modMt ?_ s3
    exact fun _ => ⟨rfl, rfl, rfl⟩
  have hfree : TurnOnly o s4 s5 := by
    dsimp only [s5]
    split
    · exact ⟨rfl, rfl, rfl, rfl, SameTurn.refl _⟩
    · exact TurnOnly.refl o s4
  have hbefore : TurnOnly o s s5 := (((hmeter.trans htested).trans hband).trans hflags).trans hfree
  have hnoload : SameTurn m5 m6 := by
    dsimp only [m6]
    split <;> exact ⟨rfl, rfl, rfl⟩
  have hvalues : SameTurn m6 mf.1 := by
    dsimp only [mf]
    split
    · exact ⟨rfl, rfl, rfl⟩
    · exact (sameTurn_acPhases _ _ _ _ _ _ _).trans ⟨rfl, rfl, rfl⟩
  have hbucket : SameTurn mf.1 m7 := (sameTurn_bucketFrame abs ke f.p fv mf.1).trans ⟨rfl, rfl, rfl⟩
  have hsums : SameTurn m7 m9 := ⟨rfl, rfl, rfl⟩
  have hbilled : TurnOnly o s5 s6 := turnOnly_setMt (((hnoload.trans hvalues).trans hbucket).trans hsums)
  have hlast : Stamped f c (getMt o s6) := by
    rw [getMt_setMt]
    exact ⟨rfl, rfl⟩
  have hcommit : TurnOnly o s6 s7 ∧ Stamped f c (getMt o s7) := by
    dsimp only [s7]
    split
    · refine ⟨(turnOnly_modMt ?_ s6).trans (turnOnly_modMt ?_ _), ?_⟩
      · exact fun _ => ⟨rfl, rfl, rfl⟩
      · exact fun _ => ⟨rfl, rfl, rfl⟩
      · rw [getMt_modMt, commitOutlet, getMt_modMt]
        exact hlast
    · exact ⟨TurnOnly.refl o s6, hlast⟩
  have hall : TurnOnly o s s7 := (hbefore.trans hbilled).trans hcommit.1
  have hcal : s8 = s7 := by
    dsimp only [s8]
    rw [calDue_none (hall.meter.2.1.trans h), ite_self]
  refine ⟨s7, congrArg (closeGap o) hcal, hall, ?_⟩
  rw [← hstamp]
  exact hcommit.2

theorem closeGap_none {o : Nat} {s : State} (h : (getMt o s).gapAt = none) : closeGap o s = s := by
  unfold closeGap
  split
  next => rfl
  next t ht => exact absurd (h.symm.trans ht) (by simp)

/-- METER_GAP goes to the log; the meter bills on, and no queue but those of the recorder changes. -/
theorem closeGap_keeps (o : Nat) (s : State) :
    (getMt o (closeGap o s)).billing = (getMt o s).billing ∧ (getMt o (closeGap o s)).lastN = (getMt o s).lastN ∧
      (getMt o (closeGap o s)).lastC = (getMt o s).lastC ∧
      ∀ k, k ≠ qn 116 → k ≠ qn 117 → k ≠ qn 8 → getQ k (closeGap o s) = getQ k s := by
  unfold closeGap
  split
  · exact ⟨rfl, rfl, rfl, fun _ _ _ _ => rfl⟩
  next t _ =>
    dsimp only
    rw [(logOnly_logEvent _ (by decide) _ _ _).getMt, getMt_modMt]
    exact ⟨rfl, rfl, rfl, fun k h116 h117 h8 => getQ_logEvent_ne h116 h117 h8 _ _ _ _ _⟩

theorem parseFrame_nonempty {last : Nat} {ms : List Msg} {f : Option FrameIn × Nat} (h : parseFrame last ms = some f) : ms ≠ [] := by
  rintro rfl
  exact absurd h (by simp [parseFrame])

/-- The frame at the head of the outlet's stream is billed. -/
theorem outletTurn_bills {o : Fin 8} {s : State} {f : FrameIn} {k : Nat} (htype : metType o s ≠ 0) (hrestored : (getMt o s).restored = true)
    (hband : (getMt o s).bandInit = true) (hfirst : (getMt o s).billing = true ∨ f.c.isSome = true)
    (hparse : parseFrame (getMt o s).lastN ((getQ (qn (32 + o.val)) s).ent.map Prod.snd) = some (some f, k)) :
    outletTurn o s = .next (billFrame o f (modMt o (fun m => { m with billing := true }) (takeN (32 + o) k s))) := by
  have hpop : popFrame (32 + o) (getMt o s).lastN s = (takeN (32 + o) k s, some f) := by
    unfold popFrame
    rw [hparse]
  have hframes : noFrames (32 + o) o s = false := by
    have hent : (getQ (qn (32 + o.val)) s).ent.isEmpty = false := by
      have := parseFrame_nonempty hparse
      simpa using this
    rw [noFrames, hent, Bool.false_and]
  have hmeter : getMt o (takeN (32 + o) k s) = getMt o s := (queueOnly_takeN _ _ s).getMt o
  have hbill : (!(getMt o s).billing && f.c.isNone) = false := by
    rcases hfirst with h | h
    · rw [h]
      rfl
    · rw [Option.isNone_eq_false_iff.2 h, Bool.and_false]
  unfold outletTurn
  dsimp only
  rw [hpop, hframes, if_neg (by rw [hband]; simp), if_neg (by simp [htype])]
  dsimp only
  rw [hmeter, hrestored, hbill]
  rfl

theorem frameBilling_yields (o : Fin 8) (s : State) (f : FrameIn) (k : Nat) (hup : pairUp (pairOf o) s = true) (htype : metType o s ≠ 0)
    (hrestored : (getMt o s).restored = true) (hband : (getMt o s).bandInit = true)
    (hfirst : (getMt o s).billing = true ∨ f.c.isSome = true) (hcal : (getMt o s).cal = none) (hsupply : s.supply.cal = none)
    (hlate : (getQ (qn (32 + o.val)) s).late = [])
    (hparse : parseFrame (getMt o s).lastN ((getQ (qn (32 + o.val)) s).ent.map Prod.snd) = some (some f, k)) :
    Yields (.frameBilling o) s fun t =>
      (getMt o t).billing = true ∧ (getMt o t).lastN = f.n ∧
      (getMt o t).lastC = f.c.getD ((getMt o s).lastC + 125000 * 2 ^ 16) ∧
      (getQ (qn (32 + o.val)) t).ent = (getQ (qn (32 + o.val)) s).ent.drop k ∧
      ((getMt o s).gapAt = none → t.mram = s.mram ∧ t.samp = s.samp ∧ t.fold = s.fold) := by
  have hsup := supplyOnly_supplyTaken (o := o) hsupply
  have hexec : exec (.frameBilling o) s = outletTurn o (supplyTaken o s) :=
    (execFrameBilling_up hup).trans (by rw [supplyApplied_none (hsup.cal.trans hsupply)])
  generalize supplyTaken o s = u at hsup hexec
  have hmt : getMt o u = getMt o s := by rw [getMt, hsup.meters, ← getMt]
  have hq : getQ (qn (32 + o.val)) u = getQ (qn (32 + o.val)) s := hsup.getQ _ (by omega)
  rw [← hmt] at hrestored hband hfirst hcal hparse ⊢
  rw [← hq] at hlate hparse ⊢
  rw [outletTurn_bills (by rw [hsup.metType o o.isLt]; exact htype) hrestored hband hfirst hparse] at hexec
  have htaken := queueOnly_takeN (32 + o.val) k u
  have hopen : getMt o (modMt o (fun m => { m with billing := true }) (takeN (32 + o) k u)) = { getMt o u with billing := true } := by
    rw [getMt_modMt, htaken.getMt]
  obtain ⟨v, hv, hturn, hlast⟩ := billFrame_eq (o := o) (f := f) (s := modMt o (fun m => { m with billing := true }) (takeN (32 + o) k u))
    (by rw [hopen]; exact hcal)
  rw [hv] at hexec
  rw [hopen] at hlast
  obtain ⟨hn, hc⟩ := hlast
  obtain ⟨kbilling, kn, kc, kq⟩ := closeGap_keeps o v
  refine ⟨_, hexec, ?_, kn.trans hn, kc.trans hc, ?_, fun hgap => ?_⟩
  · rw [kbilling, hturn.meter.1, hopen]
  · rw [kq _ (qn_ne (by omega) (by omega) (by omega)) (qn_ne (by omega) (by omega) (by omega)) (qn_ne (by omega) (by omega) (by omega)),
      getQ, hturn.qs, ← getQ]
    exact ent_takeN hlate k
  · rw [closeGap_none (by rw [hturn.meter.2.2, hopen]; exact hgap)]
    exact ⟨(hturn.mram.trans htaken.mram).trans hsup.mram, (hturn.samp.trans htaken.samp).trans hsup.samp,
      (hturn.fold.trans htaken.fold).trans hsup.fold⟩

/-- Settles O34: RESTORE gives the pair the registers of the last save (`execRestore_sends`); then each frame at the head of
the stream is billed (`outletTurn_bills`, `billFrame_eq`); before it, and with TYPE NONE, none is (`outletTurn_unbilled`). -/
theorem meteringFramesAreBilledAfterRestore : Obligations.MeteringFramesAreBilledAfterRestore := by
  unfold Obligations.MeteringFramesAreBilledAfterRestore
  exact ⟨restore_yields, frameBilling_yields, frameBilling_unbilled_yields⟩

end Sys2Proof.Machine
end

section
/-!
O37: the live values and the summaries that a pair reports (R177, R178, R180, R200).
-/
namespace Sys2Proof.Machine
open Sys2Proof.Claims

/-! ### What leaves the energy computation and its registers -/

/-- No meter and no register of NRG (0x12) differs. -/
def KeepsNrg (s t : State) : Prop := t.meters = s.meters ∧ ∀ g : Fld, g.lsb < 32 → g.block = 0x12 → rd g t = rd g s

namespace KeepsNrg

theorem refl (s : State) : KeepsNrg s s := ⟨rfl, fun _ _ _ => rfl⟩

theorem trans {s t u : State} (h : KeepsNrg s t) (k : KeepsNrg t u) : KeepsNrg s u :=
  ⟨k.1.trans h.1, fun g gl gb => (k.2 g gl gb).trans (h.2 g gl gb)⟩

theorem ite {p : Prop} [Decidable p] {s t u : State} (h : KeepsNrg s t) (k : KeepsNrg s u) : KeepsNrg s (if p then t else u) := by
  split
  · exact h
  · exact k

theorem whenS {c : Bool} {f : State → State} (h : ∀ s, KeepsNrg s (f s)) (s : State) : KeepsNrg s (whenS c f s) := by
  unfold Machine.whenS
  exact ite (h s) (refl s)

/-- An operation on neither the meters nor the registers. -/
theorem of_regs {s t : State} (hm : t.meters = s.meters) (hr : t.regs = s.regs) : KeepsNrg s t := ⟨hm, fun g _ _ => rd_of_regs hr g⟩

theorem wr {f : Fld} (v : Nat) (s : State) (hl : f.lsb < 32) (hb : f.block ≠ 0x12) : KeepsNrg s (wr f v s) := by
  refine ⟨rfl, fun g gl gb => rd_wr_ne v s fun hk => hb ?_⟩
  have ha : g.addr = f.addr := by
    simp only [Fld.key] at hk
    omega
  rw [← gb, Fld.block, Fld.block, ha]

theorem of_queueOnly {s t : State} (h : QueueOnly s t) : KeepsNrg s t :=
  ⟨h.meters, fun g gl gb => h.2 g gl (isQCount_above_queues (by simp only [Fld.block] at gb; omega)) (by rw [gb]; decide)⟩

theorem of_checkOnly {s t : State} (h : CheckOnly s t) : KeepsNrg s t := by
  obtain ⟨⟨r, rfl⟩, hrd⟩ := h
  exact ⟨rfl, fun g gl gb => hrd g gl (by rw [gb]; decide)⟩

theorem getMt {s t : State} (h : KeepsNrg s t) (o : Nat) : getMt o t = getMt o s := by
  rw [Machine.getMt, h.1, Machine.getMt]

end KeepsNrg

/-! ### A reading that ends a session (R234 to R238) -/

theorem checkOnly_ckSpan (write : Bool) (a : Nat) (bs : List Byte) (s : State) : CheckOnly s (ckSpan write a bs s) := by
  refine CheckOnly.foldl _ _ (fun u hu s => ?_) s
  exact CheckOnly.ite (checkOnly_ckFeed (lt_four_of_mem hu) _ s) (CheckOnly.refl s)

theorem keepsNrg_te0Wr (off : Nat) (bs : List Byte) (s : State) : KeepsNrg s (te0Wr off bs s) :=
  (KeepsNrg.of_regs (mramWr_meters off bs s) (mramWr_regs off bs s)).trans (.of_checkOnly (checkOnly_ckSpan _ _ _ _))

theorem keepsNrg_showCounter (s : State) : KeepsNrg s (showCounter s) :=
  (KeepsNrg.wr (f := R.BIL_RDCNTLO_C) _ s (by decide) (by decide)).trans (KeepsNrg.wr (f := R.BIL_RDCNTHI_C) _ _ (by decide) (by decide))

theorem keepsNrg_modBo (o : Nat) (f : BOut → BOut) (s : State) : KeepsNrg s (modBo o f s) := .of_regs rfl rfl

theorem keepsNrg_modBill (f : Bill → Bill) (s : State) : KeepsNrg s (modBill f s) := .of_regs rfl rfl

theorem keepsNrg_ite_putQ (p : Prop) [Decidable p] (q : Nat) (m : Msg) (s : State) : KeepsNrg s (if p then s else putQ q m s) :=
  .ite (.refl s) (.of_queueOnly (queueOnly_putQ q m s))

theorem keepsNrg_signBody (body : List Byte) (s : State) : KeepsNrg s (signBody body s).2 := .of_regs rfl rfl

theorem keepsNrg_makeReading (o trigger content : Nat) (s : State) : KeepsNrg s (makeReading o trigger content s).1 := by
  unfold makeReading
  split
  · exact .refl s
  · exact (((((((KeepsNrg.of_queueOnly (queueOnly_transit _ _ _ _ _ _)).trans (keepsNrg_signBody _ _)).trans (keepsNrg_te0Wr _ _ _)).trans
      (keepsNrg_te0Wr _ _ _)).trans (keepsNrg_modBill _ _)).trans (keepsNrg_showCounter _)).trans (keepsNrg_modBo _ _ _)).trans
      (keepsNrg_ite_putQ _ _ _ _)

theorem keepsNrg_completeReading (n t w0 : Nat) (r : State × Option (Nat × Nat)) : KeepsNrg r.1 (completeReading n t w0 r) := by
  unfold completeReading
  split <;> exact .of_queueOnly (queueOnly_complete _ _ _ _ _ _)

/-- A session's end makes readings and answers what waited for them. -/
theorem keepsNrg_endSession (o : Nat) (pf : Bool) (s : State) : KeepsNrg s (endSession o pf s) := by
  unfold endSession
  extract_lets se s1 s2 r s3
  have hmarked : KeepsNrg s s1 := keepsNrg_modBo _ _ s
  have hwait : KeepsNrg s1 s2 := by
    dsimp only [s2]
    split
    · exact (keepsNrg_makeReading _ _ _ s1).trans (keepsNrg_completeReading _ _ _ _)
    · exact .refl s1
  have hclose : KeepsNrg s2 s3 := by
    dsimp only [s3]
    split
    · exact (keepsNrg_makeReading _ _ _ s2).trans (keepsNrg_completeReading _ _ _ _)
    · exact keepsNrg_makeReading _ _ _ s2
  exact .ite (.refl s) (.ite hmarked (((hmarked.trans hwait).trans hclose).trans (keepsNrg_modBo _ _ s3)))

/-! ### A change of an outlet's state (R252, R267) -/

theorem keepsNrg_modOs (o : Nat) (f : OutSt → OutSt) (s : State) : KeepsNrg s (modOs o f s) := .of_regs rfl rfl

theorem keepsNrg_setGen (o : Nat) (s : State) : KeepsNrg s (setGen o s) := .ite (.refl s) (keepsNrg_modOs _ _ s)

theorem keepsNrg_outDone (t : Nat) (w : Waiting) (w1 st : Nat) (s : State) : KeepsNrg s (outDone t w w1 st s) :=
  .of_queueOnly (queueOnly_complete _ _ _ _ _ _)

theorem keepsNrg_outCompletions (o new : Nat) (s : State) : KeepsNrg s (outCompletions o new s) := by
  unfold outCompletions
  extract_lets s1 s2
  have hdone : ∀ f t w w1 st u, KeepsNrg u (outDone t w w1 st (modOs o f u)) := fun _ _ _ _ _ u =>
    (keepsNrg_modOs _ _ u).trans (keepsNrg_outDone _ _ _ _ _)
  have hstop : KeepsNrg s s1 := by
    dsimp only [s1]
    split
    · exact .ite (hdone _ _ _ _ _ s) (.refl s)
    · exact .refl s
  have hauth : KeepsNrg s1 s2 := by
    dsimp only [s2]
    split
    · exact hdone _ _ _ _ _ s1
    · exact .refl s1
  refine (hstop.trans hauth).trans ?_
  split
  · exact .ite (hdone _ _ _ _ _ s2) (.ite (.refl s2) (hdone _ _ _ _ _ s2))
  · exact .refl s2

/-- A register of an outlet (0x14) is none of NRG. -/
theorem block_out_ne {a lsb wid rst : Nat} {acc : Acc} (h : 0x13000000 ≤ a) : (Fld.mk a lsb wid rst acc).block ≠ 0x12 := by
  simp only [Fld.block]
  omega

theorem keepsNrg_change {o : Nat} (ho : o < 8) (new reason idx : Nat) (forced : Bool) (s : State) : KeepsNrg s (change o new reason idx forced s) := by
  unfold change
  extract_lets old nopow s1 s2 s3 s4 s5 s6 s7
  have hshown : KeepsNrg s s1 :=
    ((KeepsNrg.wr (f := R.OUT_STATE_OSTATE o) _ s (Nat.le_of_ble_eq_true rfl) (block_out_ne (by omega))).trans
      (KeepsNrg.wr (f := R.OUT_STATE_PREV o) _ _ (Nat.le_of_ble_eq_true rfl) (block_out_ne (by omega)))).trans
      (KeepsNrg.wr (f := R.OUT_STATE_REASON o) _ _ (Nat.le_of_ble_eq_true rfl) (block_out_ne (by omega)))
  have hcount : KeepsNrg s1 s2 :=
    .ite ((keepsNrg_modOs _ _ s1).trans (KeepsNrg.wr (f := R.OUT_SESS_COUNT o) _ _ (Nat.le_of_ble_eq_true rfl) (block_out_ne (by omega)))) (.refl s1)
  have hforced : KeepsNrg s2 s3 :=
    .whenS (fun u => KeepsNrg.wr (f := R.OUT_SESS_FORCED o) _ u (Nat.le_of_ble_eq_true rfl) (block_out_ne (by omega))) s2
  have hclear : KeepsNrg s3 s4 := keepsNrg_modOs _ _ s3
  have hevent : KeepsNrg s4 s5 := .of_queueOnly (queueOnly_relay (by omega) _ _ _ _ _)
  have hsession : KeepsNrg s5 s6 := .whenS (fun u => keepsNrg_endSession _ _ u) s5
  have hplm : KeepsNrg s6 s7 := .whenS (fun u => .of_queueOnly (queueOnly_pushQ (by decide) _ _ u)) s6
  exact .ite (.refl s) ((((((((hshown.trans hcount).trans hforced).trans hclear).trans hevent).trans hsession).trans hplm).trans
    (keepsNrg_outCompletions _ _ s7)).trans (keepsNrg_setGen _ _))

theorem keepsNrg_goTo {o : Nat} (ho : o < 8) (new reason : Nat) (forced : Bool) (s : State) : KeepsNrg s (goTo o new reason forced s) := by
  unfold goTo goToAt
  dsimp only
  have hchange := keepsNrg_change ho new reason (rd R.FLT_IDX_N s) forced s
  split
  · exact .ite (((hchange.trans (keepsNrg_modOs _ _ _)).trans (keepsNrg_change ho _ _ _ _ _)).trans (keepsNrg_outDone _ _ _ _ _)) hchange
  · exact hchange

theorem keepsNrg_askOpen (o : Nat) (s : State) : KeepsNrg s (askOpen o s) :=
  ((keepsNrg_modOs _ _ s).trans (KeepsNrg.wr (f := R.OUT_STATE_KSTATE o) _ _ (Nat.le_of_ble_eq_true rfl) (block_out_ne (by omega)))).trans
    (.of_queueOnly (queueOnly_pushQ (by decide) _ _ _))

theorem keepsNrg_rampDown {o : Nat} (ho : o < 8) (reason : Nat) (susp : Bool) (s : State) : KeepsNrg s (rampDown o reason susp s) := by
  unfold rampDown
  extract_lets st
  have hgo : ∀ u, KeepsNrg u (if susp then u else goTo o 7 reason false u) := fun u => .ite (.refl u) (keepsNrg_goTo ho _ _ _ u)
  split
  · exact .ite (.refl s) (((keepsNrg_modOs _ _ s).trans (keepsNrg_goTo ho _ _ _ _)).trans (keepsNrg_setGen _ _))
  · refine .ite (.ite (.refl s) (keepsNrg_goTo ho _ _ _ s)) (.ite ?_ (.ite ?_ (.refl s)))
    · exact (((keepsNrg_modOs _ _ s).trans (hgo _)).trans (keepsNrg_askOpen _ _)).trans (keepsNrg_setGen _ _)
    · exact (((keepsNrg_modOs _ _ s).trans (hgo _)).trans
        (.whenS (fun u => .of_queueOnly (queueOnly_pushQ (by decide) _ _ u)) _)).trans (keepsNrg_setGen _ _)

/-- What the outlet engine makes of a LIVE message is no concern of the pair. -/
theorem keepsNrg_liveSeen {o : Nat} (ho : o < 8) (irms : Nat) (p : Int) (s : State) : KeepsNrg s (liveSeen o irms p s) := by
  unfold liveSeen
  extract_lets x
  split
  · exact .ite ((keepsNrg_modOs _ _ s).trans (keepsNrg_askOpen _ _)) (.refl s)
  · refine .ite (keepsNrg_modOs _ _ s) ?_
    exact (keepsNrg_modOs _ _ s).trans (.ite (keepsNrg_rampDown ho _ _ _) (.ite (keepsNrg_rampDown ho _ _ _) (.refl _)))

/-! ### What a LIVE writes (R177, R200) -/

/-- Only registers of NRG, the supply side's record and the free values differ. -/
def NrgOnly (s t : State) : Prop :=
  (∃ r f x, t = { s with regs := r, freeCtr := f, supply := x }) ∧ ∀ g : Fld, g.lsb < 32 → g.block ≠ 0x12 → rd g t = rd g s

namespace NrgOnly

theorem refl (s : State) : NrgOnly s s := ⟨⟨_, _, _, rfl⟩, fun _ _ _ => rfl⟩

theorem trans {s t u : State} (h : NrgOnly s t) (k : NrgOnly t u) : NrgOnly s u := by
  obtain ⟨⟨r, f, x, rfl⟩, hrd⟩ := h
  obtain ⟨⟨r', f', x', rfl⟩, krd⟩ := k
  exact ⟨⟨r', f', x', rfl⟩, fun g gl gb => (krd g gl gb).trans (hrd g gl gb)⟩

theorem wr {f : Fld} (v : Nat) (s : State) (hl : f.lsb < 32) (hb : f.block = 0x12) : NrgOnly s (wr f v s) := by
  refine ⟨⟨_, _, _, rfl⟩, fun g gl gb => rd_wr_ne v s fun hk => gb ?_⟩
  have ha : g.addr = f.addr := by
    simp only [Fld.key] at hk
    omega
  rw [← hb, Fld.block, Fld.block, ha]

theorem wrs {l : List (Fld × Nat)} (hl : ∀ x ∈ l, x.1.lsb < 32 ∧ x.1.block = 0x12) (s : State) : NrgOnly s (wrs l s) := by
  induction l generalizing s with
  | nil => exact refl s
  | cons x l ih =>
    obtain ⟨hx, hb⟩ := hl x List.mem_cons_self
    exact (wr x.2 s hx hb).trans (ih (fun y hy => hl y (List.mem_cons_of_mem _ hy)) _)

theorem forEach {α : Type} (l : List α) (f : α → State → State) (h : ∀ a ∈ l, ∀ s, NrgOnly s (f a s)) (s : State) :
    NrgOnly s (forEach l f s) := by
  induction l generalizing s with
  | nil => exact refl s
  | cons a l ih => exact (h a List.mem_cons_self s).trans (ih (fun b hb => h b (List.mem_cons_of_mem _ hb)) (f a s))

theorem nextFree (s : State) : NrgOnly s (nextFree s) := ⟨⟨_, _, _, rfl⟩, fun _ _ _ => rfl⟩

theorem getMt {s t : State} (h : NrgOnly s t) (o : Nat) : getMt o t = getMt o s := by
  obtain ⟨⟨r, f, x, rfl⟩, -⟩ := h
  rfl

theorem getQ {s t : State} (h : NrgOnly s t) (q : Qid) : getQ q t = getQ q s := by
  obtain ⟨⟨r, f, x, rfl⟩, -⟩ := h
  rfl

theorem getOs {s t : State} (h : NrgOnly s t) (o : Nat) : getOs o t = getOs o s := by
  obtain ⟨⟨r, f, x, rfl⟩, -⟩ := h
  rfl

theorem metType {s t : State} (h : NrgOnly s t) (o : Nat) : metType o t = metType o s :=
  h.2 _ (Nat.le_of_ble_eq_true rfl) (by simp only [Fld.block, Fld.eff, R.MET_OCFG_TYPE]; omega)

end NrgOnly

theorem freqOf_state (z : List Nat) (s : State) : NrgOnly s (freqOf z s).2 := by
  unfold freqOf
  split
  · split
    · exact .refl s
    · exact .nextFree s
  · exact .nextFree s

theorem nrgOnly_supplyLive (s : State) : NrgOnly s (supplyLive s) := by
  unfold supplyLive
  split
  · exact .refl s
  · extract_lets su s1 sf
    have hvolts : NrgOnly s s1 := by
      refine NrgOnly.forEach _ _ (fun k hk s => NrgOnly.wr (f := R.NRG_SVRMS_V k) _ s (Nat.le_of_ble_eq_true rfl) ?_) s
      simp only [List.mem_cons, List.not_mem_nil, or_false] at hk
      rcases hk with rfl | rfl | rfl | rfl <;> rfl
    have hfreq : NrgOnly s1 sf.2 := freqOf_state _ s1
    have hdone : NrgOnly sf.2 { sf.2 with supply := { sf.2.supply with done := ([0, 0, 0, 0], 0) } } := ⟨⟨_, _, _, rfl⟩, fun _ _ _ => rfl⟩
    exact ((hvolts.trans hfreq).trans hdone).trans (NrgOnly.wr (f := R.NRG_SFREQ_F) _ _ (by decide) (by decide))

/-! ### The values of the phases (R177, R200) -/

/-- The registers of phase `e.1`, with its values. -/
def phaseRegs (o : Nat) (e : Nat × List Nat) : List (Fld × Nat) :=
  [(R.NRG_VRMS_V o e.1, e.2.getD 0 0), (R.NRG_IRMS_I o e.1, e.2.getD 1 0), (R.NRG_PWR_P o e.1, e.2.getD 2 0),
   (R.NRG_RPWR_Q o e.1, e.2.getD 3 0), (R.NRG_APWR_S o e.1, e.2.getD 4 0), (R.NRG_PF_PF o e.1, e.2.getD 5 0)]

/-- A register of phase `k` of the outlet. -/
def OfPhase (o k : Nat) (f : Fld) : Prop := f.lsb = 0 ∧ 0x12000080 + o * 0x1000 + k * 0x20 ≤ f.addr ∧ f.addr < 0x120000A0 + o * 0x1000 + k * 0x20

theorem ofPhase_phaseRegs {o : Nat} {e : Nat × List Nat} {x : Fld × Nat} (h : x ∈ phaseRegs o e) : OfPhase o e.1 x.1 := by
  simp only [phaseRegs, List.mem_cons, List.not_mem_nil, or_false] at h
  rcases h with rfl | rfl | rfl | rfl | rfl | rfl <;> refine ⟨rfl, ?_, ?_⟩ <;>
    simp only [R.NRG_VRMS_V, R.NRG_IRMS_I, R.NRG_PWR_P, R.NRG_RPWR_Q, R.NRG_APWR_S, R.NRG_PF_PF] <;> omega

theorem OfPhase.key_ne {o j k : Nat} {f g : Fld} (hf : OfPhase o j f) (hg : OfPhase o k g) (h : j ≠ k) : f.key ≠ g.key := by
  obtain ⟨hfl, hflo, hfhi⟩ := hf
  obtain ⟨hgl, hglo, hghi⟩ := hg
  simp only [Fld.key]
  omega

/-- Where no other element writes `f`, its element alone decides it. -/
theorem rd_forEach_wrs {α : Type} {l : List α} {w : α → List (Fld × Nat)} {a : α} (ha : a ∈ l) {f : Fld}
    (hne : ∀ b ∈ l, b ≠ a → ∀ g ∈ (w b).map Prod.fst, f.key ≠ g.key) (s : State) :
    ∃ u, rd f (forEach l (fun a => wrs (w a)) s) = rd f (wrs (w a) u) := by
  induction l generalizing s with
  | nil => exact absurd ha List.not_mem_nil
  | cons b l ih =>
    have hrest : ∀ c ∈ l, c ≠ a → ∀ g ∈ (w c).map Prod.fst, f.key ≠ g.key := fun c hc => hne c (List.mem_cons_of_mem _ hc)
    by_cases hin : a ∈ l
    · exact ih hin hrest _
    · rcases List.mem_cons.1 ha with rfl | h
      · exact ⟨s, forEach_keeps (rd f) l _ (fun c hc s => rd_wrs_ne _ s (hrest c hc fun h => hin (h ▸ hc))) _⟩
      · exact absurd h hin

/-- The phases write registers of their own. -/
theorem rd_phases {o : Nat} {vs : List (Nat × List Nat)} (hd : (vs.map Prod.fst).Nodup) {e : Nat × List Nat} (he : e ∈ vs) {f : Fld}
    (hf : OfPhase o e.1 f) (s : State) :
    ∃ u, rd f (forEach vs (fun e => wrs (phaseRegs o e)) s) = rd f (wrs (phaseRegs o e) u) := by
  refine rd_forEach_wrs he (fun b hb hbe g hg => ?_) s
  obtain ⟨x, hx, rfl⟩ := List.mem_map.1 hg
  exact hf.key_ne (ofPhase_phaseRegs hx) fun hk => hbe (List.inj_on_of_nodup_map hd hb he hk.symm)

/-- What NRG shows of a phase: Vrms, Irms and the active power. -/
theorem rd_phaseRegs (o : Nat) (e : Nat × List Nat) (s : State) :
    rd (R.NRG_VRMS_V o e.1) (wrs (phaseRegs o e) s) = e.2.getD 0 0 % 2 ^ 24 ∧
    rd (R.NRG_IRMS_I o e.1) (wrs (phaseRegs o e) s) = e.2.getD 1 0 % 2 ^ 24 ∧
    rd (R.NRG_PWR_P o e.1) (wrs (phaseRegs o e) s) = e.2.getD 2 0 % 2 ^ 24 := by
  have hlater : ∀ {f : Fld} (k : Nat), (∀ g ∈ ((phaseRegs o e).drop k).map Prod.fst, g.addr ≠ f.addr ∧ g.lsb = 0) → f.lsb = 0 →
      ∀ u, rd f (wrs ((phaseRegs o e).drop k) u) = rd f u := fun k h hl u => rd_wrs_ne _ u fun g hg hk => by
    obtain ⟨hne, hgl⟩ := h g hg
    simp only [Fld.key, hgl, hl] at hk
    omega
  refine ⟨(hlater 1 ?_ rfl _).trans (rd_wr_same _ _ _), (hlater 2 ?_ rfl _).trans (rd_wr_same _ _ _),
    (hlater 3 ?_ rfl _).trans (rd_wr_same _ _ _)⟩ <;> intro g hg <;>
    simp only [phaseRegs, List.drop_succ_cons, List.drop_zero, List.map_cons, List.map_nil, List.mem_cons, List.not_mem_nil, or_false] at hg
  · rcases hg with rfl | rfl | rfl | rfl | rfl <;> refine ⟨?_, rfl⟩ <;>
      simp only [R.NRG_VRMS_V, R.NRG_IRMS_I, R.NRG_PWR_P, R.NRG_RPWR_Q, R.NRG_APWR_S, R.NRG_PF_PF] <;> omega
  · rcases hg with rfl | rfl | rfl | rfl <;> refine ⟨?_, rfl⟩ <;>
      simp only [R.NRG_IRMS_I, R.NRG_PWR_P, R.NRG_RPWR_Q, R.NRG_APWR_S, R.NRG_PF_PF] <;> omega
  · rcases hg with rfl | rfl | rfl <;> refine ⟨?_, rfl⟩ <;>
      simp only [R.NRG_PWR_P, R.NRG_RPWR_Q, R.NRG_APWR_S, R.NRG_PF_PF] <;> omega

/-! ### The LIVE message (R177, R180) -/

theorem livePhase_vals (o k : Nat) (l : LiveSum) (s : State) : ∃ v a p q ap pf,
    livePhase o k l s = [satU 24 v, satU 24 a, toU 24 p, q, ap, pf] ∧
    (metType o s ≠ 3 → satU 24 v = rmsOf (l.sv.getD k 0 * rd (R.MET_UREF_MV o).eff s ^ 2) (l.sumP * 2 ^ 62) ∧
      satU 24 a = rmsOf (l.si.getD k 0 * rd (R.MET_IREF_MA o).eff s ^ 2 * 100) (l.sumP * 2 ^ 62)) := by
  refine ⟨_, _, _, _, _, _, rfl, fun h => ?_⟩
  have hac : (metType o s == 3) = false := beq_eq_false_iff_ne.2 h
  rw [hac]
  simp only [Bool.false_eq_true, if_false, sqrtRound, satU, rmsOf, pow_two, Nat.mul_assoc]
  exact ⟨rfl, rfl⟩

/-- NRG shows the phases `vs` with their values, and on AC the neutral current. -/
def phasesShown (o : Nat) (vs : List (Nat × List Nat)) (neutral : Nat) (s : State) : State :=
  let s := forEach vs (fun e => wrs (phaseRegs o e)) s
  if metType o s = 3 then s else wr (R.NRG_IRMS_I o 3) neutral s

/-- And the frequency. -/
def liveShown (o : Nat) (vs : List (Nat × List Nat)) (neutral : Nat) (z : List Nat) (s : State) : State :=
  let fr := freqOf z (phasesShown o vs neutral s)
  wr (R.NRG_FREQ_F o) fr.1 fr.2

theorem freqOf_regs (z : List Nat) (s : State) : (freqOf z s).2.regs = s.regs := by
  unfold freqOf
  split
  · split <;> rfl
  · rfl

theorem rd_liveShown {o k : Nat} (hk : k < 3) {f : Fld} (hf : OfPhase o k f) (vs : List (Nat × List Nat)) (neutral : Nat) (z : List Nat)
    (s : State) : rd f (liveShown o vs neutral z s) = rd f (forEach vs (fun e => wrs (phaseRegs o e)) s) := by
  have hfreq : f.key ≠ (R.NRG_FREQ_F o).key := by
    obtain ⟨hl, hlo, hhi⟩ := hf
    simp only [Fld.key, R.NRG_FREQ_F]
    omega
  have hneutral : OfPhase o 3 (R.NRG_IRMS_I o 3) := by
    refine ⟨rfl, ?_, ?_⟩ <;> simp only [R.NRG_IRMS_I] <;> omega
  unfold liveShown
  dsimp only
  rw [rd_wr_ne _ _ hfreq, rd_of_regs (freqOf_regs _ _)]
  unfold phasesShown
  dsimp only
  split
  · rfl
  · exact rd_wr_ne _ _ (hf.key_ne hneutral (by omega))

/-- NRG shows each phase's values. -/
theorem rd_liveShown_phase {o : Nat} {vs : List (Nat × List Nat)} (hd : (vs.map Prod.fst).Nodup) {e : Nat × List Nat} (he : e ∈ vs)
    (hlt : e.1 < 3) (neutral : Nat) (z : List Nat) (s : State) :
    rd (R.NRG_VRMS_V o e.1) (liveShown o vs neutral z s) = e.2.getD 0 0 % 2 ^ 24 ∧
    rd (R.NRG_IRMS_I o e.1) (liveShown o vs neutral z s) = e.2.getD 1 0 % 2 ^ 24 ∧
    rd (R.NRG_PWR_P o e.1) (liveShown o vs neutral z s) = e.2.getD 2 0 % 2 ^ 24 := by
  have hshown : ∀ f, OfPhase o e.1 f → ∃ u, rd f (liveShown o vs neutral z s) = rd f (wrs (phaseRegs o e) u) := fun f hf => by
    rw [rd_liveShown hlt hf]
    exact rd_phases hd he hf s
  have hof : ∀ x ∈ phaseRegs o e, OfPhase o e.1 x.1 := fun x hx => ofPhase_phaseRegs hx
  simp only [phaseRegs, List.forall_mem_cons] at hof
  obtain ⟨hv, ha, hp, -⟩ := hof
  obtain ⟨u, hu⟩ := hshown _ hv
  obtain ⟨u', hu'⟩ := hshown _ ha
  obtain ⟨u'', hu''⟩ := hshown _ hp
  rw [hu, hu', hu'', (rd_phaseRegs o e u).1, (rd_phaseRegs o e u').2.1, (rd_phaseRegs o e u'').2.2]
  exact ⟨rfl, rfl, rfl⟩

theorem ofPhase_block {o k : Nat} (ho : o < 8) (hk : k < 4) {f : Fld} (h : OfPhase o k f) : f.lsb < 32 ∧ f.block = 0x12 := by
  obtain ⟨hl, hlo, hhi⟩ := h
  refine ⟨by omega, ?_⟩
  simp only [Fld.block]
  omega

theorem nrgOnly_liveShown {o : Nat} (ho : o < 8) {vs : List (Nat × List Nat)} (hlt : ∀ e ∈ vs, e.1 < 3) (neutral : Nat) (z : List Nat)
    (s : State) : NrgOnly s (liveShown o vs neutral z s) := by
  have hphases : NrgOnly s (forEach vs (fun e => wrs (phaseRegs o e)) s) :=
    NrgOnly.forEach _ _ (fun e he s => NrgOnly.wrs
      (fun x hx => ofPhase_block ho (Nat.lt_succ_of_lt (hlt e he)) (ofPhase_phaseRegs hx)) s) s
  have hneutral : NrgOnly s (phasesShown o vs neutral s) := by
    unfold phasesShown
    dsimp only
    split
    · exact hphases
    · exact hphases.trans (NrgOnly.wr (f := R.NRG_IRMS_I o 3) _ _ (Nat.le_of_ble_eq_true rfl)
        (by simp only [Fld.block, R.NRG_IRMS_I]; omega))
  exact (hneutral.trans (freqOf_state _ _)).trans (NrgOnly.wr (f := R.NRG_FREQ_F o) _ _ (Nat.le_of_ble_eq_true rfl)
    (by simp only [Fld.block, R.NRG_FREQ_F]; omega))

/-- The phases of an outlet with the values of its closed interval. -/
def phaseVals (o : Nat) (s : State) : List (Nat × List Nat) :=
  (phaseList (metType o s)).map fun k => (k, livePhase o k (getMt o s).lvDone s)

theorem phaseList_lt {t k : Nat} (h : k ∈ phaseList t) : k < 3 := by
  unfold phaseList at h
  split at h <;> simp at h <;> omega

theorem phaseList_nodup (t : Nat) : (phaseList t).Nodup := by
  unfold phaseList
  split <;> decide

theorem phaseVals_fst (o : Nat) (s : State) : (phaseVals o s).map Prod.fst = phaseList (metType o s) := by
  rw [phaseVals, List.map_map]
  exact List.map_id _

theorem phaseVals_lt {o : Nat} {s : State} {e : Nat × List Nat} (h : e ∈ phaseVals o s) : e.1 < 3 := by
  have hmem : e.1 ∈ (phaseVals o s).map Prod.fst := List.mem_map_of_mem h
  rw [phaseVals_fst] at hmem
  exact phaseList_lt hmem

/-- What NRG shows of a phase are the values of the closed interval, and on AC those of R177. -/
theorem phaseVals_vals {o : Nat} {s : State} {e : Nat × List Nat} (h : e ∈ phaseVals o s) :
    e.2.getD 0 0 % 2 ^ 24 = e.2.getD 0 0 ∧ e.2.getD 1 0 % 2 ^ 24 = e.2.getD 1 0 ∧ e.2.getD 2 0 % 2 ^ 24 = e.2.getD 2 0 ∧
    (metType o s ≠ 3 →
      e.2.getD 0 0 = rmsOf ((getMt o s).lvDone.sv.getD e.1 0 * rd (R.MET_UREF_MV o).eff s ^ 2) ((getMt o s).lvDone.sumP * 2 ^ 62) ∧
      e.2.getD 1 0 = rmsOf ((getMt o s).lvDone.si.getD e.1 0 * rd (R.MET_IREF_MA o).eff s ^ 2 * 100) ((getMt o s).lvDone.sumP * 2 ^ 62)) := by
  obtain ⟨k, hk, rfl⟩ := List.mem_map.1 h
  obtain ⟨v, a, p, q, ap, pf, hvals, hrms⟩ := livePhase_vals o k (getMt o s).lvDone s
  have hsat : ∀ x, satU 24 x % 2 ^ 24 = satU 24 x := fun x => Nat.mod_eq_of_lt (by unfold satU; omega)
  have hsigned : toU 24 p % 2 ^ 24 = toU 24 p := Nat.mod_eq_of_lt (BitVec.isLt _)
  dsimp only
  rw [hvals]
  exact ⟨hsat v, hsat a, hsigned, hrms⟩

/-- The highest Irms, the total power and the LIVE message with its continuations. -/
def liveReport (o : Nat) (m : Meter) (vs : List (Nat × List Nat)) (t : State) : Nat × Int × Msg × List Cont :=
  let irms := (vs.map fun e => e.2.getD 1 0).foldl max 0
  let ptot : Int := (vs.map fun e => sext 24 (e.2.getD 2 0)).sum
  let vmin := (vs.map fun e => e.2.getD 0 0).foldl min (2 ^ 24 - 1)
  (irms, ptot, mkMsg 0x51 irms (toU 24 (satS 24 ptot)),
    [(w24 (divRound vmin 10).toNat, w24 (rd (R.NRG_FREQ_F o) t)), (w24 (m.flags ||| startGap m), w24 m.lvDone.last)])

/-- The interval is used up. -/
def intervalUsed (o : Nat) (s : State) : State := modMt o (fun m => { m with lvDone := LiveSum.reset }) s

/-- The supply side's values first. -/
def supplyShown (o : Fin 8) (s : State) : State := whenS (o == 0 && pairUp 9 s) supplyLive s

theorem nrgOnly_supplyShown (o : Fin 8) (s : State) : NrgOnly s (supplyShown o s) := by
  unfold supplyShown whenS
  split
  · exact nrgOnly_supplyLive s
  · exact .refl s

theorem NrgOnly.pairUp {s t : State} (h : NrgOnly s t) {lo : Nat} (hlo : lo < 16) : pairUp lo t = pairUp lo s := by
  have hstate : ∀ e < 17, engState e t = engState e s := fun e he =>
    h.2 _ (Nat.le_of_ble_eq_true rfl) (by simp only [Fld.block, R.QM_ENGSTAT_STATE]; omega)
  simp only [Machine.pairUp, hstate lo (by omega), hstate (lo + 1) (by omega)]

theorem pairOf_lt (o : Nat) : pairOf o < 16 := by
  unfold pairOf
  split <;> decide

theorem liveStep_eq {o : Fin 8} {s : State} (hup : pairUp (pairOf o) (supplyShown o s) = true) (htype : metType o (supplyShown o s) ≠ 0)
    (hn : (getMt o (supplyShown o s)).lvDone.n ≠ 0) :
    ∃ neutral z, liveStep o s =
      let u := supplyShown o s
      let t := intervalUsed o (liveShown o (phaseVals o u) neutral z u)
      (t, some (liveReport o (getMt o u) (phaseVals o u) t)) := by
  unfold liveStep
  dsimp only
  rw [← supplyShown, hup, beq_eq_false_iff_ne.2 htype, beq_eq_false_iff_ne.2 hn]
  exact ⟨_, _, rfl⟩

/-- The message and its continuations say what NRG shows. -/
theorem liveReport_msgs {o : Fin 8} {s u t : State} (hu : NrgOnly s u)
    (hvals : ∀ e ∈ phaseVals o u, rd (R.NRG_VRMS_V o e.1) t = e.2.getD 0 0 ∧ rd (R.NRG_IRMS_I o e.1) t = e.2.getD 1 0 ∧
      rd (R.NRG_PWR_P o e.1) t = e.2.getD 2 0) :
    (liveReport o (getMt o u) (phaseVals o u) t).2.2.1 :: (liveReport o (getMt o u) (phaseVals o u) t).2.2.2.map contMsg = liveMsgs o s t := by
  have hphases : phaseList (metType o s) = (phaseVals o u).map Prod.fst := by rw [phaseVals_fst, hu.metType]
  have hv : (phaseVals o u).map (fun e => e.2.getD 0 0) = (phaseList (metType o s)).map fun k => rd (R.NRG_VRMS_V o k) t := by
    rw [hphases, List.map_map]
    exact List.map_congr_left fun e he => (hvals e he).1.symm
  have hi : (phaseVals o u).map (fun e => e.2.getD 1 0) = (phaseList (metType o s)).map fun k => rd (R.NRG_IRMS_I o k) t := by
    rw [hphases, List.map_map]
    exact List.map_congr_left fun e he => (hvals e he).2.1.symm
  have hp : (phaseVals o u).map (fun e => sext 24 (e.2.getD 2 0)) = (phaseList (metType o s)).map fun k => sext 24 (rd (R.NRG_PWR_P o k) t) := by
    rw [hphases, List.map_map]
    exact List.map_congr_left fun e he => congrArg (sext 24) (hvals e he).2.2.symm
  have hround : ∀ v : Nat, (divRound v 10).toNat = (v + 5) / 10 := fun v => by
    unfold divRound
    omega
  unfold liveReport liveMsgs
  dsimp only
  rw [hv, hi, hp, hround, hu.getMt]
  rfl

/-- R177: what NRG shows on AC are the formulas' values of the closed interval. -/
theorem rms_of_phaseVals {o : Fin 8} {s u t : State} (hu : NrgOnly s u)
    (hvals : ∀ e ∈ phaseVals o u, rd (R.NRG_VRMS_V o e.1) t = e.2.getD 0 0 ∧ rd (R.NRG_IRMS_I o e.1) t = e.2.getD 1 0 ∧
      rd (R.NRG_PWR_P o e.1) t = e.2.getD 2 0) (hac : metType o s ≠ 3) {k : Nat} (hk : k ∈ phaseList (metType o s)) :
    rd (R.NRG_VRMS_V o k) t = rmsOf ((getMt o s).lvDone.sv.getD k 0 * rd (R.MET_UREF_MV o).eff s ^ 2) ((getMt o s).lvDone.sumP * 2 ^ 62) ∧
    rd (R.NRG_IRMS_I o k) t =
      rmsOf ((getMt o s).lvDone.si.getD k 0 * rd (R.MET_IREF_MA o).eff s ^ 2 * 100) ((getMt o s).lvDone.sumP * 2 ^ 62) := by
  have huref : rd (R.MET_UREF_MV o).eff u = rd (R.MET_UREF_MV o).eff s :=
    hu.2 _ (Nat.le_of_ble_eq_true rfl) (by simp only [Fld.block, Fld.eff, R.MET_UREF_MV]; omega)
  have hiref : rd (R.MET_IREF_MA o).eff u = rd (R.MET_IREF_MA o).eff s :=
    hu.2 _ (Nat.le_of_ble_eq_true rfl) (by simp only [Fld.block, Fld.eff, R.MET_IREF_MA]; omega)
  rw [← hu.metType, ← phaseVals_fst] at hk
  obtain ⟨e, he, rfl⟩ := List.mem_map.1 hk
  obtain ⟨hv, hi, -⟩ := hvals e he
  obtain ⟨-, -, -, hrms⟩ := phaseVals_vals he
  obtain ⟨hrv, hri⟩ := hrms (by rw [hu.metType]; exact hac)
  rw [hv, hi, hrv, hri, hu.getMt, huref, hiref]
  exact ⟨rfl, rfl⟩

/-- LIVE writes the closed interval to NRG, uses it up and reports it. -/
theorem liveStep_reports {o : Fin 8} {s : State} (hup : pairUp (pairOf o) s = true) (htype : metType o s ≠ 0)
    (hn : (getMt o s).lvDone.n ≠ 0) :
    ∃ u irms p m cs, liveStep o s = (intervalUsed o u, some (irms, p, m, cs)) ∧ NrgOnly s u ∧
      m :: cs.map contMsg = liveMsgs o s (intervalUsed o u) ∧ LiveShown o s (intervalUsed o u) ∧ isReq m = false ∧ cs.length = 2 := by
  have hsup := nrgOnly_supplyShown o s
  obtain ⟨neutral, z, heq⟩ := liveStep_eq (o := o) (s := s) (by rw [hsup.pairUp (pairOf_lt o)]; exact hup)
    (by rw [hsup.metType]; exact htype) (by rw [hsup.getMt]; exact hn)
  generalize supplyShown o s = u at hsup heq
  dsimp only at heq
  have hshown : NrgOnly u (liveShown o (phaseVals o u) neutral z u) := nrgOnly_liveShown o.isLt (fun e he => phaseVals_lt he) neutral z u
  have hvals : ∀ e ∈ phaseVals o u, rd (R.NRG_VRMS_V o e.1) (liveShown o (phaseVals o u) neutral z u) = e.2.getD 0 0 ∧
      rd (R.NRG_IRMS_I o e.1) (liveShown o (phaseVals o u) neutral z u) = e.2.getD 1 0 ∧
      rd (R.NRG_PWR_P o e.1) (liveShown o (phaseVals o u) neutral z u) = e.2.getD 2 0 := fun e he => by
    obtain ⟨hv, hi, hp⟩ := rd_liveShown_phase (phaseVals_fst o u ▸ phaseList_nodup _) he (phaseVals_lt he) neutral z u
    obtain ⟨hv', hi', hp', -⟩ := phaseVals_vals he
    rw [hv, hi, hp]
    exact ⟨hv', hi', hp'⟩
  generalize liveShown o (phaseVals o u) neutral z u = v at hshown heq hvals
  have hall := hsup.trans hshown
  have hused : getMt o (intervalUsed o v) = { getMt o s with lvDone := LiveSum.reset } := by
    rw [intervalUsed, getMt_modMt, hall.getMt]
  refine ⟨v, _, _, _, _, heq, hall, liveReport_msgs hsup hvals, ⟨fun hac k hk => rms_of_phaseVals hsup hvals hac hk, ?_, ?_, ?_⟩, ?_, rfl⟩
  · rw [hused]
  · rw [hused]
  · rw [hused]
  · simp [isReq, mkMsg]

/-! ### LIVE (R177, R180, R255) -/

theorem liveShown_of_keepsNrg {o : Fin 8} {s t t' : State} (h : LiveShown o s t) (hk : KeepsNrg t t') : LiveShown o s t' := by
  obtain ⟨hrms, hrest⟩ := h
  have hv : ∀ k < 3, rd (R.NRG_VRMS_V o k) t' = rd (R.NRG_VRMS_V o k) t := fun k hlt =>
    hk.2 _ (Nat.le_of_ble_eq_true rfl) (by simp only [Fld.block, R.NRG_VRMS_V]; omega)
  have hi : ∀ k < 3, rd (R.NRG_IRMS_I o k) t' = rd (R.NRG_IRMS_I o k) t := fun k hlt =>
    hk.2 _ (Nat.le_of_ble_eq_true rfl) (by simp only [Fld.block, R.NRG_IRMS_I]; omega)
  refine ⟨fun hac k hmem => ?_, ?_⟩
  · dsimp only
    rw [hv k (phaseList_lt hmem), hi k (phaseList_lt hmem)]
    exact hrms hac k hmem
  · rw [hk.getMt]
    exact hrest

theorem liveMsgs_of_keepsNrg {o : Fin 8} {s t t' : State} (hk : KeepsNrg t t') : liveMsgs o s t' = liveMsgs o s t := by
  have hrd : ∀ f : Fld, f.lsb < 32 → f.block = 0x12 → rd f t' = rd f t := hk.2
  have hblock : ∀ k ∈ phaseList (metType o s), (R.NRG_VRMS_V o k).block = 0x12 ∧ (R.NRG_IRMS_I o k).block = 0x12 ∧
      (R.NRG_PWR_P o k).block = 0x12 := fun k hmem => by
    have hlt := phaseList_lt hmem
    refine ⟨?_, ?_, ?_⟩ <;> simp only [Fld.block, R.NRG_VRMS_V, R.NRG_IRMS_I, R.NRG_PWR_P] <;> omega
  have hv : (phaseList (metType o s)).map (fun k => rd (R.NRG_VRMS_V o k) t') = (phaseList (metType o s)).map fun k => rd (R.NRG_VRMS_V o k) t :=
    List.map_congr_left fun k hmem => hrd _ (Nat.le_of_ble_eq_true rfl) (hblock k hmem).1
  have hi : (phaseList (metType o s)).map (fun k => rd (R.NRG_IRMS_I o k) t') = (phaseList (metType o s)).map fun k => rd (R.NRG_IRMS_I o k) t :=
    List.map_congr_left fun k hmem => hrd _ (Nat.le_of_ble_eq_true rfl) (hblock k hmem).2.1
  have hp : (phaseList (metType o s)).map (fun k => sext 24 (rd (R.NRG_PWR_P o k) t')) =
      (phaseList (metType o s)).map fun k => sext 24 (rd (R.NRG_PWR_P o k) t) :=
    List.map_congr_left fun k hmem => congrArg (sext 24) (hrd _ (Nat.le_of_ble_eq_true rfl) (hblock k hmem).2.2)
  have hf : rd (R.NRG_FREQ_F o) t' = rd (R.NRG_FREQ_F o) t :=
    hrd _ (Nat.le_of_ble_eq_true rfl) (by simp only [Fld.block, R.NRG_FREQ_F]; omega)
  unfold liveMsgs
  dsimp only
  rw [hv, hi, hp, hf]

theorem keepsNrg_pushAll {q : Nat} (hq : q < 128) (o : Nat) (m : Msg) (cs : List Cont) (s : State) : KeepsNrg s (pushAll q o m cs s) :=
  .of_queueOnly (queueOnly_pushAll hq o m cs s)

/-- The message reaches an outlet engine that runs, and waits for any other. -/
theorem execLive_cases {o : Fin 8} {s t : State} {irms : Nat} {p : Int} {m : Msg} {cs : List Cont}
    (h : liveStep o s = (t, some (irms, p, m, cs))) :
    exec (.live o) s = if outActive o t then .next (liveSeen o irms p (drainQ (56 + o) (m :: cs.map contMsg) t))
      else .next (if (getQ (qn (56 + o)) t).en then pushWait (56 + o) (m :: cs.map contMsg) t else pushAll (56 + o) o m cs t) := by
  show execLive o s = _
  unfold execLive
  dsimp only
  rw [h]

theorem live_yields (o : Fin 8) (s : State) (hup : pairUp (pairOf o) s = true) (htype : metType o s ≠ 0) (hn : (getMt o s).lvDone.n ≠ 0) :
    Yields (.live o) s (LiveShown o s) := by
  obtain ⟨u, irms, p, m, cs, hstep, -, -, hshown, -⟩ := liveStep_reports hup htype hn
  have hexec := execLive_cases hstep
  by_cases hact : outActive o (intervalUsed o u)
  · rw [if_pos hact] at hexec
    exact ⟨_, hexec, liveShown_of_keepsNrg hshown ((KeepsNrg.of_queueOnly (queueOnly_drainQ _ _ _)).trans (keepsNrg_liveSeen o.isLt _ _ _))⟩
  · rw [if_neg hact] at hexec
    exact ⟨_, hexec, liveShown_of_keepsNrg hshown (.ite (.of_queueOnly (queueOnly_pushWait _ _ _)) (keepsNrg_pushAll (by omega) _ _ _ _))⟩

theorem NrgOnly.outActive {s t : State} (h : NrgOnly s t) {o : Nat} (ho : o < 8) : outActive o t = outActive o s := by
  have hstate : engState (o + 1) t = engState (o + 1) s :=
    h.2 _ (Nat.le_of_ble_eq_true rfl) (by simp only [Fld.block, R.QM_ENGSTAT_STATE]; omega)
  have hhold : rd (R.OUT_STATE_HOLD o) t = rd (R.OUT_STATE_HOLD o) s := h.2 _ (Nat.le_of_ble_eq_true rfl) (block_out_ne (by omega))
  simp only [Machine.outActive, outUp, held, flag, hstate, hhold]

theorem NrgOnly.rest {s t : State} (h : NrgOnly s t) : t.mram = s.mram ∧ t.samp = s.samp ∧ t.fold = s.fold ∧ t.outs = s.outs := by
  obtain ⟨⟨r, f, x, rfl⟩, -⟩ := h
  exact ⟨rfl, rfl, rfl, rfl⟩

theorem QueueOnly.rest {s t : State} (h : QueueOnly s t) : t.mram = s.mram ∧ t.samp = s.samp ∧ t.fold = s.fold ∧ t.outs = s.outs :=
  ⟨h.mram, h.samp, h.fold, h.log.outs⟩

theorem live_waits_yields (o : Fin 8) (s : State) (hup : pairUp (pairOf o) s = true) (htype : metType o s ≠ 0)
    (hn : (getMt o s).lvDone.n ≠ 0) (hact : outActive o s = false) :
    Yields (.live o) s fun t => LiveShown o s t ∧ t.mram = s.mram ∧ t.samp = s.samp ∧ t.fold = s.fold ∧ t.outs = s.outs ∧
      (let x := getQ (qn (56 + o.val)) s
       x.en = true → x.late = [] → x.used + 3 ≤ x.cap →
       (getQ (qn (56 + o.val)) t).ent.map Prod.snd = x.ent.map Prod.snd ++ liveMsgs o s t) := by
  obtain ⟨u, irms, p, m, cs, hstep, hu, hmsgs, hshown, -, hcs⟩ := liveStep_reports hup htype hn
  have hexec := execLive_cases hstep
  have hidle : ¬ outActive o (intervalUsed o u) = true := by
    have h : outActive o (intervalUsed o u) = outActive o s := hu.outActive o.isLt
    rw [h, hact]
    decide
  rw [if_neg hidle] at hexec
  obtain ⟨hmram, hsamp, hfold, houts⟩ := hu.rest
  have hpush : QueueOnly (intervalUsed o u) (if (getQ (qn (56 + o)) (intervalUsed o u)).en then
      pushWait (56 + o) (m :: cs.map contMsg) (intervalUsed o u) else pushAll (56 + o) o m cs (intervalUsed o u)) := by
    split
    · exact queueOnly_pushWait _ _ _
    · exact queueOnly_pushAll (by omega) _ _ _ _
  obtain ⟨kmram, ksamp, kfold, kouts⟩ := hpush.rest
  have hkeep := KeepsNrg.of_queueOnly hpush
  refine ⟨_, hexec, liveShown_of_keepsNrg hshown hkeep, kmram.trans hmram, ksamp.trans hsamp, kfold.trans hfold, kouts.trans houts, ?_⟩
  intro x hen hlate hroom
  have hq : getQ (qn (56 + o.val)) (intervalUsed o u) = x := hu.getQ _
  have hlen : (m :: cs.map contMsg).length = 3 := by rw [List.length_cons, List.length_map, hcs]
  rw [liveMsgs_of_keepsNrg hkeep, ← hmsgs, hq, if_pos hen, pushWait, hq, if_neg (by rw [hlen]; omega),
    getQ_forEach_putQ (by rw [hq]; exact hen) (by rw [hq]; exact hlate) (by rw [hq, hlen]; exact hroom), enter_foldl, hq]

/-! ### An outlet engine that runs takes the values at once (R255) -/

theorem getQ_forEach_enterNow (q : Nat) (ms : List Msg) (s : State) :
    getQ (qn q) (forEach ms (enterNow q) s) = ms.foldl (fun x m => Queue.enter m x) (getQ (qn q) s) := by
  induction ms generalizing s with
  | nil => rfl
  | cons m ms ih => exact (ih (enterNow q m s)).trans (by rw [getQ_enterNow_same]; rfl)

theorem late_foldl_enter (ms : List Msg) (x : Queue) : (ms.foldl (fun x m => Queue.enter m x) x).late = x.late := by
  induction ms generalizing x with
  | nil => rfl
  | cons m ms ih => exact ih (Queue.enter m x)

/-- A queue that its consumer drains is empty. -/
theorem ent_drainQ (q : Nat) (ms : List Msg) (s : State) : (getQ (qn q) (drainQ q ms s)).ent = [] := by
  have hlen : (getQ (qn q) s).ent.length ≤ (waitingMsgs q ms s).length := by
    simp only [waitingMsgs, List.length_append, List.length_map]
    omega
  have hall : ∀ x : Queue, x.ent = (getQ (qn q) s).ent →
      (((waitingMsgs q ms s).drop (getQ (qn q) s).ent.length).foldl (fun x m => Queue.enter m x) x).ent.length = (waitingMsgs q ms s).length := by
    intro x hx
    have h := congrArg List.length (enter_foldl ((waitingMsgs q ms s).drop (getQ (qn q) s).ent.length) x)
    rw [List.length_map, List.length_append, List.length_map, hx, List.length_drop] at h
    omega
  unfold drainQ
  dsimp only
  rw [ent_takeN]
  · rw [getQ_forEach_enterNow, getQ_modQ_same]
    exact List.drop_eq_nil_of_le (Nat.le_of_eq (hall { getQ (qn q) s with late := [] } rfl))
  · rw [getQ_forEach_enterNow, late_foldl_enter, getQ_modQ_same]

/-- With no ramp-down under way and the counts short of their limits, the engine only counts. -/
theorem liveSeen_counts {o irms : Nat} {p : Int} {s : State} (hramp : (getOs o s).ramp = none)
    (hfew : ostate o s = 5 → (getOs o s).nOver < 49 ∧ (getOs o s).nExp < 19) :
    ∃ a b, liveSeen o irms p s = modOs o (fun x => { x with nOver := a, nExp := b }) s ∧ (ostate o s ≠ 5 → a = 0 ∧ b = 0) := by
  unfold liveSeen
  extract_lets x high exp a b
  split
  next r hr => exact absurd (hramp.symm.trans hr) (by simp)
  next =>
    by_cases hst : ostate o s = 5
    · have hcounts : x.nOver < 49 ∧ x.nExp < 19 := hfew hst
      obtain ⟨hover, hexp⟩ := hcounts
      have ha : ¬ 50 ≤ a := by
        dsimp only [a]
        split <;> omega
      have hb : ¬ 20 ≤ b := by
        dsimp only [b]
        split <;> omega
      rw [if_neg (by simpa using hst), if_neg ha, if_neg hb]
      exact ⟨a, b, rfl, fun h => absurd hst h⟩
    · rw [if_pos hst]
      exact ⟨0, 0, rfl, fun _ => ⟨rfl, rfl⟩⟩

theorem getOs_modOs (o : Nat) (f : OutSt → OutSt) (s : State) : getOs o (modOs o f s) = f (getOs o s) := vget_vset_same _ _ _

theorem live_taken_yields (o : Fin 8) (s : State) (hup : pairUp (pairOf o) s = true) (htype : metType o s ≠ 0)
    (hn : (getMt o s).lvDone.n ≠ 0) (hact : outActive o s = true) (hramp : (getOs o s).ramp = none)
    (hfew : ostate o s = 5 → (getOs o s).nOver < 49 ∧ (getOs o s).nExp < 19) :
    Yields (.live o) s fun t => LiveShown o s t ∧ t.mram = s.mram ∧ t.samp = s.samp ∧ t.fold = s.fold ∧
      (getQ (qn (56 + o.val)) t).ent = [] ∧ ostate o t = ostate o s ∧
      (ostate o s ≠ 5 → (getOs o t).nOver = 0 ∧ (getOs o t).nExp = 0) := by
  obtain ⟨u, irms, p, m, cs, hstep, hu, -, hshown, -⟩ := liveStep_reports hup htype hn
  have hexec := execLive_cases hstep
  have hruns : outActive o (intervalUsed o u) = true := (hu.outActive o.isLt).trans hact
  rw [if_pos hruns] at hexec
  have hdrain := queueOnly_drainQ (56 + o) (m :: cs.map contMsg) (intervalUsed o u)
  have hempty := ent_drainQ (56 + o) (m :: cs.map contMsg) (intervalUsed o u)
  generalize drainQ (56 + o) (m :: cs.map contMsg) (intervalUsed o u) = v at hdrain hempty hexec
  have hos : getOs o v = getOs o s := (hdrain.log.getOs o).trans (hu.getOs o)
  have hstate : ostate o v = ostate o s :=
    (hdrain.rd_above_queues (Nat.le_of_ble_eq_true rfl) (by simp only [R.OUT_STATE_OSTATE]; omega)
      (by simp only [Fld.block, R.OUT_STATE_OSTATE]; omega)).trans (hu.2 _ (Nat.le_of_ble_eq_true rfl) (block_out_ne (by omega)))
  obtain ⟨hmram, hsamp, hfold, -⟩ := hu.rest
  obtain ⟨a, b, hseen, hzero⟩ := liveSeen_counts (irms := irms) (p := p) (hos ▸ hramp) (by rw [hstate, hos]; exact hfew)
  rw [hseen] at hexec
  refine ⟨_, hexec, liveShown_of_keepsNrg hshown ((KeepsNrg.of_queueOnly hdrain).trans (keepsNrg_modOs _ _ v)), hdrain.mram.trans hmram,
    hdrain.samp.trans hsamp, hdrain.fold.trans hfold, hempty, hstate, fun h => ?_⟩
  rw [getOs_modOs]
  exact hzero (by rw [hstate]; exact h)

/-- No interval has closed, or the pair does not meter the outlet: nothing is reported. -/
theorem live_nothing (o : Fin 8) (s : State) (ho : o ≠ 0)
    (h : pairUp (pairOf o) s = false ∨ metType o s = 0 ∨ (getMt o s).lvDone.n = 0) : exec (.live o) s = .next s := by
  have hzero : (o == 0) = false := beq_eq_false_iff_ne.2 ho
  have hnone : (!(pairUp (pairOf o) s) || metType o s == 0 || (getMt o s).lvDone.n == 0) = true := by
    rcases h with h | h | h <;> simp [h]
  have hstep : liveStep o s = (s, none) := by
    unfold liveStep
    rw [hzero]
    exact if_pos hnone
  show execLive o s = _
  unfold execLive
  dsimp only
  rw [hstep]

/-! ### The registers of a summary (R200) -/

/-- The three words of a summary's register. -/
def energyRegs (o : Nat) (e : Nat × Nat) : List (Fld × Nat) :=
  [(R.NRG_ENERGY_V o (e.2 * 3), e.1), (R.NRG_ENERGY_V o (e.2 * 3 + 1), e.1 / 2 ^ 32), (R.NRG_ENERGY_V o (e.2 * 3 + 2), e.1 / 2 ^ 64)]

/-- The registers that say which second it is and how it was. -/
def secondRegs (o : Nat) (u : Summ) : List (Fld × Nat) :=
  [(R.NRG_SECLO_S o, u.sec), (R.NRG_SECHI_S o, u.sec / 2 ^ 32), (R.NRG_SUMSTAT_ST o, u.flags)]

theorem wrSummary_eq (o : Nat) (u : Summ) (s : State) :
    wrSummary o u s = wrs (secondRegs o u) (forEach u.regs.zipIdx (fun e => wrs (energyRegs o e)) s) := rfl

theorem energy_key_ne {o i j : Nat} (h : i ≠ j) : (R.NRG_ENERGY_V o i).key ≠ (R.NRG_ENERGY_V o j).key := by
  simp only [Fld.key, R.NRG_ENERGY_V]
  omega

theorem rd_energyRegs (o : Nat) (e : Nat × Nat) (s : State) :
    rd (R.NRG_ENERGY_V o (e.2 * 3)) (wrs (energyRegs o e) s) = e.1 % 2 ^ 32 ∧
    rd (R.NRG_ENERGY_V o (e.2 * 3 + 1)) (wrs (energyRegs o e) s) = e.1 / 2 ^ 32 % 2 ^ 32 ∧
    rd (R.NRG_ENERGY_V o (e.2 * 3 + 2)) (wrs (energyRegs o e) s) = e.1 / 2 ^ 64 % 2 ^ 32 := by
  simp only [energyRegs, wrs, List.foldl_cons, List.foldl_nil]
  refine ⟨?_, ?_, ?_⟩
  · rw [rd_wr_ne _ _ (energy_key_ne (by omega)), rd_wr_ne _ _ (energy_key_ne (by omega)), rd_wr_same]
    rfl
  · rw [rd_wr_ne _ _ (energy_key_ne (by omega)), rd_wr_same]
    rfl
  · rw [rd_wr_same]
    rfl

theorem rd_secondRegs (o : Nat) (u : Summ) (s : State) :
    rd (R.NRG_SECLO_S o) (wrs (secondRegs o u) s) = u.sec % 2 ^ 32 ∧
    rd (R.NRG_SECHI_S o) (wrs (secondRegs o u) s) = u.sec / 2 ^ 32 % 2 ^ 16 ∧
    rd (R.NRG_SUMSTAT_ST o) (wrs (secondRegs o u) s) = u.flags % 2 ^ 24 := by
  have hlo : (R.NRG_SECLO_S o).key ≠ (R.NRG_SECHI_S o).key := by simp only [Fld.key, R.NRG_SECLO_S, R.NRG_SECHI_S]; omega
  have hlo' : (R.NRG_SECLO_S o).key ≠ (R.NRG_SUMSTAT_ST o).key := by simp only [Fld.key, R.NRG_SECLO_S, R.NRG_SUMSTAT_ST]; omega
  have hhi : (R.NRG_SECHI_S o).key ≠ (R.NRG_SUMSTAT_ST o).key := by simp only [Fld.key, R.NRG_SECHI_S, R.NRG_SUMSTAT_ST]; omega
  simp only [secondRegs, wrs, List.foldl_cons, List.foldl_nil]
  refine ⟨?_, ?_, ?_⟩
  · rw [rd_wr_ne _ _ hlo', rd_wr_ne _ _ hlo, rd_wr_same]
    rfl
  · rw [rd_wr_ne _ _ hhi, rd_wr_same]
    rfl
  · rw [rd_wr_same]
    rfl

/-- Each register of the summary shows in its own three words. -/
theorem rd_energy_wrSummary {o k j : Nat} {u : Summ} (hlen : u.regs.length = 8) (hk : k < 8) (hj : j < 3) (s : State) :
    ∃ v, rd (R.NRG_ENERGY_V o (k * 3 + j)) (wrSummary o u s) =
      rd (R.NRG_ENERGY_V o (k * 3 + j)) (wrs (energyRegs o (u.regs.getD k 0, k)) v) := by
  have hget : u.regs[k]? = some (u.regs.getD k 0) := by
    rw [List.getElem?_eq_getElem (hlen ▸ hk), List.getD_eq_getElem _ _ (hlen ▸ hk)]
  have hsecond : ∀ g ∈ (secondRegs o u).map Prod.fst, (R.NRG_ENERGY_V o (k * 3 + j)).key ≠ g.key := by
    simp only [secondRegs, List.map_cons, List.map_nil, List.forall_mem_cons, List.not_mem_nil, Fld.key, R.NRG_ENERGY_V, R.NRG_SECLO_S,
      R.NRG_SECHI_S, R.NRG_SUMSTAT_ST]
    exact ⟨by omega, by omega, by omega, fun _ h => h.elim⟩
  rw [wrSummary_eq, rd_wrs_ne _ _ hsecond]
  refine rd_forEach_wrs (List.mem_zipIdx_iff_getElem?.2 hget) (fun b hb hbk => ?_) s
  have hidx : b.2 ≠ k := fun h => by
    have hval : u.regs[b.2]? = some b.1 := List.mem_zipIdx_iff_getElem?.1 hb
    rw [h, hget] at hval
    exact hbk (Prod.ext (Option.some.inj hval).symm h)
  simp only [energyRegs, List.map_cons, List.map_nil, List.forall_mem_cons, List.not_mem_nil]
  exact ⟨energy_key_ne (by omega), energy_key_ne (by omega), energy_key_ne (by omega), fun _ h => h.elim⟩

/-- R200: what NRG shows of a summary. -/
theorem rd_wrSummary {o : Nat} {u : Summ} (hlen : u.regs.length = 8) (s : State) :
    rd (R.NRG_SECLO_S o) (wrSummary o u s) = u.sec % 2 ^ 32 ∧ rd (R.NRG_SECHI_S o) (wrSummary o u s) = u.sec / 2 ^ 32 % 2 ^ 16 ∧
    rd (R.NRG_SUMSTAT_ST o) (wrSummary o u s) = u.flags % 2 ^ 24 ∧
    ∀ k < 8, rd (R.NRG_ENERGY_V o (k * 3)) (wrSummary o u s) = u.regs.getD k 0 % 2 ^ 32 ∧
      rd (R.NRG_ENERGY_V o (k * 3 + 1)) (wrSummary o u s) = u.regs.getD k 0 / 2 ^ 32 % 2 ^ 32 ∧
      rd (R.NRG_ENERGY_V o (k * 3 + 2)) (wrSummary o u s) = u.regs.getD k 0 / 2 ^ 64 % 2 ^ 32 := by
  obtain ⟨hlo, hhi, hst⟩ := rd_secondRegs o u (forEach u.regs.zipIdx (fun e => wrs (energyRegs o e)) s)
  refine ⟨hlo, hhi, hst, fun k hk => ?_⟩
  obtain ⟨x, hx⟩ := rd_energy_wrSummary (o := o) (j := 0) hlen hk (by decide) s
  obtain ⟨y, hy⟩ := rd_energy_wrSummary (o := o) (j := 1) hlen hk (by decide) s
  obtain ⟨z, hz⟩ := rd_energy_wrSummary (o := o) (j := 2) hlen hk (by decide) s
  exact ⟨hx.trans (rd_energyRegs o _ x).1, hy.trans (rd_energyRegs o _ y).2.1, hz.trans (rd_energyRegs o _ z).2.2⟩

/-! ### SUMMARY (R178) -/

theorem closeSecond_none {m : Meter} (h : m.sec = none) : closeSecond m = m := by
  unfold closeSecond
  rw [h]

theorem closeSecond_some {m : Meter} {t : Nat} (h : m.sec = some t) :
    closeSecond m = { m with due := m.due ++ [⟨t, m.flags ||| startGap m, m.regs, m.first, m.lastN, m.secP⟩], startF := false, gapF := false,
                             flags := 0, secP := 0, sec := none, lastSec := some t } := by
  unfold closeSecond
  rw [h]

theorem closeSecond_keeps (m : Meter) : m.due <+: (closeSecond m).due ∧ (closeSecond m).regs = m.regs := by
  cases h : m.sec with
  | none =>
    rw [closeSecond_none h]
    exact ⟨List.prefix_rfl, rfl⟩
  | some t =>
    rw [closeSecond_some h]
    exact ⟨List.prefix_append _ _, rfl⟩

/-- While a closed second waits, the clock closes the second under way at most. -/
theorem closeIfPast_of_due {o : Nat} {s : State} (h : (getMt o s).due ≠ []) :
    closeIfPast o s = s ∨ closeIfPast o s = modMt o closeSecond s := by
  unfold closeIfPast
  split
  · split
    · exact .inr rfl
    · exact .inl rfl
  · unfold emptySecond
    dsimp only
    rw [if_neg (by simp [h])]
    exact .inl rfl

theorem closeIfPast_keeps {o : Nat} {s : State} (h : (getMt o s).due ≠ []) :
    (getMt o s).due <+: (getMt o (closeIfPast o s)).due ∧ (getMt o (closeIfPast o s)).regs = (getMt o s).regs ∧
    (closeIfPast o s).qs = s.qs ∧ (closeIfPast o s).regs = s.regs := by
  rcases closeIfPast_of_due h with heq | heq <;> rw [heq]
  · exact ⟨List.prefix_rfl, rfl, rfl, rfl⟩
  · obtain ⟨hdue, hregs⟩ := closeSecond_keeps (getMt o s)
    rw [getMt_modMt]
    exact ⟨hdue, hregs, rfl, rfl⟩

theorem closeIfPast_of_past {o sec : Nat} {s : State} (h : (getMt o s).sec = some sec) (hpast : sec < clkSec s)
    (hwait : frameWaits o sec s = false) : closeIfPast o s = modMt o closeSecond s := by
  unfold closeIfPast
  rw [h]
  exact if_pos ⟨hpast, hwait⟩

/-- R178: the summary's queue. -/
def summaryQ (o : Nat) : Nat := if o < 4 then 50 else 51

theorem summaryQ_lt (o : Nat) : summaryQ o < 128 := by
  unfold summaryQ
  split <;> decide

theorem pushSummary_eq (o : Nat) (u : Summ) (s : State) : ∃ m : Meter, m.due = (getMt o s).due.drop 1 ∧ m.sec = (getMt o s).sec ∧
    m.regs = (getMt o s).regs ∧
    pushSummary o u s = pushAll (summaryQ o) o (mkMsg 0x50 o u.sec) (summConts u) (wrSummary o u (setMt o m s)) := by
  refine ⟨_, ?_, ?_, ?_, by rw [pushSummary, pushSummaryT, modMt]; rfl⟩ <;> rfl

theorem length_summConts {u : Summ} (h : u.regs.length = 8) : (summConts u).length = 19 := by
  simp [summConts, List.length_flatMap, h]

/-- The messages of a summary enter together, where there is room. -/
theorem ent_pushAll {q o : Nat} {m : Msg} {cs : List Cont} {s : State} (hen : (getQ (qn q) s).en = true) (hlate : (getQ (qn q) s).late = [])
    (hroom : (getQ (qn q) s).used + (cs.length + 1) ≤ (getQ (qn q) s).cap) :
    (getQ (qn q) (pushAll q o m cs s)).ent.map Prod.snd = (getQ (qn q) s).ent.map Prod.snd ++ m :: cs.map contMsg := by
  have hlen : (m :: cs.map contMsg).length = cs.length + 1 := by rw [List.length_cons, List.length_map]
  rw [pushAll, if_pos hen, getQ_forEach_putQ hen hlate (by rw [hlen]; exact hroom), enter_foldl]

theorem pushSummary_shows (o : Fin 8) {u : Summ} (hlen : u.regs.length = 8) (s : State) :
    (getMt o (pushSummary o u s)).due = (getMt o s).due.drop 1 ∧ (getMt o (pushSummary o u s)).sec = (getMt o s).sec ∧
    SummaryShown o u s (pushSummary o u s) := by
  obtain ⟨m, hdue, hsec, hregs, heq⟩ := pushSummary_eq o u s
  rw [heq]
  have hkeep := keepsNrg_pushAll (summaryQ_lt o) o (mkMsg 0x50 o u.sec) (summConts u) (wrSummary o u (setMt o m s))
  obtain ⟨r, hr⟩ := wrSummary_regs o u (setMt o m s)
  have hmt : getMt o (pushAll (summaryQ o) o (mkMsg 0x50 o u.sec) (summConts u) (wrSummary o u (setMt o m s))) = m := by
    rw [hkeep.getMt, hr]
    exact getMt_setMt _ _ _
  have hq : getQ (qn (summaryQ o)) (wrSummary o u (setMt o m s)) = getQ (qn (summaryQ o)) s := by
    rw [hr]
    rfl
  obtain ⟨hlo, hhi, hst, henergy⟩ := rd_wrSummary (o := o) hlen (setMt o m s)
  have hrd : ∀ {f : Fld} {v : Nat}, f.lsb < 32 → f.block = 0x12 → rd f (wrSummary o u (setMt o m s)) = v →
      rd f (pushAll (summaryQ o) o (mkMsg 0x50 o u.sec) (summConts u) (wrSummary o u (setMt o m s))) = v :=
    fun hl hb h => (hkeep.2 _ hl hb).trans h
  have hword : ∀ i < 24, (R.NRG_ENERGY_V o i).block = 0x12 := fun i hi => by
    simp only [Fld.block, R.NRG_ENERGY_V]
    omega
  rw [hmt]
  refine ⟨hdue, hsec, (congrArg Meter.regs hmt).trans hregs, hrd (Nat.le_of_ble_eq_true rfl) ?_ hlo, hrd (Nat.le_of_ble_eq_true rfl) ?_ hhi,
    hrd (Nat.le_of_ble_eq_true rfl) ?_ hst, fun k hk => ?_, ?_⟩
  · simp only [Fld.block, R.NRG_SECLO_S]
    omega
  · simp only [Fld.block, R.NRG_SECHI_S]
    omega
  · simp only [Fld.block, R.NRG_SUMSTAT_ST]
    omega
  · obtain ⟨h0, h1, h2⟩ := henergy k hk
    exact ⟨hrd (Nat.le_of_ble_eq_true rfl) (hword _ (by omega)) h0, hrd (Nat.le_of_ble_eq_true rfl) (hword _ (by omega)) h1,
      hrd (Nat.le_of_ble_eq_true rfl) (hword _ (by omega)) h2⟩
  · intro x hen hlate hroom
    change (getQ (qn (summaryQ o)) s).en = true at hen
    change (getQ (qn (summaryQ o)) s).late = [] at hlate
    change (getQ (qn (summaryQ o)) s).used + 20 ≤ (getQ (qn (summaryQ o)) s).cap at hroom
    have h := ent_pushAll (q := summaryQ o) (o := o) (m := mkMsg 0x50 o u.sec) (cs := summConts u) (s := wrSummary o u (setMt o m s))
    rw [hq, length_summConts hlen] at h
    exact h hen hlate hroom

theorem summaryShown_of_same {o : Fin 8} {u : Summ} {s s' t : State} (h : SummaryShown o u s' t) (hregs : (getMt o s').regs = (getMt o s).regs)
    (hqs : s'.qs = s.qs) : SummaryShown o u s t := by
  have hq : ∀ q, getQ q s' = getQ q s := fun q => congrArg (vget · q) hqs
  unfold SummaryShown at h ⊢
  rw [hregs, hq] at h
  exact h

/-- SUMMARY goes on where the pair meters the outlet and has its registers. -/
theorem summary_serves {o : Nat} {s : State} (hup : pairUp (pairOf o) s = true) (htype : metType o s ≠ 0)
    (hrest : (getMt o s).restored = true) : (!(pairUp (pairOf o) s) || metType o s == 0 || !(getMt o s).restored) = false := by
  rw [hup, hrest, beq_eq_false_iff_ne.2 htype]
  rfl

theorem exec_summary_sends {o : Fin 8} {s : State} {u : Summ} {us : List Summ} (hup : pairUp (pairOf o) s = true) (htype : metType o s ≠ 0)
    (hrest : (getMt o s).restored = true) (hdue : (getMt o (closeIfPast o s)).due = u :: us) :
    exec (.summary o true) s =
      .next (pushSummary o u (keepShown ⟨o, u.sec, u.regs.getD 0 0, u.regs.getD 1 0, u.flags⟩ (closeIfPast o s))) := by
  show execSummary o true s = _
  unfold execSummary
  dsimp only
  rw [summary_serves hup htype hrest, if_neg Bool.false_ne_true, hdue]
  rfl

theorem exec_summary_fails {o : Fin 8} {s : State} {u : Summ} {us : List Summ} (hup : pairUp (pairOf o) s = true) (htype : metType o s ≠ 0)
    (hrest : (getMt o s).restored = true) (hdue : (getMt o (closeIfPast o s)).due = u :: us) :
    exec (.summary o false) s = .next (giveUp (activeOf (pairOf o) (closeIfPast o s)) 4 (closeIfPast o s)) := by
  show execSummary o false s = _
  unfold execSummary
  dsimp only
  rw [summary_serves hup htype hrest, if_neg Bool.false_ne_true, hdue]
  rfl

theorem summary_shows {o : Fin 8} {s : State} {u : Summ} {us : List Summ} (hup : pairUp (pairOf o) s = true) (htype : metType o s ≠ 0)
    (hrest : (getMt o s).restored = true) (hdue : (getMt o (closeIfPast o s)).due = u :: us)
    (hregs : (getMt o (closeIfPast o s)).regs = (getMt o s).regs) (hqs : (closeIfPast o s).qs = s.qs) (hlen : u.regs.length = 8) :
    Yields (.summary o true) s fun t => (getMt o t).due = us ∧ (getMt o t).sec = (getMt o (closeIfPast o s)).sec ∧ SummaryShown o u s t := by
  have h := pushSummary_shows o hlen (keepShown ⟨o, u.sec, u.regs.getD 0 0, u.regs.getD 1 0, u.flags⟩ (closeIfPast o s))
  obtain ⟨hleft, hsec, hshown⟩ := h
  refine ⟨_, exec_summary_sends hup htype hrest hdue, ?_, hsec, summaryShown_of_same hshown hregs hqs⟩
  rw [hleft]
  exact congrArg (List.drop 1) hdue

theorem summary_due_yields (o : Fin 8) (s : State) (u : Summ) (us : List Summ) (hup : pairUp (pairOf o) s = true) (htype : metType o s ≠ 0)
    (hrest : (getMt o s).restored = true) (hdue : (getMt o s).due = u :: us) (hlen : u.regs.length = 8) :
    Yields (.summary o true) s fun t => us <+: (getMt o t).due ∧ SummaryShown o u s t := by
  obtain ⟨hpre, hregs, hqs, -⟩ := closeIfPast_keeps (o := o) (s := s) (by rw [hdue]; exact List.cons_ne_nil _ _)
  rw [hdue] at hpre
  obtain ⟨l, hl⟩ := hpre
  obtain ⟨t, hexec, hleft, -, hshown⟩ := summary_shows hup htype hrest hl.symm hregs hqs hlen
  exact ⟨t, hexec, hleft ▸ List.prefix_append _ _, hshown⟩

theorem summary_past_yields (o : Fin 8) (sec : Nat) (s : State) (hup : pairUp (pairOf o) s = true) (htype : metType o s ≠ 0)
    (hrest : (getMt o s).restored = true) (hdue : (getMt o s).due = []) (hsec : (getMt o s).sec = some sec) (hpast : sec < clkSec s)
    (hwait : frameWaits o sec s = false) (hlen : (getMt o s).regs.length = 8) :
    Yields (.summary o true) s fun t => (getMt o t).due = [] ∧ (getMt o t).sec = none ∧
      SummaryShown o ⟨sec, (getMt o s).flags ||| flagIf (getMt o s).startF sfSTART ||| flagIf (getMt o s).gapF sfGAP,
        (getMt o s).regs, (getMt o s).first, (getMt o s).lastN, (getMt o s).secP⟩ s t := by
  have hclose := closeIfPast_of_past hsec hpast hwait
  have hmt : getMt o (closeIfPast o s) = closeSecond (getMt o s) := by rw [hclose, getMt_modMt]
  have hclosed := closeSecond_some hsec
  have hnone : (getMt o (closeIfPast o s)).sec = none := by rw [hmt, hclosed]
  rw [Nat.or_assoc, ← hnone]
  refine summary_shows hup htype hrest ?_ ?_ ?_ hlen
  · rw [hmt, hclosed, hdue]
    rfl
  · rw [hmt, hclosed]
  · rw [hclose]
    rfl

theorem summary_vector_fails (o : Fin 8) (s : State) (u : Summ) (us : List Summ) (hup : pairUp (pairOf o) s = true) (htype : metType o s ≠ 0)
    (hrest : (getMt o s).restored = true) (hdue : (getMt o s).due = u :: us) :
    exec (.summary o false) s = exec (.memberGiveUp (en (activeOf (pairOf o) s)) 4) (closeIfPast o s) := by
  obtain ⟨hpre, -, -, hregs⟩ := closeIfPast_keeps (o := o) (s := s) (by rw [hdue]; exact List.cons_ne_nil _ _)
  rw [hdue] at hpre
  obtain ⟨l, hl⟩ := hpre
  have hactive : activeOf (pairOf o) (closeIfPast o s) = activeOf (pairOf o) s := by
    unfold activeOf engState
    rw [rd_of_regs hregs]
  have hrange : 9 ≤ activeOf (pairOf o) s ∧ activeOf (pairOf o) s ≤ 14 := by
    unfold activeOf pairOf
    split <;> split <;> omega
  have hval : (en (activeOf (pairOf o) s)).val = activeOf (pairOf o) s := Nat.mod_eq_of_lt (by omega)
  have hpaired : isPaired (en (activeOf (pairOf o) s)) = true := decide_eq_true (by rw [hval]; exact hrange)
  rw [exec_summary_fails hup htype hrest hl.symm, exec_memberGiveUp hpaired rfl, hval, hactive]
  rfl

theorem summary_nothing (o : Fin 8) (v : Bool) (s : State) (h : pairUp (pairOf o) s = false ∨ metType o s = 0 ∨ (getMt o s).restored = false) :
    exec (.summary o v) s = .next s := by
  have hnone : (!(pairUp (pairOf o) s) || metType o s == 0 || !(getMt o s).restored) = true := by
    rcases h with h | h | h <;> simp [h]
  exact if_pos hnone

/-- Settles O37: LIVE clause by clause through what `liveStep` reports, SUMMARY through the close of the second under way and
`pushSummary`. -/
theorem liveValuesAndSummariesReport : Obligations.LiveValuesAndSummariesReport := by
  unfold Obligations.LiveValuesAndSummariesReport
  exact ⟨live_yields, live_waits_yields, live_taken_yields, live_nothing, summary_due_yields, summary_past_yields, summary_vector_fails,
    summary_nothing⟩

end Sys2Proof.Machine
end

section
/-!
What the operations of billing leave of the registers billed and of the second billing stands at (R205, R206, R226).
-/
namespace Sys2Proof.Machine
open Sys2Proof.Claims

/-! ### The billed registers and the place of billing -/

/-- What an applied second, a reset of the tariffs and a start alone write of an outlet. -/
def BOut.billed (b : BOut) : List Nat × List Nat × Nat := (b.regs, b.timp, b.last)

/-- The second billing stands at, and whether it goes on. -/
def Bill.place (b : Bill) : Nat × Nat × Bool × Bool × Bool := (b.t, b.lsec, b.first, b.closed, b.resumed)

theorem BOut.of_billed {a b : BOut} (h : a.billed = b.billed) : a.regs = b.regs ∧ a.timp = b.timp ∧ a.last = b.last := by
  simpa only [BOut.billed, Prod.mk.injEq] using h

theorem Bill.of_place {b : Bill} {t lsec : Nat} {first closed resumed : Bool} (h : b.place = (t, lsec, first, closed, resumed)) :
    b.t = t ∧ b.lsec = lsec ∧ b.first = first ∧ b.closed = closed ∧ b.resumed = resumed := by
  simpa only [Bill.place, Prod.mk.injEq] using h

/-- No billed register and not the place of billing differs. -/
def KeepsBilled (s t : State) : Prop :=
  (∀ o, (getBo o t).billed = (getBo o s).billed) ∧ t.bill.place = s.bill.place

theorem getBo_setBo_same (o : Nat) (b : BOut) (s : State) : getBo o (setBo o b s) = b := vget_vset_same _ _ _

theorem o8_ne {o k : Nat} (ho : o < 8) (hk : k < 8) (h : k ≠ o) : o8 k ≠ o8 o := fun heq => h <| by
  have hmod : k % 8 = o % 8 := congrArg Fin.val heq
  omega

theorem getBo_setBo_ne {o k : Nat} (h : o8 k ≠ o8 o) (b : BOut) (s : State) : getBo k (setBo o b s) = getBo k s := vget_vset_ne _ _ h

theorem getBo_of_bill {s t : State} (h : t.bill = s.bill) (o : Nat) : getBo o t = getBo o s := by rw [getBo, h, getBo]

namespace KeepsBilled

theorem refl (s : State) : KeepsBilled s s := ⟨fun _ => rfl, rfl⟩

theorem trans {s t u : State} (h : KeepsBilled s t) (k : KeepsBilled t u) : KeepsBilled s u :=
  ⟨fun o => (k.1 o).trans (h.1 o), k.2.trans h.2⟩

theorem regs {s t : State} (h : KeepsBilled s t) (o : Nat) : (getBo o t).regs = (getBo o s).regs := (BOut.of_billed (h.1 o)).1

theorem timp {s t : State} (h : KeepsBilled s t) (o : Nat) : (getBo o t).timp = (getBo o s).timp := (BOut.of_billed (h.1 o)).2.1

theorem last {s t : State} (h : KeepsBilled s t) (o : Nat) : (getBo o t).last = (getBo o s).last := (BOut.of_billed (h.1 o)).2.2

theorem lsec {s t : State} (h : KeepsBilled s t) : t.bill.lsec = s.bill.lsec := (Bill.of_place h.2).2.1

theorem closed {s t : State} (h : KeepsBilled s t) : t.bill.closed = s.bill.closed := (Bill.of_place h.2).2.2.2.1

theorem resumed {s t : State} (h : KeepsBilled s t) : t.bill.resumed = s.bill.resumed := (Bill.of_place h.2).2.2.2.2

theorem ite {p : Prop} [Decidable p] {s t u : State} (h : KeepsBilled s t) (k : KeepsBilled s u) :
    KeepsBilled s (if p then t else u) := by
  split
  · exact h
  · exact k

theorem whenS {c : Bool} {f : State → State} (h : ∀ s, KeepsBilled s (f s)) (s : State) : KeepsBilled s (whenS c f s) :=
  ite (h s) (refl s)

theorem forEach {α : Type} (l : List α) (f : α → State → State) (h : ∀ a s, KeepsBilled s (f a s)) (s : State) :
    KeepsBilled s (forEach l f s) := by
  induction l generalizing s with
  | nil => exact refl s
  | cons a l ih => exact (h a s).trans (ih (f a s))

theorem of_bill {s t : State} (h : t.bill = s.bill) : KeepsBilled s t :=
  ⟨fun o => congrArg BOut.billed (getBo_of_bill h o), congrArg Bill.place h⟩

theorem queueOnly {s t : State} (h : QueueOnly s t) : KeepsBilled s t := of_bill h.bill

theorem logOnly {s t : State} (h : LogOnly s t) : KeepsBilled s t := by
  have hs := congrArg State.bill h.1
  exact of_bill hs

theorem checkOnly {s t : State} (h : CheckOnly s t) : KeepsBilled s t := by
  obtain ⟨⟨r, rfl⟩, -⟩ := h
  exact of_bill rfl

theorem wr (f : Fld) (v : Nat) (s : State) : KeepsBilled s (wr f v s) := of_bill rfl

theorem wrs (l : List (Fld × Nat)) (s : State) : KeepsBilled s (wrs l s) := by
  obtain ⟨r, hr⟩ := wrs_regs l s
  rw [hr]
  exact of_bill rfl

theorem te0Wr (off : Nat) (bs : List Byte) (s : State) : KeepsBilled s (te0Wr off bs s) :=
  (of_bill (mramWr_bill off bs s)).trans (checkOnly (checkOnly_ckSpan _ _ _ _))

theorem modBill {f : Bill → Bill} (s : State) (hf : ∀ b, (f b).outs = b.outs ∧ (f b).place = b.place := by exact fun _ => ⟨rfl, rfl⟩) :
    KeepsBilled s (modBill f s) :=
  ⟨fun o => congrArg (fun v => (vget v (o8 o)).billed) (hf s.bill).1, (hf s.bill).2⟩

theorem setBo {o : Nat} {b : BOut} {s : State} (hb : b.billed = (getBo o s).billed) : KeepsBilled s (setBo o b s) := by
  refine ⟨fun k => ?_, rfl⟩
  by_cases hk : o8 k = o8 o
  · rw [getBo, hk, ← getBo, getBo_setBo_same, hb, getBo, getBo, hk]
  · rw [getBo_setBo_ne hk]

theorem modBo {o : Nat} {f : BOut → BOut} (s : State) (hf : ∀ b, (f b).billed = b.billed := by exact fun _ => rfl) :
    KeepsBilled s (modBo o f s) :=
  setBo (hf _)

theorem logEvent (src : Nat) {c : Nat} (hc : c < 256) (outlet : Nat) (data : List Nat) (s : State) :
    KeepsBilled s (logEvent src c outlet data s) := logOnly (logOnly_logEvent src hc outlet data s)

end KeepsBilled

/-! ### The registers of BIL (R241, R242) -/

/-- Only registers differ. -/
def RegsOnly (s t : State) : Prop := ∃ r, t = { s with regs := r }

namespace RegsOnly

theorem trans {s t u : State} (h : RegsOnly s t) (k : RegsOnly t u) : RegsOnly s u := by
  obtain ⟨r, rfl⟩ := h
  obtain ⟨r', rfl⟩ := k
  exact ⟨r', rfl⟩

theorem wrs (l : List (Fld × Nat)) (s : State) : RegsOnly s (wrs l s) := wrs_regs l s

theorem forEach {α : Type} (l : List α) (f : α → State → State) (h : ∀ a s, RegsOnly s (f a s)) (s : State) : RegsOnly s (forEach l f s) :=
  forEach_regsOnly l f h s

theorem bill {s t : State} (h : RegsOnly s t) : t.bill = s.bill := by
  obtain ⟨r, rfl⟩ := h
  rfl

theorem mram {s t : State} (h : RegsOnly s t) : t.mram = s.mram := by
  obtain ⟨r, rfl⟩ := h
  rfl

theorem qs {s t : State} (h : RegsOnly s t) : t.qs = s.qs := by
  obtain ⟨r, rfl⟩ := h
  rfl

theorem owed {s t : State} (h : RegsOnly s t) : t.owed = s.owed := by
  obtain ⟨r, rfl⟩ := h
  rfl

theorem keepsBilled {s t : State} (h : RegsOnly s t) : KeepsBilled s t := .of_bill h.bill

end RegsOnly

/-- The state of an outlet's session and interval as BSTAT, IVAL, IVSEC, PROFCNT, CREDREM and DEBT show it. -/
def statusRegs (o : Nat) (s : State) : List (Fld × Nat) :=
  let b := getBo o s
  let se := b.sess
  let rem := toU 64 se.remaining
  let debt := (max 0 (-se.remaining)).toNat
  [(R.BIL_BSTAT_RATE o, b.rate), (R.BIL_BSTAT_DEF o, b2n b.dflt), (R.BIL_BSTAT_FRIENDLY o, b2n b.friendly),
    (R.BIL_BSTAT_SETBACK o, b2n s.bill.setback), (R.BIL_BSTAT_CLOCK o, s.bill.clk),
    (R.BIL_BSTAT_CREDST o, if se.op then se.st else 0), (R.BIL_BSTAT_CREDKIND o, if se.op then se.kind else 0),
    (R.BIL_IVAL_M o, b.ivM), (R.BIL_IVSEC_N o, b.ivN), (R.BIL_IVSEC_FLAGS o, b.ivF), (R.BIL_PROFCNT_N o, b.prof),
    (R.BIL_CREDREM_V o 0, rem), (R.BIL_CREDREM_V o 1, rem / 2 ^ 32), (R.BIL_DEBT_V o 0, debt),
    (R.BIL_DEBT_V o 1, debt / 2 ^ 32)]

/-- What BIL shows of an outlet before its status: the tariff and base registers and the maxima. -/
theorem showOutlet_status (o : Nat) (s : State) : ∃ t, RegsOnly s t ∧ showOutlet o s =
    forEach [0, 1, 2, 3] (fun i => wr (R.BIL_SESSID_ID o i)
      (if (getBo o s).sess.op then leNat (((getBo o s).sess.id.drop (4 * i)).take 4) else 0)) (wrs (statusRegs o s) t) := by
  unfold showOutlet
  extract_lets b se three s1 s2 s3 rem debt s4
  have htariffs : RegsOnly s s1 := .forEach _ _ (fun k s => (RegsOnly.wrs _ s).trans (.wrs _ _)) s
  have hbases : RegsOnly s1 s2 := (RegsOnly.wrs _ s1).trans (.wrs _ _)
  have hmaxima : RegsOnly s2 s3 := .forEach _ _ (fun i s => ⟨_, rfl⟩) s2
  have hstatus : s4 = wrs (statusRegs o s) s3 := by
    have hbill : s3.bill = s.bill := (htariffs.trans (hbases.trans hmaxima)).bill
    dsimp only [s4]
    rw [hbill]
    rfl
  exact ⟨s3, htariffs.trans (hbases.trans hmaxima), by rw [hstatus]⟩

theorem regsOnly_showOutlet (o : Nat) (s : State) : RegsOnly s (showOutlet o s) := by
  obtain ⟨t, ht, hshow⟩ := showOutlet_status o s
  rw [hshow]
  exact (ht.trans (.wrs _ t)).trans (.forEach _ _ (fun i s => ⟨_, rfl⟩) _)

theorem regsOnly_showCounter (s : State) : RegsOnly s (showCounter s) := .wrs _ s

theorem regsOnly_showGlobal (s : State) : RegsOnly s (showGlobal s) := (RegsOnly.wrs _ s).trans (.wrs _ _)

theorem regsOnly_showBilling (s : State) : RegsOnly s (showBilling s) :=
  (RegsOnly.forEach _ _ regsOnly_showOutlet s).trans (regsOnly_showGlobal _)

theorem keepsBilled_showBilling (s : State) : KeepsBilled s (showBilling s) := (regsOnly_showBilling s).keepsBilled

theorem regsOnly_setInv (b : Bool) (s : State) : RegsOnly s (setInv b s) := ⟨_, rfl⟩

/-! ### Readings and sessions (R231 to R238) -/

theorem keepsBilled_makeReading (o trigger content : Nat) (s : State) : KeepsBilled s (makeReading o trigger content s).1 := by
  unfold makeReading
  split
  · exact .refl s
  · extract_lets cnt slot body g s1 seq s2 s3 s4 s5
    have hsigned : KeepsBilled s g.2 := (KeepsBilled.queueOnly (queueOnly_transit _ _ _ _ _ s)).trans (.of_bill rfl)
    have hwritten : KeepsBilled g.2 s2 := (KeepsBilled.te0Wr _ _ _).trans (.te0Wr _ _ _)
    have hcounted : KeepsBilled s2 s3 := (KeepsBilled.modBill s2).trans (regsOnly_showCounter _).keepsBilled
    have htold : KeepsBilled s4 s5 := .ite (.refl _) (.queueOnly (queueOnly_putQ _ _ _))
    exact ((hsigned.trans hwritten).trans hcounted).trans ((KeepsBilled.modBo s3).trans htold)

theorem keepsBilled_completeReading (n t w0 : Nat) (r : State × Option (Nat × Nat)) : KeepsBilled r.1 (completeReading n t w0 r) := by
  unfold completeReading
  split <;> exact .queueOnly (queueOnly_complete _ _ _ _ _ _)

/-- A reading that a request has waited for. -/
theorem keepsBilled_answerReading (n t w0 o trigger content : Nat) (s : State) :
    KeepsBilled s (completeReading n t w0 (makeReading o trigger content s)) :=
  (keepsBilled_makeReading _ _ _ s).trans (keepsBilled_completeReading _ _ _ _)

theorem keepsBilled_endSession (o : Nat) (pf : Bool) (s : State) : KeepsBilled s (endSession o pf s) := by
  unfold endSession
  extract_lets se s1 s2 r s3
  have hmarked : KeepsBilled s s1 := .modBo s
  have hopened : KeepsBilled s1 s2 := by
    dsimp only [s2]
    split
    · exact keepsBilled_answerReading _ _ _ _ _ _ s1
    · exact .refl s1
  have hclosed : KeepsBilled s2 s3 := by
    dsimp only [s3]
    split
    · exact keepsBilled_answerReading _ _ _ _ _ _ s2
    · exact keepsBilled_makeReading _ _ _ s2
  exact .ite (.refl s) (.ite hmarked (((hmarked.trans hopened).trans hclosed).trans (.modBo s3)))

theorem keepsBilled_sessSecond {o : Nat} (ho : o < 8) (dA dE : Nat) (s : State) : KeepsBilled s (sessSecond o dA dE s) := by
  unfold sessSecond
  extract_lets b se s1 r imp ex cost x s2
  refine .ite (.refl s) ?_
  split
  · extract_lets s3 s4
    have hbegun : KeepsBilled s s1 := .modBo s
    have hread : KeepsBilled s1 s3 := keepsBilled_answerReading _ _ _ _ _ _ s1
    have hnoted : KeepsBilled s3 s4 := .modBo s3
    exact .ite (.refl s) (((hbegun.trans hread).trans hnoted).trans (.ite (keepsBilled_endSession _ _ _) (.refl _)))
  · have hcharged : KeepsBilled s s2 := .modBo s
    exact .ite (.refl s) (.ite (hcharged.trans (.queueOnly (queueOnly_pushQ (by omega) _ _ _))) hcharged)

/-! ### Closures and saves (R215 to R226) -/

theorem keepsBilled_closeInterval (o m extra next : Nat) (s : State) : KeepsBilled s (closeInterval o m extra next s) := by
  unfold closeInterval
  extract_lets b flags md s1 s2
  have hwritten : KeepsBilled s s1 := .te0Wr _ _ s
  have hrecord : KeepsBilled s s2 := .ite (.refl s) (hwritten.trans (.modBo s1))
  exact hrecord.trans (.modBo s2)

theorem keepsBilled_handOn (s : State) : KeepsBilled s (handOn s) := .forEach _ _ (fun _ s => .modBo s) s

theorem keepsBilled_dateReadings (s : State) : KeepsBilled s (dateReadings s) :=
  .ite (.modBill s) (.forEach _ _ (fun _ s => keepsBilled_makeReading _ _ _ s) s)

theorem keepsBilled_doMdReset (s : State) : KeepsBilled s (doMdReset s) := by
  unfold doMdReset
  refine .ite (.refl s) (((keepsBilled_handOn s).trans (.modBill _)).trans (.forEach _ _ (fun e s => ?_) _))
  exact .ite (.queueOnly (queueOnly_complete _ _ _ _ _ _)) (.refl s)

theorem keepsBilled_activate (s : State) : KeepsBilled s (activate s) := .of_bill rfl

/-- A billing date is carried out. -/
theorem keepsBilled_carryDate (d : Nat) (s : State) : KeepsBilled s (dateReadings (handOn (noteDate d s))) :=
  ((KeepsBilled.modBill s).trans (keepsBilled_handOn _)).trans (keepsBilled_dateReadings _)

theorem keepsBilled_closures (t extra : Nat) (s : State) : KeepsBilled s (closures t extra s) := by
  unfold closures
  extract_lets date act s1 s2 s3 s4 s5
  have hintervals : KeepsBilled s s1 := .ite (.forEach _ _ (fun _ s => keepsBilled_closeInterval _ _ _ _ s) s) (.refl s)
  have hdate : KeepsBilled s1 s2 := .ite (keepsBilled_carryDate _ s1) (.refl s1)
  have hmaxima : KeepsBilled s2 s3 := keepsBilled_doMdReset s2
  have hcalendar : KeepsBilled s3 s4 := .ite (keepsBilled_activate s3) (.refl s3)
  have hopened : KeepsBilled s4 s5 := .ite (.forEach _ _ (fun _ s => .modBo s) s4) (.refl s4)
  exact ((((hintervals.trans hdate).trans hmaxima).trans hcalendar).trans hopened).trans (.modBill s5)

theorem keepsBilled_endSecond (s : State) : KeepsBilled s (endSecond s).1 := by
  unfold endSecond
  extract_lets t due s1
  have hsaved : KeepsBilled s s1 := .modBill s
  split
  · exact hsaved.trans (keepsBilled_closures _ _ s1)
  · split
    · exact hsaved.trans ((KeepsBilled.modBill s1).trans (.modBill _))
    · exact hsaved

theorem keepsBilled_writeSlot (kind : Nat) (s : State) : KeepsBilled s (writeSlot kind s) :=
  ((KeepsBilled.modBill s).trans (.te0Wr _ _ _)).trans (.wr _ _ _)

theorem keepsBilled_finishSecond (s : State) : KeepsBilled s (finishSecond s) :=
  ((keepsBilled_endSecond s).trans (keepsBilled_writeSlot _ _)).trans (keepsBilled_showBilling _)

/-! ### Legal time against HW (R223 to R225) -/

theorem keepsBilled_forwardStep (t clk : Nat) (s : State) : KeepsBilled s (forwardStep t clk s) := by
  unfold forwardStep
  extract_lets hw m passed dates act starts s1 ended endAt waits date s2 s3 s4 s5 s6 s7
  have hdate : ∀ d s, KeepsBilled s (date d s) := keepsBilled_carryDate
  have hflagged : KeepsBilled s s1 := .forEach _ _ (fun _ s => .modBo s) s
  have hbefore : KeepsBilled s1 s2 := .forEach _ _ hdate s1
  have hclosed : KeepsBilled s2 s3 := .forEach _ _ (fun _ s => keepsBilled_closeInterval _ _ _ _ s) s2
  have hafter : KeepsBilled s3 s4 := .forEach _ _ hdate s3
  have hwaited : KeepsBilled s4 s5 := .ite ((hdate m s4).trans (.modBill _)) (.refl s4)
  have hmaxima : KeepsBilled s5 s6 := .ite (keepsBilled_doMdReset s5) (.refl s5)
  have hcalendar : KeepsBilled s6 s7 := .ite (keepsBilled_activate s6) (.refl s6)
  have hall : KeepsBilled s s7 :=
    (((hflagged.trans hbefore).trans (hclosed.trans hafter)).trans (hwaited.trans hmaxima)).trans hcalendar
  exact .ite (hall.trans ((KeepsBilled.modBill s7).trans (keepsBilled_writeSlot _ _))) hall

theorem keepsBilled_longSetback (t : Nat) (s : State) : KeepsBilled s (longSetback t s) :=
  ((regsOnly_setInv true s).keepsBilled.trans (.modBill _)).trans (.logEvent _ (by decide) _ _ _)

theorem keepsBilled_setSetback (on byAuth : Bool) (s : State) : KeepsBilled s (setSetback on byAuth s) :=
  (KeepsBilled.modBill s).trans (.forEach _ _ (fun _ s => .wr _ _ s) _)

theorem keepsBilled_compareHW (t clk : Nat) (s : State) : KeepsBilled s (compareHW t clk s) := by
  unfold compareHW
  extract_lets b s1 s2 s3
  have hback : KeepsBilled s s1 := keepsBilled_setSetback _ _ s
  have hforward : KeepsBilled s s2 := .ite (keepsBilled_setSetback _ _ s) (.refl s)
  have hlogged : KeepsBilled s2 s3 := .ite (.logEvent _ (by decide) _ _ s2) (.refl s2)
  have hstep : KeepsBilled s s3 := hforward.trans hlogged
  exact .ite (.refl s) (.ite (.ite (hback.trans (keepsBilled_longSetback _ s1)) hback)
    (.ite (.ite (hstep.trans (keepsBilled_forwardStep _ _ s3)) hstep) hforward))

theorem keepsBilled_applyClockAuths (s : State) : KeepsBilled s (applyClockAuths s) := by
  unfold applyClockAuths
  extract_lets l s1
  have hcleared : KeepsBilled s s1 := (regsOnly_setInv false s).keepsBilled.trans (.modBill _)
  refine .ite (.refl s) (hcleared.trans (.forEach _ _ (fun e s => ?_) s1))
  extract_lets s2
  have hadjusted : KeepsBilled s s2 := by
    dsimp only [s2]
    split
    · exact (KeepsBilled.wr _ _ s).trans (.modBill _)
    · exact .refl s
  exact hadjusted.trans (.queueOnly (queueOnly_complete _ _ _ _ _ _))

theorem keepsBilled_noteFrames (us : List SumIn) (s : State) : KeepsBilled s (noteFrames us s) :=
  .forEach _ _ (fun _ s => .modBill s) s

theorem keepsBilled_noteRates (t clk : Nat) (s : State) : KeepsBilled s (noteRates t clk s) :=
  .ite (.refl s) (.forEach _ _ (fun _ s => .modBo s) s)

/-! ### What goes on behind billing (R34, R454) -/

theorem keepsBilled_updEventNow (r kind cause : Nat) (s : State) : KeepsBilled s (updEventNow r kind cause s) :=
  (KeepsBilled.queueOnly (queueOnly_pushQ (by decide) _ _ s)).trans (.logEvent _ (by decide) _ _ _)

theorem queueOnly_te0Resumes (s : State) : QueueOnly s (te0Resumes s) := by
  unfold te0Resumes
  split
  · exact .refl s
  · exact ((((((QueueOnly.forEach _ _ (fun o _ s => queueOnly_forward _ _ _ s) s).trans (queueOnly_forward _ _ _ _)).trans
      (queueOnly_forward _ _ _ _)).trans (queueOnly_forward _ _ _ _)).trans (queueOnly_drainQ _ _ _)).trans (queueOnly_settleOwed _))

theorem keepsBilled_lsFlush (s : State) : KeepsBilled s (lsFlush s) :=
  (KeepsBilled.of_bill rfl).trans (.forEach _ _ (fun _ s => .queueOnly (queueOnly_pushQ (by decide) _ _ s)) _)

theorem keepsBilled_te0GoesOn (s : State) : KeepsBilled s (te0GoesOn s) := by
  unfold te0GoesOn
  refine .ite (.refl s) ?_
  have hevents : KeepsBilled s _ :=
    (KeepsBilled.of_bill (s := s) (t := modUpd (fun u => { u with due := [] }) s) rfl).trans
      (.forEach s.upd.due (fun d => updEventNow d.1 d.2.1 d.2.2) (fun _ s => keepsBilled_updEventNow _ _ _ s) _)
  exact (hevents.trans (.queueOnly (queueOnly_te0Resumes _))).trans (keepsBilled_lsFlush _)

theorem keepsBilled_writeGeneral (e : LogEntry) (s : State) : KeepsBilled s (writeGeneral e s) := by
  unfold writeGeneral
  extract_lets n full s1
  have hwraps : KeepsBilled s s1 := .whenS (fun s => .wr _ _ s) s
  exact (hwraps.trans (.of_bill (modBar_bill _ s1))).trans (.wrs _ _)

theorem keepsBilled_appendLegal (e : LogEntry) (s : State) : KeepsBilled s (appendLegal e s) :=
  (KeepsBilled.of_bill (modBar_bill _ s)).trans (.wrs _ _)

theorem keepsBilled_legalToGeneral (e : LogEntry) (s : State) : KeepsBilled s (legalToGeneral e s) :=
  (keepsBilled_writeGeneral _ s).trans (.wr _ _ _)

theorem keepsBilled_writeLegal (e : LogEntry) (s : State) : KeepsBilled s (writeLegal e s) := by
  have hstatus : ∀ f v k n s, KeepsBilled s (logStatus k n (wr f v s)) := fun f v k n s =>
    (KeepsBilled.wr f v s).trans (.logOnly (logOnly_logStatus _ _ _))
  unfold writeLegal
  extract_lets s1 s2 s3
  have hlast : KeepsBilled s s2 := (keepsBilled_appendLegal _ s).trans (hstatus _ _ _ _ s1)
  have hnext : KeepsBilled s s3 := keepsBilled_appendLegal _ s
  exact .ite (keepsBilled_legalToGeneral _ s) (.ite (hlast.trans (keepsBilled_legalToGeneral _ s2))
    (.ite (hnext.trans ((hstatus _ _ _ _ s3).trans (.logOnly (logOnly_queueEntry _ _)))) hnext))

theorem keepsBilled_writeOne (e : LogEntry) (s : State) : KeepsBilled s (writeOne e s) :=
  (KeepsBilled.of_bill (modBar_bill _ s)).trans (.ite (keepsBilled_writeLegal _ _) (keepsBilled_writeGeneral _ _))

theorem keepsBilled_writeAllQueued (n : Nat) (s : State) : KeepsBilled s (writeAllQueued n s) := by
  induction n generalizing s with
  | zero => exact .refl s
  | succ n ih =>
    unfold writeAllQueued
    split
    · exact .refl s
    · exact (keepsBilled_writeOne _ s).trans (ih _)

theorem keepsBilled_flushLogs (s : State) : KeepsBilled s (flushLogs s) := .ite (.refl s) (keepsBilled_writeAllQueued _ s)

/-! ### A second is applied (R206 to R208) -/

/-- The summaries are applied, whole or as a partial second: the registers and flags are theirs, and those of the other
outlets are as before. -/
def Applies (us : List SumIn) (s t : State) : Prop :=
  (∀ u ∈ us, (getBo u.o t).regs = u.regs ∧ (getBo u.o t).last = u.flags) ∧
    ∀ o < 8, o ∉ us.map SumIn.o → (getBo o t).regs = (getBo o s).regs ∧ (getBo o t).last = (getBo o s).last

theorem Applies.after {us : List SumIn} {s t u : State} (h : ∀ o, (getBo o t).billed = (getBo o s).billed) (k : Applies us t u) :
    Applies us s u := by
  obtain ⟨hin, hout⟩ := k
  refine ⟨hin, fun o ho hno => ?_⟩
  obtain ⟨hr, hl⟩ := hout o ho hno
  obtain ⟨kr, -, kl⟩ := BOut.of_billed (h o)
  exact ⟨hr.trans kr, hl.trans kl⟩

theorem Applies.then {us : List SumIn} {s t u : State} (h : Applies us s t) (k : KeepsBilled t u) : Applies us s u := by
  obtain ⟨hin, hout⟩ := h
  refine ⟨fun x hx => ?_, fun o ho hno => ?_⟩
  · obtain ⟨hr, hl⟩ := hin x hx
    exact ⟨(k.regs _).trans hr, (k.last _).trans hl⟩
  · obtain ⟨hr, hl⟩ := hout o ho hno
    exact ⟨(k.regs o).trans hr, (k.last o).trans hl⟩

/-- Only the outlet of a summary takes it. -/
theorem applyOutlet_eq (t : Nat) {u : SumIn} (ho : u.o < 8) (s : State) :
    ∃ b : BOut, b.regs = u.regs ∧ b.last = u.flags ∧ KeepsBilled (setBo u.o b s) (applyOutlet t u s) := by
  unfold applyOutlet
  extract_lets o b clk
  refine ⟨_, ?_, ?_, keepsBilled_sessSecond ho _ _ _⟩
  · split <;> rfl
  · split <;> rfl

theorem applies_forEach_applyOutlet (t : Nat) {us : List SumIn} (hlt : ∀ u ∈ us, u.o < 8) (hd : (us.map SumIn.o).Nodup) (s : State) :
    Applies us s (forEach us (applyOutlet t) s) ∧ (forEach us (applyOutlet t) s).bill.place = s.bill.place := by
  induction us generalizing s with
  | nil => exact ⟨⟨fun u hu => absurd hu List.not_mem_nil, fun _ _ _ => ⟨rfl, rfl⟩⟩, rfl⟩
  | cons u us ih =>
    obtain ⟨hnew, hd⟩ := List.nodup_cons.1 hd
    have ho : u.o < 8 := hlt u List.mem_cons_self
    obtain ⟨⟨hin, hout⟩, hplace⟩ := ih (fun x hx => hlt x (List.mem_cons_of_mem _ hx)) hd (applyOutlet t u s)
    obtain ⟨b, hregs, hlast, hb⟩ := applyOutlet_eq t ho s
    have hself : getBo u.o (setBo u.o b s) = b := getBo_setBo_same _ _ _
    refine ⟨⟨fun x hx => ?_, fun o hlt8 hno => ?_⟩, hplace.trans hb.2⟩
    · rcases List.mem_cons.1 hx with rfl | hx
      · obtain ⟨hr, hl⟩ := hout x.o ho hnew
        exact ⟨by rw [← hregs, ← hself, ← hb.regs]; exact hr, by rw [← hlast, ← hself, ← hb.last]; exact hl⟩
      · exact hin x hx
    · rw [List.map_cons, List.mem_cons, not_or] at hno
      obtain ⟨hr, hl⟩ := hout o hlt8 hno.2
      have hother : getBo o (setBo u.o b s) = getBo o s := getBo_setBo_ne (o8_ne ho hlt8 hno.1) _ _
      exact ⟨by rw [← hother, ← hb.regs]; exact hr, by rw [← hother, ← hb.last]; exact hl⟩

theorem applySecond_applies {sec : Nat} {us : List SumIn} (hlt : ∀ u ∈ us, u.o < 8) (hd : (us.map SumIn.o).Nodup) (s : State) :
    Applies us s (applySecond sec us s) ∧
      (applySecond sec us s).bill.place = (legalOf sec (applyClockAuths s), sec, false, s.bill.closed, s.bill.resumed) := by
  unfold applySecond
  extract_lets s1 t clk same s2 s3
  have hauths : KeepsBilled s s1 := keepsBilled_applyClockAuths s
  have hcompared : KeepsBilled s1 s2 := .ite (.refl s1) (keepsBilled_compareHW _ _ s1)
  have hplace : s3.bill.place = (t, sec, false, s2.bill.closed, s2.bill.resumed) := rfl
  have hrates : KeepsBilled s3 (noteRates t clk s3) := keepsBilled_noteRates _ _ s3
  obtain ⟨happ, hkept⟩ := applies_forEach_applyOutlet t hlt hd (noteRates t clk s3)
  have hframes := keepsBilled_noteFrames us (forEach us (applyOutlet t) (noteRates t clk s3))
  have hold : KeepsBilled s s2 := hauths.trans hcompared
  have hsame : ∀ o, (getBo o s3).billed = (getBo o s).billed := hold.1
  exact ⟨.after hsame ((happ.after hrates.1).then hframes),
    by rw [hframes.2, hkept, hrates.2, hplace, hold.closed, hold.resumed]⟩

/-! ### The summaries that wait (R206 to R208) -/

theorem queueOnly_takeSummaries (typ q sec k : Nat) (s : State) : QueueOnly s (takeSummaries typ q sec k s).1 := by
  induction k generalizing s with
  | zero => exact .refl s
  | succ k ih =>
    unfold takeSummaries
    split
    · split
      · exact (queueOnly_takeN _ _ s).trans (ih _)
      · exact .refl s
    · exact .refl s

/-- The summaries of the second have been taken from Q50 and Q51. -/
def summariesTaken (typ sec : Nat) (s : State) : State := (takeSummaries typ 51 sec 4 (takeSummaries typ 50 sec 4 s).1).1

theorem queueOnly_summariesTaken (typ sec : Nat) (s : State) : QueueOnly s (summariesTaken typ sec s) :=
  (queueOnly_takeSummaries _ _ _ _ s).trans (queueOnly_takeSummaries _ _ _ _ _)

theorem applied_of_bill {s t : State} (h : t.bill = s.bill) (u : SumIn) : applied u t = applied u s := by
  rw [applied, h, getBo_of_bill h, applied]

/-- What is applied is what is fresh as the command begins. -/
theorem fresh_eq_taken (typ sec : Nat) (s : State) :
    (((takeSummaries typ 50 sec 4 s).2 ++ (takeSummaries typ 51 sec 4 (takeSummaries typ 50 sec 4 s).1).2).filter
      fun u => decide (u.o < 8) && !(applied u (summariesTaken typ sec s))) = fresh typ sec s := by
  simp only [applied_of_bill (queueOnly_summariesTaken typ sec s).bill]
  rfl

theorem lt_of_mem_fresh {typ sec : Nat} {s : State} {u : SumIn} (h : u ∈ fresh typ sec s) : u.o < 8 := by
  have hp := (List.mem_filter.1 h).2
  rw [Bool.and_eq_true, decide_eq_true_eq] at hp
  exact hp.1

theorem heldBundle_saved {s : State} (h : s.bill.unsaved = false) : heldBundle s = s := by
  rw [heldBundle, h]
  rfl

theorem summaryApply_eq {s : State} {sec : Nat} (hnext : nextSecond 0x50 s = some sec) (hsaved : s.bill.unsaved = false) :
    summaryApply s =
      let us := fresh 0x50 sec s
      let t := if us.isEmpty then summariesTaken 0x50 sec s else applySecond sec us (summariesTaken 0x50 sec s)
      if us.isEmpty && !t.bill.unsaved then t
      else if warned t then showBilling (modBill (fun b => { b with unsaved := b.unsaved && us.isEmpty }) t)
      else if coming sec t || bundleDue (t.bill.t + 1) t then showBilling (modBill (fun b => { b with unsaved := true }) t)
      else finishSecond t := by
  have hheld : (if warned s then heldBundle s else s) = s := by rw [heldBundle_saved hsaved, ite_self]
  unfold summaryApply
  rw [hheld]
  dsimp only
  rw [hnext]
  dsimp only
  rw [hsaved, Bool.false_and, Bool.false_and, Bool.false_and]
  rw [← fresh_eq_taken]
  rfl

/-! ### SUMMARY_APPLY (R206 to R208) -/

theorem legalOf_queueOnly {s u : State} (h : QueueOnly s u) (sec : Nat) : legalOf sec u = legalOf sec s := by
  have hofs : rd R.BIL_UTCOFS_S u = rd R.BIL_UTCOFS_S s := h.rd_above_queues (by decide) (by decide) (by decide)
  have hadj : rd R.BIL_LEGALADJ_S u = rd R.BIL_LEGALADJ_S s := h.rd_above_queues (by decide) (by decide) (by decide)
  have hcal : u.calAct = s.calAct := by
    have hs := congrArg State.calAct h.1
    exact hs
  simp only [legalOf, hofs, hadj, hcal]

theorem applyClockAuths_none {s : State} (h : s.bill.clkWait = []) : applyClockAuths s = s := by
  rw [applyClockAuths, h]
  rfl

theorem exec_summaryApply {s : State} (hup : billingUp s = true) : exec .summaryApply s = .next (te0GoesOn (summaryApply s)) :=
  congrArg Host.Outcome.next (if_pos hup)

/-- A second with something fresh in it is applied; the save that follows leaves what was applied. -/
theorem summaryApply_fresh {s : State} {sec : Nat} (hnext : nextSecond 0x50 s = some sec) (hfresh : fresh 0x50 sec s ≠ [])
    (hsaved : s.bill.unsaved = false) :
    KeepsBilled (applySecond sec (fresh 0x50 sec s) (summariesTaken 0x50 sec s)) (summaryApply s) := by
  have hne : (fresh 0x50 sec s).isEmpty = false := List.isEmpty_eq_false_iff.2 hfresh
  rw [summaryApply_eq hnext hsaved]
  dsimp only
  rw [hne, Bool.false_and, if_neg Bool.false_ne_true, if_neg Bool.false_ne_true]
  generalize applySecond sec (fresh 0x50 sec s) (summariesTaken 0x50 sec s) = t
  exact .ite ((KeepsBilled.modBill t).trans (keepsBilled_showBilling _))
    (.ite ((KeepsBilled.modBill t).trans (keepsBilled_showBilling _)) (keepsBilled_finishSecond t))

theorem summaryApply_yields (s : State) (sec : Nat) (hup : billingUp s = true) (hnext : nextSecond 0x50 s = some sec)
    (hfresh : fresh 0x50 sec s ≠ []) (hd : ((fresh 0x50 sec s).map SumIn.o).Nodup) (hauth : s.bill.clkWait = [])
    (hsaved : s.bill.unsaved = false) :
    Yields .summaryApply s fun t =>
      (∀ u ∈ fresh 0x50 sec s, (getBo u.o t).regs = u.regs ∧ (getBo u.o t).last = u.flags) ∧
      (∀ o < 8, o ∉ (fresh 0x50 sec s).map SumIn.o → (getBo o t).regs = (getBo o s).regs) ∧
      t.bill.lsec = sec ∧ t.bill.t = legalOf sec s ∧ t.bill.first = false := by
  have htaken := queueOnly_summariesTaken 0x50 sec s
  have hsecond := summaryApply_fresh hnext hfresh hsaved
  have hkept := hsecond.trans (keepsBilled_te0GoesOn _)
  obtain ⟨happ, hplace⟩ := applySecond_applies (sec := sec) (fun _ => lt_of_mem_fresh) hd (summariesTaken 0x50 sec s)
  rw [applyClockAuths_none (by rw [htaken.bill, hauth]), legalOf_queueOnly htaken] at hplace
  obtain ⟨hin, hout⟩ := (happ.after (KeepsBilled.queueOnly htaken).1).then hkept
  obtain ⟨htime, hlsec, hfirst, -, -⟩ := Bill.of_place (hkept.2.trans hplace)
  exact ⟨_, exec_summaryApply hup, hin, fun o ho hno => (hout o ho hno).1, hlsec, htime, hfirst⟩

theorem summaryApply_stale (s : State) (sec : Nat) (hup : billingUp s = true) (hnext : nextSecond 0x50 s = some sec)
    (hfresh : fresh 0x50 sec s = []) (hsaved : s.bill.unsaved = false) :
    ∃ u, QueueOnly s u ∧ exec .summaryApply s = .next (te0GoesOn u) := by
  have htaken := queueOnly_summariesTaken 0x50 sec s
  refine ⟨summariesTaken 0x50 sec s, htaken, ?_⟩
  rw [exec_summaryApply hup, summaryApply_eq hnext hsaved, hfresh]
  dsimp only
  rw [List.isEmpty_nil, if_pos rfl, htaken.bill, hsaved]
  rfl

/-! ### The power-fail summaries end billing (R227, R228) -/

/-- The power-fail slot is the last thing billing does. -/
theorem closeBilling_closes (s : State) : (∀ o, (getBo o (closeBilling s)).regs = (getBo o s).regs) ∧
    (closeBilling s).bill.lsec = s.bill.lsec ∧ (closeBilling s).bill.closed = true := by
  unfold closeBilling
  extract_lets s1
  have hmarked : KeepsBilled s s1 := .forEach _ _ (fun _ s => .modBo s) s
  have hslot : KeepsBilled s (writeSlot (if s1.bill.kind3 then 3 else 2) s1) := hmarked.trans (keepsBilled_writeSlot _ s1)
  generalize writeSlot (if s1.bill.kind3 then 3 else 2) s1 = t at *
  have hshown := keepsBilled_showBilling (modBill (fun b => { b with closed := true, kind3 := false }) t)
  exact ⟨fun o => (hshown.regs o).trans (hslot.regs o), hshown.lsec.trans hslot.lsec, hshown.closed⟩

theorem applyPartial_fresh {s : State} {sec : Nat} (hfresh : fresh 0x52 sec s ≠ []) :
    applyPartial sec s = applySecond sec (fresh 0x52 sec s) (summariesTaken 0x52 sec s) := by
  unfold applyPartial
  extract_lets a b us
  have hus : us = fresh 0x52 sec s := fresh_eq_taken 0x52 sec s
  rw [hus, if_neg (by rwa [List.isEmpty_iff])]
  rfl

/-- With no whole second waiting, the one partial second is applied and the slot written. -/
theorem powerfailSave_eq {s : State} {sec : Nat} (hnone : nextSecond 0x50 s = none) (hsaved : s.bill.unsaved = false)
    (hnext : nextSecond 0x52 s = some sec) (hlast : nextSecond 0x52 (applyPartial sec s) = none) :
    powerfailSave s = closeBilling (applyPartial sec s) := by
  have hheld : (if warned s then heldBundle s else s) = s := by rw [heldBundle_saved hsaved, ite_self]
  have hwhole : applyBacklog 64 s = s := by
    unfold applyBacklog
    rw [hnone]
    rfl
  unfold powerfailSave
  rw [hheld]
  dsimp only
  rw [hwhole, hsaved, Bool.false_and, if_neg Bool.false_ne_true]
  unfold applyPartials
  rw [hnext]
  dsimp only
  unfold applyPartials
  rw [hlast]

theorem billingUp_closed {s : State} (h : s.bill.closed = true) : billingUp s = false := by
  rw [billingUp, billingOn, h, Bool.not_true, Bool.and_false, Bool.false_and]

theorem powerfailSummaryApply_yields (s : State) (sec : Nat) (hup : billingUp s = true) (hwarn : warned s = true)
    (hnone : nextSecond 0x50 s = none) (hsaved : s.bill.unsaved = false) (hnext : nextSecond 0x52 s = some sec)
    (hfresh : fresh 0x52 sec s ≠ []) (hd : ((fresh 0x52 sec s).map SumIn.o).Nodup) (hlast : nextSecond 0x52 (applyPartial sec s) = none) :
    Yields .powerfailSummaryApply s fun t =>
      (∀ u ∈ fresh 0x52 sec s, (getBo u.o t).regs = u.regs) ∧ t.bill.lsec = sec ∧ t.bill.closed = true ∧
      exec .summaryApply t = .next t ∧ exec .powerfailSummaryApply t = .next t := by
  have hexec : exec .powerfailSummaryApply s = .next (te0GoesOn (flushLogs (powerfailSave s))) := by
    refine if_neg ?_
    rw [hup, hwarn]
    exact Bool.false_ne_true
  have hkept := (keepsBilled_flushLogs (powerfailSave s)).trans (keepsBilled_te0GoesOn _)
  rw [powerfailSave_eq hnone hsaved hnext hlast, applyPartial_fresh hfresh] at hkept
  obtain ⟨⟨hin, -⟩, hplace⟩ := applySecond_applies (sec := sec) (fun _ => lt_of_mem_fresh) hd (summariesTaken 0x52 sec s)
  obtain ⟨hbo, hlsec, hclosed⟩ := closeBilling_closes (applySecond sec (fresh 0x52 sec s) (summariesTaken 0x52 sec s))
  rw [powerfailSave_eq hnone hsaved hnext hlast, applyPartial_fresh hfresh] at hexec
  have hdown : (te0GoesOn (flushLogs (closeBilling (applySecond sec (fresh 0x52 sec s) (summariesTaken 0x52 sec s))))).bill.closed = true :=
    hkept.closed.trans hclosed
  obtain ⟨-, hsec, -⟩ := Bill.of_place hplace
  refine ⟨_, hexec, fun u hu => ?_, hkept.lsec.trans (hlsec.trans hsec), hdown, ?_, ?_⟩
  · exact ((hkept.regs u.o).trans (hbo u.o)).trans (hin u hu).1
  · exact congrArg Host.Outcome.next (if_neg (by rw [billingUp_closed hdown]; exact Bool.false_ne_true))
  · exact if_pos (by rw [billingUp_closed hdown]; rfl)

end Sys2Proof.Machine
end

section
/-!
Bytes of MRAM after a write, and the billing slots (R226).
-/
namespace Sys2Proof.Machine
open Sys2Proof.Claims

/-! ### Bytes of MRAM after a write -/

section
variable {α : Type}

theorem SMap.get_append_left (d : α) {m n : SMap α} {b : Nat} (h : ∀ e ∈ n, e.1 ≠ b) : SMap.get d (m ++ n) b = SMap.get d m b := by
  induction m with
  | nil =>
    induction n with
    | nil => rfl
    | cons e n ih =>
      obtain ⟨he, hn⟩ := List.forall_mem_cons.1 h
      exact (if_neg (Ne.symm he)).trans (ih hn)
  | cons e m ih => rw [List.cons_append, SMap.get, SMap.get, ih]

theorem SMap.get_append_right (d : α) {m n : SMap α} {b : Nat} (h : ∀ e ∈ m, e.1 ≠ b) : SMap.get d (m ++ n) b = SMap.get d n b := by
  induction m with
  | nil => rfl
  | cons e m ih =>
    obtain ⟨he, hm⟩ := List.forall_mem_cons.1 h
    exact (if_neg (Ne.symm he)).trans (ih hm)

theorem SMap.get_putN [DecidableEq α] (d : α) (m : SMap α) (a : Nat) (vs : List α) (b : Nat) :
    SMap.get d (SMap.putN d m a vs) b = if a ≤ b ∧ b < a + vs.length then vs.getD (b - a) d else SMap.get d m b := by
  have hlow : ∀ e ∈ m.filter fun e => decide (e.1 < a), e.1 < a := fun e he => of_decide_eq_true (List.mem_filter.1 he).2
  have hcells : ∀ e ∈ SMap.cells d a vs, a ≤ e.1 ∧ e.1 < a + vs.length := (SMap.cells_wf d vs a).2
  have hhigh : ∀ e ∈ m.filter fun e => decide (a + vs.length ≤ e.1), a + vs.length ≤ e.1 :=
    fun e he => of_decide_eq_true (List.mem_filter.1 he).2
  unfold SMap.putN
  by_cases hb : b < a
  · rw [if_neg (by omega), SMap.get_append_left d fun e he => by have := hhigh e he; omega,
      SMap.get_append_left d fun e he => by have := hcells e he; omega, SMap.get_filter d m (fun k => decide (k < a)), if_pos (decide_eq_true hb)]
  · by_cases hin : b < a + vs.length
    · rw [if_pos ⟨by omega, hin⟩, SMap.get_append_left d fun e he => by have := hhigh e he; omega,
        SMap.get_append_right d fun e he => by have := hlow e he; omega, SMap.get_cells, if_neg hb]
    · rw [if_neg (by omega), List.append_assoc, SMap.get_append_right d fun e he => by have := hlow e he; omega,
        SMap.get_append_right d fun e he => by have := hcells e he; omega,
        SMap.get_filter d m (fun k => decide (a + vs.length ≤ k)), if_pos (decide_eq_true (by omega))]

theorem SMap.getN_eq_map (d : α) (m : SMap α) (a n : Nat) : SMap.getN d m a n = (List.range n).map fun k => SMap.get d m (a + k) := by
  induction n generalizing a with
  | zero => rfl
  | succ n ih =>
    rw [SMap.getN, ih, List.range_succ_eq_map, List.map_cons, List.map_map]
    simp only [Function.comp_def, Nat.add_zero, Nat.succ_eq_add_one, Nat.add_right_comm a 1, ← Nat.add_assoc]

theorem SMap.getN_congr {d : α} {m m' : SMap α} {a n : Nat} (h : ∀ b, a ≤ b → b < a + n → SMap.get d m' b = SMap.get d m b) :
    SMap.getN d m' a n = SMap.getN d m a n := by
  rw [SMap.getN_eq_map, SMap.getN_eq_map]
  exact List.map_congr_left fun k hk => h _ (by omega) (by have := List.mem_range.1 hk; omega)

theorem SMap.getN_putN_same [DecidableEq α] (d : α) (m : SMap α) (a : Nat) {n : Nat} {vs : List α} (h : n ≤ vs.length) :
    SMap.getN d (SMap.putN d m a vs) a n = vs.take n := by
  rw [SMap.getN_eq_map]
  refine List.ext_getElem (by simp [h]) fun k hk _ => ?_
  have hkn : k < n := by simpa using hk
  rw [List.getElem_map, List.getElem_range, SMap.get_putN, if_pos (by omega), Nat.add_sub_cancel_left, List.getElem_take]
  exact List.getD_eq_getElem vs d (by omega)

theorem SMap.getN_putN_apart [DecidableEq α] (d : α) (m : SMap α) {a b n : Nat} {vs : List α} (h : b + n ≤ a ∨ a + vs.length ≤ b) :
    SMap.getN d (SMap.putN d m a vs) b n = SMap.getN d m b n :=
  SMap.getN_congr fun k hk hk' => by rw [SMap.get_putN, if_neg (by omega)]

end

theorem CheckOnly.mram {s t : State} (h : CheckOnly s t) : t.mram = s.mram := by
  obtain ⟨⟨r, rfl⟩, -⟩ := h
  rfl

theorem te0Wr_mram (off : Nat) (bs : List Byte) (s : State) : (te0Wr off bs s).mram = SMap.putN 0 s.mram off bs :=
  (checkOnly_ckSpan true (0x40000000 + off) bs (mramWr off bs s)).mram

theorem mramRdN_te0Wr_same (off : Nat) {n : Nat} {bs : List Byte} (h : n ≤ bs.length) (s : State) :
    mramRdN (te0Wr off bs s) off n = bs.take n := by
  rw [mramRdN, te0Wr_mram, SMap.getN_putN_same 0 _ _ h]

theorem mramRdN_te0Wr_apart {off a n : Nat} {bs : List Byte} (h : a + n ≤ off ∨ off + bs.length ≤ a) (s : State) :
    mramRdN (te0Wr off bs s) a n = mramRdN s a n := by
  rw [mramRdN, te0Wr_mram, SMap.getN_putN_apart 0 _ h, mramRdN]

theorem mramRdN_of_mram {s t : State} (h : t.mram = s.mram) (a n : Nat) : mramRdN t a n = mramRdN s a n := by rw [mramRdN, h, mramRdN]

/-! ### Numbers as bytes (R7), and the CRC-32 as four bytes -/

theorem length_leBytes (n v : Nat) : (leBytes n v).length = n := by
  induction n generalizing v with
  | zero => rfl
  | succ n ih => rw [leBytes, List.length_cons, ih]

theorem leNat_leBytes (n v : Nat) : leNat (leBytes n v) = v % 256 ^ n := by
  induction n generalizing v with
  | zero => exact (Nat.mod_one v).symm
  | succ n ih =>
    rw [leBytes, leNat, ih, show 256 ^ (n + 1) = 256 * 256 ^ n from Nat.pow_succ', Nat.mod_mul]
    rfl

theorem leNat_zeros {bs : List Byte} (h : ∀ b ∈ bs, b = 0) : leNat bs = 0 := by
  induction bs with
  | nil => rfl
  | cons b bs ih =>
    obtain ⟨rfl, hbs⟩ := List.forall_mem_cons.1 h
    rw [leNat, ih hbs]
    rfl

theorem reflectBits_lt (w v : Nat) : reflectBits w v < 2 ^ w := by
  induction w generalizing v with
  | zero => exact Nat.one_pos
  | succ w ih =>
    have hrest := ih (v / 2)
    have hbit : v % 2 * 2 ^ w ≤ 1 * 2 ^ w := Nat.mul_le_mul_right _ (by omega)
    rw [reflectBits, Nat.pow_succ]
    omega

theorem crc32_lt (bs : List Byte) : crc32 bs < 256 ^ 4 := Nat.xor_lt_two_pow (n := 32) (reflectBits_lt _ _) (by decide)

/-! ### Slots (R226) -/

theorem slotBytes_starts (seq kind : Nat) (s : State) : ∃ rest, slotBytes seq kind s = leBytes 4 seq ++ rest :=
  ⟨_, by simp only [slotBytes, List.append_assoc]; rfl⟩

/-- A slot of a number that is not 0 is not all zeros. -/
theorem slotBytes_any {seq : Nat} (hpos : seq ≠ 0) (hlt : seq < 256 ^ 4) (kind : Nat) (s : State) (crc : List Byte) :
    ((slotBytes seq kind s ++ crc).any fun x => x != 0) = true := by
  obtain ⟨rest, hrest⟩ := slotBytes_starts seq kind s
  by_contra hnone
  rw [Bool.not_eq_true, List.any_eq_false, hrest] at hnone
  have hzero : ∀ b ∈ leBytes 4 seq, b = 0 := fun b hb => by
    simpa using hnone b (List.mem_append_left _ (List.mem_append_left _ hb))
  have hval := leNat_leBytes 4 seq
  rw [leNat_zeros hzero, Nat.mod_eq_of_lt hlt] at hval
  exact hpos hval.symm

/-- The next slot is written where its number says; nothing else of MRAM is. -/
theorem mramRdN_writeSlot (kind : Nat) (s : State) (a n : Nat) :
    let u := modBill (fun b => { b with lastFrame := b.newFrame }) s
    let b := slotBytes (rd R.BIL_SAVESEQ_SEQ s + 1) kind u
    mramRdN (writeSlot kind s) a n = mramRdN (te0Wr (slotBase + (rd R.BIL_SAVESEQ_SEQ s + 1) % 8 * 4096)
      (b ++ leBytes 4 (crc32 b) ++ List.replicate 444 0) u) a n := by
  unfold writeSlot
  dsimp only
  rw [rd_modBill]
  exact mramRdN_of_mram (wr_mram _ _ _) a n

theorem writeSlot_reads (kind : Nat) (s : State) (hseq : rd R.BIL_SAVESEQ_SEQ s + 1 < 2 ^ 32) :
    let b := slotBytes (rd R.BIL_SAVESEQ_SEQ s + 1) kind (modBill (fun b => { b with lastFrame := b.newFrame }) s)
    b.length = 3648 → readSlot ((rd R.BIL_SAVESEQ_SEQ s + 1) % 8) (writeSlot kind s) = some b ∧
    ∀ i < 8, i ≠ (rd R.BIL_SAVESEQ_SEQ s + 1) % 8 → readSlot i (writeSlot kind s) = readSlot i s := by
  intro b hlen
  have hcrc : (leBytes 4 (crc32 b)).length = 4 := length_leBytes _ _
  have hall : (b ++ leBytes 4 (crc32 b) ++ List.replicate 444 0).length = 4096 := by
    rw [List.length_append, List.length_append, hlen, hcrc, List.length_replicate]
  constructor
  · have hread : mramRdN (writeSlot kind s) (slotBase + (rd R.BIL_SAVESEQ_SEQ s + 1) % 8 * 4096) 3652 = b ++ leBytes 4 (crc32 b) := by
      rw [mramRdN_writeSlot, mramRdN_te0Wr_same _ (by rw [hall]; omega), List.take_left' (by rw [List.length_append, hlen, hcrc])]
    have hvalid : leNat (leBytes 4 (crc32 b)) = crc32 b := by rw [leNat_leBytes, Nat.mod_eq_of_lt (crc32_lt b)]
    unfold readSlot
    rw [hread]
    dsimp only
    rw [List.drop_left' hlen, List.take_left' hlen, if_pos ⟨hvalid, slotBytes_any (Nat.succ_ne_zero _) hseq _ _ _⟩]
  · intro i hi hne
    have hread : mramRdN (writeSlot kind s) (slotBase + i * 4096) 3652 = mramRdN s (slotBase + i * 4096) 3652 := by
      rw [mramRdN_writeSlot, mramRdN_te0Wr_apart (by rw [hall]; omega)]
      rfl
    unfold readSlot
    rw [hread]

end Sys2Proof.Machine
end

section
/-!
O39: TE0 applies summaries, saves, and resumes billing at a start (R206 to R208, R226 to R230).
-/
namespace Sys2Proof.Machine
open Sys2Proof.Claims

/-! ### A start resumes from the newest slot (R229, R230) -/

/-- A loop over the outlets that gives each outlet in it its registers. -/
theorem regs_forEach_outlet {f : Nat → State → State} {v : Nat → List Nat} (hown : ∀ o s, (getBo o (f o s)).regs = v o)
    (hother : ∀ {o k}, o8 k ≠ o8 o → ∀ s, (getBo k (f o s)).regs = (getBo k s).regs) {l : List Nat} (hl : ∀ o ∈ l, o < 8)
    {o : Nat} (ho : o ∈ l)
    (s : State) : (getBo o (forEach l f s)).regs = v o := by
  induction l using List.reverseRecOn with
  | nil => exact absurd ho List.not_mem_nil
  | append_singleton l a ih =>
    have hstep : forEach (l ++ [a]) f s = f a (forEach l f s) := List.foldl_append
    rw [hstep]
    by_cases hoa : o = a
    · rw [hoa, hown]
    · have hmem : o ∈ l := (List.mem_append.1 ho).resolve_right fun h => hoa (List.mem_singleton.1 h)
      rw [hother (o8_ne (hl a (by simp)) (hl o ho) hoa), ih (fun k hk => hl k (List.mem_append_left _ hk)) hmem]

/-- The registers a slot holds of an outlet (R226). -/
def slotRegs (slot : List Byte) (o : Nat) : List Nat := (List.range 8).map fun k => sl (slot.drop (64 + 448 * o)) (0 + 12 * k) 12

theorem getD_slotRegs (slot : List Byte) (o : Nat) {k : Nat} (hk : k < 8) : (slotRegs slot o).getD k 0 = sl slot (64 + 448 * o + 12 * k) 12 := by
  have hlen : k < (slotRegs slot o).length := by simpa [slotRegs] using hk
  rw [List.getD_eq_getElem _ _ hlen]
  simp [slotRegs, sl, List.drop_drop]

/-- One outlet's state is taken from a slot. -/
def outletLoaded (slot : List Byte) (o : Nat) (s : State) : State :=
  let s := setBo o (outletFrom slot o (calOn s) (getBo o s)) s
  if metType o s = 0 then noInterval o s else s

theorem outletLoaded_takes (slot : List Byte) (o : Nat) (s : State) :
    ∃ b : BOut, b.regs = slotRegs slot o ∧ KeepsBilled (setBo o b s) (outletLoaded slot o s) :=
  ⟨outletFrom slot o (calOn s) (getBo o s), rfl, .ite (.modBo _) (.refl _)⟩

theorem regs_outletLoaded_same (slot : List Byte) (o : Nat) (s : State) : (getBo o (outletLoaded slot o s)).regs = slotRegs slot o := by
  obtain ⟨b, hregs, hb⟩ := outletLoaded_takes slot o s
  rw [hb.regs, getBo_setBo_same, hregs]

theorem regs_outletLoaded_ne {o k : Nat} (h : o8 k ≠ o8 o) (slot : List Byte) (s : State) :
    (getBo k (outletLoaded slot o s)).regs = (getBo k s).regs := by
  obtain ⟨b, -, hb⟩ := outletLoaded_takes slot o s
  rw [hb.regs, getBo_setBo_ne h]

theorem resumed_outletLoaded (slot : List Byte) (o : Nat) (s : State) : (outletLoaded slot o s).bill.resumed = s.bill.resumed := by
  obtain ⟨b, -, hb⟩ := outletLoaded_takes slot o s
  rw [hb.resumed, setBo]

theorem keepsBilled_rateFrom (o : Nat) (s : State) : KeepsBilled s (rateFrom o s) := by
  unfold rateFrom
  extract_lets r s1 k
  have hrate : KeepsBilled s s1 := .ite (.modBo s) (.refl s)
  exact hrate.trans (.modBo s1)

theorem getBo_modBill {f : Bill → Bill} (hf : ∀ b, (f b).outs = b.outs) (o : Nat) (s : State) : getBo o (modBill f s) = getBo o s := by
  simp only [getBo, modBill, hf]

theorem loadSlot_takes (slot : List Byte) (s : State) :
    (∀ o < 8, (getBo o (loadSlot slot s)).regs = slotRegs slot o) ∧
      (loadSlot slot s).bill.place = (sl slot 14 6, sl slot 8 6, true, false, s.bill.resumed) := by
  unfold loadSlot
  extract_lets f g s1 s2 hw t s3
  have hloaded : s1 = forEach outlets (outletLoaded slot) s := rfl
  have hregs : ∀ o < 8, (getBo o s1).regs = slotRegs slot o := fun o ho => by
    rw [hloaded]
    exact regs_forEach_outlet (regs_outletLoaded_same slot) (fun h => regs_outletLoaded_ne h slot) (by decide) (by
      simp only [outlets, List.mem_cons, List.not_mem_nil, or_false]
      omega) s
  have hresumed : s1.bill.resumed = s.bill.resumed := by
    rw [hloaded]
    exact forEach_keeps (fun s => s.bill.resumed) _ _ (fun o _ s => resumed_outletLoaded slot o s) s
  have hwritten : KeepsBilled s1 s2 := .wrs _ s1
  have hplace : s3.bill.place = (t, sl slot 8 6, true, false, s2.bill.resumed) := by dsimp only [s3, modBill, Bill.place]
  have hsame : ∀ o, (getBo o s3).regs = (getBo o s2).regs := fun o => congrArg BOut.regs (getBo_modBill (by intro b; dsimp only) o s2)
  have hshown : KeepsBilled s3 _ := (KeepsBilled.forEach outlets rateFrom keepsBilled_rateFrom s3).trans (keepsBilled_showBilling _)
  refine ⟨fun o ho => ?_, ?_⟩
  · rw [hshown.regs, hsame, hwritten.regs, hregs o ho]
  · rw [hshown.2, hplace, hwritten.resumed, hresumed]

theorem keepsBilled_saveGap (slots : List (List Byte)) (s : State) : KeepsBilled s (saveGap slots s) := by
  unfold saveGap
  split
  · exact .refl s
  · extract_lets t s1 s2 s3 w from_ known
    have hbundle : KeepsBilled s s1 := .ite ((keepsBilled_closures _ _ s).trans (keepsBilled_writeSlot _ _)) (.refl s)
    have hmarked : KeepsBilled s1 s2 := .forEach _ _ (fun _ s => .modBo s) s1
    have hcounted : KeepsBilled s2 s3 := .wr _ _ s2
    refine ((hbundle.trans hmarked).trans hcounted).trans (.forEach _ _ (fun o s => ?_) s3)
    exact .ite (.logEvent _ (by decide) _ _ s) (.logEvent _ (by decide) _ _ s)

theorem validSlots_of_mram {s t : State} (h : t.mram = s.mram) : validSlots t = validSlots s := by
  have hread : ∀ i, readSlot i t = readSlot i s := fun i => by rw [readSlot, mramRdN_of_mram h, readSlot]
  simp only [validSlots, hread]

/-- The reading counter is known, and billing goes on from here. -/
def billingStarts (s : State) : State := modBill (fun b => { b with loaded := true, resumed := true }) (loadCounter s)

theorem billingStarts_mram (s : State) : (billingStarts s).mram = s.mram := by
  rw [billingStarts, modBill_mram, loadCounter, modBill_mram]

/-- What the start of billing does with the newest slot. -/
def billingResumed (a : List Byte) (rest : List (List Byte)) (s : State) : State :=
  let s := loadSlot a s
  let s := setInv s.bill.invalid s
  let s := forEach outlets (fun o => modBo o (fun b => { b with ivF := if b.ivOpen then b.ivF ||| 2 ^ 10 else b.ivF })) s
  let s := if 2 ≤ sl a 4 1 then s else saveGap (a :: rest) s
  showBilling (forEach outlets (fun o => endSession o true) s)

theorem exec_billingRestart_full {s : State} {a : List Byte} {rest : List (List Byte)} (hup : te0Up s = true) (hrec : recovery s = false)
    (hbad : s.upd.bad.getD 2 false = false) (hnew : s.bill.resumed = false) (hfull : s.bill.loaded = false) (hslots : validSlots s = a :: rest) :
    exec .billingRestart s = .next (billingResumed a rest (billingStarts s)) := by
  have hslots' : validSlots (billingStarts s) = a :: rest := (validSlots_of_mram (billingStarts_mram s)).trans hslots
  show execBillingRestart s = _
  unfold execBillingRestart
  rw [hup, hrec, hbad, hnew, hfull]
  dsimp only
  rw [show modBill (fun b => { b with loaded := true, resumed := true }) (loadCounter s) = billingStarts s from rfl, hslots']
  rfl

theorem billingRestart_yields (s : State) (a : List Byte) (rest : List (List Byte)) (hup : te0Up s = true) (hrec : recovery s = false)
    (hbad : s.upd.bad.getD 2 false = false) (hnew : s.bill.resumed = false) (hfull : s.bill.loaded = false) (hslots : validSlots s = a :: rest) :
    Yields .billingRestart s fun t =>
      (∀ o < 8, ∀ k < 8, (getBo o t).regs.getD k 0 = sl a (64 + 448 * o + 12 * k) 12) ∧
      t.bill.t = sl a 14 6 ∧ t.bill.lsec = sl a 8 6 ∧ t.bill.closed = false ∧ t.bill.resumed = true := by
  refine ⟨_, exec_billingRestart_full hup hrec hbad hnew hfull hslots, ?_⟩
  obtain ⟨hregs, hplace⟩ := loadSlot_takes a (billingStarts s)
  have hkept : KeepsBilled (loadSlot a (billingStarts s)) (billingResumed a rest (billingStarts s)) := by
    unfold billingResumed
    extract_lets s1 s2 s3 s4
    have hclock : KeepsBilled s1 s2 := (regsOnly_setInv _ s1).keepsBilled
    have hmarked : KeepsBilled s2 s3 := .forEach _ _ (fun _ s => .modBo s) s2
    have hgap : KeepsBilled s3 s4 := .ite (.refl s3) (keepsBilled_saveGap _ s3)
    have hended : KeepsBilled s4 _ := .forEach outlets (fun o => endSession o true) (fun _ s => keepsBilled_endSession _ _ s) s4
    exact (((hclock.trans hmarked).trans hgap).trans hended).trans (keepsBilled_showBilling _)
  obtain ⟨htime, hlsec, -, hclosed, hresumed⟩ := Bill.of_place (hkept.2.trans hplace)
  refine ⟨fun o ho k hk => ?_, htime, hlsec, hclosed, hresumed⟩
  rw [hkept.regs, hregs o ho, getD_slotRegs a o hk]

/-- Settles O39: what is applied is `Applies`, which no save, closure or later event touches (`KeepsBilled`); a slot reads back by
the bytes of MRAM after a write, and a start takes it by `loadSlot_takes`. -/
theorem billingAppliesSavesAndRestarts : Obligations.BillingAppliesSavesAndRestarts := by
  unfold Obligations.BillingAppliesSavesAndRestarts
  exact ⟨summaryApply_yields, summaryApply_stale, powerfailSummaryApply_yields, writeSlot_reads, billingRestart_yields⟩

end Sys2Proof.Machine
end

section
/-!
O40: the billing requests of the host (R231, R234 to R240): what TE0 looks at when it takes one, how its completion leaves, and
what a reading leaves behind.
-/
namespace Sys2Proof.Machine
open Sys2Proof.Claims

/-! ### What a queue operation leaves of the conditions of a billing request -/

section
variable {s u : State} (h : QueueOnly s u)
include h

theorem QueueOnly.vault : u.vault = s.vault := by
  have hs := congrArg State.vault h.1
  exact hs

theorem QueueOnly.upd : u.upd = s.upd := by
  have hs := congrArg State.upd h.1
  exact hs

theorem QueueOnly.calPend : u.calPend = s.calPend := by
  have hs := congrArg State.calPend h.1
  exact hs

theorem QueueOnly.calAct : u.calAct = s.calAct := by
  have hs := congrArg State.calAct h.1
  exact hs

theorem QueueOnly.getBo (o : Nat) : getBo o u = getBo o s := getBo_of_bill h.bill o

theorem QueueOnly.te15Up : te15Up u = te15Up s := congrArg (· == 3) (h.log.engState 15)

theorem QueueOnly.lifeState : lifeState u = lifeState s := h.rd_above_queues (by decide) (by decide) (by decide)

theorem QueueOnly.isScrapped : isScrapped u = isScrapped s := congrArg (· == 4) h.lifeState

theorem QueueOnly.wiping : wiping u = wiping s := congrArg (· == 1) (h.rd_above_queues (by decide) (by decide) (by decide))

theorem QueueOnly.drbgFailed : flag R.GV_VSTAT_DRBGF u = flag R.GV_VSTAT_DRBGF s :=
  congrArg (· == 1) (h.rd_above_queues (by decide) (by decide) (by decide))

theorem QueueOnly.canSign : canSign u = canSign s := by
  have hvalid : rd (R.GV_SLOT_VALID 0) u = rd (R.GV_SLOT_VALID 0) s := h.rd_above_queues (by decide) (by decide) (by decide)
  have hattr : rd (R.GV_SLOT_ATTR 0) u = rd (R.GV_SLOT_ATTR 0) s := h.rd_above_queues (by decide) (by decide) (by decide)
  have howner : rd (R.GV_SLOT_OWNER 0) u = rd (R.GV_SLOT_OWNER 0) s := h.rd_above_queues (by decide) (by decide) (by decide)
  have hslot : slotFor 0 5 1 u = slotFor 0 5 1 s := by simp only [slotFor, flag, hvalid, hattr, howner]
  rw [Machine.canSign, h.drbgFailed, hslot, h.te15Up, Machine.canSign]

theorem QueueOnly.billFault (o : Nat) : billFault o u = billFault o s := by rw [Machine.billFault, h.upd, h.pairStopped, Machine.billFault]

theorem QueueOnly.vaultFault : vaultFault false u = vaultFault false s := by rw [Machine.vaultFault, h.vault, h.drbgFailed, Machine.vaultFault]

theorem QueueOnly.tariffAuth : tariffAuth u = tariffAuth s := by rw [Machine.tariffAuth, mramRdN_of_mram h.mram, Machine.tariffAuth]

/-- The anchors there are have their registers in GV, above those of the queues. -/
theorem QueueOnly.rd_anchor {a k lsb wid rst : Nat} {acc : Acc} (ha : a ≤ 5) (hk : k < 16) (hl : lsb < 32) :
    rd ⟨0x1A000200 + k + a * 0x10, lsb, wid, rst, acc⟩ u = rd ⟨0x1A000200 + k + a * 0x10, lsb, wid, rst, acc⟩ s :=
  h.rd_above_queues hl (by dsimp only; omega) (by simp only [Fld.block]; omega)

theorem QueueOnly.anchorLoaded {a : Nat} (ha : a ≤ 5) : anchorLoaded a u = anchorLoaded a s :=
  congrArg (· == 1) (h.rd_anchor (k := 0) ha (by decide) (by decide))

theorem QueueOnly.anchorVerifies {a : Nat} (ha : a ≤ 5) (msg sig : List Byte) : anchorVerifies a msg sig u = anchorVerifies a msg sig s := by
  have hcurve : anchorCurve a u = anchorCurve a s := h.rd_anchor (k := 0) ha (by decide) (by decide)
  simp only [Machine.anchorVerifies, hcurve, h.vault]

theorem QueueOnly.calBad (c : List Byte) : calBad c u = calBad c s := by
  have hanchor : Machine.anchorLoaded 3 u = Machine.anchorLoaded 3 s := h.anchorLoaded (by decide)
  simp only [Machine.calBad, hanchor, h.anchorVerifies (show 3 ≤ 5 by decide)]

theorem QueueOnly.authStale {a : Auth} (ha : a.anchor ≤ 5) : authStale a u = authStale a s := by
  have hcount : rd (R.GV_ANCCNT_CNT a.anchor) u = rd (R.GV_ANCCNT_CNT a.anchor) s := h.rd_anchor (k := 4) ha (by decide) (by decide)
  rw [Machine.authStale, hcount, Machine.authStale]

theorem QueueOnly.authDenied {a : Auth} (ha : a.anchor ≤ 5) (purpose : Nat) (plenOk anchorOk : Bool) :
    authDenied a purpose plenOk anchorOk u = authDenied a purpose plenOk anchorOk s := by
  simp only [Machine.authDenied, h.anchorLoaded ha, h.anchorVerifies ha]

theorem QueueOnly.readingBody (o trigger content counter : Nat) :
    readingBody o trigger content counter u = readingBody o trigger content counter s := by
  have hpair : Machine.pairDuplex (pairOf o) u = Machine.pairDuplex (pairOf o) s := h.pairDuplex (by unfold pairOf; split <;> decide)
  have hseal : rd R.LIFE_SEAL_CNT u = rd R.LIFE_SEAL_CNT s := h.rd_above_queues (by decide) (by decide) (by decide)
  have hlegal : rd R.UPD_LEGALVER_V u = rd R.UPD_LEGALVER_V s := h.rd_above_queues (by decide) (by decide) (by decide)
  simp only [Machine.readingBody, h.bill, h.getBo, h.lifeState, hpair, hseal, hlegal]

end

/-- An authorisation that is not denied names one of the six anchors (R399). -/
theorem anchor_le_of_not_denied {a : Auth} {purpose : Nat} {plenOk anchorOk : Bool} {s : State}
    (h : authDenied a purpose plenOk anchorOk s = false) : a.anchor ≤ 5 := by
  simp only [authDenied, Bool.or_eq_false_iff, decide_eq_false_iff_not] at h
  omega

/-! ### A request is taken -/

theorem queueOnly_received (n : Fin 8) (t : Nat) (w0 w1 : W24) (cs : List Cont) (s : State) : QueueOnly s (received n t w0 w1 cs s) :=
  (queueOnly_arrive _ _ s).trans (queueOnly_owe _ _ _ _ _)

/-- TE0 acts at once on a billing request that none of its conditions refuses. -/
theorem billReq_served {n : Fin 8} {s : State} (h : BillServed n s) (t : Nat) (w0 w1 : W24) (cs : List Cont) {status : State → Nat}
    (act : State → State) (hok : status (received n t w0 w1 cs s) = stOK) :
    billReq n t w0 w1 cs status act s = act (received n t w0 w1 cs s) := by
  obtain ⟨⟨hen, hclear, hup, hact, hrec, hbill⟩, hsign, -, hresumed⟩ := h
  unfold billReq
  rw [hostReq_served _ hen (by rw [canTake, hclear, Bool.or_true]) hup hact (.inl hrec) hbill (by rw [hsign, hresumed]; rfl)]
  exact if_pos hok

theorem billFault_served {n : Fin 8} {s : State} (h : BillServed n s) (o : Nat) (hpair : o < 8 → pairStopped (pairOf o) s = false) :
    billFault o s = false := by
  obtain ⟨-, -, hbad, -⟩ := h
  rw [billFault, hbad, Bool.false_or, Bool.and_eq_false_imp]
  exact fun ho => hpair (of_decide_eq_true ho)

/-! ### Its completion leaves (R98) -/

theorem CheckOnly.owed {s t : State} (h : CheckOnly s t) : t.owed = s.owed := by
  obtain ⟨⟨r, rfl⟩, -⟩ := h
  rfl

theorem owed_enterNow (q : Nat) (m : Msg) (s : State) : (enterNow q m s).owed = s.owed := by
  rw [enterNow, modQ_owed, (checkOnly_ckQueue q _ m s).owed]

theorem owed_drainLate (q : Nat) (ms : List Msg) (s : State) : (drainLate q ms s).owed = s.owed := by
  induction ms generalizing s with
  | nil => rfl
  | cons m ms ih =>
    rw [drainLate]
    split
    · rfl
    · rw [ih, owed_enterNow]

theorem owed_corrected (q : Nat) (es : List (Byte × Msg)) (s : State) : (corrected q es s).owed = s.owed := by
  unfold corrected
  dsimp only
  split <;> rfl

theorem owed_takeN (q k : Nat) (s : State) : (takeN q k s).owed = s.owed := by
  rw [takeN, settle, owed_drainLate, setQ_owed, owed_corrected]

theorem owed_passQ (q : Nat) (ms : List Msg) (s : State) : (passQ q ms s).owed = s.owed := by
  unfold passQ
  split
  · rw [owed_takeN]
    exact forEach_keeps State.owed _ _ (fun m _ s => owed_enterNow q m s) s
  · rfl

theorem owed_arrive (q : Nat) (ms : List Msg) (s : State) : (arrive q ms s).owed = s.owed := by
  unfold arrive
  split
  · exact owed_takeN q _ s
  · exact owed_passQ q ms s

theorem owed_putQ (q : Nat) (m : Msg) (s : State) : (putQ q m s).owed = s.owed := by
  unfold putQ
  split
  · rfl
  · split
    · exact owed_enterNow q m s
    · rfl

/-- The completion queue of the host's queue `n`, and the completions owed, stay as they are. -/
def KeepsReply (n : Nat) (s t : State) : Prop := getQ (qn (8 + n)) t = getQ (qn (8 + n)) s ∧ t.owed = s.owed

namespace KeepsReply
variable {n : Nat}

theorem refl (s : State) : KeepsReply n s s := ⟨rfl, rfl⟩

theorem trans {s t u : State} (h : KeepsReply n s t) (k : KeepsReply n t u) : KeepsReply n s u := ⟨k.1.trans h.1, k.2.trans h.2⟩

theorem passQ {q : Nat} (h : qn (8 + n) ≠ qn q) (ms : List Msg) (s : State) : KeepsReply n s (passQ q ms s) :=
  ⟨getQ_passQ_ne h ms s, owed_passQ q ms s⟩

theorem putQ {q : Nat} (h : qn (8 + n) ≠ qn q) (m : Msg) (s : State) : KeepsReply n s (putQ q m s) :=
  ⟨getQ_putQ_ne h m s, owed_putQ q m s⟩

theorem checkOnly {s t : State} (h : CheckOnly s t) : KeepsReply n s t := ⟨h.getQ _, h.owed⟩

theorem regsOnly {s t : State} (h : RegsOnly s t) : KeepsReply n s t := ⟨by rw [Machine.getQ, h.qs, Machine.getQ], h.owed⟩

theorem te0Wr (off : Nat) (bs : List Byte) (s : State) : KeepsReply n s (te0Wr off bs s) :=
  .trans ⟨getQ_mramWr _ off bs s, mramWr_owed off bs s⟩ (.checkOnly (checkOnly_ckSpan _ _ _ _))

theorem modBill (f : Bill → Bill) (s : State) : KeepsReply n s (modBill f s) := ⟨rfl, rfl⟩

theorem modBo (o : Nat) (f : BOut → BOut) (s : State) : KeepsReply n s (modBo o f s) := ⟨rfl, rfl⟩

end KeepsReply

theorem ent_releaseOwed_own {x : Owed} {m : Msg} {s : State} (hdone : x.done = some [m]) (hvia : x.via = none)
    (hen : (getQ (qn x.c) s).en = true) (hlate : (getQ (qn x.c) s).late = []) (hfull : (getQ (qn x.c) s).full = false) :
    (getQ (qn x.c) (releaseOwed [] [x] s)).ent = (getQ (qn x.c) s).ent ++ [((getQ (qn x.c) s).tail, m)] := by
  have hrun : releaseOwed [] [x] s = { putQ x.c m s with owed := [] } := by
    simp only [releaseOwed, hdone, hvia, List.any_nil, Option.isSome_none, Bool.false_and, Bool.or_self, Bool.false_eq_true, if_false]
    rfl
  rw [hrun]
  exact congrArg Queue.ent (getQ_putQ_open hen hlate hfull)

/-- With nothing else owed, the completion of the request that TE0 has taken for itself enters at once. -/
theorem answered_completeAs {n : Fin 8} {typ : Nat} {w0 w1 : W24} {cs : List Cont} {s u : State}
    (h : KeepsReply n (received n typ w0 w1 cs s) u) (now : Bool) (w st : Nat) :
    Answered n typ w0.toNat w st s (completeAs now (8 + n) typ w0.toNat w st [] u) := by
  obtain ⟨hq, howed⟩ := h
  intro hnone hen hlate hfull
  have hq' : getQ (qn (8 + n)) u = getQ (qn (8 + n)) s :=
    hq.trans (getQ_arrive_ne (qn_ne (by omega) (by omega) (by omega)) _ s)
  have howed' : u.owed = [⟨8 + n, n, none, typ, w0.toNat, none, true, true⟩] := by
    rw [howed, received, owe, owed_arrive, hnone]
    rfl
  rw [← hq'] at hen hlate hfull ⊢
  have hrun : completeAs now (8 + n) typ w0.toNat w st [] u =
      let l : List Owed := [⟨8 + n, n, none, typ, w0.toNat, some [mkMsg (typ + 0x80) w0.toNat (w / 256 * 256 + st)], true, true⟩]
      releaseOwed [] l { u with owed := l } := by
    unfold completeAs settleOwed
    rw [howed']
    cases now <;> simp [markOwed]
  rw [hrun]
  exact ent_releaseOwed_own rfl rfl hen hlate hfull

theorem answered_of_getQ {n typ w0 w st : Nat} {s t u : State} (h : Answered n typ w0 w st s t) (k : getQ (qn (8 + n)) u = getQ (qn (8 + n)) t) :
    Answered n typ w0 w st s u := fun hnone hen hlate hfull => by rw [k, h hnone hen hlate hfull]

theorem KeepsBilled.billRegsKept {s t : State} (h : KeepsBilled s t) : BillRegsKept s t := fun o _ => ⟨h.regs o, h.timp o⟩

end Sys2Proof.Machine
end

section
/-!
O40: what a reading leaves behind (R235 to R238), what an authorisation spends (R399, R401), and each billing request (R231, R239).
-/
namespace Sys2Proof.Machine
open Sys2Proof.Claims

/-! ### A reading is made (R236 to R238) -/

theorem makeReading_names {s : State} (h : canSign s = true) (o trigger content : Nat) :
    (makeReading o trigger content s).2 = some (s.bill.counter % 64, s.bill.counter + 1) := by
  rw [makeReading, h]
  rfl

/-- A reading without an event enters no queue but that of TE15; the event of any other enters Q8. -/
theorem keepsReply_makeReading {n trigger : Nat} (hn : n < 8) (h : trigger = 0 ∨ n ≠ 0) (o content : Nat) (s : State) :
    KeepsReply n s (makeReading o trigger content s).1 := by
  unfold makeReading
  split
  · exact .refl s
  · extract_lets cnt slot body g s1 seq s2 s3 s4 s5
    have hasked : KeepsReply n s (transit 112 0 0x24 0 0 s) :=
      (KeepsReply.passQ (qn_ne (by omega) (by omega) (by omega)) _ s).trans (.passQ (qn_ne (by omega) (by omega) (by omega)) _ _)
    have hwritten : KeepsReply n g.2 s2 := (KeepsReply.te0Wr _ _ _).trans (.te0Wr _ _ _)
    have hcounted : KeepsReply n s2 s3 := (KeepsReply.modBill _ s2).trans (.regsOnly (regsOnly_showCounter _))
    have htold : KeepsReply n s4 s5 := by
      dsimp only [s5]
      split
      · exact .refl s4
      · exact .putQ (qn_ne (by omega) (by omega) (by omega)) _ s4
    exact ((hasked.trans ⟨rfl, rfl⟩).trans hwritten).trans ((hcounted.trans (.modBo o _ s3)).trans htold)

theorem modBo_counter (o : Nat) (f : BOut → BOut) (s : State) : (modBo o f s).bill.counter = s.bill.counter := rfl

theorem modBo_mram (o : Nat) (f : BOut → BOut) (s : State) : (modBo o f s).mram = s.mram := rfl

/-- R237, R238: the counter goes on by one, and the body stands in the buffer, clear of the counter's own record. -/
theorem makeReading_stores {s : State} (h : canSign s = true) (o trigger content : Nat) :
    (makeReading o trigger content s).1.bill.counter = s.bill.counter + 1 ∧
      let body := readingBody o trigger content (s.bill.counter + 1) s
      body.length = 160 → mramRdN (makeReading o trigger content s).1 (rdBase + s.bill.counter % 64 * 256) 160 = body := by
  unfold makeReading
  rw [if_neg (by rw [h]; decide)]
  extract_lets cnt slot body g s1 seq s2 s3 s4 s5
  have hshown : RegsOnly (modBill (fun b => { b with counter := cnt, cntSeq := seq }) s2) s3 := regsOnly_showCounter _
  have htold : QueueOnly s4 s5 := by
    dsimp only [s5]
    split
    · exact .refl s4
    · exact queueOnly_putQ _ _ s4
  have hgap : s4.bill.counter = s3.bill.counter ∧ s4.mram = s3.mram := ⟨modBo_counter o _ s3, modBo_mram o _ s3⟩
  refine ⟨?_, fun hlen => ?_⟩
  · have hcount : (modBill (fun b => { b with counter := cnt, cntSeq := seq }) s2).bill.counter = cnt := by dsimp only [modBill]
    rw [htold.bill, hgap.1, hshown.bill, hcount]
  · have hmram : s5.mram = s2.mram := by rw [htold.mram, hgap.2, hshown.mram, modBill_mram]
    have hrecord : (counterCopy cnt seq).length = 16 := by simp only [counterCopy, List.length_append, length_leBytes]
    have hbase : rdBase = 0x068000 ∧ cntBase = 0x06C000 := ⟨rfl, rfl⟩
    have hbody : body.length = 160 := hlen
    have hslot : slot = s.bill.counter % 64 := by dsimp only [slot, cnt]; rw [Nat.add_sub_cancel]
    rw [mramRdN_of_mram hmram, mramRdN_te0Wr_apart (by omega), ← hslot,
      mramRdN_te0Wr_same _ (by simp only [List.length_append]; omega), List.append_assoc, List.take_left' hbody]

/-- R239: W1 of the completion that returns a reading: its slot and the low bits of its counter. -/
def readingWord (counter : Nat) : Nat := counter % 64 * 256 + (counter + 1) % 1024 * 2 ^ 14

theorem completeReading_signed {s : State} (h : canSign s = true) (n t w0 o trigger content : Nat) :
    completeReading n t w0 (makeReading o trigger content s) =
      complete (8 + n) t w0 (readingWord s.bill.counter) stOK (makeReading o trigger content s).1 := by
  rw [completeReading, makeReading_names h, Nat.add_comm n 8, readingWord]

theorem drbg_of_canSign {s : State} (h : canSign s = true) : flag R.GV_VSTAT_DRBGF s = false := by
  simp only [canSign, Bool.and_eq_true, Bool.not_eq_true'] at h
  exact h.1.1

theorem te15Away_of_up {s : State} (h : te15Up s = true) : te15Away s = false := by rw [te15Away, h]; rfl

/-! ### Sessions (R231, R234) -/

theorem getBo_modBo_same (o : Nat) (f : BOut → BOut) (s : State) : getBo o (modBo o f s) = f (getBo o s) := getBo_setBo_same o _ s

/-- The session that a SESSION_OPEN asks for, waiting for its first second (R231). -/
def sessAsked (n w0 kind : Nat) (bytes : List Byte) : Sess :=
  { Sess.none with op := true, id := bytes.take 16, kind := kind,
                   remaining := if kind = 1 then (leNat (bytes.drop 18) : Int) * 1000000 else if kind = 2 then (leNat (bytes.drop 18) : Int) else 0,
                   wait := some (n, w0) }

/-- An outlet has a session, and BIL shows it. -/
def sessOpened (o : Nat) (x : Sess) (s : State) : State := showOutlet o (modBo o (fun b => { b with sess := x }) s)

/-- BSTAT shows the kind of the open session (R242). -/
theorem rd_showOutlet_kind {o : Nat} {s : State} (hop : (getBo o s).sess.op = true) :
    rd (R.BIL_BSTAT_CREDKIND o) (showOutlet o s) = (getBo o s).sess.kind % 2 ^ 2 := by
  obtain ⟨t, -, hshow⟩ := showOutlet_status o s
  have hids : ∀ (v : Nat → Nat) (u : State),
      rd (R.BIL_BSTAT_CREDKIND o) (forEach [0, 1, 2, 3] (fun i => wr (R.BIL_SESSID_ID o i) (v i)) u) = rd (R.BIL_BSTAT_CREDKIND o) u := fun v u =>
    forEach_keeps (rd (R.BIL_BSTAT_CREDKIND o)) _ _ (fun i _ u => rd_wr_addr _ _ (Nat.le_of_ble_eq_true rfl) (Nat.le_of_ble_eq_true rfl) (by
      simp only [R.BIL_BSTAT_CREDKIND, R.BIL_SESSID_ID]
      omega)) u
  have hlater : ∀ g ∈ ((statusRegs o s).drop 7).map Prod.fst, (R.BIL_BSTAT_CREDKIND o).key ≠ g.key := by
    simp only [statusRegs, List.drop_succ_cons, List.drop_zero, List.map_cons, List.map_nil, List.forall_mem_cons, Fld.key, R.BIL_BSTAT_CREDKIND,
      R.BIL_IVAL_M, R.BIL_IVSEC_N, R.BIL_IVSEC_FLAGS, R.BIL_PROFCNT_N, R.BIL_CREDREM_V, R.BIL_DEBT_V, List.not_mem_nil, false_implies,
      implies_true, and_true]
    omega
  have hsplit : statusRegs o s = (statusRegs o s).take 6 ++
      (R.BIL_BSTAT_CREDKIND o, if (getBo o s).sess.op then (getBo o s).sess.kind else 0) :: (statusRegs o s).drop 7 := rfl
  have hwritten : wrs (statusRegs o s) t = wrs ((statusRegs o s).drop 7)
      (wr (R.BIL_BSTAT_CREDKIND o) (if (getBo o s).sess.op then (getBo o s).sess.kind else 0) (wrs ((statusRegs o s).take 6) t)) :=
    (congrArg (wrs · t) hsplit).trans (List.foldl_append ..)
  rw [hshow, hids, hwritten, rd_wrs_ne _ _ hlater, rd_wr_same, hop]
  rfl

theorem sessOpened_shows (o : Nat) {x : Sess} (hop : x.op = true) (s : State) :
    KeepsBilled s (sessOpened o x s) ∧ (sessOpened o x s).mram = s.mram ∧ (getBo o (sessOpened o x s)).sess = x ∧
      rd (R.BIL_BSTAT_CREDKIND o) (sessOpened o x s) = x.kind % 2 ^ 2 := by
  have hshown := regsOnly_showOutlet o (modBo o (fun b => { b with sess := x }) s)
  have hopened : (getBo o (modBo o (fun b => { b with sess := x }) s)).sess = x := by rw [getBo_modBo_same]
  refine ⟨(KeepsBilled.modBo s).trans hshown.keepsBilled, ?_, ?_, ?_⟩
  · rw [sessOpened, hshown.mram, modBo_mram]
  · rw [sessOpened, getBo_of_bill hshown.bill, hopened]
  · rw [sessOpened, rd_showOutlet_kind (by rw [hopened, hop]), hopened]

/-- The end of a session that TE15 can sign (R234): a reading of trigger 2 is made, and the SESSION_CLOSE that waits for it
completes with it. -/
theorem endSession_closes {o n w0 : Nat} {pf : Bool} {s : State} (hn : n < 8) (hop : (getBo o s).sess.op = true) (hsign : canSign s = true)
    (hwait : (getBo o s).sess.wait = none) (hclose : (getBo o s).sess.closeWait = some (n, w0)) :
    ∃ f v, endSession o pf s =
        modBo o f (complete (8 + n) 0x32 w0 (readingWord s.bill.counter) stOK v) ∧
      (∀ b, (f b).sess.op = false) ∧ v.bill.counter = s.bill.counter + 1 ∧ (n ≠ 0 → KeepsReply n s v) := by
  unfold endSession
  extract_lets se s1 s2 r s3
  have hsign1 : canSign s1 = true := hsign
  have hup1 : te15Up s1 = true := by
    simp only [canSign, Bool.and_eq_true] at hsign1
    exact hsign1.2
  have hwait' : s2 = s1 := by
    dsimp only [s2, se]
    rw [hwait]
  have hclose' : s3 = complete (8 + n) 0x32 w0 (readingWord s1.bill.counter) stOK r.1 := by
    dsimp only [s3, r, se]
    rw [hclose, hwait']
    exact completeReading_signed hsign1 n 0x32 w0 o 2 0
  have hcount : s1.bill.counter = s.bill.counter := modBo_counter o _ s
  rw [if_neg (by rw [hop]; decide), if_neg (by rw [te15Away_of_up hup1]; decide), hclose', hcount]
  refine ⟨_, r.1, rfl, fun b => rfl, ?_, fun hn0 => ?_⟩
  · dsimp only [r]
    rw [hwait', (makeReading_stores hsign1 o 2 0).1, hcount]
  · dsimp only [r]
    rw [hwait']
    exact (KeepsReply.modBo o _ s).trans (keepsReply_makeReading hn (.inr hn0) o 0 s1)

/-- A SESSION_CLOSE has been taken and waits for the end reading. -/
def closeAsked (n o w0 : Nat) (s : State) : State := modBo o (fun b => { b with sess := { b.sess with closeWait := some (n, w0) } }) s

theorem keepsBilled_closeAsked (n o w0 : Nat) (s : State) : KeepsBilled s (closeAsked n o w0 s) := .modBo s

theorem sess_closeAsked (n o w0 : Nat) (s : State) :
    (getBo o (closeAsked n o w0 s)).sess = { (getBo o s).sess with closeWait := some (n, w0) } := by rw [closeAsked, getBo_modBo_same]

/-- The session of an outlet ends at a SESSION_CLOSE, and BIL shows it. -/
def sessClosed (o : Nat) (s : State) : State := showOutlet o (endSession o false s)

theorem keepsBilled_sessClosed (o : Nat) (s : State) : KeepsBilled s (sessClosed o s) :=
  (keepsBilled_endSession o false s).trans (regsOnly_showOutlet o _).keepsBilled

theorem sessClosed_answers {o n w0 : Nat} {s : State} (hn : n < 8) (hop : (getBo o s).sess.op = true) (hsign : canSign s = true)
    (hwait : (getBo o s).sess.wait = none) (hclose : (getBo o s).sess.closeWait = some (n, w0)) :
    (getBo o (sessClosed o s)).sess.op = false ∧ (sessClosed o s).bill.counter = s.bill.counter + 1 ∧
      (n ≠ 0 → ∃ v, KeepsReply n s v ∧ getQ (qn (8 + n)) (sessClosed o s) =
        getQ (qn (8 + n)) (complete (8 + n) 0x32 w0 (readingWord s.bill.counter) stOK v)) := by
  obtain ⟨f, v, hend, hclosed, hread, hkept⟩ := endSession_closes (pf := false) hn hop hsign hwait hclose
  have hshown := regsOnly_showOutlet o (endSession o false s)
  refine ⟨?_, ?_, fun hn0 => ⟨v, hkept hn0, ?_⟩⟩
  · rw [sessClosed, getBo_of_bill hshown.bill, hend, getBo_modBo_same, hclosed]
  · rw [sessClosed, hshown.bill, hend, modBo_counter, (queueOnly_complete _ _ _ _ _ _).bill, hread]
  · rw [sessClosed, (KeepsReply.regsOnly hshown).1, hend, (KeepsReply.modBo o f _).1]

/-- A calendar waits as pending, and BIL shows it (R211, R242). -/
def calendarPends (c : List Byte) (s : State) : State := showGlobal { s with calPend := c }

theorem calendarPends_eq (c : List Byte) (s : State) : ∃ r, calendarPends c s = { s with calPend := c, regs := r } := by
  obtain ⟨r, hr⟩ := regsOnly_showGlobal { s with calPend := c }
  exact ⟨r, hr⟩

theorem calendarPends_rest (c : List Byte) (s : State) : (calendarPends c s).calPend = c ∧ (calendarPends c s).calAct = s.calAct ∧
    (calendarPends c s).mram = s.mram ∧ (calendarPends c s).bill = s.bill := by
  obtain ⟨r, hr⟩ := calendarPends_eq c s
  rw [hr]
  exact ⟨rfl, rfl, rfl, rfl⟩

theorem keepsReply_calendarPends (n : Nat) (c : List Byte) (s : State) : KeepsReply n s (calendarPends c s) := by
  obtain ⟨r, hr⟩ := calendarPends_eq c s
  rw [hr]
  exact ⟨rfl, rfl⟩

/-! ### An authorisation is spent (R399, R401) -/

/-- TE15 checks an authorisation and the anchor's counter is committed. -/
def authSpent (a : Auth) (s : State) : State := spend a (transit 112 0 0x25 0 0 s)

theorem authSpent_bill (a : Auth) (s : State) : (authSpent a s).bill = s.bill := (queueOnly_transit 112 0 0x25 0 0 s).bill

theorem authSpent_mram (a : Auth) (s : State) : (authSpent a s).mram = s.mram := (queueOnly_transit 112 0 0x25 0 0 s).mram

theorem rd_authSpent (a : Auth) (s : State) : rd (R.GV_ANCCNT_CNT a.anchor) (authSpent a s) = a.counter % 2 ^ 32 := by
  rw [authSpent, spend, commitDir, rd_wr_addr _ _ (by decide) (Nat.le_of_ble_eq_true rfl)
    (by simp only [R.GV_ANCCNT_CNT, R.GV_VSTAT_DIRSEQ]; omega), rd_modV, takeCount, rd_wr_same]
  rfl

/-! ### The requests -/

section
variable {n : Fin 8} {s : State} (h : BillServed n s)
include h

theorem exec_readSigned {w0 : W24} (hsign : canSign s = true) (ho : fld w0 3 0 < 8) (hres : fld w0 23 6 = 0) (hkind : fld w0 5 4 ≠ 3)
    (hpair : pairStopped (pairOf (fld w0 3 0)) s = false) (hwait : s.bill.rdWait.length < 64)
    (hlife : (metType (fld w0 3 0) s ≠ 0 ∧ isScrapped s = false) ∨ (isScrapped s = true ∧ wiping s = false)) :
    exec (.readSigned n w0 0) s = .next (complete (8 + n) 0x30 w0.toNat (readingWord s.bill.counter) stOK
      (makeReading (fld w0 3 0) 0 (fld w0 5 4) (received n 0x30 w0 0 [] s)).1) := by
  have hu := queueOnly_received n 0x30 w0 0 [] s
  have hout : ¬ 8 ≤ fld w0 3 0 := by omega
  have hroom : ¬ 64 ≤ s.bill.rdWait.length := by omega
  have hrnd := drbg_of_canSign hsign
  show execReadSigned n w0 0 s = _
  unfold execReadSigned
  dsimp only
  rw [billReq_served h]
  · rw [if_neg (by rw [te15Away_of_up (hu.te15Up.trans h.2.1)]; decide), completeReading_signed (hu.canSign.trans hsign), hu.bill]
  · simp only [readingsWaiting, hu.billFault, hu.drbgFailed, hu.metType (o := fld w0 3 0) (by omega), hu.isScrapped, hu.wiping, hu.bill]
    rw [billFault_served h _ fun _ => hpair]
    rcases hlife with ⟨htype, hlife⟩ | ⟨hlife, hidle⟩
    · simp [hrnd, hout, hres, hkind, htype, hlife, hroom, refusal]
    · simp [hrnd, hout, hres, hkind, hlife, hidle, hroom, refusal]

theorem readSigned_yields (w0 : W24) (hsign : canSign s = true) (ho : fld w0 3 0 < 8) (hres : fld w0 23 6 = 0) (hkind : fld w0 5 4 ≠ 3)
    (hpair : pairStopped (pairOf (fld w0 3 0)) s = false) (hwait : s.bill.rdWait.length < 64)
    (hlife : (metType (fld w0 3 0) s ≠ 0 ∧ isScrapped s = false) ∨ (isScrapped s = true ∧ wiping s = false))
    (hlen : (readingBody (fld w0 3 0) 0 (fld w0 5 4) (s.bill.counter + 1) s).length = 160) :
    Yields (.readSigned n w0 0) s fun t =>
      t.bill.counter = s.bill.counter + 1 ∧
      mramRdN t (rdBase + s.bill.counter % 64 * 256) 160 = readingBody (fld w0 3 0) 0 (fld w0 5 4) (s.bill.counter + 1) s ∧
      BillRegsKept s t ∧ Answered n 0x30 w0.toNat (readingWord s.bill.counter) stOK s t := by
  have hu := queueOnly_received n 0x30 w0 0 [] s
  obtain ⟨hcount, hbody⟩ := makeReading_stores (hu.canSign.trans hsign) (fld w0 3 0) 0 (fld w0 5 4)
  rw [hu.bill, hu.readingBody] at hbody
  rw [hu.bill] at hcount
  have hdone := queueOnly_complete (8 + n) 0x30 w0.toNat (readingWord s.bill.counter) stOK
    (makeReading (fld w0 3 0) 0 (fld w0 5 4) (received n 0x30 w0 0 [] s)).1
  refine ⟨_, exec_readSigned h hsign ho hres hkind hpair hwait hlife, ?_, ?_, ?_, ?_⟩
  · rw [hdone.bill, hcount]
  · rw [mramRdN_of_mram hdone.mram, hbody hlen]
  · exact ((KeepsBilled.queueOnly hu).trans ((keepsBilled_makeReading _ _ _ _).trans (.queueOnly hdone))).billRegsKept
  · exact answered_completeAs (keepsReply_makeReading n.isLt (.inl rfl) _ _ _) false _ _

theorem exec_sessionOpen {w0 : W24} {conts : List Cont} (hrnd : flag R.GV_VSTAT_DRBGF s = false) (ho : fld w0 3 0 < 8)
    (hres : fld w0 23 6 = 0) (hkind : fld w0 5 4 ≠ 3) (hlen : conts.length = 4) (hzero : leNat (((contsToBytes conts).drop 16).take 2) = 0)
    (htype : metType (fld w0 3 0) s ≠ 0) (hop : (getBo (fld w0 3 0) s).sess.op = false)
    (hpair : pairStopped (pairOf (fld w0 3 0)) s = false) (hlife : isScrapped s = false) :
    exec (.sessionOpen n w0 0 conts) s = .next (sessOpened (fld w0 3 0) (sessAsked n w0.toNat (fld w0 5 4) (contsToBytes conts))
      (received n 0x31 w0 0 conts s)) := by
  have hu := queueOnly_received n 0x31 w0 0 conts s
  have hout : ¬ 8 ≤ fld w0 3 0 := by omega
  show execSessionOpen n w0 0 conts s = _
  unfold execSessionOpen
  dsimp only
  rw [billReq_served h]
  · rfl
  · simp only [hu.billFault, hu.drbgFailed, hu.metType (o := fld w0 3 0) (by omega), hu.isScrapped, hu.getBo]
    rw [billFault_served h _ fun _ => hpair]
    simp [hrnd, hout, hres, hkind, hlen, hzero, htype, hop, hlife, refusal]

theorem sessionOpen_yields (w0 : W24) (conts : List Cont) (hrnd : flag R.GV_VSTAT_DRBGF s = false) (ho : fld w0 3 0 < 8)
    (hres : fld w0 23 6 = 0) (hkind : fld w0 5 4 ≠ 3) (hlen : conts.length = 4) (hzero : leNat (((contsToBytes conts).drop 16).take 2) = 0)
    (htype : metType (fld w0 3 0) s ≠ 0) (hop : (getBo (fld w0 3 0) s).sess.op = false)
    (hpair : pairStopped (pairOf (fld w0 3 0)) s = false) (hlife : isScrapped s = false) :
    Yields (.sessionOpen n w0 0 conts) s fun t =>
      (getBo (fld w0 3 0) t).sess.op = true ∧ (getBo (fld w0 3 0) t).sess.id = (contsToBytes conts).take 16 ∧
      (getBo (fld w0 3 0) t).sess.kind = fld w0 5 4 ∧ (getBo (fld w0 3 0) t).sess.wait = some (n.val, w0.toNat) ∧
      rd (R.BIL_BSTAT_CREDKIND (fld w0 3 0)) t = fld w0 5 4 ∧ BillRegsKept s t ∧ t.mram = s.mram := by
  have hu := queueOnly_received n 0x31 w0 0 conts s
  have hexec := exec_sessionOpen h hrnd ho hres hkind hlen hzero htype hop hpair hlife
  generalize received n 0x31 w0 0 conts s = u at hu hexec
  obtain ⟨hkept, hmram, hsess, hshown⟩ := sessOpened_shows (fld w0 3 0) (x := sessAsked n w0.toNat (fld w0 5 4) (contsToBytes conts)) rfl u
  refine ⟨_, hexec, ?_, ?_, ?_, ?_, ?_, ?_, ?_⟩
  · rw [hsess, sessAsked]
  · rw [hsess, sessAsked]
  · rw [hsess, sessAsked]
  · rw [hsess, sessAsked]
  · rw [hshown]
    exact Nat.mod_mod _ _
  · exact ((KeepsBilled.queueOnly hu).trans hkept).billRegsKept
  · rw [hmram, hu.mram]

theorem exec_sessionClose {w0 : W24} (hsign : canSign s = true) (ho : fld w0 3 0 < 8) (hres : fld w0 23 4 = 0)
    (htype : metType (fld w0 3 0) s ≠ 0) (hop : (getBo (fld w0 3 0) s).sess.op = true)
    (hclose : (getBo (fld w0 3 0) s).sess.closeWait = none) (hpair : pairStopped (pairOf (fld w0 3 0)) s = false)
    (hlife : isScrapped s = false) :
    exec (.sessionClose n w0 0) s = .next
      (if (getBo (fld w0 3 0) (closeAsked n (fld w0 3 0) w0.toNat (received n 0x32 w0 0 [] s))).sess.wait.isSome then
        closeAsked n (fld w0 3 0) w0.toNat (received n 0x32 w0 0 [] s)
      else sessClosed (fld w0 3 0) (closeAsked n (fld w0 3 0) w0.toNat (received n 0x32 w0 0 [] s))) := by
  have hu := queueOnly_received n 0x32 w0 0 [] s
  have hout : ¬ 8 ≤ fld w0 3 0 := by omega
  show execSessionClose n w0 0 s = _
  unfold execSessionClose
  dsimp only
  rw [billReq_served h]
  · rfl
  · simp only [hu.billFault, hu.drbgFailed, hu.metType (o := fld w0 3 0) (by omega), hu.isScrapped, hu.getBo]
    rw [billFault_served h _ fun _ => hpair]
    simp [drbg_of_canSign hsign, hout, hres, htype, hop, hclose, hlife, refusal]

theorem sessionClose_yields (w0 : W24) (hsign : canSign s = true) (ho : fld w0 3 0 < 8) (hres : fld w0 23 4 = 0)
    (htype : metType (fld w0 3 0) s ≠ 0) (hop : (getBo (fld w0 3 0) s).sess.op = true)
    (hclose : (getBo (fld w0 3 0) s).sess.closeWait = none) (hpair : pairStopped (pairOf (fld w0 3 0)) s = false)
    (hlife : isScrapped s = false) :
    Yields (.sessionClose n w0 0) s fun t =>
      BillRegsKept s t ∧
      (match (getBo (fld w0 3 0) s).sess.wait with
       | none => (getBo (fld w0 3 0) t).sess.op = false ∧ t.bill.counter = s.bill.counter + 1 ∧
         (n ≠ 0 → Answered n 0x32 w0.toNat (readingWord s.bill.counter) stOK s t)
       | some _ => (getBo (fld w0 3 0) t).sess.op = true ∧ (getBo (fld w0 3 0) t).sess.closeWait = some (n.val, w0.toNat)) := by
  have hu := queueOnly_received n 0x32 w0 0 [] s
  have hexec := exec_sessionClose h hsign ho hres htype hop hclose hpair hlife
  have hsess := sess_closeAsked n (fld w0 3 0) w0.toNat (received n 0x32 w0 0 [] s)
  rw [hu.getBo] at hsess
  have hasked := (KeepsBilled.queueOnly hu).trans (keepsBilled_closeAsked n (fld w0 3 0) w0.toNat _)
  have hsigned : canSign (closeAsked n (fld w0 3 0) w0.toNat (received n 0x32 w0 0 [] s)) = true := hu.canSign.trans hsign
  have hcount : (closeAsked n (fld w0 3 0) w0.toNat (received n 0x32 w0 0 [] s)).bill.counter = s.bill.counter := by
    rw [closeAsked, modBo_counter, hu.bill]
  have hreply : KeepsReply n (received n 0x32 w0 0 [] s) (closeAsked n (fld w0 3 0) w0.toNat (received n 0x32 w0 0 [] s)) := .modBo _ _ _
  generalize closeAsked n (fld w0 3 0) w0.toNat (received n 0x32 w0 0 [] s) = u at *
  refine ⟨_, hexec, ?_, ?_⟩
  · exact (hasked.trans (.ite (.refl u) (keepsBilled_sessClosed (fld w0 3 0) u))).billRegsKept
  · cases hwait : (getBo (fld w0 3 0) s).sess.wait with
    | some w =>
      rw [if_pos (by rw [hsess, hwait]; rfl), hsess]
      exact ⟨hop, rfl⟩
    | none =>
      rw [if_neg (by rw [hsess, hwait]; decide), ← hcount]
      obtain ⟨hclosed, hread, hanswer⟩ := sessClosed_answers n.isLt (by rw [hsess]; exact hop) hsigned
        (by rw [hsess]; exact hwait) (by rw [hsess])
      refine ⟨hclosed, hread, fun hn => ?_⟩
      obtain ⟨v, hkept, hdone⟩ := hanswer fun h0 => hn (Fin.ext h0)
      exact answered_of_getQ (answered_completeAs (hreply.trans hkept) false _ stOK) hdone

theorem calendarLoad_yields (w0 : W24) (hres : fld w0 23 4 = 0) (hgood : calBad (mramRdN s 0x0B0000 1296) s = false)
    (hlife : isScrapped s = false) (hidle : wiping s = false)
    (hact : s.calAct ≠ [] → calSeq s.calAct < calSeq (mramRdN s 0x0B0000 1296))
    (hpend : s.calPend ≠ [] → calSeq s.calPend < calSeq (mramRdN s 0x0B0000 1296)) :
    Yields (.calendarLoad n w0 0) s fun t =>
      t.calPend = mramRdN s 0x0B0000 1296 ∧ t.calAct = s.calAct ∧ BillRegsKept s t ∧ t.mram = s.mram ∧
      Answered n 0x33 w0.toNat 0 stOK s t := by
  have hu := queueOnly_received n 0x33 w0 0 [] s
  have hread := mramRdN_of_mram hu.mram 0x0B0000 1296
  generalize hrec : received n 0x33 w0 0 [] s = u at hu hread
  generalize hc : mramRdN s 0x0B0000 1296 = c at *
  have hnewer : (decide (calSeq c ≤ calSeq s.calAct) && !s.calAct.isEmpty) = false := by
    simp only [Bool.and_eq_false_imp, decide_eq_true_eq, Bool.not_eq_false', List.isEmpty_iff]
    exact fun hle => by_contra fun hne => absurd (hact hne) (by omega)
  have hlater : (decide (calSeq c ≤ calSeq s.calPend) && !s.calPend.isEmpty) = false := by
    simp only [Bool.and_eq_false_imp, decide_eq_true_eq, Bool.not_eq_false', List.isEmpty_iff]
    exact fun hle => by_contra fun hne => absurd (hpend hne) (by omega)
  have hexec : exec (.calendarLoad n w0 0) s = .next (reply n 0x33 w0.toNat 0 stOK (calendarPends c (te0Rd 0x0B0000 1296 u))) := by
    show execCalendarLoad n w0 0 s = _
    unfold execCalendarLoad
    dsimp only
    rw [billReq_served h, hrec, hread, calendarPends]
    simp only [hrec, hread, hu.billFault, hu.calBad, hu.isScrapped, hu.wiping, hu.calAct, hu.calPend, calOn]
    rw [billFault_served h 8 fun h8 => absurd h8 (by decide), hnewer, hlater]
    simp [hres, hgood, hlife, hidle, refusal]
  have hseen : CheckOnly u (te0Rd 0x0B0000 1296 u) := checkOnly_ckSpan _ _ _ _
  have hdone := queueOnly_reply n 0x33 w0.toNat 0 stOK (calendarPends c (te0Rd 0x0B0000 1296 u))
  have hcal : (te0Rd 0x0B0000 1296 u).calAct = u.calAct := by
    obtain ⟨⟨r, hr⟩, -⟩ := hseen
    rw [hr]
  obtain ⟨hnow, hkept, hmram, hbill⟩ := calendarPends_rest c (te0Rd 0x0B0000 1296 u)
  refine ⟨_, hexec, ?_, ?_, ?_, ?_, ?_⟩
  · rw [hdone.calPend, hnow]
  · rw [hdone.calAct, hkept, hcal, hu.calAct]
  · exact ((KeepsBilled.queueOnly hu).trans (((KeepsBilled.checkOnly hseen).trans (.of_bill hbill)).trans (.queueOnly hdone))).billRegsKept
  · rw [hdone.mram, hmram, hseen.mram, hu.mram]
  · rw [← hrec]
    exact answered_completeAs ((KeepsReply.checkOnly (checkOnly_ckSpan _ _ _ _)).trans (keepsReply_calendarPends _ _ _)) true 0 stOK

theorem clockAuth_yields (w0 w1 : W24) (hvault : vaultFault false s = false) (hres : fld w0 23 4 = 0) (hres1 : fld w1 23 1 = 0)
    (hgranted : authDenied (tariffAuth s) 0x10 ((tariffAuth s).plen == 4 * fld w1 0 0) ((tariffAuth s).anchor == 3) s = false)
    (hfresh : authStale (tariffAuth s) s = false) (hlife : isScrapped s = false) (hidle : wiping s = false) :
    Yields (.clockAuth n w0 w1) s fun t =>
      t.bill.clkWait = s.bill.clkWait ++
        [⟨n, w0.toNat, if fld w1 0 0 = 1 then some (sext 32 (leNat ((tariffAuth s).params.take 4))) else none⟩] ∧
      rd (R.GV_ANCCNT_CNT (tariffAuth s).anchor) t = (tariffAuth s).counter % 2 ^ 32 ∧ t.bill.t = s.bill.t ∧ BillRegsKept s t ∧
      t.mram = s.mram := by
  have hu := queueOnly_received n 0x34 w0 w1 [] s
  have hanchor := anchor_le_of_not_denied hgranted
  generalize hrec : received n 0x34 w0 w1 [] s = u at hu
  have hauth := hu.tariffAuth
  generalize ha : tariffAuth s = a at *
  have hexec : exec (.clockAuth n w0 w1) s = .next (modBill (fun b => { b with clkWait := b.clkWait ++
      [⟨n, w0.toNat, if fld w1 0 0 = 1 then some (sext 32 (leNat (a.params.take 4))) else none⟩] }) (authSpent a u)) := by
    show execClockAuth n w0 w1 s = _
    unfold execClockAuth
    dsimp only
    rw [billReq_served h, hrec, hauth]
    · rfl
    · simp only [hrec, hauth, hu.billFault, hu.vaultFault, hu.authDenied hanchor, hu.authStale hanchor, hu.isScrapped, hu.wiping]
      rw [billFault_served h 8 fun h8 => absurd h8 (by decide)]
      simp [hvault, hres, hres1, hgranted, hfresh, hlife, hidle, refusal]
  have hbill : (authSpent a u).bill = s.bill := (authSpent_bill a u).trans hu.bill
  refine ⟨_, hexec, ?_, ?_, ?_, ?_, ?_⟩
  · rw [← hbill]
    rfl
  · rw [rd_modBill, rd_authSpent]
  · rw [← hbill]
    rfl
  · exact ((KeepsBilled.of_bill hbill).trans (.modBill _)).billRegsKept
  · rw [modBill_mram, authSpent_mram, hu.mram]

theorem mdReset_yields (w0 : W24) (hvault : vaultFault false s = false) (hres : fld w0 23 4 = 0)
    (hgranted : authDenied (tariffAuth s) 0x11 ((tariffAuth s).plen == 0) ((tariffAuth s).anchor == 3) s = false)
    (hfresh : authStale (tariffAuth s) s = false) (hlife : isScrapped s = false) (hidle : wiping s = false) :
    Yields (.mdReset n w0 0) s fun t =>
      t.bill.mdWait = s.bill.mdWait ++ [(n.val, w0.toNat)] ∧
      rd (R.GV_ANCCNT_CNT (tariffAuth s).anchor) t = (tariffAuth s).counter % 2 ^ 32 ∧ BillRegsKept s t ∧
      (∀ o < 8, (getBo o t).md = (getBo o s).md) ∧ t.mram = s.mram := by
  have hu := queueOnly_received n 0x35 w0 0 [] s
  have hanchor := anchor_le_of_not_denied hgranted
  generalize hrec : received n 0x35 w0 0 [] s = u at hu
  have hauth := hu.tariffAuth
  generalize ha : tariffAuth s = a at *
  have hexec : exec (.mdReset n w0 0) s =
      .next (modBill (fun b => { b with mdWait := b.mdWait ++ [(n.val, w0.toNat)] }) (authSpent a u)) := by
    show execMdReset n w0 0 s = _
    unfold execMdReset
    rw [billReq_served h, hrec, hauth]
    · rfl
    · simp only [hrec, hauth, hu.billFault, hu.vaultFault, hu.authDenied hanchor, hu.authStale hanchor, hu.isScrapped, hu.wiping]
      rw [billFault_served h 8 fun h8 => absurd h8 (by decide)]
      simp [hvault, hres, hgranted, hfresh, hlife, hidle, refusal]
  have hbill : (authSpent a u).bill = s.bill := (authSpent_bill a u).trans hu.bill
  refine ⟨_, hexec, ?_, ?_, ?_, ?_, ?_⟩
  · rw [← hbill]
    rfl
  · rw [rd_modBill, rd_authSpent]
  · exact ((KeepsBilled.of_bill hbill).trans (.modBill _)).billRegsKept
  · intro o _
    exact congrArg BOut.md ((getBo_modBill (by intro b; dsimp only) o (authSpent a u)).trans (getBo_of_bill hbill o))
  · rw [modBill_mram, authSpent_mram, hu.mram]

end

/-- Settles O40: TE0 takes the request at once (`billReq_served`), what it looks at is as it was (`QueueOnly`), and its completion
enters the host's queue (`answered_completeAs`). -/
theorem billingRequestsAct : Obligations.BillingRequestsAct := by
  unfold Obligations.BillingRequestsAct
  refine ⟨?_, ?_, ?_, ?_, ?_, ?_⟩
  · intro n w0 s o cnt body h hsign ho hres hkind hpair hwait hlife hlen
    exact readSigned_yields h w0 hsign ho hres hkind hpair hwait hlife hlen
  · intro n w0 conts s o h hrnd ho hres hkind hlen hzero htype hop hpair hlife
    exact sessionOpen_yields h w0 conts hrnd ho hres hkind hlen hzero htype hop hpair hlife
  · intro n w0 s o h hsign ho hres htype hop hclose hpair hlife
    exact sessionClose_yields h w0 hsign ho hres htype hop hclose hpair hlife
  · intro n w0 s c h hres hgood hlife hidle hact hpend
    exact calendarLoad_yields h w0 hres hgood hlife hidle hact hpend
  · intro n w0 w1 s a h hvault hres hres1 hgranted hfresh hlife hidle
    exact clockAuth_yields h w0 w1 hvault hres hres1 hgranted hfresh hlife hidle
  · intro n w0 s a h hvault hres hgranted hfresh hlife hidle
    exact mdReset_yields h w0 hvault hres hgranted hfresh hlife hidle

end Sys2Proof.Machine
end
